-- ==== Sys2Proof/Word.lean ====
section
/-! DEFINITION. The word types of the T24: bytes, words, and the register files indexed by a field. -/

namespace Sys2Proof

/-- One byte. -/
abbrev Byte := BitVec 8
/-- A 16-bit word. -/
abbrev W16 := BitVec 16
/-- A 32-bit word, the width of a BAR0 register (R499). -/
abbrev W32 := BitVec 32
/-- A 64-bit word: scalars, fabric time, addresses. -/
abbrev W64 := BitVec 64

/-- A register file of `2 ^ k` registers, indexed by a `k`-bit field of an instruction. -/
abbrev RF (k : Nat) (α : Type) := Vector α (2 ^ k)

/-- Read one register of a file. -/
def RF.at {k : Nat} {α : Type} (v : RF k α) (i : BitVec k) : α := v[i.toNat]'i.isLt

/-- Write one register of a file. -/
def RF.put {k : Nat} {α : Type} (v : RF k α) (i : BitVec k) (x : α) : RF k α :=
  Vector.set v i.toNat x i.isLt

/-- A register file that holds `x` everywhere. -/
def RF.all {α : Type} (k : Nat) (x : α) : RF k α := Vector.replicate (2 ^ k) x

@[simp] theorem RF.at_put_same {k : Nat} {α : Type} (v : RF k α) (i : BitVec k) (x : α) :
    RF.at (RF.put v i x) i = x := by
  simp [RF.at, RF.put]

theorem RF.at_put_other {k : Nat} {α : Type} (v : RF k α) (i j : BitVec k) (x : α) (h : j ≠ i) :
    RF.at (RF.put v i x) j = RF.at v j := by
  have h' : i.toNat ≠ j.toNat := fun e => h (BitVec.eq_of_toNat_eq e.symm)
  simp only [RF.at, RF.put]
  exact Vector.getElem_set_ne i.isLt j.isLt h'

@[simp] theorem RF.at_all {k : Nat} {α : Type} (i : BitVec k) (x : α) :
    RF.at (RF.all k x) i = x := by
  simp [RF.at, RF.all]

end Sys2Proof
end

