-- ==== Sys2Proof/Packet.lean ====
section
/-! DEFINITION. What travels on the fabric: Onago packets, credits, frames and the headers of service messages
(R258, R263, R293 to R297, R306). -/

namespace Sys2Proof

/-- R295: a packet: the header's fields, the extension of a DATA packet and the payload bytes. -/
structure Packet where
  hcrc : W32
  addr : BitVec 48
  seq : BitVec 20
  tag : W16
  opcode : Byte
  status : Byte
  mask : Byte
  dstDom : Byte
  srcDom : Byte
  dst : BitVec 6
  src : BitVec 6
  srcEng : BitVec 6
  len8 : BitVec 6
  atop : BitVec 4
  flow : BitVec 4
  pflits : BitVec 4
  rsvd : W16
  retry : BitVec 2
  pch : BitVec 2
  priv : Bool
  poison : Bool
  mc : Bool
  mcdir : Bool
  ord : Bool
  cfirst : Bool
  hop : Bool
  ftValid : Bool
  injTime : W32
  fkind : BitVec 4
  /-- Bytes 32 to 63 of the first flit: EXT of a DATA packet, the payload of a CONTROL packet. -/
  ext : List Byte
  /-- The payload flits of a DATA packet. -/
  body : List Byte
deriving DecidableEq, Repr

/-- R257: a lane that carries frames: a group's slot of a port, a waveguide of a direction between two Floe tiles, or one band of
a FAB waveguide. -/
inductive Lane where
  | slot (port : BitVec 4) (fibreB high : Bool)
  | wave (dir : BitVec 4) (wg : BitVec 4)
  | passage (dir : BitVec 4) (wg : BitVec 4) (high : Bool)
deriving DecidableEq, Repr

/-- R260: an ordered stream of flits: of a port, or of a role of a direction on the package (1 CTL, 2 FAB, 3 FIRN, 4 MEM). -/
inductive StreamId where
  | port (q : BitVec 4)
  | role (dir : BitVec 4) (r : BitVec 3)
deriving DecidableEq, Repr

/-- R258: a frame header; SYNC is in its word only. -/
structure FrameHdr where
  lane : BitVec 5
  kind : BitVec 3
  gen : BitVec 4
  active : W16
  seq : BitVec 24
deriving DecidableEq, Repr

/-- R306: a CREDIT flit: S, the occupancies of C1, C2, D1, D2, and whether its CRC holds. -/
structure CreditFlit where
  crcOk : Bool
  s : BitVec 24
  oC1 : W16
  oC2 : W16
  oD1 : W16
  oD2 : W16
deriving DecidableEq, Repr

/-- What a frame's payload parses into (R293, R294). -/
inductive StreamItem where
  | packet (p : Packet)
  | credit (c : CreditFlit)
  /-- Anything with a reserved FKIND. -/
  | reserved (fkind : BitVec 4)
deriving DecidableEq, Repr

/-- R274: what kind of slot runs. -/
inductive SlotKind where | scheduled | swap | immediate
deriving DecidableEq, Repr

/-- R262, R381: what the service messages of the photonics and of the timing pair carry. A channel is named by its place 0 to 31 of the port: fibre A,
then fibre B. -/
inductive PhoMsg where
  | probe (dev : BitVec 6) (port : BitVec 4) (fibreB heard opened : Bool)
  | ident (dev : BitVec 6) (port : BitVec 4) (fibreB : Bool) (serial : W64) (shape : Nat) (dom : Byte)
  /-- The new group-to-slot list of the link: groups, and their bytes in the layout of R278. -/
  | propose (gen : W32) (t : W64) (groups : List (BitVec 5 × Byte))
  | answer (gen : W32) (accept : Bool) (cause : Byte)
  | notice (chan : BitVec 5) (kind : SlotKind) (start : W64)
  | request (chan : BitVec 5) (track : Bool)
  /-- The receive margins of a fibre's channels, in 0.1 dB. -/
  | margins (ms : List (BitVec 5 × Int))
  | timeReq
  /-- t2, t3, the sender's FT_STATE and its hop count. -/
  | timeResp (t2 t3 : W64) (ftState hops : Nat)
deriving DecidableEq, Repr

/-- R263: the framing of a service message: port and fibre it came on, whether LENGTH and CRC hold, and its
header fields. -/
structure SvcHdr where
  port : BitVec 4
  fibreB : Bool
  crcOk : Bool
  src : BitVec 6
  dst : BitVec 6
  all : Bool
  link : Bool
  relay : Bool
  seq : W16
deriving DecidableEq, Repr

end Sys2Proof
end

