-- ==== Sys2Proof/Syntax.lean ====
section
/-! DEFINITION. The commands of the T24: one constructor per row of spec/opcode_table.json. -/

namespace Sys2Proof

/-- R47: the fields of a control slot beside COP. -/
structure CtlSlot where
  reg : BitVec 4
  sub : BitVec 2
  imm : BitVec 20
deriving DecidableEq, Repr

/-- R50: the fields of a matrix slot beside MOP. -/
structure MatSlot where
  md : BitVec 4
  aa : BitVec 4
  ab : BitVec 4
  ac : BitVec 4
  set : BitVec 1
  postinc : Bool
  count : BitVec 9
deriving DecidableEq, Repr

/-- R58: the fields of a vector slot beside VOP. -/
structure VecSlot where
  vfmt : BitVec 4
  vd : BitVec 5
  va : BitVec 5
  vb : BitVec 5
  vc : BitVec 5
  pred : BitVec 2
deriving DecidableEq, Repr

/-- R61: the fields of a stream slot beside SOP. -/
structure StrSlot where
  dir : BitVec 2
  dir2 : BitVec 2
  areg : BitVec 4
  sreg : BitVec 4
  cc : BitVec 4
  count : BitVec 6
  postinc : Bool
  atop : BitVec 4
deriving DecidableEq, Repr

/-- What the controller does with an ECC word: read bytes of it, or write bytes of it, poisoned or not (R222, R229). -/
inductive HbmOp where
  | read
  | write (data : List Byte) (poison : Bool)
deriving DecidableEq, Repr

/-- What the controller meets at an access (R221, R223, R228): a word with dead lanes of its pseudo-channel and errors in further
symbols, one whose error was corrected on-die only, one that reports an uncorrected on-die error, or a command and address parity
failure. -/
inductive HbmFind where
  | word (deadLanes symbols : Nat)
  | onDie
  | onDieBad
  | parity
deriving DecidableEq, Repr

/-- What the SECDED code of the Firn arrays finds at an access (R188): nothing, a corrected bit, or an uncorrectable
word in a sector of the line; or nothing here, while a word of another line has gone bad, which its next array read finds. -/
inductive FirnEcc where
  | clean
  | single
  | double (sector : BitVec 3)
  | elsewhere (stack line : Nat) (sector : Option (BitVec 3))
deriving DecidableEq, Repr

/-- Where a memory request that is served comes from: the head of a receive channel of a port, or a request of this
device to itself, by its number. -/
inductive ReqFrom where
  | port (q : BitVec 4) (ch : BitVec 2)
  | own (id : Nat)
deriving DecidableEq, Repr

/-- MGMT: a peer's request at the head of a receive channel, or a request that N2 of this device sends, with its 32 bytes (R494). -/
inductive MgmtEv where
  | received (q : BitVec 4) (ch : BitVec 2)
  | sent (dst : BitVec 6) (body : List (BitVec 8))
deriving DecidableEq, Repr

/-- SLOT_NOTICE: this device sends notice of a slot of a port, or receives one: the channel, and the start (R272). -/
inductive NoticeEv where
  | sent (q : BitVec 4) (start : W64)
  | heard (h : SvcHdr) (chan : BitVec 5) (kind : SlotKind) (start : W64)
deriving DecidableEq, Repr

/-- MARGIN_REPORT: this device reports the channels of a fibre that it receives, or receives a report (R251). -/
inductive MarginEv where
  | sent (q : BitVec 4) (ms : List (BitVec 5 × Int))
  | heard (h : SvcHdr) (ms : List (BitVec 5 × Int))
deriving DecidableEq, Repr

/-- R579: one run of a candidate: the choice that it makes, and its trims. -/
structure CalRun where
  choice : Nat
  trims : List Int
deriving DecidableEq, Repr

/-- Where a BUDGET packet comes from: the head of a receive channel, or this device itself (R373). -/
inductive BudgetFrom where
  | port (q : BitVec 4) (ch : BitVec 2)
  | own
deriving DecidableEq, Repr

/-- One 10 µs sampling of a stack's sensors, in 1/16 °C, and its estimated powers by region, in mW (R410, R417). -/
structure Samples where
  serac : List Int
  firn : List Int
  leak : List Int
  floe : List Int
  lb : List Int
  pFloe : List Int
  pFirn : List Int
deriving DecidableEq, Repr

/-- R500: what the host does at a BAR0 address; the table has no row for a read, which is a form of BAR0_REGISTER_WRITE
(log entry 48). -/
inductive Bar0Access where
  | write (v : BitVec 64)
  | read
deriving DecidableEq, Repr

/-- How a control is written: by the oldest mailbox message, by an MCTP message, which is its message type, vendor header,
Svaog type and bytes 16 to 255 of the mailbox layout (R493), or by BAR0 at its register or an alias of it (R502). -/
inductive WriteSrc where
  | mailbox
  | mctp (ep : Nat) (msg : List Byte)
  | bar0 (al : BitVec 2) (v : BitVec 32)
deriving DecidableEq, Repr

/-- R592: what the step sweep of a stack shows: its highest step with 12% slack, none even at step 24, or three discarded
runs (R580). -/
inductive Sweep where
  | top (step : Nat)
  | short
  | discarded
deriving DecidableEq, Repr

/-- R615: the TAP instructions. -/
inductive TapInstr where
  | bypass | idcode | sample | extest | extestPulse | extestTrain | stackedDie (die : Nat) | hbm (stack : Nat)
deriving DecidableEq, Repr

/-- R602: the rails that hold the power-on reset. -/
inductive Rail where | aux | io | fle
deriving DecidableEq, Repr

/-- R355: how a read of host memory by a host DMA engine completes. -/
inductive HostRead where
  | data (bs : List Byte)
  | poisoned
  | error
deriving DecidableEq, Repr

inductive Instr where
  /-- R602: VDD_AUX, VDD_IO and VDD_FLE have been in tolerance for 2 ms, so the internal reset is released as a POR and the power-cycle count increments. -/
  | powerOnResetRelease (floe0 : Bool)
  /-- R3: Power is removed and the device goes to COLD from any state. -/
  | powerLoss
  /-- R602: VDD_AUX, VDD_IO or VDD_FLE falls below 90% of nominal; the internal reset is held, and a fall of VDD_AUX clears the trip latch. -/
  | railOutOfTolerance (rail : Rail)
  /-- R3: An assertion of PERST_N acts and the device goes to COLD. -/
  | perstNAssert
  /-- R3: PERST_N is released with all rails in range; the device enters THAW, RACKPOS is sampled and discovery begins, unless the trip latch is set. -/
  | perstNRelease (rackpos : BitVec 6) (floe0 : Bool)
  /-- R25: N4 assembles the package map, checks serial numbers against the assembly record and sets the status of every die record. -/
  | discovery (found : List (Nat × BitVec 64 × Byte))
  /-- R26: Step 6 of discovery has not finished 150 ms after PERST_N release, so an FE-class error with cause TIMEOUT is raised. -/
  | discoveryTimeout
  /-- R439: The host writes LOAD_CTRL with GO = 1 to submit a firmware chunk from a free load buffer. -/
  | loadChunkSubmit (ctrl : W32) (bytes : List Byte)
  /-- R439: N4 takes a submitted chunk in GO order, adds it to the digest and copies its bytes to their targets. -/
  | loadChunkTake
  /-- R440: More than 10 s pass between two chunks, so the partial image is discarded with cause CHUNK_TIMEOUT. -/
  | loadChunkTimeout
  /-- R558: After the last chunk, N4 checks key, signature and security version, then releases N0-N5 or refuses the image and zeroes its bytes. -/
  | imageVerify (sigOk : Bool)
  /-- R566: N4 derives the alias key and issues the alias certificate, storing a new copy if the key changed. -/
  | aliasKeyReady
  /-- R574: The first write of 1 to THAW_PROCEED sets the proceed point, fixing the THAW settings and applying any accepted restore. -/
  | thawProceed (src : WriteSrc)
  /-- R574: Ten seconds after image acceptance with no proceed write, the proceed point is set. -/
  | thawProceedTimeout
  /-- R585: The closing segment of a CAL_RESTORE write is validated and the restore is staged or refused with its cause. -/
  | calRestore (src : WriteSrc)
  /-- R579: A calibration run of one element ends; the element is accepted, a third run is started, or the candidate is marked suspect. -/
  | calRunComplete (item elem : Nat) (run : CalRun) (order : List Nat) (discard ends : Bool)
  /-- R586: A restored element's repeat run agrees and keeps the value, or disagrees and starts full calibration with the result PARTIAL. -/
  | restoreCheckRun (item elem : Nat) (run : CalRun) (ends : Bool)
  /-- R592: A margin plan sets the guardbands, the stack top steps and CLK_STEP_LIMIT, holds a lowered limit pending where needed, and publishes MARGIN_PLAN. -/
  | marginPlan (ageD : RF 2 Nat) (sweep : RF 2 Sweep) (targets : List (Nat × Nat × Nat)) (eyes : List Nat)
  /-- R577: Every calibration item has ended, so the firmware applies dictionary values, sets the EN bits and enters FLOW at step 24. -/
  | thawEnd
  /-- R611: An accepted write of 0x5A to SOFT_RESET requests a soft reset after a Moraine snapshot. -/
  | softReset (src : WriteSrc)
  /-- R610: The snapshot is written, so the soft reset clears the device as PERST_N does, keeps the PCIe link up and restarts THAW. -/
  | softResetBegin
  /-- R453: A Function Level Reset resets the mailbox, load buffers and ATTACHED, and stops the host DMA engines, leaving programs and the device state unchanged. -/
  | flr
  /-- R612: A PCIe hot reset or link disable by the host acts as an FLR. -/
  | pcieHotReset
  /-- R612: The PCIe link goes down for another reason, including a loss of PX lock or of REFCLK_PCIE, and no device state changes. -/
  | pcieLinkDown
  /-- R524: An FE record is written, so FE handling stops tiles and engines, fences windows, ends programs, and sets DEVICE_STATE to 4. -/
  | iceboundEntry
  /-- R547: N5 or N4 writes a Moraine snapshot and the last-fatal area, which ends FE handling. -/
  | lastFatalWrite
  /-- R443: Every 5 µs N0 reads MBX_H2D_HEAD and takes new host-to-device messages in index order. -/
  | mbxPoll (head : W32) (msgs : List (List Byte))
  /-- R167: The host advances MBX_D2H_TAIL, which frees slots so that held COMPLETE messages are written in order. -/
  | mbxD2hTailWrite (tail : W32)
  /-- R449: A HEARTBEAT resets the age of the newest host message, with no reply. -/
  | heartbeat
  /-- R449: The newest host message is 1 s old in FLOW, so the device enters DRIFT at the next scheduler cycle start and clears ATTACHED. -/
  | heartbeatTimeout
  /-- R451: DRIFT has lasted HOST_DRIFT_PERIOD, so every program is held at its next barrier, the windows are fenced, and DRIFT_EXPIRED is set. -/
  | driftPeriodExpire
  /-- R452: ATTACH resets the mailbox indices and writes ATTACH_REPLY, INVENTORY and the unconsumed COMPLETEs, then sets ATTACHED and returns to FLOW from DRIFT. -/
  | attach
  /-- R165: N0 checks a SUBMIT in the order of the status table, then queues the program or refuses it. -/
  | submit
  /-- R168: ABORT removes a queued program or aborts a started one, and is answered ACCEPTED or NOT_FOUND. -/
  | abort
  /-- R174: Every 100 µs N0 starts or resumes waiting programs, decides preemptions and quanta, renews its lease and copies its state. -/
  | schedCycleStart
  /-- R178: A program's tiles are zeroed, then code, data and relocations are loaded, and all tiles issue their first bundle in one cycle. -/
  | programStart (tag : W32)
  /-- R174: At START_FTIME minus 2 ms, the program's resources are reserved and conflicting preemptible programs are preempted. -/
  | startReserve (tag : W32)
  /-- R174: Fabric time reaches START_FTIME, so the tiles start together, or the program completes START_MISSED. -/
  | startFtimeReached (tag : W32)
  /-- R82: All tiles have reported, so N0 sets t to the highest slice and releases the tiles held at lower slices. -/
  | sliceReportsComplete (tag : W32)
  /-- R176: Every tile holds at slice t, so run-ahead is undone and contexts, scratch and the program record are saved. -/
  | preemptAllHeld (tag : W32)
  /-- R176: The context is in HBM, so the tiles are freed and the program becomes PREEMPTED. -/
  | contextSaveComplete (tag : W32)
  /-- R177: Not every tile holds at slice t within SCHED_SLICE_TIMEOUT, so the preemption is abandoned, and the third consecutive abandonment aborts the program with SLICE_OVERRUN. -/
  | sliceTimeout (tag : W32)
  /-- R178: A resume zeroes the tiles, reloads and checks code, writes back contexts and scratch, and releases the tiles together after slice t. -/
  | programResume (tag : W32)
  /-- R179: Every tile has executed DONE and no hold applies, so all tiles are released into the next phase. -/
  | phaseBarrierRelease (tag : W32)
  /-- R408: When the barrier is reached, the governor updates its entry and sets the next phase's needs and budgets. -/
  | governorPhaseUpdate (tag : W32) (energy : List (BitVec 2 × Nat))
  /-- R408: N3 has not set budgets 50 µs after the barrier was reached, so the barrier releases with the budgets in force. -/
  | governorBarrierTimeout (tag : W32)
  /-- R167: The last HALT or the end of the abort effects is reached, so N0 writes COMPLETE and raises MSI-X, or holds the COMPLETE. -/
  | programEnd (tag : W32) (cycles : W64)
  /-- R200: The Firn tag walk for a completed slot ends after writing back or invalidating its dirty lines, and the slot becomes free. -/
  | firnDrainWalkEnd (slot : Nat)
  /-- R74: All tiles of a program stop their link operations, drop replies, undo run-ahead and are marked for zeroing. -/
  | tileAbort (tag : W32)
  /-- R73: A tile fault stops the tile within 4 cycles, writes a UC record, and makes N0 abort the program. -/
  | tileFault (tile : Nat) (code : Byte)
  /-- R460: The primary has not renewed by its lease expiry minus 100 µs, so it stops issuing commands. -/
  | schedLeaseStop
  /-- R462: The standby sees the lease expire and, if HEALTHY, writes generation g+1, rebuilds state and takes over, or raises an FE-class error. -/
  | schedLeaseExpiry
  /-- R459: The standby receives a journal record and applies it to the last state copy. -/
  | schedJournalRecord (entry : List Byte)
  /-- R461: The standby replays the copied cycle, compares digests and updates its health. -/
  | schedStateCopy (agrees : Bool)
  /-- R463: A write of 1 to SCHED_SWAP makes the primary hand over at the end of the next scheduler cycle. -/
  | schedSwap (src : WriteSrc)
  /-- R463: The standby receives the final copy marked HANDOVER, writes g+1 and starts the next cycle. -/
  | schedHandoverCopy
  /-- R456: A core's watchdog fires, it takes an uncorrectable SRAM error or an unhandled trap, so it is reset, re-measured and restarted, or an FE-class error is raised. -/
  | coreFailure (core : BitVec 3) (cause : Byte) (digestOk : Bool)
  /-- R457: A restarted core resynchronises, announces itself with FW_EVENT CORE_RESTART, and resumes held work. -/
  | coreRestartComplete (core : BitVec 3)
  /-- R486: A dictionary read returns the value in force, or the staged value if STAGED is set, with PENDING, GEN and TOTAL. -/
  | dictRead
  /-- R487: A dictionary write is checked in result-code order and staged or applied, for entries that have no row of their own. -/
  | dictWrite
  /-- R489: A DOMAIN write session gets no segment for 1 s and is abandoned. -/
  | dictSessionAbandon (key : Nat)
  /-- R484: A write of 1 to DICT_LOCK locks every RWL entry and sets every block LOCK bit. -/
  | dictLock (src : WriteSrc)
  /-- R493: A Svaog message over MCTP is served with requester class B on its binding. -/
  | mctpSvaogMessage (ep : Nat) (msg : List Byte)
  /-- R509: A BAR0 write, or an alias write, to a register with no row of its own acts under the lock, configuration and reserved-field rules. -/
  | bar0RegisterWrite (addr : BitVec 27) (size : Nat) (acc : Bar0Access)
  /-- R507: Every 1 ms each block rewrites triplicated copies that differ from the majority and counts them in BLK_VOTES. -/
  | voteScrub (found : List (BitVec 27))
  /-- R366: A write of HOST_BAR4_BASE_HI takes effect with the held LO value, or is refused whole if the base breaks R351. -/
  | hostBar4BaseHiWrite (al : BitVec 2) (v : BitVec 32)
  /-- R47: Control no-operation. -/
  | cnop (tile : Nat) (c : CtlSlot)
  /-- R47: Sets an address register to IMM20. -/
  | seta (tile : Nat) (c : CtlSlot)
  /-- R47: Adds sign-extended IMM20 to an address register. -/
  | adda (tile : Nat) (c : CtlSlot)
  /-- R47: Sets a scalar register to IMM20. -/
  | sets (tile : Nat) (c : CtlSlot)
  /-- R47: Shifts a scalar left by 20 and ORs in IMM20. -/
  | shis (tile : Nat) (c : CtlSlot)
  /-- R47: Adds sign-extended IMM20 to a scalar. -/
  | adds (tile : Nat) (c : CtlSlot)
  /-- R47: Loads 8 B from SRAM into a scalar. -/
  | lds (tile : Nat) (c : CtlSlot)
  /-- R47: Stores a scalar to 8 B of SRAM. -/
  | sts (tile : Nat) (c : CtlSlot)
  /-- R47: Moves the low 20 bits of a scalar to an address register. -/
  | mova (tile : Nat) (c : CtlSlot)
  /-- R47: Moves an address register to a scalar. -/
  | movs (tile : Nat) (c : CtlSlot)
  /-- R43: Branches always or on a scalar's zero test. -/
  | br (tile : Nat) (c : CtlSlot)
  /-- R48: Runs the next IMM20 bundles S[REG] times at a loop level, faulting LOOP_DEPTH if the level is active. -/
  | loop (tile : Nat) (c : CtlSlot)
  /-- R49: Waits until a completion counter or run-ahead count reaches IMM20, faulting REMOTE_FAIL on a non-OK status unless the counter is tolerant. -/
  | wait (tile : Nat) (c : CtlSlot)
  /-- R47: Sets a completion counter, clears its status and optionally makes it tolerant. -/
  | ccset (tile : Nat) (c : CtlSlot)
  /-- R47: Reads a counter's status into a scalar. -/
  | ccst (tile : Nat) (c : CtlSlot)
  /-- R45: Waits until every SRAM access of earlier matrix or stream operations is complete. -/
  | tfence (tile : Nat) (c : CtlSlot)
  /-- R55: Loads and checks a matrix descriptor, faulting BAD_DESCRIPTOR if it is invalid. -/
  | ldmd (tile : Nat) (c : CtlSlot)
  /-- R102: Sets the vector rounding mode and optionally seeds the stochastic generator. -/
  | setrnd (tile : Nat) (c : CtlSlot)
  /-- R72: A phase-block marker issues its block's non-early run-ahead entries and undoes run-ahead on a misprediction. -/
  | blk (tile : Nat) (c : CtlSlot)
  /-- R157: A phase marker for the phase governor, faulting ILLEGAL_OP if the phase number is out of range. -/
  | phase (tile : Nat) (c : CtlSlot)
  /-- R82: A slice point where a tile asked to preempt drains its streams, holds and reports its slice number. -/
  | slice (tile : Nat) (c : CtlSlot)
  /-- R179: Ends the current phase for the tile and waits at the phase barrier. -/
  | phaseDone (tile : Nat) (c : CtlSlot)
  /-- R47: Ends the program for the tile. -/
  | halt (tile : Nat) (c : CtlSlot)
  /-- R169: Sends an event to N0 and, with NOTIFY_TRAP set, a TRAP_EVENT, at most one per scheduler cycle. -/
  | trap (tile : Nat) (c : CtlSlot)
  /-- R50: Matrix no-operation. -/
  | mnop (tile : Nat) (m : MatSlot)
  /-- R52: Accumulates A x B into an accumulator set over COUNT depth steps. -/
  | mma (tile : Nat) (m : MatSlot)
  /-- R52: Sets an accumulator set to A x B over COUNT depth steps and sets its mode. -/
  | mmaz (tile : Nat) (m : MatSlot)
  /-- R131: Rounds each accumulator once to FMT_OUT and writes the 4 x 4 result. -/
  | mout (tile : Nat) (m : MatSlot)
  /-- R131: MOUT, then zeroes the set. -/
  | moutz (tile : Nat) (m : MatSlot)
  /-- R120: Zeroes an accumulator set and sets its mode. -/
  | mzero (tile : Nat) (m : MatSlot)
  /-- R122: Loads 16 accumulator images into a set and sets its mode. -/
  | mload (tile : Nat) (m : MatSlot)
  /-- R53: The issue-rate limiter grants a slot and one depth step of a queued matrix operation is performed. -/
  | matrixStepAdmit (tile : Nat)
  /-- R58: Vector no-operation. -/
  | vnop (tile : Nat) (v : VecSlot)
  /-- R618: Loads 128 B into a vector register under the predicate. -/
  | vld (tile : Nat) (v : VecSlot)
  /-- R618: Stores a vector register's enabled lanes to SRAM. -/
  | vst (tile : Nat) (v : VecSlot)
  /-- R58: Lane-wise addition. -/
  | vadd (tile : Nat) (v : VecSlot)
  /-- R58: Lane-wise subtraction. -/
  | vsub (tile : Nat) (v : VecSlot)
  /-- R58: Lane-wise multiplication. -/
  | vmul (tile : Nat) (v : VecSlot)
  /-- R58: Lane-wise fused multiply-add with one rounding. -/
  | vfma (tile : Nat) (v : VecSlot)
  /-- R100: Lane-wise minimum. -/
  | vmin (tile : Nat) (v : VecSlot)
  /-- R100: Lane-wise maximum. -/
  | vmax (tile : Nat) (v : VecSlot)
  /-- R100: Lane-wise absolute value. -/
  | vabs (tile : Nat) (v : VecSlot)
  /-- R100: Lane-wise negation. -/
  | vneg (tile : Nat) (v : VecSlot)
  /-- R619: Correctly rounded reciprocal. -/
  | vrcp (tile : Nat) (v : VecSlot)
  /-- R619: Correctly rounded reciprocal square root. -/
  | vrsq (tile : Nat) (v : VecSlot)
  /-- R619: Correctly rounded 2^x. -/
  | vexp2 (tile : Nat) (v : VecSlot)
  /-- R619: Correctly rounded log2. -/
  | vlog2 (tile : Nat) (v : VecSlot)
  /-- R58: Compares lanes into a predicate register. -/
  | vcmp (tile : Nat) (v : VecSlot)
  /-- R58: Selects lanes by a predicate. -/
  | vsel (tile : Nat) (v : VecSlot)
  /-- R58: Bitwise AND. -/
  | vand (tile : Nat) (v : VecSlot)
  /-- R58: Bitwise OR. -/
  | vor (tile : Nat) (v : VecSlot)
  /-- R58: Bitwise XOR. -/
  | vxor (tile : Nat) (v : VecSlot)
  /-- R618: Lane-wise shift left. -/
  | vshl (tile : Nat) (v : VecSlot)
  /-- R618: Lane-wise logical or arithmetic shift right. -/
  | vshr (tile : Nat) (v : VecSlot)
  /-- R108: Widens one element group to FP32 or FP64, optionally scaled. -/
  | vcvti (tile : Nat) (v : VecSlot)
  /-- R112: Narrows FP32 lanes into one element group, or computes an MX scale byte. -/
  | vcvto (tile : Nat) (v : VecSlot)
  /-- R138: Sums all lanes by a fixed pairwise tree. -/
  | vred (tile : Nat) (v : VecSlot)
  /-- R618: Permutes lanes by index. -/
  | vperm (tile : Nat) (v : VecSlot)
  /-- R58: Broadcasts one lane to all lanes. -/
  | vbcast (tile : Nat) (v : VecSlot)
  /-- R61: Stream no-operation. -/
  | snop (tile : Nat) (x : StrSlot)
  /-- R63: Sends COUNT flits from SRAM on a neighbour link under credit. -/
  | ssend (tile : Nat) (x : StrSlot)
  /-- R64: Writes COUNT arriving flits to SRAM. -/
  | srecv (tile : Nat) (x : StrSlot)
  /-- R64: Forwards COUNT flits from one direction to another. -/
  | spass (tile : Nat) (x : StrSlot)
  /-- R64: Forwards COUNT flits and writes each to SRAM. -/
  | spassw (tile : Nat) (x : StrSlot)
  /-- R205: Reads COUNT Firn lines into SRAM. -/
  | frd (tile : Nat) (x : StrSlot)
  /-- R192: Writes COUNT Firn lines from SRAM. -/
  | fwr (tile : Nat) (x : StrSlot)
  /-- R162: Loads from a global address after the segment check. -/
  | gld (tile : Nat) (x : StrSlot)
  /-- R162: Stores to a global address after the segment check. -/
  | gst (tile : Nat) (x : StrSlot)
  /-- R333: Issues an atomic on 4, 8 or 16 B. -/
  | gat (tile : Nat) (x : StrSlot)
  /-- R340: Issues a flagged store on a privileged channel. -/
  | gstf (tile : Nat) (x : StrSlot)
  /-- R198: Flushes COUNT Firn lines of the tile's stack. -/
  | ffl (tile : Nat) (x : StrSlot)
  /-- R198: Invalidates COUNT Firn lines of the tile's stack. -/
  | fiv (tile : Nat) (x : StrSlot)
  /-- R64: A flit reaches a tile's link logic and is forwarded, written or buffered, and a credit is returned. -/
  | flitArrive (tile : Nat) (dir : BitVec 2)
  /-- R49: A stream operation or run-ahead entry completes and its counter increments, recording any non-OK code. -/
  | streamOpComplete (tile : Nat)
  /-- R69: The run-ahead unit issues eligible list entries of the expected blocks. -/
  | runaheadIssue (tile : Nat)
  /-- R72: A run-ahead reply arrives and is written to its window or dropped for a stale epoch. -/
  | runaheadReply (tile req : Nat)
  /-- R178: A tile finishes zeroing its SRAM before a new program or resume loads. -/
  | tileZeroComplete (tile : Nat)
  /-- R206: A tile-port request reaches the Firn and is applied in arrival order. -/
  | firnRequest (tile : Nat) (runAhead : Bool) (ecc : FirnEcc)
  /-- R205: Fifteen Firn cycles after opening, with any fill in, a read merge window closes. -/
  | firnMergeWindowClose (stack line : Nat)
  /-- R621: A Firn fill ends OK, POISONED or otherwise, and the line and any waiting GST are handled. -/
  | firnFillComplete (stack line : Nat)
  /-- R203: A scratch slice is zeroed before the program's first bundle. -/
  | firnSliceZeroComplete (slice : BitVec 5)
  /-- R217: At the next scheduler cycle start, every dirty line of the named cache-mode slices is written back. -/
  | firnFlush
  /-- R219: FRN_MAINT OP 1 writes back dirty sectors of the named slices. -/
  | frnMaintFlush (stack : BitVec 2) (mask : Byte)
  /-- R219: FRN_MAINT OP 2 writes back and invalidates the named slices. -/
  | frnMaintFlushInvalidate (stack : BitVec 2) (mask : Byte)
  /-- R218: A maintenance operation ends and FRN_MAINT OP reads 0. -/
  | frnMaintEnd (stack : BitVec 2)
  /-- R209: A beat fails its check and is replayed, counted against the channel. -/
  | vbBeatReplay (stack : BitVec 2) (bundle : Nat) (pos : BitVec 6)
  /-- R210: Every 10 s a channel's eye margin is measured. -/
  | vbEyeMeasure (stack : BitVec 2) (bundle : Nat) (pos : BitVec 6) (eye : Nat)
  /-- R210: A channel becomes failing, so a spare is swapped in, the bundle goes HALF, or it is retired. -/
  | vbChannelFailing (stack : BitVec 2) (bundle : Nat) (pos : BitVec 6)
  /-- R211: The bundle resumes after the remap. -/
  | vbRemapComplete (stack : BitVec 2) (bundle : Nat)
  /-- R80: N5 sets a retired tile's bit in the Moraine store. -/
  | retiredListStoreWrite
  /-- R80: A write before the proceed point adds tiles to the retirement list, and a bit clear is refused. -/
  | tileRetiredListWrite (src : WriteSrc)
  /-- R228: The controller applies a read or write to an ECC word with correction, poison and read-modify-write. -/
  | hbmAccess (stack addr : Nat) (op : HbmOp) (found : HbmFind)
  /-- R231: Every 100 µs the controller reads its stack temperature, sets the refresh rate, and evaluates stack health. -/
  | hbmTempRead (stack : Nat) (temp : Option W16)
  /-- R231: A per-bank refresh falls due at the rate in force. -/
  | hbmRefresh (stack bank : Nat)
  /-- R232: The patrol scrub reads its next word and counts a pass when all stacks finish. -/
  | hbmScrubRead (stack : Nat) (found : HbmFind)
  /-- R234: A stack fails, its record goes to FAILED and a UC record names it. -/
  | hbmStackFail (stack : Nat)
  /-- R234: The IEEE 1500 port is silent for 10 ms, so the stack fails. -/
  | hbmPortSilentTimeout (stack : Nat)
  /-- R234: A PHY lock loss is not recovered within 1 ms, so the stack fails. -/
  | hbmPhyRelockTimeout (stack : Nat)
  /-- R252: An emitter's bias, slope efficiency or margin is measured and its fade state rises where a condition holds. -/
  | emitterSample (bank : BitVec 2) (em : BitVec 6) (meas : Option (Nat × Nat)) (margins : List (Nat × Int))
  /-- R253: The spare emitter is hot and locked, so swap slots begin. -/
  | emitterSpareLocked (bank : BitVec 2) (spare : BitVec 6)
  /-- R253: A slot changes one channel's selector ring to the spare and relocks its modulator. -/
  | swapSlot (owner : BitVec 5)
  /-- R253: Every channel has moved, so the old emitter is FAILED and the spare is active. -/
  | emitterSwapComplete (bank : BitVec 2) (em : BitVec 6)
  /-- R256: The active λS emitter fails and the spare takes over, or every port of the tile goes DOWN. -/
  | serviceEmitterFail (bank : BitVec 2)
  /-- R249: A ring's offset exceeds ±4 GHz and its channel is taken out in an immediate slot. -/
  | ringTrackingError (chan : Nat) (rx : Bool)
  /-- R272: Every PHO_SVC_PERIOD an owner starts a scheduled slot on its next channel. -/
  | serviceSlotStart (owner : BitVec 5)
  /-- R272: The receiving end learns of a scheduled slot. -/
  | slotNotice (ev : NoticeEv)
  /-- R272: At S+180 µs each new value is compared with the last and kept or marked for retry. -/
  | serviceSlotJudge (chan : Nat) (rx : Bool) (vals : List (Nat × Nat × CalRun)) (margin : Int)
  /-- R272: At S+200 µs the channel's ACTIVE bit is set again. -/
  | serviceSlotEnd (chan : Nat) (rx : Bool)
  /-- R273: A SLOT_REQUEST from the receiving end starts an immediate slot. -/
  | slotRequest (h : SvcHdr) (chan : BitVec 5)
  /-- R251: The receive margins of a fibre's channels are reported. -/
  | marginReport (ev : MarginEv)
  /-- R267: A receive fibre loses light and loses lock on its channels. -/
  | lightLoss (port : BitVec 4) (fibreB : Bool)
  /-- R268: At L+10 µs the fibre is down and its groups move to the live fibre. -/
  | fibreDown (port : BitVec 4) (fibreB : Bool)
  /-- R267: Light has been lost for 100 µs, so the same-letter launch gate is ordered closed. -/
  | launchGateClose (port : BitVec 4) (fibreB silent : Bool)
  /-- R267: The gate has closed, PHO_EYE_REDUCED is set and probing starts. -/
  | launchGateClosed (port : BitVec 4) (fibreB : Bool)
  /-- R267: Light returns before the gate closes and the channels retrain. -/
  | lightReturn (port : BitVec 4) (fibreB : Bool)
  /-- R269: Every 1 s a 10 ms PROBE burst is sent at probe level. -/
  | probeBurst (port : BitVec 4) (fibreB : Bool)
  /-- R269: A heard PROBE is answered with HEARD, and HEARD on both fibres starts training. -/
  | probe (h : SvcHdr) (heard : Bool)
  /-- R265: IDENT is checked against the wiring tables at training step 2, giving MISWIRED or CROSSED. -/
  | ident (h : SvcHdr) (dev : BitVec 6) (port : BitVec 4) (fibreB : Bool) (dom : Byte)
  /-- R265: A MISWIRED or CROSSED port retries the check every 10 s. -/
  | wiringRecheck (port : BitVec 4)
  /-- R264: Channels at or above 0.5 dB are made active, groups are lit and the port is UP. -/
  | linkTrainingComplete (port : BitVec 4) (margins : List (BitVec 5 × Int)) (sites : List (BitVec 5))
  /-- R280: A write to PHO_STEER_GO requests a steer of a set at PHO_STEER_TIME. -/
  | phoSteerGo (src : WriteSrc)
  /-- R280: A PHO_STEER_CMD write with GO = 1 requests a steer of SET. -/
  | phoSteerCmdGo (al : BitVec 2) (v : BitVec 32)
  /-- R281: A peer answers a steer proposal with ACCEPT or REFUSE. -/
  | steerPropose (h : SvcHdr) (gen : W32) (t : W64) (groups : List (BitVec 5 × Byte))
  /-- R281: A steer answer from a peer is recorded. -/
  | steerAnswer (h : SvcHdr) (gen : W32) (accept : Bool)
  /-- R281: At T-20 µs each group's outcome is decided from the answers held. -/
  | steerDecide
  /-- R282: At T the switch rings retune and the groups move, and the steer generation increments. -/
  | steerApply
  /-- R282: At T+1.8 µs a moved group sends START on its new port. -/
  | groupStart (group : BitVec 5)
  /-- R270: The interlock asserts, every launch gate closes and every port goes DOWN. -/
  | lsrIntlkNAssert
  /-- R270: The interlock release acts after its hold-off and links retrain. -/
  | lsrIntlkNRelease
  /-- R259: A frame is FEC-decoded, released in FLIT_SEQ order, or discarded whole. -/
  | frameReceive (lane : Lane) (errs : List (BitVec 10)) (hdr : W64) (items : List StreamItem)
  /-- R260: A missing sequence is skipped 200 ns after a later frame arrives. -/
  | frameSkipTimeout (stream : StreamId)
  /-- R307: Absolute occupancies and S update the sender's credit state. -/
  | creditFlit (port : BitVec 4)
  /-- R308: A receiver sends a CREDIT flit every 8 frames, or after occupancy falls by 128. -/
  | creditSend (port : BitVec 4)
  /-- R308: Service message 0x30 carries credit while the port is dark. -/
  | credit (hdr : SvcHdr) (flit : CreditFlit)
  /-- R309: The port arbiter starts a packet once credit allows, oldest first. -/
  | packetStart (port : BitVec 4) (idle stallNs darkNs : Nat)
  /-- R300: A packet for another device chooses its next hop and port, or is discarded. -/
  | packetForward (port : BitVec 4) (ch : BitVec 2)
  /-- R310: A request at the head without reply space for 2 µs is discarded. -/
  | headBusyTimeout (port : BitVec 4) (ch : BitVec 2)
  /-- R329: A load request is window-checked and served. -/
  | ldReq (req : ReqFrom)
  /-- R331: A short load reply completes the load at the source. -/
  | ldRspS (port : BitVec 4) (ch : BitVec 2)
  /-- R329: A load reply with data completes the load and carries the window marks. -/
  | ldRsp (port : BitVec 4) (ch : BitVec 2)
  /-- R342: A short store is sequence-checked and applied. -/
  | stS (req : ReqFrom)
  /-- R342: A store is sequence-checked and applied. -/
  | stReq (req : ReqFrom)
  /-- R342: A short flagged store is sequence-checked and applied. -/
  | stfS (req : ReqFrom)
  /-- R342: A flagged store is sequence-checked and applied. -/
  | stf (req : ReqFrom)
  /-- R342: A store or flagged-store reply completes its request. -/
  | ack (port : BitVec 4) (ch : BitVec 2)
  /-- R334: An atomic is sequence-checked and applied as one read-modify-write, with its result cached. -/
  | atomic (req : ReqFrom)
  /-- R345: An AT with ATOP 15 is answered with the pair's EXP. -/
  | syncQuery (port : BitVec 4) (ch : BitVec 2)
  /-- R333: An atomic reply completes the GAT, or answers a resync query. -/
  | atRsp (port : BitVec 4) (ch : BitVec 2)
  /-- R320: A put from another domain is applied, or forwarded out by the gateway. -/
  | xput (port : BitVec 4) (ch : BitVec 2)
  /-- R320: A put reply is completed or routed back by the gateway. -/
  | xputAck (port : BitVec 4) (ch : BitVec 2)
  /-- R320: A get from another domain is served. -/
  | xget (port : BitVec 4) (ch : BitVec 2)
  /-- R320: A get reply is completed or routed back. -/
  | xgetRsp (port : BitVec 4) (ch : BitVec 2)
  /-- R331: A message payload is written, its counter incremented once, and the result cached. -/
  | xmsg (port : BitVec 4) (ch : BitVec 2)
  /-- R331: A message reply completes the XMSG. -/
  | xmsgAck (port : BitVec 4) (ch : BitVec 2)
  /-- R362: A collective contribution is sequenced, held or combined. -/
  | coll (req : ReqFrom)
  /-- R362: A collective control packet, such as ABORT, is acted on. -/
  | collCtl (req : ReqFrom)
  /-- R494: A peer's Svaog request is served with class P, or answered from kept replies. -/
  | mgmt (ev : MgmtEv)
  /-- R494: A Svaog reply completes a fabric dictionary request. -/
  | mgmtRsp (port : BitVec 4) (ch : BitVec 2)
  /-- R494: No MGMT_RSP 1 ms after sending, so the request is resent, or completes TIMEOUT after three resends. -/
  | mgmtResendTimeout (tag : W16)
  /-- R343: An attempt times out and is resent go-back-N, or alone for a load. -/
  | requestTimeout (id : Nat)
  /-- R343: At 4T a load completes PEER_TIMEOUT or the pair enters resync. -/
  | requestLastChance (id : Nat)
  /-- R343: Two µs after a BUSY reply, the request is resent. -/
  | busyResend (id : Nat)
  /-- R345: T after the last injection, a SYNC query is sent, and it is repeated every 1 ms. -/
  | resyncQuerySend (eng dest : Nat)
  /-- R345: An unanswered duplicate is resent every T. -/
  | resyncDuplicateResend (id : Nat)
  /-- R340: Every request in the snapshot has completed, so the flagged store is sent or completes with the failure. -/
  | flaggedStoreSend (id : Nat)
  /-- R314: At L+10 µs every port to the silent neighbour is DOWN and pinned flows move. -/
  | neighbourPortsDown (dev : BitVec 6)
  /-- R314: At L+50 µs the neighbour is declared lost locally, operations to it complete PEER_LOST, and PEER_DOWN is sent. -/
  | neighbourLostLocal (dev : BitVec 6)
  /-- R315: The holder records a report and decides LOST, VIA or UNREACHABLE. -/
  | peerDown (hdr : SvcHdr) (payload : List Byte)
  /-- R472: A route update segment is stored and acknowledged, or applied late at once. -/
  | routeUpdate (hdr : SvcHdr) (payload : List Byte)
  /-- R472: The holder records a device's acknowledgement of a route update. -/
  | routeAck (hdr : SvcHdr) (payload : List Byte)
  /-- R472: Every 20 µs the holder resends the segments of unacknowledged devices. -/
  | routeSegmentResend
  /-- R304: At the activation time the route table, domain settings and readmissions take effect and FAB_ROUTE_GEN increments. -/
  | routeUpdateActivate
  /-- R469: Every 10 ms N2 sends MGMT_ALIVE to its neighbours. -/
  | mgmtAliveSend
  /-- R469: MGMT_ALIVE from a neighbour clears its management-silent bit. -/
  | mgmtAlive (hdr : SvcHdr) (payload : List Byte)
  /-- R469: A neighbour silent for 200 ms is marked in DM_MGMT_SILENT. -/
  | mgmtSilentTimeout (dev : BitVec 6)
  /-- R465: A standby whose wait after expiry ends sends a claim, and resends it every 10 ms. -/
  | dmClaimSend
  /-- R464: A device answers a claim with ACK, NACK_NEWER or NACK_LIVE. -/
  | dmClaim (hdr : SvcHdr) (payload : List Byte)
  /-- R471: The claimant collects acknowledgements and takes the role on a quorum. -/
  | dmAck (hdr : SvcHdr) (payload : List Byte)
  /-- R465: Every 10 ms the holder sends a renewal. -/
  | dmRenewSend
  /-- R465: A renewal or release updates the seen generation and expiry. -/
  | dmRenew (hdr : SvcHdr) (payload : List Byte)
  /-- R465: The holder extends its expiry on a quorum of acknowledgements. -/
  | dmRenewAck (hdr : SvcHdr) (payload : List Byte)
  /-- R465: The holder stops acting at its expiry minus 1 ms. -/
  | dmHolderExpiry
  /-- R466: Every 1 ms the holder sends its state copy to each standby. -/
  | dmMgmtCycle
  /-- R473: A standby stores a copy segment and keeps complete, matching copies. -/
  | dmCopy (hdr : SvcHdr) (payload : List Byte) (agrees : Bool)
  /-- R466: The holder records a standby's health. -/
  | dmCopyReport (hdr : SvcHdr) (payload : List Byte)
  /-- R467: A write to DM_SWAP on the holder makes it hand the role to its first standby. -/
  | dmSwap (src : WriteSrc)
  /-- R467: DM_SWAP_PERIOD elapses, so the holder hands over. -/
  | dmSwapPeriodExpire
  /-- R381: Every 100 µs a port sends TIME_REQ on each fibre. -/
  | timeExchangeSend (port : BitVec 4)
  /-- R381: A peer answers with TIME_RESP carrying t2, t3, state and hop count. -/
  | timeReq (h : SvcHdr) (turn : Nat)
  /-- R382: Offset and delay are computed and the upstream, servo and FT_STATE are updated. -/
  | timeResp (h : SvcHdr) (t2 t3 : W64) (ftState hops : Nat)
  /-- R378: Every 50 µs CAL updates the TB rate trim and the PLL trims. -/
  | calTrimUpdate (tb : Int) (plls : List (Nat × Int))
  /-- R388: On the domain manager, a PPS edge steers the TB rate towards TAI. -/
  | syncPpsEdge
  /-- R390: A preset of fabric time is accepted for the next route update activation. -/
  | ftWrapTest (src : WriteSrc)
  /-- R375: A member records or refuses a pending frequency change, clamps it, and returns FREQ_ACK. -/
  | freqAnnounce (src : BudgetFrom)
  /-- R373: The leader records a member's answer. -/
  | freqAck (src : BudgetFrom)
  /-- R604: At Tf-160 µs, or at once for a late raise, the new VDD_SRC set point is sent over AVSBus. -/
  | freqSupplyCommand
  /-- R374: At Tf the SC and FC generators begin moving to the new period. -/
  | freqChangeStart
  /-- R374: At Tf+2 µs the new step runs, CLK_JOB_STEP updates, a pending limit lands, and a lowered supply moves. -/
  | freqChangeEnd
  /-- R371: A PLL loses lock and gates its clock. -/
  | pllLossOfLock (d : BitVec 5)
  /-- R371: A PLL regains lock within 10 µs, recorded as CE. -/
  | pllRelock (d : BitVec 5) (ns : Nat)
  /-- R371: A PLL has not relocked within 10 µs, so an FE-class error is raised. -/
  | pllLockTimeout (d : BitVec 5)
  /-- R605: Loss of REFCLK_SYS leads to the PLL FE, and loss of REFCLK_PCIE takes the link down. -/
  | refclkLoss (pcie : Bool)
  /-- R377: Slack below 3% lengthens every cycle by 1/16. -/
  | replicaAlarm (t : BitVec 2)
  /-- R377: All tiles show 8% slack for 1 µs, so lengthening ends. -/
  | replicaAlarmEnd (t : BitVec 2)
  /-- R377: Slack below 8% sets MARGIN_WARN and counts at most once per ms. -/
  | replicaWarn (t : BitVec 2)
  /-- R422: Every 100 µs a member sends LIMIT_REPORT and updates LOW_RUN. -/
  | limitReportSend
  /-- R424: The leader evaluates reports and announces a lowering, raise or limit change. -/
  | limitReport (src : BudgetFrom)
  /-- R402: Every 100 µs N3 computes the pool and divides stack budgets. -/
  | budgetCycle (fixed power : Nat)
  /-- R404: A stack receives its budget and returns its telemetry. -/
  | stackBudgetReceive (t : BitVec 2)
  /-- R404: No budget for 1 ms, so the stack takes one quarter of the last pool. -/
  | stackBudgetTimeout (t : BitVec 2)
  /-- R400: Every 256 Serac cycles k moves one step towards the effective limit within the clamps. -/
  | limiterLoopStep (t : BitVec 2) (power : Nat)
  /-- R411: Every 100 µs L, G and H fall or rise by 2 points. -/
  | thermalStepping
  /-- R413: Every 10 µs the Floe slope is fitted and k is lowered when it exceeds SLOPE_LIMIT. -/
  | stackRuleEval (t : BitVec 2) (smp : Samples)
  /-- R415: A sensor differing by more than 6 °C for 1 ms is marked suspect. -/
  | sensorSuspect (t : BitVec 2) (sensor : Nat)
  /-- R418: The inferred Firn value exceeds the reading by 8 °C for 2 ms, so the die's sensors are suspect and clamps apply. -/
  | firnSensorsSuspect (t : BitVec 2)
  /-- R430: A trip limit is reached, so THERMTRIP_N asserts, k falls to 0 and an FE is raised. -/
  | thermalTrip (t : BitVec 2) (sensor : Nat)
  /-- R406: Power exceeds the cap by 2% for 10 ms at k=0, so CAP_UNREACHABLE is set and ALERT_N asserts. -/
  | capUnreachableSet
  /-- R428: PWRBRK_N asserts and k is clamped to PWR_BRK_K. -/
  | pwrbrkNAssert
  /-- R428: The release acts after 1 ms and the clamp is removed. -/
  | pwrbrkNRelease
  /-- R608: FENCE_N sets MEM_FENCE to 1. -/
  | fenceNAssert
  /-- R606: A strap change held for 1 s writes one pin event. -/
  | rackposChange (strap : Nat)
  /-- R616: The TAP is held in Test-Logic-Reset. -/
  | trstNAssert
  /-- R606: An input stays asserted past its stuck timer, so a pin event is written. -/
  | pinStuckTimeout (pin : Nat)
  /-- R606: An edge beyond the followed rate is counted and ignored. -/
  | pinExcessEdge (pin : Nat)
  /-- R615: A TAP instruction is loaded and acts or falls back to BYPASS. -/
  | tapInstruction (op : TapInstr)
  /-- R352: A host read through BAR4 returns data, poison or Unsupported Request. -/
  | bar4Read (off len : Nat)
  /-- R352: A host write through BAR4 is applied in order or discarded. -/
  | bar4Write (off : Nat) (bs : List Byte) (ep : Bool)
  /-- R353: Every 1 µs a host DMA engine polls its ring and takes descriptors. -/
  | hdmaPoll (eng : BitVec 2)
  /-- R355: A descriptor is checked and split into requests. -/
  | hdmaDescriptorStart (eng : BitVec 2) (num : Nat)
  /-- R355: The last request completes, so the record is written, TAIL advances and MSI-X is raised. -/
  | hdmaDescriptorComplete (eng : BitVec 2) (num : Nat)
  /-- R356: Every 1 µs a collective unit polls its ring. -/
  | collPoll (cu : BitVec 2)
  /-- R358: A descriptor is checked and started, or completes ACCESS_DENIED. -/
  | collDescriptorTake (cu : BitVec 2)
  /-- R360: A pass or stage of a block has all its contributions and moves on. -/
  | collStageComplete (cu : BitVec 2) (id : BitVec 32) (block : Nat)
  /-- R362: Results are written and the completion record is written by flagged store. -/
  | collComplete (cu : BitVec 2) (id : BitVec 32)
  /-- R362: A contribution has not arrived within COLL_TIMEOUT, so the collective completes PEER_TIMEOUT. -/
  | collTimeout (cu : BitVec 2) (id : BitVec 32)
  /-- R364: A window write takes effect for later requests. -/
  | memWindowsWrite (src : WriteSrc)
  /-- R367: A write of MEM_FENCE fences or unfences every inbound window at once. -/
  | memFence (src : WriteSrc)
  /-- R351: A write of the BAR4 base takes effect for later accesses. -/
  | hostBar4Base (src : WriteSrc)
  /-- R521: NEW records up to a SEQ become ACKED. -/
  | errAck (src : WriteSrc)
  /-- R529: An injection is armed or disarmed. -/
  | errInject (src : WriteSrc)
  /-- R530: A write of 0xA5 starts blowing the production lock fuse. -/
  | errProdLockSet (src : WriteSrc)
  /-- R556: A fuse write ends with read-back. -/
  | fuseWriteComplete
  /-- R560: KEY_REVOKED bits are set or refused. -/
  | secKeyRevoke (src : WriteSrc)
  /-- R561: The fused security version is raised to the running SVN. -/
  | secSvnCommit (src : WriteSrc)
  /-- R564: A host or board write extends M8-M15. -/
  | secMeasExtend (src : WriteSrc)
  /-- R568: SPDM request for versions. -/
  | getVersion (conn : Nat)
  /-- R568: SPDM request for capabilities. -/
  | getCapabilities (conn : Nat) (ver : Byte)
  /-- R568: SPDM algorithm negotiation. -/
  | negotiateAlgorithms (conn : Nat) (ver : Byte) (mlDsa44 sha3 dmtf : Bool)
  /-- R568: SPDM request for certificate digests. -/
  | getDigests (conn : Nat) (ver : Byte)
  /-- R568: SPDM request for the slot 0 chain. -/
  | getCertificate (conn : Nat) (ver : Byte) (slot off len : Nat)
  /-- R568: SPDM challenge signed by the alias key. -/
  | challenge (conn : Nat) (ver : Byte) (slot : Nat) (nonce : List Byte) (summary : Bool) (signature : List Byte)
  /-- R569: SPDM request reporting M0-M15 as taken. -/
  | getMeasurements (conn : Nat) (ver : Byte) (index : Byte) (signature : List Byte)
  /-- R568: SPDM request for the next chunk of a large response. -/
  | chunkGet (conn : Nat) (ver : Byte) (handle : Byte) (num : Nat)
  /-- R537: Writing CVU_CTRL.EN to 1 starts or continues a scan, or refuses BAD_CONFIG, or gives an ALIVE result. -/
  | cvuStart (unit : BitVec 4) (src : WriteSrc)
  /-- R537: Writing CVU_CTRL.EN to 0 stops a scan at a whole word with STOPPED. -/
  | cvuStop (unit : BitVec 4) (src : WriteSrc)
  /-- R533: A scan load returns and its bytes are fed, or it stops the scan. -/
  | cvuLoadComplete (unit : BitVec 4)
  /-- R535: The alive value is folded in, compared, and the result store is written. -/
  | cvuScanEnd (unit : BitVec 4)
  /-- R540: Every 1 s the histograms and extremes are updated. -/
  | moraineSample (hists exts : List (Nat × Int))
  /-- R543: A write freezes or unfreezes the Moraine. -/
  | morFreeze (src : WriteSrc)
  /-- R543: A freeze ends after 1 s and its deltas merge. -/
  | morFreezeExpire
  /-- R546: A write requests a snapshot. -/
  | morFlush (src : WriteSrc)
  /-- R546: Every 10 minutes of operating time, a snapshot falls due. -/
  | snapshotDue
  /-- R548: A snapshot write ends or fails and is retried, the store going FAILED after three failures. -/
  | snapshotWriteComplete (ok : Bool)
  /-- R589: Each operating hour, ageing is read and histograms updated, and a plan is made every 720 h. -/
  | operatingHour (ageD slack slope eye : RF 2 Nat)
  /-- R593: Each 1 s the bias moves 0.1% towards its target. -/
  | emitterBiasStep
  /-- R583: A write copies every value in force into CAL_EXPORT. -/
  | calExportTake (src : WriteSrc)
  /-- R54: A queued MOUT, MOUTZ, MZERO or MLOAD starts in the matrix engine once 8 cycles have passed after the last admitted step on its set, checks its mode and alignment, and writes or loads the set. -/
  | matrixOpStart (tile : Nat)
  /-- R60: A vector operation's result is written to its register after its latency, which clears the pending write that stalls dependent bundles. -/
  | vectorResultWrite (tile : Nat) (idx : Nat)
  /-- R204: The tag walk of a slice changing to scratch ends after 6,144 Firn cycles with every line written back and invalidated, and the slice enters scratch mode. -/
  | firnModeChangeEnd (slice : BitVec 5)
  /-- R234: An HBM PHY loses lock and starts retraining, which starts the 1 ms recovery timer. -/
  | hbmPhyLossOfLock (stack : Nat)
  /-- R234: Retraining after an HBM PHY loss of lock recovers within 1 ms, and the stack stays in service. -/
  | hbmPhyRetrained (stack : Nat)
  /-- R233: The THAW zeroing of every ECC word ends, and BAR4 accesses stop being handled as unmapped. -/
  | hbmZeroComplete
  /-- R362: Contributions held for an unknown COLL_ID reach COLL_TIMEOUT and are no longer held. -/
  | collHoldExpire (cu : BitVec 2)
  /-- R363: Fabric time reaches the requested steer time plus 2 µs, so the collective unit begins sending row-stage or column-stage data. -/
  | collSteerWaitEnd (cu : BitVec 2) (id : BitVec 32)
  /-- R355: A PCIe completion for a host DMA engine's read of host memory arrives with data, an error status or poison. -/
  | hdmaHostReadCompletion (eng : BitVec 2) (num off : Nat) (res : HostRead)
  /-- R351: The host changes the BAR4 size through the Resizable BAR capability, and later accesses use the new size. -/
  | bar4Resize (log : Nat)
  /-- R612: The PCIe link comes back up after going down for a reason other than a reset. -/
  | pcieLinkUp
  /-- R377: Every tile of the stack shows slack of 8% or more again, so MARGIN_WARN returns to 0. -/
  | replicaWarnEnd (t : BitVec 2)
  /-- R406: Package power falls to cap_e or below, so CAP_UNREACHABLE clears and ALERT_N may release. -/
  | capUnreachableClear
  /-- R389: Fabric time passes 0, and FT_WRAP_EPOCH increments on the device. -/
  | fabricTimeWrap
  /-- R540: VDD_SRC dips more than 15 mV below its set point, and the dip is counted in Moraine histogram 44 by its depth. -/
  | vddSrcDip (depth : Nat)
  /-- R568: An SPDM request that the T24 does not support arrives and is answered ERROR UnsupportedRequest. -/
  | spdmUnsupportedRequest (conn : Nat)
  /-- R606: FENCE_N is released after its hold-off; the fence stays, but the assertion timer ends and a STUCK_END pin event is written if the pin was stuck. -/
  | fenceNRelease
  /-- R616: TRST_N is released and the TAP is no longer held in Test-Logic-Reset. -/
  | trstNRelease
deriving DecidableEq, Repr

end Sys2Proof
end

