-- ==== Sys2Proof/Decode.lean ====
section
/-! DEFINITION. The slots of a bundle as commands (R41, R46, R47, R50, R58, R61), and the command that a word of the opcode table
spells: no row gives bits, so no word spells one. -/

namespace Sys2Proof

/-! ### Slots -/

/-- R47: the fields of a control slot. -/
def ctlFields (w : W32) : CtlSlot :=
  { reg := w.extractLsb' 22 4, sub := w.extractLsb' 20 2, imm := w.extractLsb' 0 20 }

/-- R50: the fields of a matrix slot. -/
def matFields (w : W32) : MatSlot :=
  { md := w.extractLsb' 23 4, aa := w.extractLsb' 19 4, ab := w.extractLsb' 15 4, ac := w.extractLsb' 11 4,
    set := w.extractLsb' 10 1, postinc := w.getLsbD 9, count := w.extractLsb' 0 9 }

/-- R58: the fields of a vector slot. -/
def vecFields (w : W32) : VecSlot :=
  { vfmt := w.extractLsb' 22 4, vd := w.extractLsb' 17 5, va := w.extractLsb' 12 5, vb := w.extractLsb' 7 5,
    vc := w.extractLsb' 2 5, pred := w.extractLsb' 0 2 }

/-- R61: the fields of a stream slot. -/
def strFields (w : W32) : StrSlot :=
  { dir := w.extractLsb' 25 2, dir2 := w.extractLsb' 23 2, areg := w.extractLsb' 19 4, sreg := w.extractLsb' 15 4,
    cc := w.extractLsb' 11 4, count := w.extractLsb' 5 6, postinc := w.getLsbD 4, atop := w.extractLsb' 0 4 }

/-- R47: the control operation of COP [31:26] on tile `n`; none for a reserved one (R46). -/
def decodeCtl (n : Nat) (w : W32) : Option Instr :=
  let c := ctlFields w
  match (w.extractLsb' 26 6).toNat with
  | 0x00 => some (.cnop n c)
  | 0x01 => some (.seta n c)
  | 0x02 => some (.adda n c)
  | 0x03 => some (.sets n c)
  | 0x04 => some (.shis n c)
  | 0x05 => some (.adds n c)
  | 0x06 => some (.lds n c)
  | 0x07 => some (.sts n c)
  | 0x08 => some (.mova n c)
  | 0x09 => some (.movs n c)
  | 0x0A => some (.br n c)
  | 0x0B => some (.loop n c)
  | 0x0C => some (.wait n c)
  | 0x0D => some (.ccset n c)
  | 0x0E => some (.ccst n c)
  | 0x0F => some (.tfence n c)
  | 0x10 => some (.ldmd n c)
  | 0x11 => some (.setrnd n c)
  | 0x12 => some (.blk n c)
  | 0x13 => some (.phase n c)
  | 0x14 => some (.slice n c)
  | 0x15 => some (.phaseDone n c)
  | 0x16 => some (.halt n c)
  | 0x17 => some (.trap n c)
  | _ => none

/-- R50: the matrix operation of MOP [31:27]; none for a reserved one. -/
def decodeMat (n : Nat) (w : W32) : Option Instr :=
  let m := matFields w
  match (w.extractLsb' 27 5).toNat with
  | 0x00 => some (.mnop n m)
  | 0x01 => some (.mma n m)
  | 0x02 => some (.mmaz n m)
  | 0x03 => some (.mout n m)
  | 0x04 => some (.moutz n m)
  | 0x05 => some (.mzero n m)
  | 0x06 => some (.mload n m)
  | _ => none

/-- R58: the vector operation of VOP [31:26]; none for a reserved one. -/
def decodeVec (n : Nat) (w : W32) : Option Instr :=
  let v := vecFields w
  match (w.extractLsb' 26 6).toNat with
  | 0x00 => some (.vnop n v)
  | 0x01 => some (.vld n v)
  | 0x02 => some (.vst n v)
  | 0x03 => some (.vadd n v)
  | 0x04 => some (.vsub n v)
  | 0x05 => some (.vmul n v)
  | 0x06 => some (.vfma n v)
  | 0x07 => some (.vmin n v)
  | 0x08 => some (.vmax n v)
  | 0x09 => some (.vabs n v)
  | 0x0A => some (.vneg n v)
  | 0x0B => some (.vrcp n v)
  | 0x0C => some (.vrsq n v)
  | 0x0D => some (.vexp2 n v)
  | 0x0E => some (.vlog2 n v)
  | 0x0F => some (.vcmp n v)
  | 0x10 => some (.vsel n v)
  | 0x11 => some (.vand n v)
  | 0x12 => some (.vor n v)
  | 0x13 => some (.vxor n v)
  | 0x14 => some (.vshl n v)
  | 0x15 => some (.vshr n v)
  | 0x16 => some (.vcvti n v)
  | 0x17 => some (.vcvto n v)
  | 0x18 => some (.vred n v)
  | 0x19 => some (.vperm n v)
  | 0x1A => some (.vbcast n v)
  | _ => none

/-- R61: the stream operation of SOP [31:27]; none for a reserved one. -/
def decodeStr (n : Nat) (w : W32) : Option Instr :=
  let x := strFields w
  match (w.extractLsb' 27 5).toNat with
  | 0x00 => some (.snop n x)
  | 0x01 => some (.ssend n x)
  | 0x02 => some (.srecv n x)
  | 0x03 => some (.spass n x)
  | 0x04 => some (.spassw n x)
  | 0x05 => some (.frd n x)
  | 0x06 => some (.fwr n x)
  | 0x07 => some (.gld n x)
  | 0x08 => some (.gst n x)
  | 0x09 => some (.gat n x)
  | 0x0A => some (.gstf n x)
  | 0x0B => some (.ffl n x)
  | 0x0C => some (.fiv n x)
  | _ => none

/-! ### Bundles -/

/-- R41: the operations of a bundle's slots. -/
structure Bundle where
  mat : Instr
  vec : Instr
  str : Instr
  ctl : Instr
deriving DecidableEq, Repr

/-- R41, R46: the bundle of tile `n` that 128 bits hold: matrix [31:0], vector [63:32], stream [95:64], control [127:96]; none
where a slot holds a reserved opcode. -/
def decodeBundle (n : Nat) (b : BitVec 128) : Option Bundle :=
  match decodeMat n (b.extractLsb' 0 32), decodeVec n (b.extractLsb' 32 32), decodeStr n (b.extractLsb' 64 32),
    decodeCtl n (b.extractLsb' 96 32) with
  | some m, some v, some x, some c => some ⟨m, v, x, c⟩
  | _, _, _, _ => none

/-! ### The table -/

/-- No row of spec/opcode_table.json gives bits. -/
def decodeTableWord (_nbits _w : Nat) : Option Instr := none

end Sys2Proof
end

