-- ==== Sys2Proof/Config.lean ====
section
/-! DEFINITION. What an implementation fixes and the spec leaves open, and the free values (log entry 3). -/

namespace Sys2Proof.Config

/-- A value the spec does not state, one for each reading of the state's counter `free`; nothing constrains it. -/
opaque freeBits : Nat → Nat
/-- R310: for how many replies beyond one the serving units hold space (log entry 155). -/
opaque replyExtra : Nat

/-- A free value of `w` bits. -/
def freeValue (w : Nat) (n : Nat) : BitVec w := BitVec.ofNat w (freeBits n)

/-- Free bytes: as many as asked for. -/
def freeBytes (n : Nat) : Nat → List Byte
  | 0 => []
  | k + 1 => freeValue 8 (n + k) :: freeBytes n k

/-- R382: the filter of the fabric-time servo: from its last output and a new offset (log entry 40). -/
opaque ftFilter : Int → Int → Int

/-- R384, R388: the rate correction that the servo asks for at a filtered offset, and at a phase of a PPS edge, in units of
2^-32, before its limit (log entry 40). -/
opaque servoRate : Int → Int
opaque ppsRate : Int → Int

/-- R565: the public key that the KeyGen of FIPS 204 gives for a 32-byte seed, which the spec takes from that standard (log entry
161). -/
opaque keyGenPub : List Byte → List Byte

/-- R566: the alias certificate as N4 issues it, from the seed of the device key that signs it, the alias public key, the image
digest, SVN, KEY_INDEX and FW_RELEASE; one for each issue (log entry 161). -/
opaque aliasCert : Nat → List Byte → List Byte → List Byte → Nat → Nat → Nat → List Byte

/-- R604: the VDD_SRC voltage of a job step without guardband, in mV (log entry 41). -/
opaque stepVoltage : Nat → Nat

/-- R417: the factory values of a Firn region's r_fs and r_lf, by stack and region, in 0.001 K/W (log entry 42). -/
opaque factoryRfs : Nat → Nat → Int
opaque factoryRlf : Nat → Nat → Int

/-- R584: FORMAT_MAJOR and FORMAT_MINOR of a firmware release, and the contents of a section of an export blob, which the
firmware defines: the section of an item from its values (element, choice, trims) and suspect marks; and back: the value
and the marks of an element (log entry 43). -/
opaque calFormat : Nat → BitVec 16 × BitVec 16
opaque calSection : Nat → List (Nat × List Int × List Nat) → List Byte
opaque calValue : Nat → List Byte → Nat → List Int
opaque calMarks : Nat → List Byte → Nat → List Nat

/-- R547: byte `i` of the 64-byte header of the last-fatal area, from the SEQ, the count and the two stamps that it holds;
the spec does not place them (log entry 47). -/
opaque fatalHeader : Nat → Nat → Nat → Nat → Nat → Byte

/-- R494: whether an MGMT packet with these 32 bytes asks for a write; the spec gives the payload no field that tells a write from
a read (log entry 55). -/
opaque mgmtIsWrite : List Byte → Bool

/-- R362: the 32 bytes of a COLL_CTL ABORT, from its COLL_ID and status, and what a unit reads from such bytes (log entry 56). -/
opaque collAbort : Nat → Nat → List Byte
opaque collAbortId : List Byte → Nat
opaque collAbortStatus : List Byte → Nat

end Sys2Proof.Config
end

