-- ==== Sys2Proof/Machine/Store.lean ====
section
/-! DEFINITION. Sparse stores: a map from a number to a value, held as one canonical list, and byte memories. -/

namespace Sys2Proof.Machine

/-- A sparse map: keys strictly rising, and no entry equal to the default an unlisted key reads as. -/
abbrev SMap (α : Type) := List (Nat × α)

/-- The value at a key; `d` where the key is not listed. -/
def SMap.get {α : Type} (d : α) : SMap α → Nat → α
  | [], _ => d
  | (k', v) :: m, k => if k' = k then v else SMap.get d m k

/-- Put a pair before the first larger key. -/
def SMap.ins {α : Type} (k : Nat) (v : α) : SMap α → SMap α
  | [] => [(k, v)]
  | (k', v') :: m => if k < k' then (k, v) :: (k', v') :: m else (k', v') :: SMap.ins k v m

/-- Drop a key. -/
def SMap.del {α : Type} (k : Nat) : SMap α → SMap α
  | [] => []
  | (k', v') :: m => if k' = k then SMap.del k m else (k', v') :: SMap.del k m

/-- Write a key, keeping the canonical form: writing the default removes the entry. -/
def SMap.set {α : Type} [DecidableEq α] (d : α) (m : SMap α) (k : Nat) (v : α) : SMap α :=
  if v = d then SMap.del k m else SMap.ins k v (SMap.del k m)

/-- Apply a function to the value at a key. -/
def SMap.upd {α : Type} [DecidableEq α] (d : α) (m : SMap α) (k : Nat) (f : α → α) : SMap α :=
  SMap.set d m k (f (SMap.get d m k))

/-- The keys are strictly rising, from above `lo` on. -/
def SMap.rising {α : Type} : Option Nat → SMap α → Bool
  | _, [] => true
  | lo, (k, _) :: m => (match lo with | none => true | some l => decide (l < k)) && SMap.rising (some k) m

/-- The canonical form: keys strictly rising, no entry equal to the default. -/
def SMap.wf {α : Type} [DecidableEq α] (d : α) (m : SMap α) : Bool :=
  SMap.rising none m && m.all (fun p => decide (p.2 ≠ d))

/-! ### Byte memories -/

/-- A byte memory as the host's cells; an unlisted byte reads as zero (R233, R203, R178 zero each memory before use). -/
abbrev Mem := List Host.Cell

/-- The byte at an address. -/
def Mem.rd (m : Mem) (a : Nat) : Byte := SMap.get 0#8 m a

/-- Write one byte. -/
def Mem.wr (m : Mem) (a : Nat) (b : Byte) : Mem := SMap.set 0#8 m a b

/-- The canonical form of a byte memory. -/
def Memory.wf (m : Mem) : Bool := SMap.wf 0#8 m

/-- `n` bytes from address `a` upwards. -/
def Mem.bytes (m : Mem) (a : Nat) : Nat → List Byte
  | 0 => []
  | n + 1 => Mem.rd m a :: Mem.bytes m (a + 1) n

/-- Write bytes from address `a` upwards. -/
def Mem.wrBytes (m : Mem) (a : Nat) : List Byte → Mem
  | [] => m
  | b :: bs => Mem.wrBytes (Mem.wr m a b) (a + 1) bs

/-- Bytes as a little-endian number, the first byte least significant (R90). -/
def leNat : List Byte → Nat
  | [] => 0
  | b :: bs => b.toNat + 256 * leNat bs

/-- A number as `n` little-endian bytes. -/
def natLE : Nat → Nat → List Byte
  | 0, _ => []
  | n + 1, v => BitVec.ofNat 8 v :: natLE n (v / 256)

/-- A signed number as `n` little-endian bytes. -/
def intLE (n : Nat) (v : Int) : List Byte := natLE n ((v % Int.ofNat (2 ^ (8 * n))).toNat)

/-- `n` bytes at `a` as a little-endian number. -/
def Mem.le (m : Mem) (a n : Nat) : Nat := leNat (Mem.bytes m a n)

/-- Write a number as `n` little-endian bytes. -/
def Mem.wrLE (m : Mem) (a n v : Nat) : Mem := Mem.wrBytes m a (natLE n v)

/-- Set every byte of a range to zero. -/
def Mem.zero (m : Mem) (lo n : Nat) : Mem := m.filter (fun c => c.1 < lo || lo + n ≤ c.1)

/-! ### Sets of numbers, held sorted without repeats -/

/-- A set of numbers as the keys of a sparse map. -/
abbrev NSet := List Nat

def NSet.add (k : Nat) : NSet → NSet
  | [] => [k]
  | k' :: m => if k < k' then k :: k' :: m else if k = k' then k' :: m else k' :: NSet.add k m

def NSet.del (k : Nat) (m : NSet) : NSet := m.filter (fun x => x != k)

end Sys2Proof.Machine
end

