-- ==== Sys2Proof/Machine/Checks.lean ====
section
/-! DEFINITION. CRC-32C, CRC-64, SUM64 (R531) and SHA3-256. -/

namespace Sys2Proof.Machine

/-- Apply a function a number of times. -/
def timesDo {α : Type} (f : α → α) : Nat → α → α
  | 0, x => x
  | n + 1, x => timesDo f n (f x)

/-- One bit of the reflected CRC-32C. -/
def crc32cBit (c : W32) : W32 :=
  if c.getLsbD 0 then (c >>> 1) ^^^ 0x82F63B78#32 else c >>> 1

/-- R531: one byte into the CRC-32C register, before the final exclusive-or. -/
def crc32cByte (c : W32) (b : Byte) : W32 :=
  timesDo crc32cBit 8 (c ^^^ b.setWidth 32)

/-- R531: continue a CRC-32C from a check value; 0 is the value for no bytes. -/
def crc32cFrom (run : W32) (bs : List Byte) : W32 :=
  ~~~ (bs.foldl crc32cByte (~~~ run))

/-- R531: the CRC-32C of a byte string. -/
def crc32c (bs : List Byte) : W32 := crc32cFrom 0 bs

/-- One bit of CRC-64/ECMA-182. -/
def crc64Bit (c : W64) : W64 :=
  if c.getLsbD 63 then (c <<< 1) ^^^ 0x42F0E1EBA9EA3693#64 else c <<< 1

def crc64Byte (c : W64) (b : Byte) : W64 :=
  timesDo crc64Bit 8 (c ^^^ (b.setWidth 64 <<< 56))

/-- R531: CRC-64/ECMA-182 from a check value. -/
def crc64From (run : W64) (bs : List Byte) : W64 := bs.foldl crc64Byte run

/-- Cut a byte string into pieces of `n` bytes; `fuel` bounds the pieces. -/
def chunksOf (n : Nat) : Nat → List Byte → List (List Byte)
  | 0, _ => []
  | fuel + 1, bs => if bs.isEmpty then [] else bs.take n :: chunksOf n fuel (bs.drop n)

/-- R531: SUM64 from a check value. -/
def sum64From (run : W64) (bs : List Byte) : W64 :=
  (chunksOf 8 (bs.length / 8 + 1) bs).foldl (fun a w => a + BitVec.ofNat 64 (leNat w)) run

/-! ### SHA3-256 as FIPS 202 defines it (PRESUMED: the spec names it and does not repeat it) -/

/-- Rotation offsets of rho, lane x + 5y. -/
def rhoOff : List Nat :=
  [0, 1, 62, 28, 27, 36, 44, 6, 55, 20, 3, 10, 43, 25, 39, 41, 45, 15, 21, 8, 18, 2, 61, 56, 14]

/-- Round constants of iota. -/
def iotaRc : List W64 :=
  [0x0000000000000001, 0x0000000000008082, 0x800000000000808A, 0x8000000080008000, 0x000000000000808B,
   0x0000000080000001, 0x8000000080008081, 0x8000000000008009, 0x000000000000008A, 0x0000000000000088,
   0x0000000080008009, 0x000000008000000A] ++
  [0x000000008000808B, 0x800000000000008B, 0x8000000000008089, 0x8000000000008003, 0x8000000000008002,
   0x8000000000000080, 0x000000000000800A, 0x800000008000000A, 0x8000000080008081, 0x8000000000008080,
   0x0000000080000001, 0x8000000080008008]

/-- A lane of a state of 25. -/
def lane (a : List W64) (x y : Nat) : W64 := a.getD (x % 5 + 5 * (y % 5)) 0

/-- One round of Keccak-f[1600]. -/
def keccakRound (a : List W64) (rc : W64) : List W64 :=
  let c := (List.range 5).map (fun x => lane a x 0 ^^^ lane a x 1 ^^^ lane a x 2 ^^^ lane a x 3 ^^^ lane a x 4)
  let d := (List.range 5).map (fun x => c.getD ((x + 4) % 5) 0 ^^^ (c.getD ((x + 1) % 5) 0).rotateLeft 1)
  let t := (List.range 25).map (fun i => (a.getD i 0 ^^^ d.getD (i % 5) 0).rotateLeft (rhoOff.getD i 0))
  -- pi: the lane at (x, y) comes from (x + 3y, x)
  let b := (List.range 25).map (fun i => lane t (i % 5 + 3 * (i / 5)) (i % 5))
  let e := (List.range 25).map (fun i =>
    let x := i % 5; let y := i / 5
    lane b x y ^^^ (~~~ (lane b (x + 1) y) &&& lane b (x + 2) y))
  e.set 0 (e.getD 0 0 ^^^ rc)

def keccakF (a : List W64) : List W64 := iotaRc.foldl keccakRound a

/-- Absorb one 136-byte block. -/
def absorb (a : List W64) (blk : List Byte) : List W64 :=
  keccakF ((List.range 25).map (fun i =>
    a.getD i 0 ^^^ (if i < 17 then BitVec.ofNat 64 (leNat ((blk.drop (8 * i)).take 8)) else 0)))

/-- Padding 0x06 … 0x80 of SHA3 to a multiple of 136 bytes. -/
def sha3Pad (bs : List Byte) : List Byte :=
  let k := 136 - bs.length % 136
  bs ++ (if k = 1 then [0x86#8] else (0x06#8 :: List.replicate (k - 2) 0#8) ++ [0x80#8])

/-- SHA3-256. -/
def sha3 (bs : List Byte) : List Byte :=
  let p := sha3Pad bs
  let a := (chunksOf 136 (p.length / 136) p).foldl absorb (List.replicate 25 0)
  (a.take 4).flatMap (fun w => natLE 8 w.toNat)

end Sys2Proof.Machine
end

