-- ==== Sys2Proof/Machine/ClockState.lean ====
section
/-! DEFINITION. Clock domains, frequency changes and fabric time (R368 to R393); power, throttling and thermal control
(R394 to R435). -/

namespace Sys2Proof.Machine

/-- R392 CLK_PLL: the state of a PLL. -/
inductive PllSt where | off | locking | locked | failed
deriving DecidableEq, Repr

/-- R374: a pending frequency change. -/
structure FreqChange where
  step : Nat
  seq : W16
  job : W32
  tf : W64
  /-- Tf is taken on the local count (R387). -/
  isLocal : Bool
  /-- The new supply voltage has been commanded (step 3). -/
  supplied : Bool
deriving DecidableEq, Repr

/-- R382: fabric time states. -/
inductive FtState where | unset | acquiring | locked | holdover | grandmaster
deriving DecidableEq, Repr

/-- What a port last learnt of its peer's time (R381, R382), by fibre letter: offset and delay. -/
structure PortTime where
  state : FtState
  hops : Nat
  a : Option (Int × Int)
  b : Option (Int × Int)
  /-- t1 of the exchange in progress, by fibre letter. -/
  t1A : Option W64
  t1B : Option W64
deriving DecidableEq, Repr

def PortTime.reset : PortTime := ⟨.unset, 0, none, none, none, none⟩

structure Clk where
  ft : W64
  ftLocal : W64
  ftState : FtState
  hops : Nat
  taiEpoch : W64
  wrapEpoch : W16
  offset : BitVec 32
  upstream : Option (BitVec 4)
  /-- Exchanges in a row within 25 ps, and beyond 35 ps (R382). -/
  inRow : Nat
  outRow : Nat
  asym : RF 4 W32
  ppsEn : Bool
  /-- FT_WRAP_TEST accepted: N (R390). -/
  wrapTest : Option Nat
  ports : RF 4 PortTime
  /-- TB rate trim, in units of 2^-32 (R379). -/
  trim : Int
  /-- Servo correction of the rate of fabric time, in units of 2^-32, and the fraction of a unit it has come to. -/
  servo : Int
  frac : Nat
  /-- Reference and bias trims of the PLLs (R378). -/
  pllTrims : SMap Int
  jobStep : Nat
  stepLimit : Nat
  pending : Option FreqChange
  changing : Bool
  /-- The step the generators move to (R374 steps 4 and 5). -/
  toStep : Nat
  freqChanges : W32
  lateChanges : W32
  marginWarn : W32
  marginAlarm : W32
  /-- Warnings counted in the present 1 ms, and MARGIN_WARN, MARGIN_ALARM per stack. -/
  warnMs : RF 2 (Option W64)
  warn : RF 2 Bool
  alarm : RF 2 Bool
  /-- R377: since when an alarm lengthens cycles, and the spans of the alarms that ended in the last 10 ms. -/
  alarmAt : RF 2 W64
  alarmPast : RF 2 (List (W64 × W64))
  plls : SMap PllSt
  en : Bool
  cfgIgnored : Bool
  /-- VDD_SRC set points in mV (R604). -/
  vddSrc : RF 2 Nat
  /-- The model's own: how far each Serac clock is into its cycle, in 1/68,000 of 1 µs, and the matrix issue slot of the cycle, modulo
  64 (R397). -/
  scPhase : RF 2 Nat
  scSlot : RF 2 (BitVec 6)
deriving DecidableEq, Repr

/-- R407: what the governor holds of one phase: mW per stack, and the order of last use. -/
structure GovEnt where
  key : W32
  p : RF 2 Nat
  used : Nat
deriving DecidableEq, Repr

/-- R422: what the leader holds of one member. -/
structure MemberRep where
  kMean : Nat
  lowRun : Nat
  stepLimit : Nat
  target : Nat
  flags : Byte
  /-- Consecutive reports with K_MEAN of 62 or more, and the time of the last report. -/
  good : Nat
  at' : W64
deriving DecidableEq, Repr

/-- R428 to R430, R401: the slope action in force. -/
inductive Slope where | off | slow | fast
deriving DecidableEq, Repr

/-- One stack's limiter and thermal state. -/
structure StackPow where
  k : Nat
  budget : Nat
  /-- Times of 100 µs since a budget came (R404). -/
  lastPool : Nat
  power : Nat
  l : Nat
  g : Nat
  slope : Slope
  slopeVal : Int
  /-- Trusted-sensor marks: suspect Serac, Firn, Floe sensors. -/
  suspSerac : NSet
  suspFirn : NSet
  suspFloe : NSet
  suspLb : NSet
  firnSuspect : Bool
  halfClamp : Bool
  /-- Last samples of the Floe regions, newest first, 11 of 16 readings (R413). -/
  floeHist : List (List Int)
  /-- Governing values in 1/16 °C: Serac, Firn, Floe, LB case; inferred and leakage maxima. -/
  tSerac : Int
  tFirn : Int
  tFloe : Int
  tLb : Int
  tInf : Int
  tLeak : Int
  slopeLimit : Nat
  cfgIgnored : Bool
  /-- The budget that N3 has sent and the stack has yet to receive, in mW, with the pool that it shares. -/
  sent : Option (Nat × Nat)
  /-- R410: the last 10 µs sampling of the stack's sensors. -/
  last : Samples
  /-- R407, R422: sum of k over the steps of the loop, and their number; both as they were at the last limit report. -/
  kSum : Nat
  kSteps : Nat
  kSumRep : Nat
  kStepsRep : Nat
deriving DecidableEq, Repr

/-- R404: what a Floe tile has last returned to N3, and its temperatures as N3 has last shown them (R433). -/
structure Told where
  power : Nat
  k : Nat
  l : Nat
  g : Nat
  /-- The stack rule acts, Firn sensors are suspect, L is clamped to 50%. -/
  flags : List Bool
  temps : List Byte
deriving DecidableEq, Repr

def Told.reset : Told := ⟨0, 64, 100, 100, [false, false, false], List.replicate 10 0⟩

/-- R410: sensors that have not been sampled. -/
def noSamples : Samples := ⟨[], [], [], [], [], [], []⟩

structure Power where
  stks : RF 2 StackPow
  /-- R404, R433: what N3 holds of each stack, and of H. -/
  told : RF 2 Told
  hTold : SMap Nat
  /-- H of each HBM stack, % (100 unlisted is stored as the default). -/
  h : SMap Nat
  cap : Nat
  /-- A value of PWR_CAP_REG that waits for the next scheduler cycle start (R9). -/
  capReg : Option Nat
  brkK : Nat
  brkCap : Nat
  brk : Bool
  targetStep : Nat
  pwrNow : Nat
  pool : Nat
  govEnable : Bool
  gov : List GovEnt
  govClock : Nat
  fallback : Bool
  trip : Bool
  capUnreach : Bool
  throttleEvents : W32
  lowerings : W32
  fallbackEvents : W32
  en : Bool
  cfgIgnored : Bool
  /-- The frequency job for which this device, as leader, has made its first announcement (R424), and its LOW_RUN (R423). -/
  ledJob : Option W32
  lowRun : Nat
  reports : SMap (Option MemberRep)
  freqSeq : W16
  /-- Tf of the last change announced as leader, while it is pending. -/
  announced : Option (W64 × Nat)
  acks : SMap Nat
  /-- BUDGET packets of this device to itself, oldest first (R373). -/
  own : List (List Byte)
deriving DecidableEq, Repr

def StackPow.reset : StackPow :=
  { k := 64, budget := 0, lastPool := 0, power := 0, l := 100, g := 100, slope := .off, slopeVal := 0, suspSerac := [],
    suspFirn := [], suspFloe := [], suspLb := [], firnSuspect := false, halfClamp := false, floeHist := [], tSerac := 0,
    tFirn := 0, tFloe := 0, tLb := 0, tInf := 0, tLeak := 0, slopeLimit := 12, cfgIgnored := false, sent := none, last := noSamples
    kSum := 0, kSteps := 0, kSumRep := 0, kStepsRep := 0 }

def Clk.reset : Clk :=
  { ft := 0, ftLocal := 0, ftState := .unset, hops := 0, taiEpoch := 0, wrapEpoch := 0, offset := 0,
    upstream := none, inRow := 0, outRow := 0, asym := RF.all 4 0, ppsEn := false, wrapTest := none,
    ports := RF.all 4 PortTime.reset, trim := 0, servo := 0, frac := 0, pllTrims := [], jobStep := 24, stepLimit := 36, pending := none,
    changing := false, toStep := 24, freqChanges := 0, lateChanges := 0, marginWarn := 0, marginAlarm := 0,
    warnMs := RF.all 2 none, warn := RF.all 2 false, alarm := RF.all 2 false
    alarmAt := RF.all 2 0, alarmPast := RF.all 2 [], plls := [], en := false,
    cfgIgnored := false, vddSrc := RF.all 2 750, scPhase := RF.all 2 0, scSlot := RF.all 2 0 }

def Power.reset : Power :=
  { stks := RF.all 2 StackPow.reset, told := RF.all 2 Told.reset, hTold := [], h := [], cap := 2200, capReg := none, brkK := 16, brkCap := 1200,
    brk := false, targetStep := 24, pwrNow := 0, pool := 0, govEnable := true,
    gov := [], govClock := 0, fallback := false, trip := false, capUnreach := false,
    throttleEvents := 0, lowerings := 0, fallbackEvents := 0, en := false, cfgIgnored := false,
    ledJob := none, lowRun := 0, reports := [], freqSeq := 0, announced := none, acks := [], own := [] }

end Sys2Proof.Machine
end

