-- ==== Sys2Proof/Machine/DictState.lean ====
section
/-! DEFINITION. The object dictionary's server state and the BAR0 register blocks (R478 to R511). -/

namespace Sys2Proof.Machine

/-- A segmented write in progress (R489): entry key `idx * 256 + sub`, who writes, total length, bytes, last time. -/
structure DictSession where
  key : Nat
  path : Nat
  total : Nat
  data : List Byte
  at' : W64
deriving DecidableEq, Repr

/-- R494: a reply kept for a repeated MGMT request. -/
structure KeptReply where
  src : BitVec 6
  tag : W16
  reply : List Byte
  at' : W64
deriving DecidableEq, Repr

/-- R494: a fabric dictionary request of this device that has no reply yet. -/
structure MgmtReq where
  tag : W16
  dst : BitVec 6
  body : List Byte
  sentAt : W64
  resends : Nat
deriving DecidableEq, Repr

/-- A dictionary request held while N5 is down (R474): path, requester class and bytes. -/
structure HeldDict where
  path : Nat
  cls : Nat
  body : List Byte
deriving DecidableEq, Repr

/-- A register block of BAR0 (R499, R506, R507). -/
structure RegBlock where
  lock : Bool
  ignored : W32
  votes : W32
  /-- Local time of the last record of a correction (R507). -/
  voteAt : Option W64
deriving DecidableEq, Repr

structure Dict where
  /-- Staged values by key. -/
  staged : SMap (Option (List Byte))
  /-- Staged values of entries that name the next THAW, as fixed at the proceed point (R575). -/
  fixed : SMap (Option (List Byte))
  sessions : List DictSession
  /-- The dictionary's own value of each entry that has been written, as last applied (R9), by key. -/
  vals : SMap (Option (List Byte))
  gen : W32
  /-- Generation of each DOMAIN entry, by key. -/
  domGen : SMap Nat
  /-- The value of each DOMAIN entry when its generation was last looked at (log entry 45). -/
  domSeen : SMap (Option (List Byte))
  lock : Bool
  heldReqs : List HeldDict
  kept : List KeptReply
  mgmtOut : List MgmtReq
  mgmtTag : W16
deriving DecidableEq, Repr

structure Regs where
  blocks : SMap RegBlock
  /-- LO halves of 64-bit registers as last written, held until the HI write, and HI halves latched by a LO read, by the BAR0
  offset of the LO register. -/
  loHeld : SMap W32
  hiLatch : SMap (Option W32)
  /-- R506: the reserved bits that plain writes have changed, as they now read, by BAR0 offset. -/
  test : SMap W32
deriving DecidableEq, Repr

def RegBlock.reset : RegBlock := ⟨false, 0, 0, none⟩
def Dict.reset : Dict := ⟨[], [], [], [], 0, [], [], false, [], [], [], 0⟩
def Regs.reset : Regs := ⟨[], [], [], []⟩

end Sys2Proof.Machine
end

