-- ==== Sys2Proof/Machine/ErrState.lean ====
section
/-! DEFINITION. Error records, the check-value units and the Moraine (R512 to R554, R622). -/

namespace Sys2Proof.Machine

/-- R512: the class of an error, in rising order. -/
inductive ErrCls where | ce | de | uc | fe
deriving DecidableEq, Repr

def ErrCls.code : ErrCls → Nat
  | .ce => 0 | .de => 1 | .uc => 2 | .fe => 3

/-- R515: an error record; its CRC and reserved bytes are computed when it is read. -/
structure ErrRec where
  ftime : W64
  seq : W32
  cls : ErrCls
  overlap : Bool
  injected : Bool
  escalated : Bool
  duringFe : Bool
  overIdx : Byte
  unit : W16
  cause : W16
  state : Byte
  progTag : W32
  addr : W64
  detail : W64
  repeats : W32
  optime : W32
  cycles : W32
deriving DecidableEq, Repr

/-- R518: a slot of the bank that is not EMPTY: NEW, or ACKED. -/
structure ErrSlot where
  acked : Bool
  r : ErrRec
deriving DecidableEq, Repr

/-- R529: an armed injection, and the checks it still acts on. -/
structure Inject where
  unit : W16
  cause : W16
  left : Nat
  addr : W64
deriving DecidableEq, Repr

/-- A UC raise of the last 1 ms (R523, R529). -/
structure UcRaise where
  unit : W16
  at' : W64
  injected : Bool
deriving DecidableEq, Repr

structure Errs where
  /-- The bank of 64 slots; an unlisted slot is EMPTY. -/
  slots : SMap (Option ErrSlot)
  nextSeq : W32
  lost : W32
  counts : RF 2 W32
  /-- The last value written to ERR_ACK (R552). -/
  ackVal : W32
  injEn : Bool
  /-- ERR_INJECT as written, and the injection armed. -/
  injReg : List Byte
  inj : Option Inject
  injected : W32
  prodLock : Bool
  /-- Slot of the newest record; 0xFF if none. -/
  last : Byte
  fatal : Bool
  /-- An FE record is written and ICEBOUND entry has yet to run; FE handling is in progress (R524). -/
  entryDue : Bool
  handling : Bool
  recent : List UcRaise
  /-- CVU_MISMATCHES and CVU_SCANS, and FW_ONLY of each Floe tile (R550, R554). -/
  mismatches : W32
  scans : W64
  fwOnly : RF 2 (BitVec 4)
  en : Bool
deriving DecidableEq, Repr

/-- A load of a check-value unit in flight: its number and length, and its answer: status, data, and the bytes before
the first poisoned sector. -/
structure CvuLoad where
  num : Nat
  len : Nat
  res : Option (Byte × List Byte × Nat)
deriving DecidableEq, Repr

structure Cvu where
  en : Bool
  /-- CVU_CTRL without EN, as stored. -/
  aliveFirst : Bool
  autoInc : Bool
  mode : BitVec 2
  algo : BitVec 2
  result : Byte
  start : W64
  len : W64
  stride : W32
  block : W32
  run : W64
  expect : W64
  value : W16
  last : W16
  pos : W64
  raddr : W64
  cfgIgnored : Bool
  /-- POS up to which loads have been issued, the loads in flight, oldest first, and the number of the next one. -/
  asked : Nat
  flight : List CvuLoad
  nextLoad : Nat
  /-- EN was written 0 and the loads in flight drain (R537). -/
  stopping : Bool
  /-- The scan has ended and its result store runs (R539). -/
  storing : Bool
deriving DecidableEq, Repr

/-- R541: an extreme. -/
structure Extreme where
  min : Int
  max : Int
  minOp : W32
  maxOp : W32
  minCyc : W32
  maxCyc : W32
deriving DecidableEq, Repr

/-- R541: an extreme with no sample. -/
def Extreme.none : Extreme := ⟨0x7FFFFFFF, -0x80000000, 0, 0, 0, 0⟩

/-- R540 to R542: what the Moraine records. -/
structure MorData where
  /-- Counts, keyed histogram * 32 + bin. -/
  hist : SMap W32
  /-- HGEN 0 to 48. -/
  gens : SMap W32
  ext : SMap Extreme
deriving DecidableEq, Repr

/-- R545: a snapshot. -/
structure Snap where
  seq : Nat
  d : MorData
  cycles : W32
  optime : W32
deriving DecidableEq, Repr

/-- R547: a copy of the last-fatal area. -/
structure LastFatal where
  seq : W32
  cycles : W32
  optime : W32
  recs : SMap (Option ErrRec)
deriving DecidableEq, Repr

structure Moraine where
  d : MorData
  /-- Local time of the freeze in force, and what was recorded since (R543). -/
  frozen : Option W64
  shadow : MorData
  cycles : W32
  optime : W32
  /-- Units of operating time towards the next 1/1024 h. -/
  optSub : Nat
  /-- A snapshot is due, and the one that is being written. -/
  snapDue : Bool
  writing : Option Snap
  /-- Snapshot writes that have failed in a row (R548). -/
  failRun : Nat
  /-- MOR_STORE_STATE: 0 ABSENT, 1 GOOD, 2 FAILED. -/
  store : Nat
  snapshots : W32
  /-- The newest valid snapshot in the ring, and the slot that the next one takes. -/
  stored : Option Snap
  nextSlot : Nat
  lfNew : Option LastFatal
  lfOld : Option LastFatal
  en : Bool
deriving DecidableEq, Repr

def Errs.reset : Errs :=
  { slots := [], nextSeq := 0, lost := 0, counts := RF.all 2 0, ackVal := 0, injEn := false, injReg := [], inj := none,
    injected := 0, prodLock := false, last := 0xFF, fatal := false, entryDue := false, handling := false, recent := [],
    mismatches := 0, scans := 0, fwOnly := RF.all 2 0,
    en := false }
def Cvu.reset : Cvu :=
  { en := false, aliveFirst := false, autoInc := false, mode := 0, algo := 0, result := 0xFF, start := 0, len := 0,
    stride := 0, block := 0, run := 0, expect := 0, value := 0, last := 0, pos := 0, raddr := 0, cfgIgnored := false,
    asked := 0, flight := [], nextLoad := 0, stopping := false, storing := false }
def MorData.reset : MorData := ⟨[], [], []⟩
def Moraine.reset : Moraine :=
  { d := MorData.reset, frozen := none, shadow := MorData.reset, cycles := 0, optime := 0, optSub := 0, snapDue := false,
    writing := none, failRun := 0, store := 1, snapshots := 0, stored := none, nextSlot := 0, lfNew := none,
    lfOld := none, en := false }

end Sys2Proof.Machine
end

