-- ==== Sys2Proof/Machine/FloeState.lean ====
section
/-! DEFINITION. The photonics of the Floe tiles (R243 to R288). -/

namespace Sys2Proof.Machine

/-- R287 PHO_EMIT: the state of an emitter. -/
inductive EmitSt where | active | spare | spareHot | failed | off
deriving DecidableEq, Repr

/-- R252: the fade states, in rising order. -/
inductive Fade where | none | advise | swap | urgent
deriving DecidableEq, Repr

structure Emitter where
  st : EmitSt
  fade : Fade
  /-- Bias in 0.1% of the fused maximum, slope in %, margin in 0.1 dB (0xFF: no lit channel). -/
  bias : Nat
  slope : Nat
  margin : Nat
  /-- R593: its bias target, in 0.1%. -/
  target : Nat
  /-- Its bias and slope efficiency have been sampled (R251). -/
  known : Bool
deriving DecidableEq, Repr

/-- One channel position. Keys: port * 32 + letter * 16 + n for a port; 512 + direction * 256 + waveguide * 16 + n on
the package, directions in the order (0,1), (1,0), (0,2), (2,0), (0,3), (3,0), (1,2), (2,1), (1,3), (3,1), (2,3), (3,2). -/
structure Chan where
  /-- Accepted by calibration or training. -/
  ok : Bool
  /-- ACTIVE bit: out while a slot runs or a fault holds it out. -/
  active : Bool
  /-- Which emitter of the pair the selector ring picks (R250). -/
  selB : Bool
  /-- Receive margin in 0.1 dB. -/
  margin : Int
  /-- A value outside tolerance that the next slot recalibrates (R272). -/
  retry : Bool
deriving DecidableEq, Repr

/-- R287 PHO_PORT: the state of a port. -/
inductive PortSt where | down | training | up | miswired | crossed | disabled
deriving DecidableEq, Repr

/-- One fibre pair of a port. -/
structure Fibre where
  /-- Launch gate closed. -/
  gate : Bool
  /-- The gate has been ordered to close and has not yet closed (R267). -/
  closing : Bool
  /-- Light lost, and the fibre declared down. -/
  lost : Bool
  los : Bool
  /-- Probing at probe level, and HEARD received (R269). -/
  probing : Bool
  heard : Bool
  /-- What the IDENT that it received shows of the wiring of its port: TRAINING where it is right (R265). -/
  ident : Option PortSt
deriving DecidableEq, Repr

structure Port where
  st : PortSt
  a : Fibre
  b : Fibre
  peerDev : BitVec 6
  peerPort : BitVec 4
  peerDom : Byte
  /-- Step 2 of training passed (R264). -/
  wired : Bool
deriving DecidableEq, Repr

structure Slot where
  kind : SlotKind
  chan : Nat
  start : W64
deriving DecidableEq, Repr

/-- R271: a slot owner: its next position, running slots and swap slots to come. -/
structure Owner where
  next : Nat
  running : List Slot
  swaps : List Nat
  /-- The kind of the slot whose notice has been sent (R272). -/
  noticed : Option SlotKind
deriving DecidableEq, Repr

/-- R280, R287: where a steer request came from; one of the register's after which another has come is an older one. -/
inductive SteerSrc where | dictionary | register | registerOld | collective (cu : Nat)
deriving DecidableEq, Repr

/-- R281: a pending steer: its assignment, its time, and the answers held per port. -/
structure Steer where
  set : RF 5 Byte
  time : W64
  gen : W32
  src : SteerSrc
  /-- The number of the set that its request named; 0 for set 0 and for moves of the device itself. -/
  num : BitVec 3
  /-- Ports proposed to, and their answers (true: ACCEPT). -/
  asked : NSet
  answers : SMap (Option Bool)
  /-- What will hold after T, once decided at T - 20 µs. -/
  decided : Option (RF 5 Byte)
  outcome : SMap Nat
  /-- Fibre-loss moves of R268 carry no request result. -/
  internal : Bool
  /-- Ports that went DOWN after the agreement (R285). -/
  fallen : NSet
deriving DecidableEq, Repr

/-- R281: a proposal of a peer that this device accepted: it acts on it at T. -/
structure Bound where
  port : BitVec 4
  gen : W32
  time : W64
  groups : List (BitVec 5 × Byte)
deriving DecidableEq, Repr

/-- R260: the receive side of a port's stream. -/
structure RxStream where
  expect : BitVec 24
  synced : Bool
  held : List (BitVec 24 × List StreamItem)
deriving DecidableEq, Repr

/-- R260: the send side of a stream: the flits of the frame being filled, and when each lane is free (in `frameUnit`s). -/
structure TxFrames where
  fill : Nat
  laneAt : SMap Nat
deriving DecidableEq, Repr

/-- R275: the counts of one tile pair. -/
structure Roles where
  mem : Nat
  firn : Nat
  fab : Nat
  ctl : Nat
deriving DecidableEq, Repr

structure Floe where
  emitters : SMap Emitter
  /-- PHO_EMITTERS as last published, by emitter (R286). -/
  emitPub : SMap W32
  retiredWl : W64
  chans : SMap Chan
  ports : RF 4 Port
  /-- Assignment in force, sets 0 to 7, and the last complete agreement. -/
  inForce : RF 5 Byte
  sets : RF 3 (RF 5 Byte)
  steers : List Steer
  steerGen : W32
  steerTime : W64
  steerRes : Byte
  steerPorts : SMap Nat
  /-- PHO_STEER_CMD RESULT and SET, PHO_STEER_T. -/
  cmdResult : Byte
  cmdSet : BitVec 3
  cmdT : W64
  /-- Groups that have retuned and wait to send START (R282). -/
  starting : NSet
  owners : SMap Owner
  svcPeriod : W16
  pause : RF 2 Bool
  /-- PHO_ROLES as written and in force, healthy waveguides per direction, retired waveguides (direction * 16 + index). -/
  roles : List Roles
  rolesInForce : List Roles
  healthy : SMap Nat
  wgRetired : NSet
  /-- R275: the role of each healthy waveguide (direction * 16 + index): 1 CTL, 2 FAB, 3 FIRN, 4 MEM. -/
  wgRole : SMap Nat
  /-- PHO_EYE_REDUCED, and groups that left the fibre 2 p + letter when it went down (R267, R268). -/
  eyeReduced : W32
  lostMoves : List (Nat × Nat × Byte)
  /-- Channels that stay out until their spare emitter is hot (R254). -/
  drained : NSet
  /-- Channels of moving groups that need an immediate slot (R285). -/
  deferred : NSet
  /-- Slots of which the far ends gave notice, by receive channel (R272). -/
  peerSlots : List Slot
  /-- PORT_DISABLE stored per tile and in force. -/
  disable : W16
  en : Bool
  cfgIgnored : RF 2 Bool
  eyeEvents : W32
  swaps : W32
  trackEvents : W32
  /-- Per port: corrected bytes and discarded frames. -/
  fecCorrected : RF 4 W64
  fecDiscarded : RF 4 W64
  intlk : Bool
  rx : RF 4 RxStream
  /-- PHO_PORT_FEC as last published (R286), and corrected bytes by receive channel (R259). -/
  fecPub : RF 4 (W64 × W64)
  chanFec : SMap W64
  /-- Streams of the roles on the package, by direction * 8 + role: receive side, and send side with its next FLIT_SEQ (R260). -/
  rxPkg : SMap RxStream
  txPkg : SMap (BitVec 24 × TxFrames)
  /-- By lane: the ACTIVE bits for its next frame, and the lanes that END has released (R258, R282). -/
  rxActive : SMap (Option W16)
  rxReleased : NSet
  /-- Accepted proposals of peers, and the groups that peers' assignments place on each port (R281). -/
  bound : List Bound
  rxGroups : SMap (List (BitVec 5 × Byte))
  /-- Sequence counters of sent service messages by type, and copies seen lately (R263). -/
  svcSeq : SMap W16
  svcSeen : List (BitVec 6 × Byte × W16 × W64)
deriving DecidableEq, Repr

def Chan.reset : Chan := ⟨true, true, false, 0, false⟩
/-- R287: the reset values of PHO_EMIT: STATE 0, which is ACTIVE, until a calibration run makes one of each pair the spare. -/
def Emitter.reset : Emitter := ⟨.active, .none, 0, 0, 0xFF, 0, false⟩
def Fibre.reset : Fibre := ⟨true, false, false, false, false, false, none⟩
def Port.reset : Port := ⟨.down, Fibre.reset, Fibre.reset, 0, 0, 0, false⟩
def Owner.reset : Owner := ⟨0, [], [], none⟩
def RxStream.reset : RxStream := ⟨0, false, []⟩
def TxFrames.reset : TxFrames := ⟨0, []⟩

/-- R247, R278: the default assignment: G(2p) in fibre A low of port p, G(2p+1) in fibre B high. -/
def defaultSet : RF 5 Byte :=
  Vector.ofFn (fun g : Fin (2 ^ 5) => BitVec.ofNat 8 (0x80 + (g.val % 2) * 0x10 + g.val / 2))

/-- R275, R286: every pair MEM 10, FIRN 3, FAB 2, CTL 1. -/
def Roles.reset : Roles := ⟨10, 3, 2, 1⟩

def Floe.reset : Floe :=
  { emitters := [], emitPub := [], retiredWl := 0, chans := [], ports := RF.all 4 Port.reset, inForce := defaultSet,
    sets := RF.all 3 defaultSet, steers := [], steerGen := 0, steerTime := 0, steerRes := 0, steerPorts := [],
    cmdResult := 0, cmdSet := 0, cmdT := 0, starting := [], owners := [], svcPeriod := 40, pause := RF.all 2 false,
    roles := List.replicate 6 Roles.reset, rolesInForce := List.replicate 6 Roles.reset, healthy := [],
    wgRetired := [], wgRole := [], eyeReduced := 0, lostMoves := [], drained := [], deferred := [], peerSlots := [], disable := 0, en := false, cfgIgnored := RF.all 2 false, eyeEvents := 0, swaps := 0,
    trackEvents := 0, fecCorrected := RF.all 4 0, fecDiscarded := RF.all 4 0, intlk := false,
    rx := RF.all 4 RxStream.reset, fecPub := RF.all 4 (0, 0), chanFec := [], rxPkg := [], txPkg := [], rxActive := [],
    rxReleased := [], bound := [], rxGroups := [], svcSeq := [], svcSeen := [] }

end Sys2Proof.Machine
end

