-- ==== Sys2Proof/Machine/FabState.lean ====
section
/-! DEFINITION. The Onago fabric as one device holds it (R289 to R324). -/

namespace Sys2Proof.Machine

/-- R307: what a sender knows of a port's receiver: occupancies, S, and the flits dealt since (FLIT_SEQ, channel). -/
structure TxCredit where
  o : RF 2 Nat
  s : BitVec 24
  next : BitVec 24
  dealt : List (BitVec 24 × BitVec 2)
deriving DecidableEq, Repr

/-- R305: a packet in a receive or a send queue, with its arrival port (none for an injected one). -/
structure Queued where
  pkt : Packet
  /-- Its next hop. -/
  next : Nat
  port : Option (BitVec 4)
deriving DecidableEq, Repr

/-- One port of the fabric. -/
structure FabPort where
  tx : TxCredit
  /-- Packets that wait to be sent, oldest first. -/
  out : List Queued
  /-- Received packets by channel, C1, C2, D1 and D2 in this order, at the head of each the next one to serve. -/
  inq : RF 2 (List Packet)
  occ : RF 2 Nat
  /-- CREDIT flits received and not yet taken up. -/
  creditIn : List CreditFlit
  /-- Occupancies last reported, and the FLIT_SEQ up to which all was received or skipped. -/
  reported : RF 2 Nat
  s : BitVec 24
  frames : Nat
  /-- Flit slots that have passed while a control packet has waited and held credit (R309). -/
  ctlWait : Nat
  /-- The frames being filled (R260), and how many packets of each receive channel came before the last training (R307). -/
  frm : TxFrames
  before : RF 2 Nat
deriving DecidableEq, Repr

structure Fab where
  shape : Nat
  devid : BitVec 6
  domain : Byte
  seed : RF 2 Byte
  routes : RF 6 W16
  routeGen : W32
  lostPeers : W64
  ports : RF 4 FabPort
  /-- Counter i of port p at 11 p + i (R321). -/
  counters : SMap W64
  /-- FAB_PORT_COUNTERS as last published (R322). -/
  cntPub : SMap W64
  outerPeers : RF 2 Byte
  en : Bool
  cfgIgnored : RF 2 Bool
  /-- Neighbours whose silence is being timed, and those whose ports have gone DOWN under it (R314). -/
  silent : NSet
  silentDown : NSet
  /-- Packets that wait for a port to train or for a silence to be judged (R301). -/
  waiting : List Queued
  /-- R316, R386: the last route update says that this device is LOST. -/
  selfLost : Bool
deriving DecidableEq, Repr

def TxCredit.reset : TxCredit := ⟨RF.all 2 0, 0, 0, []⟩
def FabPort.reset : FabPort :=
  ⟨TxCredit.reset, [], RF.all 2 [], RF.all 2 0, [], RF.all 2 0, 0, 0, 0, TxFrames.reset, RF.all 2 0⟩

def Fab.reset : Fab :=
  { shape := 5, devid := 0, domain := 0, seed := RF.all 2 0,
    routes := RF.all 6 0, routeGen := 0, lostPeers := 0, ports := RF.all 4 FabPort.reset, counters := [], cntPub := [],
    outerPeers := RF.all 2 0xFF, en := false, cfgIgnored := RF.all 2 false, silent := [], silentDown := [],
    waiting := [], selfLost := false }

end Sys2Proof.Machine
end

