-- ==== Sys2Proof/Machine/ProgState.lean ====
section
/-! DEFINITION. Programs and the scheduler (R151 to R185). -/

namespace Sys2Proof.Machine

/-- R161: a segment descriptor. -/
structure Seg where
  v : Bool
  f : Bool
  fc : Bool
  pf : Bool
  at' : Bool
  w : Bool
  rd : Bool
  limit : BitVec 28
  base : BitVec 48
deriving DecidableEq, Repr

def Seg.none : Seg := ⟨false, false, false, false, false, false, false, 0, 0⟩

/-- R184: the state of a program. -/
inductive ProgSt where | queued | loading | running | atBarrier | saving | preempted | ending
deriving DecidableEq, Repr

/-- R154: a placement entry, the tile as its package tile number. -/
structure Place where
  tile : Nat
  code : Nat
  data : Nat
  live : Nat
deriving DecidableEq, Repr

/-- R157: a phase entry. -/
structure PhaseEnt where
  key : W32
  est : W32
  firstBlock : Nat
  notify : Bool
deriving DecidableEq, Repr

/-- R153: a section: type, index, offset, size, CRC, and the position of its entry in the section table. -/
structure Sect where
  type : Nat
  idx : Nat
  off : Nat
  size : Nat
  crc : Nat
  pos : Nat
deriving DecidableEq, Repr

/-- R159: what an image asks of a segment. -/
structure SegReq where
  minUnits : Nat
  /-- Bits of R159 RIGHTS and FLAGS. -/
  rights : Nat
  used : Bool
  loc : Bool
deriving DecidableEq, Repr

/-- R160: a relocation. -/
structure Reloc where
  place : Nat
  kind : Nat
  arg : Nat
  addr : Nat
deriving DecidableEq, Repr

/-- R152: what the checked image header and tables say. -/
structure ImageInfo where
  span : Bool
  priv : Bool
  preemptible : Bool
  size : Nat
  mapKind : Nat
  mapDigest : Nat
  sects : List Sect
  segReqs : List SegReq
  relocs : List Reloc
  /-- LIVE sections: index, and ranges as address and length (R156). -/
  lives : List (Nat × List (Nat × Nat))
  raDepth : Nat
  blockTable : Nat
  blockCount : Nat
  stageBytes : Nat
  codeBytes : Nat
  ctxSize : Nat
  place : List Place
  phases : List PhaseEnt
deriving DecidableEq, Repr

/-- How a program ends: status and DETAIL (R164). -/
structure EndCode where
  status : Byte
  detail : W32
deriving DecidableEq, Repr

/-- One accepted program that has not completed. -/
structure Prog where
  tag : W32
  prio : Nat
  /-- Scheduler cycles per quantum, and those left. -/
  quantum : Nat
  quantumLeft : Nat
  notifyTrap : Bool
  imageAddr : Nat
  ctxAddr : Nat
  startFtime : W64
  jobMembers : W64
  jobId : W32
  ctxUnits : Nat
  segs : RF 4 Seg
  img : ImageInfo
  st : ProgSt
  slot : Option Nat
  /-- Time of acceptance or of the last preemption, for the waiting order (R174). -/
  since : W64
  /-- PREEMPT_EN when the program started (R185). -/
  preemptOk : Bool
  /-- Reserved its resources for START_FTIME (R174). -/
  reserved : Bool
  phase : Nat
  /-- Last phase that ended on every tile. -/
  phaseDone : Nat
  /-- R407: when its phase began, the limiter's sums of each stack then, and the last DONE on each stack. -/
  phaseAt : W64
  phaseK : RF 2 (Nat × Nat)
  doneAt : RF 2 W64
  /-- Slices reported during a preemption: package tile to slice number (R82). -/
  reports : SMap (Option Nat)
  preempting : Bool
  sliceT : Option Nat
  attempts : Nat
  /-- The program record marks a barrier (R180). -/
  atBarrierSaved : Bool
  /-- The governor has not yet set the next phase's budgets (R179). -/
  govHold : Bool
  /-- Held at the next barrier for DRIFT (R451). -/
  driftHold : Bool
  /-- Tiles that had executed HALT when the program was preempted (R176). -/
  haltedTiles : NSet
  /-- Loading for a resume, not for a start (R178). -/
  resuming : Bool
  /-- Run-ahead depth in force for the run, per stack (R87). -/
  raDepths : RF 2 Nat
  /-- Scratch slices whose bytes lie in the context area (R176). -/
  savedScratch : NSet
  preemptions : W32
  startTime : W64
  endTime : W64
  trapSent : Bool
  scratch : NSet
  privCh : Option (BitVec 2)
  ending : Option EndCode
  /-- The effects of R74 have been made. -/
  cleared : Bool
deriving DecidableEq, Repr

structure Sched where
  progs : List Prog
  /-- Slots whose Firn walk has not ended (R200). -/
  walkSlots : NSet
  cycle : Nat
  /-- SCHED_CTRL (R184). -/
  en : Bool
  preemptEn : Bool
  sliceTimeout : Nat
  cfgIgnored : Bool
  preemptions : W32
  sliceAbandons : W32
  trapsDropped : W32
deriving DecidableEq, Repr

/-- R183, R184: SCHED_PREEMPT_ENABLE 1, SCHED_SLICE_TIMEOUT 1,000 µs. -/
def Sched.reset : Sched :=
  { progs := [], walkSlots := [], cycle := 0, en := false, preemptEn := true, sliceTimeout := 1000,
    cfgIgnored := false, preemptions := 0, sliceAbandons := 0, trapsDropped := 0 }

end Sys2Proof.Machine
end

