-- ==== Sys2Proof/Machine/FirmState.lean ====
section
/-! DEFINITION. The Nunatak cores, the firmware load, the mailbox, DRIFT, the log, the scheduler lease and the domain
manager (R436 to R477). -/

namespace Sys2Proof.Machine

/-- R476 FW_CORE: the state of a Nunatak core. -/
inductive CoreSt where | off | boot | running | restarting | failed
deriving DecidableEq, Repr

def CoreSt.code : CoreSt → Nat
  | .off => 0 | .boot => 1 | .running => 2 | .restarting => 3 | .failed => 4

structure Core where
  st : CoreSt
  restarts : W32
  /-- 0 none, 1 watchdog, 2 uncorrectable SRAM error, 3 exception. -/
  lastCause : Byte
  /-- Local time of the previous failure. -/
  lastFail : Option W64
deriving DecidableEq, Repr

/-- R439: a submitted chunk that N4 has yet to take: buffer, whether it is the last, and its bytes. -/
structure Chunk where
  buf : Bool
  last : Bool
  bytes : List Byte
deriving DecidableEq, Repr

/-- R442 LOAD_STATUS.STATE. -/
inductive LoadSt where | notReady | waiting | loading | done
deriving DecidableEq, Repr

def LoadSt.code : LoadSt → Nat
  | .notReady => 0 | .waiting => 1 | .loading => 2 | .done => 3

structure Load where
  st : LoadSt
  /-- Last refusal: 0 none, 1 FORMAT, 2 SECTION, 3 SIZE, 4 SIGNATURE, 5 KEY_REVOKED, 6 ROLLBACK, 7 CHUNK_TIMEOUT. -/
  cause : Byte
  /-- Chunks not yet taken, oldest first; a buffer is busy while it is named here. -/
  queue : List Chunk
  /-- The bytes taken so far, and whether the last chunk has been taken. -/
  image : List Byte
  lastTaken : Bool
  /-- Local time of the last GO write. -/
  chunkAt : W64
  /-- LOAD_CTRL as last written, GO reading 0. -/
  ctrl : W32
  /-- What the load buffers were last given (R442). -/
  bufs : SMap (List Byte)
deriving DecidableEq, Repr

/-- A device-to-host message as N0 creates it (R444, R448): its type, its payload from byte 16, MORE, and for a
COMPLETE the JOB_ID and priority that an INVENTORY reports (R452). -/
structure D2hMsg where
  type : Nat
  payload : List Byte
  more : Bool
  job : W32
  prio : Nat
deriving DecidableEq, Repr

/-- R442 to R452: the mailbox and DRIFT. -/
structure Mbx where
  h2dHead : W32
  h2dTail : W32
  d2hHead : W32
  d2hTail : W32
  /-- Host-to-device slots as the host wrote them and device-to-host slots as N0 wrote them, by slot index. -/
  h2d : SMap (List Byte)
  d2h : SMap (List Byte)
  /-- Messages created and not yet written, and messages written and not yet consumed, each oldest first. -/
  out : List D2hMsg
  sent : List D2hMsg
  /-- Host-to-device messages that N0 has taken and that passed R445, oldest first. -/
  taken : List (List Byte)
  /-- R164: the fabric time at which N0 read each of them, absent while UNSET; and that of the message last acted on. -/
  readFt : List (Option W64)
  msgFt : Option W64
  /-- N0's count of messages (R444 SEQ). -/
  seq : W32
  attached : Bool
  /-- Local time of the newest host-to-device message that passed R445. -/
  lastMsg : W64
  /-- A heartbeat timeout that acts at the next scheduler cycle start (R449). -/
  driftDue : Bool
  /-- Local and fabric time of the DRIFT entry. -/
  driftSince : W64
  driftFt : W64
  /-- HOST_DRIFT_PERIOD in s (R474). -/
  driftPeriod : Nat
  driftExpired : Bool
  driftEntries : W32
  /-- Barriers and the fence that an attach lifts at the next scheduler cycle start (R452 step 6). -/
  releaseDue : Bool
  eventsDropped : W32
  /-- R448: local time of the last vector 0, and one that waits for the end of the 1 µs after it. -/
  irqAt : Option W64
  irqDue : Bool
deriving DecidableEq, Repr

/-- R454: a log entry. -/
structure LogEnt where
  ftime : W64
  seq : W32
  bootUs : W32
  core : Nat
  sev : Nat
  point : Nat
  /-- Bytes 20 to 63. -/
  payload : List Byte
deriving DecidableEq, Repr

structure Log where
  /-- Entries newest first, at most 16,384. -/
  ents : List LogEnt
  nextSeq : W32
  /-- LOG_MIN_SEV as stored: 6 and 7 act as 5 (R476). -/
  minSev : Nat
  /-- LOG_TRACE_ENABLE, bit n for point n. -/
  trace : Nat
  lost : W32
  suppressed : W32
  /-- Entries buffered by the cores while N5 is down, oldest first (R455). -/
  held : List LogEnt
deriving DecidableEq, Repr

/-- R475 SCHED_STANDBY_HEALTH and DM_STANDBY_HEALTH. -/
inductive Health where | healthy | syncing | faulty | down
deriving DecidableEq, Repr

def Health.code : Health → Nat
  | .healthy => 0 | .syncing => 1 | .faulty => 2 | .down => 3

/-- R458 to R463: the scheduler pair on N0 and N1. -/
structure Lease where
  gen : W32
  /-- False: N0 is the primary. -/
  primaryN1 : Bool
  /-- The primary issues no commands: stopped at its margin, refused, or handed over. -/
  stopped : Bool
  /-- Local time of the last renewal. -/
  renewed : W64
  health : Health
  /-- Local time of the standby's restart, for the 1 ms of SYNCING (R461). -/
  syncSince : W64
  /-- Consecutive and counted replay mismatches. -/
  run : Nat
  mismatches : W32
  /-- A swap asked for, to be made at the next scheduler cycle end. -/
  swapPending : Bool
  /-- A HANDOVER copy is on its way. -/
  handover : Bool
  /-- The standby's last copy: scheduler cycle, and the journal records applied since. -/
  copyCycle : Nat
  journal : List (List Byte)
deriving DecidableEq, Repr

/-- R472: a route update: its generation, activation time and body. -/
structure RouteUpd where
  gen : W32
  act : W64
  body : List Byte
deriving DecidableEq, Repr

/-- R472: an update being received: segments held by index, and how many there are. -/
structure RouteIn where
  gen : W32
  act : W64
  total : Nat
  segs : SMap (List Byte)
deriving DecidableEq, Repr

/-- R475 DM_ROLE. -/
inductive DmRole where | none | holder | standby
deriving DecidableEq, Repr

def DmRole.code : DmRole → Nat
  | .none => 0 | .holder => 1 | .standby => 2

/-- R473: a state copy being received by a standby, or a complete one. -/
structure DmCopy where
  gen : W32
  seq : W32
  total : Nat
  segs : SMap (List Byte)
  /-- Local time of its last segment. -/
  at' : W64
deriving DecidableEq, Repr

/-- A claim of this device (R465, R471): its generation, when it was last sent, and who acknowledged. -/
structure DmClaimSt where
  gen : W32
  sentAt : W64
  acks : NSet
deriving DecidableEq, Repr

structure Dm where
  role : DmRole
  /-- DM_ORDER as written (R475), four bytes. -/
  order : List Byte
  /-- The list in force, from the holder on (R464, R467). -/
  list : List Nat
  holder : Byte
  gen : W32
  /-- DM_STANDBY_HEALTH codes in list order. -/
  health : List Byte
  swapPeriod : Nat
  /-- Fabric time of the last swap, and its local time. -/
  lastSwap : W64
  swapAt : W64
  /-- A swap asked for that waits for a route update to activate. -/
  swapDue : Bool
  mgmtSilent : W64
  /-- Local time of each neighbour's last MGMT_ALIVE. -/
  aliveAt : SMap (Option W64)
  /-- The claim acknowledged last: generation and claimant (R464). -/
  acked : Option (W32 × Nat)
  /-- Newest generation seen, local time of the last renewal heard, and whether a release was heard. -/
  seenGen : W32
  heardAt : Option W64
  released : Bool
  claim : Option DmClaimSt
  /-- The holder's renewal in progress: when it was sent and who acknowledged; its own expiry (local time). -/
  renewSent : W64
  renewAcks : NSet
  expiry : W64
  /-- The standby's newest complete copy, and the one being received. -/
  copy : Option DmCopy
  copyIn : Option DmCopy
  copySeq : W32
  /-- Standby: copies in a row that did not match on replay (R466). -/
  run : Nat
  /-- Holder: the route update in force and the one pending activation with its acknowledgements. -/
  inForce : List Byte
  sending : Option RouteUpd
  acks : NSet
  /-- Member: the update being received. -/
  incoming : Option RouteIn
  /-- PEER_DOWN reports held: lost * 64 + reporter. -/
  reports : NSet
  /-- MEM_WINDOWS as the holder last wrote it to each device (R473). -/
  windows : SMap (List Byte)
deriving DecidableEq, Repr

structure Firm where
  cores : RF 3 Core
  load : Load
  mbx : Mbx
  log : Log
  lease : Lease
  dm : Dm
  release : W32
  msgMajor : Byte
  msgMinor : Byte
  /-- FW_STATUS.CFG_IGNORED and FW_CTRL.EN. -/
  cfgIgnored : Bool
  en : Bool
deriving DecidableEq, Repr

def Core.reset : Core := ⟨.off, 0, 0, none⟩
def Load.reset : Load := ⟨.notReady, 0, [], [], false, 0, 0, []⟩
/-- R442, R474: the mailbox after reset. -/
def Mbx.reset : Mbx :=
  { h2dHead := 0, h2dTail := 0, d2hHead := 0, d2hTail := 0, h2d := [], d2h := [], out := [], sent := [],
    taken := [], readFt := [], msgFt := none, seq := 0, attached := false, lastMsg := 0,
    driftDue := false, driftSince := 0, driftFt := 0, driftPeriod := 600,
    driftExpired := false, driftEntries := 0, releaseDue := false, eventsDropped := 0, irqAt := none
    irqDue := false }
/-- R475, R476: LOG_MIN_SEVERITY is 1 after reset. -/
def Log.reset : Log := ⟨[], 0, 1, 0, 0, 0, []⟩
/-- R475: SCHED_GEN 1, N0 primary, SCHED_STANDBY_HEALTH 1. -/
def Lease.reset : Lease :=
  { gen := 1, primaryN1 := false, stopped := false, renewed := 0, health := .syncing, syncSince := 0, run := 0,
    mismatches := 0, swapPending := false, handover := false, copyCycle := 0, journal := [] }
/-- R475: DM_ORDER all 0xFF, DM_HOLDER 0xFF, DM_SWAP_PERIOD 24. -/
def Dm.reset : Dm :=
  { role := .none, order := [0xFF, 0xFF, 0xFF, 0xFF], list := [], holder := 0xFF, gen := 0, health := [1, 1, 1],
    swapPeriod := 24, lastSwap := 0, swapAt := 0, swapDue := false, mgmtSilent := 0, aliveAt := [], acked := none, seenGen := 0,
    heardAt := none, released := false, claim := none, renewSent := 0, renewAcks := [], expiry := 0, copy := none,
    copyIn := none, copySeq := 0, run := 0, inForce := [], sending := none, acks := [], incoming := none, reports := [],
    windows := [] }
def Firm.reset : Firm :=
  { cores := RF.all 3 Core.reset, load := Load.reset, mbx := Mbx.reset, log := Log.reset, lease := Lease.reset,
    dm := Dm.reset, release := 0, msgMajor := 0, msgMinor := 0, cfgIgnored := false, en := false }

end Sys2Proof.Machine
end

