-- ==== Sys2Proof/Machine/FirnState.lean ====
section
/-! DEFINITION. The Firn dies (R186 to R219) and the HBM stacks (R220 to R242). -/

namespace Sys2Proof.Machine

/-- R189: a valid cache line: its line number, data, dirty and poison bits per 32-byte sector, and owner slot. -/
structure FLine where
  line : Nat
  data : BitVec 2048
  dirty : Byte
  poison : Byte
  owner : Nat
deriving DecidableEq, Repr

/-- R205: an open read merge window of one stack and line address. -/
structure MergeWin where
  stack : Nat
  /-- Global address of the line, divided by 256. -/
  line : Nat
  filled : Bool
  joined : Nat
deriving DecidableEq, Repr

/-- What waits for a fill (R192, R621): a read or a store of a tile, or a run-ahead load. -/
structure FillWait where
  tile : Nat
  opId : Nat
  /-- Whether the waiter is a run-ahead request. -/
  runAhead : Bool
  store : Bool
  /-- Byte in the line, length, and place in the tile SRAM. -/
  off : Nat
  len : Nat
  at' : Nat
  /-- Slot of the storing program, and the data of a store with its poisoned 32-byte sectors of the line. -/
  slot : Nat
  data : List Byte
  poison : NSet
deriving DecidableEq, Repr

/-- How a fill ended: status, data, poisoned sectors of the line, and whether the line may be cached (R191). -/
structure FillRes where
  status : Byte
  data : List Byte
  poison : NSet
  fc : Bool
deriving DecidableEq, Repr

/-- A fill in progress: stack, line, its waiters in arrival order, and its reply once there is one. -/
structure Fill where
  stack : Nat
  line : Nat
  waits : List FillWait
  res : Option FillRes
deriving DecidableEq, Repr

/-- R188: an error in the arrays that no read has met yet: the stack, the line, and the sector of an uncorrectable word, or none for
a single bit. -/
structure Upset where
  stack : Nat
  line : Nat
  sector : Option (BitVec 3)
deriving DecidableEq, Repr

/-- R621: a write-back that waits for room at its engine: its packet, its stack, the FFL that waits for it, and the poisoned sectors
that it carries, by address / 32. -/
structure WbWait where
  pkt : Packet
  stack : Nat
  ffl : Option (Nat × Nat)
  bad : NSet
deriving DecidableEq, Repr

/-- R200: a walk for the slot of a program that has ended; it discards after a status other than COMPLETED. -/
structure Walk where
  slot : Nat
  tag : W32
  discard : Bool
deriving DecidableEq, Repr

/-- R218: the state of a vertical bundle. -/
inductive VbSt where | full | halfLo | halfHi | retired | untrained
deriving DecidableEq, Repr

/-- R208 to R211: a vertical bundle. -/
structure Vb where
  st : VbSt
  /-- The position that each spare S0 to S3 serves. -/
  spares : RF 2 (Option (BitVec 6))
  /-- Failing positions that no spare serves. -/
  failed : NSet
  /-- Beats replayed in the last 1 ms: position and local time, newest first. -/
  replays : List (Nat × W64)
  /-- Remapping: accepts no beat (R211). -/
  remap : Bool
  /-- Positions that have become failing and are not yet handled (R210). -/
  due : NSet
deriving DecidableEq, Repr

def Vb.reset : Vb := ⟨.full, RF.all 2 none, [], [], false, []⟩

/-- R219: a maintenance operation in progress on a die: the operation and its slices. -/
structure Maint where
  op : Nat
  mask : Byte
deriving DecidableEq, Repr

structure Firn where
  /-- Package slices in scratch mode. -/
  scratchMode : BitVec 32
  scratchDefault : BitVec 32
  /-- Package slices held by programs, as PROG_TAG of each holder. -/
  held : SMap (List W32)
  /-- Valid lines, keyed ((8t+s) * 49152 + set) * 16 + way. -/
  lines : SMap (Option FLine)
  /-- Tree pseudo-LRU bits of each set, keyed (8t+s) * 49152 + set (R189). -/
  plru : SMap (BitVec 15)
  /-- Scratch bytes, keyed by region offset (R201), and poisoned 32-byte sectors. -/
  scratch : Mem
  scratchPoison : NSet
  windows : List MergeWin
  fills : List Fill
  /-- Package slices whose mode change to scratch runs its tag walk (R204), and slices being zeroed (R203). -/
  toScratch : NSet
  zeroing : NSet
  walks : List Walk
  upsets : List Upset
  wbWait : List WbWait
  /-- R217, R487: slices named by writes of FIRN_FLUSH since the last scheduler cycle start. -/
  flushDue : BitVec 32
  maint : RF 2 (Option Maint)
  /-- FRN_MAINT as written, read back until its operation ends. -/
  maintReg : RF 2 W32
  cfgIgnored : RF 2 Bool
  /-- Bundles keyed 384 t + n. -/
  vb : SMap Vb
  drainLines : W32
  mergedReads : W64
  arrayReads : W64
  spareSwaps : W32
  halfBundles : W16
  retiredBundles : W16
  eccCe : W32
deriving DecidableEq, Repr

/-- R241: the state of an HBM stack. -/
inductive HbmSt where | inService | failed | retired | notFound
deriving DecidableEq, Repr

structure HbmStack where
  st : HbmSt
  temp : W16
  /-- Doubled by temperature or by a lost reading (R231). -/
  hot : Bool
  /-- Age of the last reading in units of 100 µs. -/
  age : Nat
  /-- Refreshes done by bank, a count of events (R231). -/
  refreshes : SMap Nat
  /-- Local times of the uncorrectable words of the last 1 s; consecutive parity failures by pseudo-channel. -/
  ucTimes : List W64
  parity : SMap Nat
  phyLost : Bool
  /-- An event of R234 that the controller has counted to its bound: 1 parity, 3 uncorrectable words. -/
  failDue : Option Nat
  /-- Next stack-local address of the patrol scrub, and whether this pass has ended (R232). -/
  scrubAt : Nat
  scrubDone : Bool
deriving DecidableEq, Repr

/-- A stack as discovery finds it. -/
def HbmStack.reset : HbmStack := ⟨.inService, 0, false, 0, [], [], [], false, none, 0, false⟩

structure Hbm where
  /-- Bytes, keyed 2^35 h + stack-local address; words poisoned, keyed by that key divided by 64. -/
  mem : Mem
  poison : NSet
  stks : SMap HbmStack
  /-- HBM_REGION_MAP as written; none while unwritten (R225). -/
  mapWritten : Option (List Byte)
  map : List Byte
  retireMask : BitVec 24
  placed : Bool
  /-- R233: the THAW zeroing has ended. -/
  zeroed : Bool
  defaulted : Bool
  capacity : W16
  scrubPeriod : W16
  refreshDouble : RF 2 Bool
  pause : RF 2 Bool
  cfgIgnored : RF 2 Bool
  ecce : W64
  eccUc : W32
  ondieCe : W64
  scrubPasses : W32
  failedAccesses : W64
deriving DecidableEq, Repr

def Firn.reset : Firn :=
  { scratchMode := 0, scratchDefault := 0, held := [], lines := [], plru := [], scratch := [], scratchPoison := [],
    windows := [], fills := [], toScratch := [], zeroing := [], walks := [], upsets := [], wbWait := [], flushDue := 0, maint := RF.all 2 none,
    maintReg := RF.all 2 0, cfgIgnored := RF.all 2 false, vb := [], drainLines := 0, mergedReads := 0,
    arrayReads := 0, spareSwaps := 0, halfBundles := 0, retiredBundles := 0, eccCe := 0 }

def Hbm.reset : Hbm :=
  { mem := [], poison := [], stks := [], mapWritten := none, map := [], retireMask := 0, placed := false,
    zeroed := false, defaulted := false, capacity := 576, scrubPeriod := 24,
    refreshDouble := RF.all 2 false, pause := RF.all 2 false, cfgIgnored := RF.all 2 false, ecce := 0, eccUc := 0,
    ondieCe := 0, scrubPasses := 0, failedAccesses := 0 }

end Sys2Proof.Machine
end

