-- ==== Sys2Proof/Machine/MemState.lean ====
section
/-! DEFINITION. Rack-wide memory semantics, host access and the collective units (R325 to R367). -/

namespace Sys2Proof.Machine

/-- R328: an inbound window. -/
structure Window where
  srcMask : W64
  xdom : Byte
  region : BitVec 2
  size : BitVec 28
  base : BitVec 28
  v : Bool
  f : Bool
  fc : Bool
  pf : Bool
  at' : Bool
  w : Bool
  rd : Bool
deriving DecidableEq, Repr

def Window.reset : Window := ⟨0, 0xFF, 0, 0, 0, false, false, false, false, false, false, false⟩

/-- What a request of this device was issued for, and what its reply completes. -/
inductive ReqOwner where
  /-- Piece of a tile's memory-queue operation: package tile, operation id, tile SRAM address of the piece. -/
  | tileOp (tile opId sram : Nat)
  /-- A run-ahead request of a tile. -/
  | runAhead (tile reqId : Nat)
  /-- A Firn fill of a stack and line. -/
  | fill (stack line : Nat)
  /-- A Firn write-back of a stack; the operation that waits for it, if an FFL does. -/
  | writeBack (stack : Nat) (ffl : Option (Nat × Nat)) (bad : NSet)
  /-- Host DMA engine, descriptor number and byte offset in the transfer. -/
  | hdma (eng desc off : Nat)
  /-- Collective unit and COLL_ID; for a load of the unit its byte in the contribution. -/
  | coll (cu : Nat) (id : W32) (load : Option Nat)
  /-- A completion record's flagged store of a collective. -/
  | collRecord (cu : Nat) (id : W32)
  /-- A check-value unit, with its own load number; its result store has no number. -/
  | cvu (c : Nat) (load : Option Nat)
  /-- A Nunatak core, with its own request number. -/
  | core (n id : Nat)
deriving DecidableEq, Repr

/-- An outstanding request of one source engine (R342, R343, R349). -/
structure Req where
  id : Nat
  eng : Nat
  dest : Nat
  pkt : Packet
  owner : ReqOwner
  /-- PROG_TAG of the issuing program, for the snapshot rule of R341. -/
  prog : Option W32
  sequenced : Bool
  firstInj : W64
  lastInj : W64
  attempts : Nat
  /-- Held until earlier requests of the engine have completed (R337), or while the pair resyncs. -/
  waiting : Bool
  /-- Sent again as a duplicate in a resync (R345). -/
  dup : Bool
  /-- A BUSY reply has come and the resend is due (R343). -/
  busy : Bool
deriving DecidableEq, Repr

/-- The source side of a pair: NEXT, and its resync if one runs (R342, R345). -/
structure SrcPair where
  next : BitVec 20
  resync : Bool
  queried : Bool
  /-- EXP as the query's answer gave it. -/
  exp : Option (BitVec 20)
  lastInj : W64
deriving DecidableEq, Repr

def SrcPair.reset : SrcPair := ⟨0, false, false, none, 0⟩

/-- R347: what an entry of the result cache holds. -/
inductive CacheKind where | atomic | xmsg | sync | store
deriving DecidableEq, Repr

structure CacheEnt where
  /-- The pair at the destination: source domain, DevID and engine as one number. -/
  pair : Nat
  seq : BitVec 20
  tag : W16
  kind : CacheKind
  status : Byte
  result : List Byte
  at' : W64
deriving DecidableEq, Repr

/-- R340, R341: a flagged store that waits for its snapshot. -/
structure Flagged where
  ch : BitVec 2
  req : Req
  waits : NSet
  /-- Status of the earliest issued failing request of the channel's own issuer: request number and status. -/
  fail : Option (Nat × Byte)
deriving DecidableEq, Repr

/-- R354: a descriptor that a host DMA engine has taken. -/
structure HdmaRun where
  /-- The engine's own number of the run, the ring it came from, its number in the ring, and its 64 bytes. -/
  num : Nat
  base : Nat
  j : Nat
  raw : List Byte
  op : Nat
  irq : Bool
  ordered : Bool
  gateway : Nat
  outerPort : Bool
  dstDom : Byte
  host : Nat
  dev : Nat
  aux : Nat
  len : Nat
  msgCtr : Nat
  compl : Nat
  tag : W32
  started : Bool
  issued : Nat
  outstanding : Nat
  /-- Offsets at which a read of host memory is outstanding. -/
  reads : NSet
  status : Byte
  complete : Bool
  /-- Its record is not written (R355). -/
  norec : Bool
deriving DecidableEq, Repr

structure Hdma where
  ringBase : Nat
  /-- The next descriptor number to take. -/
  take : Nat
  runs : List HdmaRun
  nextNum : Nat
  last : Byte
  /-- Local time of its last interrupt, and one that waits for the end of the 1 µs after it. -/
  irqAt : Option W64
  irqDue : Bool
  /-- ICEBOUND stopped it (R524). -/
  stopped : Bool
deriving DecidableEq, Repr

/-- R362: a contribution or result held by a collective unit. -/
structure Contrib where
  id : W32
  src : BitVec 6
  pass : Nat
  block : Nat
  op : Byte
  fmtc : Byte
  red : Byte
  count : W32
  mask : W64
  poison : Bool
  data : List Byte
  arrived : W64
deriving DecidableEq, Repr

/-- R359 to R361: how far a block of a collective has come at this member: 0 its own data are being loaded; pass 1: 1 the head of
its row group waits for the group, 2 its owner waits for the heads, 3 others wait for the agreed exponent; pass 2: 4 the head and 5
the owner wait for data; 6 the results are awaited; 7 they are here. -/
structure CollBlk where
  st : Nat
  /-- The largest exponent and the non-finite mark so far, and then as agreed. -/
  exp : Option Int
  nf : Bool
  /-- Elements of the own contribution, and then of the sum so far: windows or codes. -/
  own : List Nat
  acc : List Nat
deriving DecidableEq, Repr

def CollBlk.reset : CollBlk := ⟨0, none, false, [], []⟩

/-- R362: a packet that a unit has yet to send: its stage, 0 none, 1 row-stage, 2 column-stage data (R363), and the multicast that
it is a copy of (R312): direction and mask. -/
structure CollSend where
  dst : Nat
  pass : Nat
  block : Nat
  stage : Nat
  mc : Option (Bool × Byte)
  poison : Bool
  data : List Byte
deriving DecidableEq, Repr

/-- R357: a collective that a unit has taken; segments as global addresses. -/
structure CollRun where
  id : W32
  op : Nat
  fmt : Nat
  red : Nat
  rnd : Nat
  axis : Nat
  root : Nat
  steer : Byte
  mask : W64
  src : Nat
  dst : Nat
  compl : Nat
  count : Nat
  /-- R358: the members and the own rank. -/
  members : List Nat
  rank : Nat
  /-- Own data: bytes asked for, bytes loaded as a byte map, and the 512-byte pieces that have come. -/
  asked : Nat
  buf : Mem
  pieces : NSet
  blocks : SMap CollBlk
  /-- Results by block; of an ALL_GATHER by rank * blocks + block. -/
  res : SMap (List Byte)
  sends : List CollSend
  /-- Stores of results yet to be issued, and whether they have been made. -/
  stores : List (Nat × List Byte)
  wrote : Bool
  /-- Fabric times before which row-stage and column-stage data are not sent, and whether the column set has been asked for (R363). -/
  rowWait : Option W64
  colWait : Option W64
  colAsked : Bool
  status : Byte
  /-- ABORT has been sent or received. -/
  aborted : Bool
  /-- R362, R365: when the descriptor was taken, and COLL_TIMEOUT then, in ms. -/
  taken : W64
  timeout : Nat
deriving DecidableEq, Repr

/-- R357: the format byte and the RED byte, as packets carry them. -/
def CollRun.redByte (r : CollRun) : Nat := r.red + 16 * r.rnd

/-- R360: SUM of FP32, BF16 or FP16 runs in two passes. -/
def CollRun.exact (r : CollRun) : Bool := r.red = 0 && (r.fmt = 1 || r.fmt = 3 || r.fmt = 4)

/-- R358: BROADCAST and ALL_GATHER copy; the others reduce. -/
def CollRun.copies (r : CollRun) : Bool := r.op = 1 || r.op = 3

/-- R359: blocks of 256 elements. -/
def CollRun.nblocks (r : CollRun) : Nat := (r.count + 255) / 256

def CollRun.blk (r : CollRun) (b : Nat) : CollBlk := SMap.get CollBlk.reset r.blocks b

/-- R366 COLL_STATUS.STATE of a collective: the pass of the block that is furthest behind. -/
def CollRun.phase (r : CollRun) : Nat :=
  let at' := (List.range r.nblocks).foldl (fun m b => min m (r.blk b).st) 7
  if at' ≤ 3 && r.exact && !r.copies then 1 else if at' ≤ 5 then 2 else 3

structure CollUnit where
  ringBase : Nat
  take : Nat
  runs : List CollRun
  held : List Contrib
  last : Byte
deriving DecidableEq, Repr

structure MemSem where
  windows : RF 5 Window
  memFence : Bool
  ctrlFence : Bool
  /-- The DRIFT period has expired and no re-attach has completed (R330). -/
  driftFence : Bool
  timeoutOwn : W32
  retentionOwn : W32
  /-- Domain values in force (R346), the larger timeout for 10 ms after a change, and values distributed but not active. -/
  timeout : W32
  retention : W32
  timeoutOld : Option (W32 × W64)
  privSw : Bool
  en : Bool
  cfgIgnored : Bool
  /-- Outstanding requests in issue order, the number of the next one, and flagged stores that wait. -/
  reqs : List Req
  nextReq : Nat
  flagged : List Flagged
  pairs : SMap SrcPair
  exps : SMap (BitVec 20)
  cache : List CacheEnt
  /-- Pair and TAG of the messages whose outcome the cache has freed (R342). -/
  xmsgGone : List (Nat × W16)
  retries : W64
  resyncs : W32
  busyNacks : W64
  ageDiscards : W64
  atomicUnknown : W32
  seqDiscards : W64
  /-- BAR4 (R351): base, size as a power of two in units of 16 GiB, and the count of refused accesses. -/
  bar4Base : BitVec 48
  bar4Log : Nat
  bar4Ur : W32
  hdma : RF 2 Hdma
  hdmaDone : W64
  hdmaFailed : W32
  coll : RF 2 CollUnit
  collTimeout : W32
  collDone : W64
  collFailed : W32
  /-- Programs' holds of channels 2 and 3, by PROG_TAG. -/
  priv2 : Option W32
  priv3 : Option W32
deriving DecidableEq, Repr

def Hdma.reset : Hdma := ⟨0, 0, [], 0, 0, none, false, false⟩
def CollUnit.reset : CollUnit := ⟨0, 0, [], [], 0⟩

def MemSem.reset : MemSem :=
  { windows := RF.all 5 Window.reset, memFence := false, ctrlFence := false, driftFence := false, timeoutOwn := 50,
    retentionOwn := 1000, timeout := 50, retention := 1000, timeoutOld := none, privSw := true,
    en := false, cfgIgnored := false, reqs := [], nextReq := 0, flagged := [], pairs := [], exps := [], cache := [], xmsgGone := [],
    retries := 0, resyncs := 0, busyNacks := 0, ageDiscards := 0, atomicUnknown := 0, seqDiscards := 0, bar4Base := 0,
    bar4Log := 0, bar4Ur := 0, hdma := RF.all 2 Hdma.reset, hdmaDone := 0, hdmaFailed := 0,
    coll := RF.all 2 CollUnit.reset, collTimeout := 100, collDone := 0, collFailed := 0, priv2 := none, priv3 := none }

end Sys2Proof.Machine
end

