-- ==== Sys2Proof/Machine/Output.lean ====
section
/-! DEFINITION. What the block sends out: the model's record of everything that leaves the device. -/

namespace Sys2Proof.Machine

/-- R263: where a service message goes: one fibre of a link, a device, or every device of the domain. -/
inductive SvcTo where
  | link (port : BitVec 4) (fibreB : Bool)
  | dev (d : BitVec 6)
  | all
deriving DecidableEq, Repr

/-- R568: a response of the SPDM responder, by what it holds; signatures are the alias key's. -/
inductive SpdmReply where
  | version (versions : List Byte)
  /-- Certificates, challenges, signed measurements and chunks; DataTransferSize. -/
  | capabilities (transfer : Nat)
  | algorithms (mlDsa44 sha3 dmtf : Bool)
  | digests (slots : Byte) (chain : List Byte)
  | certificate (portion : List Byte) (remainder : Nat)
  | challengeAuth (slots : Byte) (chain nonce summary signature : List Byte)
  /-- Blocks by index, how many there are, and the signature where one was asked for. -/
  | measurements (total : Nat) (blocks : List (Nat × List Byte)) (signature : List Byte)
  /-- An ERROR response by its code, with the handle of a large response. -/
  | error (code : Byte) (handle : Byte)
deriving DecidableEq, Repr

inductive Output where
  /-- An MSI-X interrupt. -/
  | msix (vec : Nat)
  /-- A packet that a port starts to send (R309). -/
  | packet (port : BitVec 4) (p : Packet)
  /-- A CREDIT flit (R306). -/
  | credit (port : BitVec 4) (c : CreditFlit)
  /-- A frame that a lane starts to send (R257): when, in parts of local time, and its header as frame bytes 0 to 7 hold it. -/
  | frame (lane : Lane) (start : Nat) (hdr : BitVec 64)
  /-- A service message (R263): destination, the ports on which it is sent, type, the sender's count of that type, and the whole
  message as it is framed. -/
  | svc (dest : SvcTo) (ports : List Nat) (type : Byte) (seq : W16) (bytes : List Byte)
  /-- A service message of the photonics (R262): port, fibre, type, count of that type, and what it carries. -/
  | pho (port : BitVec 4) (fibreB : Bool) (type : Byte) (seq : W16) (msg : PhoMsg)
  /-- R263: a service message of another device, forwarded once with RELAY = 1 on some ports. -/
  | svcRelay (ports : List Nat) (hdr : SvcHdr) (type : Byte) (payload : List Byte)
  /-- A write, with its EP bit, and a read that the device sends to the host over PCIe. -/
  | hostWrite (addr : Nat) (data : List Byte) (poison : Bool)
  | hostRead (addr len : Nat)
  /-- The answer to a BAR4 read: data and whether the completion carries poison; or Unsupported Request. -/
  | bar4Data (data : List Byte) (poison : Bool)
  | bar4Ur
  /-- R500: the completion of a BAR0 read. -/
  | bar0Data (data : List Byte)
  /-- The answer to a dictionary request (R486, R487, R491, R493), by path. -/
  | dictReply (path : Nat) (reply : List Byte)
  /-- The answer to an SPDM request, by connection (R568, R569). -/
  | spdm (conn : Nat) (reply : SpdmReply)
  /-- R568: a chunk of a large response: its handle and number, whether it is the last, and the bytes of the response that
  it carries, by offset and length. -/
  | spdmChunk (conn : Nat) (handle : Byte) (num : Nat) (last : Bool) (whole : SpdmReply) (off len : Nat)
  /-- An AVSBus set point in mV for a stack (R604). -/
  | avs (stack : Nat) (mv : Nat)
  /-- ERR_FATAL towards the host (R518). -/
  | errFatal
  /-- A request to reset, or an event of a pin, that the board sees. -/
  | pin (name : Nat) (level : Bool)
deriving DecidableEq, Repr

end Sys2Proof.Machine
end

