-- ==== Sys2Proof/Machine/SysState.lean ====
section
/-! DEFINITION. The part, the package, security, start-up and calibration, pins and rails (R1 to R35, R555 to R617). -/

namespace Sys2Proof.Machine

/-- R2: the device states. -/
inductive DevSt where | cold | thaw | flow | drift | icebound
deriving DecidableEq, Repr

def DevSt.code : DevSt → Nat
  | .cold => 0 | .thaw => 1 | .flow => 2 | .drift => 3 | .icebound => 4

/-- What is fused, measured or certified at manufacture and never changes ("per part", R481). -/
structure Part where
  /-- R1: false TT24-A, true TT24-B. -/
  gradeB : Bool
  /-- R76: the whole physical rows fused off on each Serac die, ascending. -/
  fusedRows : RF 2 (List Nat)
  /-- R25: serial numbers of die indices 0 to 15 in the package assembly record. -/
  assembly : SMap W64
  iana : W32
  /-- R567: the chain from the root to the device certificate. -/
  chain : List Byte
  /-- R563: SHA3-256 of the boot ROM. -/
  romDigest : List Byte
  /-- R591: the voltage guardband V0 fused for each stack, in mV. -/
  v0 : RF 2 Nat
  /-- R615: silicon revision and manufacturer identity of IDCODE. -/
  rev : BitVec 4
  mfr : BitVec 11
deriving DecidableEq, Repr

/-- R32: a die record as written; index, kind, stack and position follow from the die index. -/
structure DieRec where
  serialLo : W32
  rev : Byte
  /-- 0 NOT_FOUND, 1 GOOD, 2 DEGRADED, 3 RETIRED, 4 FAILED, 5 SERIAL_MISMATCH. -/
  status : Nat
deriving DecidableEq, Repr

structure Pkg where
  dev : DevSt
  /-- Local time of the last PERST_N release, the base of BOOT_US (R454). -/
  bootAt : W64
  mapGen : W32
  /-- PKG_DISCOVERY_CAUSE (R31). -/
  cause : Byte
  /-- Records written, by die index; an unlisted one has not been written. -/
  dies : SMap (Option DieRec)
  discovered : Bool
  /-- An accepted soft reset that waits for its snapshot (R611). -/
  softReset : Bool
deriving DecidableEq, Repr

/-- R606: what is known of one discrete input. -/
structure PinSt where
  /-- Local time since which the input is asserted. -/
  since : Option W64
  stuck : Bool
  /-- Edges ignored since the last event of the pin, and local time of its last EXCESS_EDGES event. -/
  ignored : Nat
  excessAt : Option W64
  /-- Local times of the edges that the rate rule counts, newest first, of the last acted assertion or edge, and whether
  releases are ignored until the input stays quiet. -/
  recent : List W64
  lastAt : Option W64
  held : Bool
deriving DecidableEq, Repr

def PinSt.reset : PinSt := ⟨none, false, 0, none, [], none, false⟩

structure Pins where
  /-- PERST_N is asserted. -/
  perst : Bool
  /-- VDD_AUX, VDD_IO and VDD_FLE are in tolerance, and every rail is in range. -/
  aux : Bool
  io : Bool
  fle : Bool
  /-- The internal power-on reset is held. -/
  por : Bool
  /-- The latch that holds THERMTRIP_N (R602). -/
  trip : Bool
  /-- RACKPOS as sampled at PERST_N release. -/
  rackpos : BitVec 6
  pcieUp : Bool
  pins : SMap PinSt
  /-- The TAP instruction in effect; TRST_N holds the TAP in Test-Logic-Reset. -/
  tap : TapInstr
  tapReset : Bool
deriving DecidableEq, Repr

/-- One element under calibration. -/
structure CalElem where
  /-- The candidate being run and its runs so far, oldest first. -/
  cand : Nat
  runs : List CalRun
  suspects : NSet
  /-- The value accepted; none while not accepted. -/
  value : Option CalRun
  /-- A restored value that waits for its repeat run (R586). -/
  restored : Bool
  /-- Ended with no alternate left, or on a factory value. -/
  degraded : Bool
  /-- R580: discarded runs. -/
  discards : Nat
deriving DecidableEq, Repr

def CalElem.reset : CalElem := ⟨0, [], [], none, false, false, 0⟩

/-- R595 CAL_ITEMS: one item. -/
structure CalItem where
  /-- 0 NOT_RUN, 1 RUNNING, 2 ACCEPTED, 3 RESTORED, 4 DEGRADED. -/
  status : Nat
  count : W32
  thirdRuns : W32
  suspect : W32
  lastFt : W64
  lastOp : W32
  /-- An element of the item did not keep its restored value, or had none. -/
  fresh : Bool
  degraded : Bool
deriving DecidableEq, Repr

def CalItem.reset : CalItem := ⟨0, 0, 0, 0, 0, 0, false, false⟩

structure Cal where
  /-- THAW_STAGE: the step of R573. -/
  stage : Nat
  /-- Local time A at which the image was accepted. -/
  accepted : Option W64
  proceeded : Bool
  items : SMap CalItem
  /-- Elements keyed item * 2^24 + number. -/
  elems : SMap CalElem
  /-- What the elements judged in a running slot held before, by channel (R274). -/
  slotOld : List (Nat × List (Nat × CalElem))
  /-- The staged restore, whether it was applied at P, and CAL_RESTORE_RESULT. -/
  restore : Option (List Byte)
  restored : Bool
  result : Byte
  /-- CAL_EXPORT; empty before the first take. -/
  exported : List Byte
  svcDisagree : W32
  replanEn : Bool
  planGen : W32
  planV : RF 2 Nat
  planS : RF 2 Nat
  exhausted : BitVec 4
  /-- A service plan that falls due (R590), V of a plan that the next scheduler cycle applies (R591), and vertical channels
  that the last service plan marked (R594), as element numbers of item 3. -/
  planDue : Bool
  planApply : Bool
  marks : NSet
  pendingLimit : Option Nat
  planNext : W32
  planOp : W32
  planFt : W64
  /-- CLK_MARGIN_WARN and CLK_MARGIN_ALARM at the previous plan. -/
  warnAt : W32
  alarmAt : W32
  /-- AGEING: D in 0.01%, slack in 0.1%, slope efficiency in %, vertical eye in % UI. -/
  ageD : RF 2 Nat
  ageSlack : RF 2 Nat
  ageSlope : RF 2 Nat
  ageEye : RF 2 Nat
  en : Bool
  cfgIgnored : Bool
deriving DecidableEq, Repr

/-- R556: the fuse write that is running. -/
inductive FuseWrite where
  | prodLock
  | revoke (mask : BitVec 4)
  | svn (n : Nat)
deriving DecidableEq, Repr

/-- R567: a stored alias copy: public key and certificate. -/
structure AliasCopy where
  pub : List Byte
  cert : List Byte
deriving DecidableEq, Repr

/-- R569: one SPDM connection. -/
structure SpdmConn where
  /-- The version in use; 0 before GET_CAPABILITIES. -/
  version : Byte
  /-- A GET_VERSION has been answered, and algorithms have been negotiated. -/
  started : Bool
  algs : Bool
  /-- A large response that is being returned in chunks, its handle, and the next chunk. -/
  large : Option SpdmReply
  handle : Byte
  nextChunk : Nat
deriving DecidableEq, Repr

def SpdmConn.reset : SpdmConn := ⟨0, false, false, none, 0, 0⟩

structure Sec where
  keyHash : RF 2 (List Byte)
  keyRevoked : BitVec 4
  /-- How many bits of the thermometer code SVN_FUSED are set, and the secret UDS (R555). -/
  svnFused : Nat
  uds : List Byte
  fuse : Option FuseWrite
  digest : List Byte
  keyIndex : Byte
  svn : W64
  meas : RF 4 (List Byte)
  hostEn : Bool
  /-- Empty until the alias key is ready. -/
  aliasPub : List Byte
  certChain : List Byte
  /-- Copies A and B in the Moraine store, and whether B is the older. -/
  copyA : Option AliasCopy
  copyB : Option AliasCopy
  bOlder : Bool
  requests : W32
  conns : SMap SpdmConn
  en : Bool
  cfgIgnored : Bool
deriving DecidableEq, Repr

def zeros (n : Nat) : List Byte := List.replicate n 0#8

/-- Per-part values: none is given by the spec (log entry 5). -/
def Part.reset : Part :=
  { gradeB := false, fusedRows := RF.all 2 [15], assembly := [], iana := 0, chain := [], romDigest := zeros 32, v0 := RF.all 2 0,
    rev := 0, mfr := 0 }
/-- R6, R30: right after PERST_N release the device is in THAW and nothing is discovered. -/
def Pkg.reset : Pkg := ⟨.thaw, 0, 0, 0, [], false, false⟩
def Pins.reset : Pins :=
  { perst := false, aux := true, io := true, fle := true, por := false, trip := false, rackpos := 0, pcieUp := true,
    pins := [], tap := .idcode, tapReset := true }
/-- R595: CAL_REPLAN_EN is 1, the rest 0. -/
def Cal.reset : Cal :=
  { stage := 0, accepted := none, proceeded := false, items := [], elems := [], slotOld := [], restore := none, restored := false,
    result := 0, exported := [], svcDisagree := 0, replanEn := true, planGen := 0, planV := RF.all 2 0,
    planS := RF.all 2 0, exhausted := 0, planDue := false, planApply := false, marks := [], pendingLimit := none, planNext := 0, planOp := 0, planFt := 0, warnAt := 0,
    alarmAt := 0, ageD := RF.all 2 0, ageSlack := RF.all 2 0, ageSlope := RF.all 2 0, ageEye := RF.all 2 0, en := false,
    cfgIgnored := false }
/-- R562, R571: M0 to M15 zero, SEC_FW_KEY_INDEX 0xFF, SEC_MEAS_HOST_EN 1; fuses per part. -/
def Sec.reset : Sec :=
  { keyHash := RF.all 2 (zeros 32), keyRevoked := 0, svnFused := 0, uds := zeros 32, fuse := none, digest := zeros 32,
    keyIndex := 0xFF, svn := 0, meas := RF.all 4 (zeros 32), hostEn := true, aliasPub := [],
    certChain := [], copyA := none, copyB := none, bOlder := false, requests := 0, conns := [], en := false,
    cfgIgnored := false }

end Sys2Proof.Machine
end

