-- ==== Sys2Proof/Machine/Formats.lean ====
section
/-! DEFINITION. The number formats of the T24 (R88 to R118): exact values, decoding, rounding and encoding. -/

namespace Sys2Proof.Machine

/-- The exact value of an element: NaN, an infinity, or `(-1)^neg * m * 2^e`. -/
inductive Val where
  | nan
  | inf (neg : Bool)
  | fin (neg : Bool) (m : Nat) (e : Int)
deriving DecidableEq, Repr

/-- What an all-ones exponent field means in a floating-point format (R89). -/
inductive TopCode where
  | ieee      -- infinity with a zero mantissa, NaN otherwise
  | e4m3      -- NaN with an all-ones mantissa, finite otherwise
  | finite    -- finite in every code
deriving DecidableEq, Repr

/-- The layout of a floating-point format (R88). -/
structure Fp where
  ebits : Nat
  mbits : Nat
  bias : Nat
  top : TopCode
  /-- Bits below the mantissa that a container ignores on input and writes as zero (R91). -/
  low : Nat := 0
deriving DecidableEq, Repr

/-- R88: the floating-point formats by number; none for the others. -/
def fpOf (fmt : Nat) : Option Fp :=
  match fmt with
  | 0 => some ⟨11, 52, 1023, .ieee, 0⟩
  | 1 => some ⟨8, 23, 127, .ieee, 0⟩
  | 2 => some ⟨8, 10, 127, .ieee, 13⟩
  | 3 => some ⟨8, 7, 127, .ieee, 0⟩
  | 4 => some ⟨5, 10, 15, .ieee, 0⟩
  | 5 => some ⟨4, 3, 7, .e4m3, 0⟩
  | 6 => some ⟨5, 2, 15, .ieee, 0⟩
  | 7 => some ⟨3, 2, 3, .finite, 0⟩
  | 8 => some ⟨2, 3, 1, .finite, 0⟩
  | 9 => some ⟨2, 1, 1, .finite, 0⟩
  | _ => none

/-- R88, R90: the width of one element in bits. -/
def fmtBits (fmt : Nat) : Nat :=
  match fmt with
  | 0 => 64 | 1 => 32 | 2 => 32 | 3 => 16 | 4 => 16 | 5 => 8 | 6 => 8 | 7 => 6 | 8 => 6 | 9 => 4
  | 10 => 8 | 11 => 32 | 12 => 8 | 13 => 4 | _ => 640

/-- R92: the width of an integer format. -/
def intBits (fmt : Nat) : Nat := match fmt with | 11 => 32 | 12 => 8 | _ => 4

def isIntFmt (fmt : Nat) : Bool := fmt == 11 || fmt == 12 || fmt == 13

/-- R114: the MX element formats. -/
def isMxFmt (fmt : Nat) (uns : Bool) : Bool := (5 ≤ fmt && fmt ≤ 9) || (fmt == 12 && !uns)

/-- R88, R89: the value of a floating-point code. -/
def decodeFp (p : Fp) (bits : Nat) : Val :=
  let b := bits >>> p.low
  let m := b % 2 ^ p.mbits
  let e := (b >>> p.mbits) % 2 ^ p.ebits
  let neg := (b >>> (p.mbits + p.ebits)) % 2 == 1
  let emax := 2 ^ p.ebits - 1
  let special := e == emax && (match p.top with
    | .ieee => true
    | .e4m3 => m == 2 ^ p.mbits - 1
    | .finite => false)
  if special then (if p.top = .ieee ∧ m = 0 then .inf neg else .nan)
  else if e = 0 then .fin neg m (1 - (p.bias : Int) - p.mbits)
  else .fin neg (2 ^ p.mbits + m) ((e : Int) - p.bias - p.mbits)

/-- R92: the value of an integer code. -/
def decodeInt (w : Nat) (uns : Bool) (bits : Nat) : Int :=
  let b := bits % 2 ^ w
  if !uns && 2 ^ (w - 1) ≤ b then (b : Int) - 2 ^ w else b

/-- The value of one element of a format (R88 to R93). -/
def decodeVal (fmt : Nat) (uns : Bool) (bits : Nat) : Val :=
  match fpOf fmt with
  | some p => decodeFp p bits
  | none =>
    if fmt = 10 then (if bits % 256 = 255 then .nan else .fin false 1 ((bits % 256 : Nat) - 127))
    else
      let i := decodeInt (intBits fmt) uns bits
      .fin (i < 0) i.natAbs 0

/-- An element of an MX block: an MXINT8 code `c` has the value `c * 2^-6` (R114). -/
def decodeMx (fmt bits : Nat) : Val :=
  match decodeVal fmt false bits with
  | .fin n m e => .fin n m (if fmt = 12 then e - 6 else e)
  | v => v

/-- R96: the canonical NaN of a floating-point format or E8M0. -/
def canonNan (fmt : Nat) : Nat :=
  match fmt with
  | 0 => 0x7FF8000000000000 | 1 => 0x7FC00000 | 2 => 0x7FC00000 | 3 => 0x7FC0 | 4 => 0x7E00
  | 5 => 0x7F | 6 => 0x7E | 10 => 0xFF | _ => 0

/-- Exact scaling by a power of two. -/
def Val.scale (v : Val) (k : Int) : Val :=
  match v with
  | .fin n m e => .fin n m (e + k)
  | v => v

def Val.neg (v : Val) : Val :=
  match v with
  | .nan => .nan
  | .inf n => .inf (!n)
  | .fin n m e => .fin (!n) m e

def Val.isNan (v : Val) : Bool := match v with | .nan => true | _ => false
def Val.isNeg (v : Val) : Bool := match v with | .nan => false | .inf n => n | .fin n _ _ => n
def Val.isZero (v : Val) : Bool := match v with | .fin _ m _ => m == 0 | _ => false

/-- The signed integer `m * 2^e` of a value counted in units of `2^u`, for `u ≤ e`. -/
def Val.units (v : Val) (u : Int) : Int :=
  match v with
  | .fin n m e => let x : Int := ((m <<< (e - u).toNat : Nat) : Int); if n then -x else x
  | _ => 0

/-- A signed integer in units of `2^u` as a value; zero is `+0`. -/
def Val.ofUnits (x : Int) (u : Int) : Val := .fin (x < 0) x.natAbs u

/-- The smaller exponent of two values, the unit in which both are whole. -/
def Val.unit (a b : Val) : Int :=
  match a, b with
  | .fin _ _ e, .fin _ _ f => min e f
  | .fin _ _ e, _ => e
  | _, .fin _ _ f => f
  | _, _ => 0

/-- `-1`, `0` or `1` as `a` is below, equal to or above `b`; both not NaN. Zeros compare equal. -/
def Val.cmp (a b : Val) : Int :=
  match a, b with
  | .inf x, .inf y => if x = y then 0 else if x then -1 else 1
  | .inf x, _ => if x then -1 else 1
  | _, .inf y => if y then 1 else -1
  | a, b => let u := Val.unit a b; (a.units u - b.units u).sign

/-! ### Rounding -/

/-- R101: the rounding modes, by the code of RND and SETRND. -/
def rne : Nat := 0
def rtz : Nat := 1
def rup : Nat := 2
def rdn : Nat := 3
def srm : Nat := 4

/-- R105: one draw advances the generator and returns its new state. -/
def draw (g : W32) : W32 :=
  let g := if g = 0#32 then 0x9E3779B9#32 else g
  let g := g ^^^ (g <<< 13)
  let g := g ^^^ (g >>> 17)
  g ^^^ (g <<< 5)

/-- The state after `n` draws. -/
def draws (g : W32) : Nat → W32
  | 0 => g
  | n + 1 => draw (draws g n)

/-- R101, R106, R131 `choose`: whether the neighbour of larger magnitude is taken. `rest` is in units of `2^-sh` of the
last place; `sticky` says that the exact value lies a little above `rest`. -/
def roundUp (rnd : Nat) (neg : Bool) (lo rest sh : Nat) (sticky : Bool) (r : W32) : Bool :=
  let half := 2 ^ sh
  let more := rest != 0 || sticky
  if rnd = rne then
    half < 2 * rest || (2 * rest == half && (sticky || lo % 2 == 1))
  else if rnd = rtz then false
  else if rnd = rup then more && !neg
  else if rnd = rdn then more && neg
  else 2 ^ 32 ≤ (rest <<< 32) / 2 ^ sh + r.toNat

/-- floor(log2 n) for `n > 0`. -/
def flog2 (n : Nat) : Nat := Nat.log2 n

/-- The largest finite magnitude of a format as a mantissa and the exponent of its last place (R89). -/
def Fp.maxFinite (p : Fp) : Nat × Int :=
  let topE : Int := match p.top with
    | .ieee => (2 ^ p.ebits : Int) - 2 - p.bias
    | _ => (2 ^ p.ebits : Int) - 1 - p.bias
  let m := match p.top with
    | .e4m3 => 2 ^ (p.mbits + 1) - 2
    | _ => 2 ^ (p.mbits + 1) - 1
  (m, topE - p.mbits)

/-- The code of a sign, biased exponent and mantissa. -/
def Fp.pack (p : Fp) (neg : Bool) (e m : Nat) : Nat :=
  (((if neg then 2 ^ (p.ebits + p.mbits) else 0) + e * 2 ^ p.mbits + m)) <<< p.low

/-- The code of the largest finite value. -/
def Fp.packMax (p : Fp) (neg : Bool) : Nat :=
  match p.top with
  | .ieee => p.pack neg (2 ^ p.ebits - 2) (2 ^ p.mbits - 1)
  | .e4m3 => p.pack neg (2 ^ p.ebits - 1) (2 ^ p.mbits - 2)
  | .finite => p.pack neg (2 ^ p.ebits - 1) (2 ^ p.mbits - 1)

/-- R103: whether IEEE overflow gives an infinity for the mode and sign (SR counts as RNE here). -/
def overflowsToInf (rnd : Nat) (neg : Bool) : Bool :=
  if rnd = rtz then false else if rnd = rup then !neg else if rnd = rdn then neg else true

/-- R103: what a finite overflow gives. -/
def Fp.overflow (p : Fp) (rnd : Nat) (sat neg : Bool) : Nat :=
  if sat then p.packMax neg
  else match p.top with
    | .ieee => if overflowsToInf rnd neg then p.pack neg (2 ^ p.ebits - 1) 0 else p.packMax neg
    | .e4m3 => if overflowsToInf rnd neg then 0x7F else p.packMax neg
    | .finite => p.packMax neg

/-- R103: what an infinite input gives. -/
def Fp.ofInf (p : Fp) (sat neg : Bool) : Nat :=
  if sat then p.packMax neg
  else match p.top with
    | .ieee => p.pack neg (2 ^ p.ebits - 1) 0
    | .e4m3 => 0x7F
    | .finite => p.packMax neg

/-- R131: the unrounded magnitude `m * 2^e` (plus less than one unit where `sticky`) split at the last place `2^q`:
the smaller neighbour, the rest and the width of the rest. -/
def splitAt (m : Nat) (e q : Int) : Nat × Nat × Nat :=
  if q ≤ e then (m <<< (e - q).toNat, 0, 0)
  else let sh := (q - e).toNat; (m >>> sh, m % 2 ^ sh, sh)

/-- R131: the exponent of the last place of the result for a non-zero magnitude `m * 2^e`. -/
def Fp.lastPlace (p : Fp) (m : Nat) (e : Int) : Int :=
  max ((flog2 m : Int) + e) (1 - (p.bias : Int)) - p.mbits

/-- R131 `encode`: the code of `n * 2^q`, `n < 2^(mbits+1) + 1`, with overflow under R103. -/
def Fp.encode (p : Fp) (rnd : Nat) (sat neg : Bool) (n : Nat) (q : Int) : Nat :=
  let (n, q) := if n = 2 ^ (p.mbits + 1) then (2 ^ p.mbits, q + 1) else (n, q)
  let (mx, qx) := p.maxFinite
  if qx < q ∨ (q = qx ∧ mx < n) then p.overflow rnd sat neg
  else if n < 2 ^ p.mbits then p.pack neg 0 n
  else p.pack neg (q + p.mbits + p.bias).toNat (n - 2 ^ p.mbits)

/-- R103, R118: IEEE overflow under RNE begins half a last place above the largest finite value, which decides a tie there. -/
def Fp.overTie (p : Fp) (rnd lo rest sh : Nat) (q : Int) : Bool :=
  rnd == rne && decide (q = p.maxFinite.2) && lo == p.maxFinite.1 && decide (2 ^ sh ≤ 2 * rest)

/-- Round a non-zero finite magnitude into a floating-point format (R101, R131). -/
def Fp.round (p : Fp) (rnd : Nat) (sat : Bool) (r : W32) (neg : Bool) (m : Nat) (e : Int) (sticky : Bool) : Nat :=
  let q := p.lastPlace m e
  let (lo, rest, sh) := splitAt m e q
  let up := roundUp rnd neg lo rest sh sticky r || p.overTie rnd lo rest sh q
  p.encode rnd sat neg (if up then lo + 1 else lo) q

/-- R104: clamp an integer into a format of `w` bits and give its code. -/
def clampInt (w : Nat) (uns : Bool) (i : Int) : Nat :=
  let lo : Int := if uns then 0 else -(2 ^ (w - 1) : Int)
  let hi : Int := if uns then (2 ^ w : Int) - 1 else (2 ^ (w - 1) : Int) - 1
  let c := if i < lo then lo else if hi < i then hi else i
  (c % (2 ^ w : Int)).toNat

/-- R103, R104: into an integer format. -/
def roundInt (w : Nat) (uns : Bool) (rnd : Nat) (r : W32) (v : Val) : Nat :=
  match v with
  | .nan => 0
  | .inf n => if n then clampInt w uns (-(2 ^ 64 : Int)) else clampInt w uns (2 ^ 64 : Int)
  | .fin neg m e =>
    let (lo, rest, sh) := splitAt m e 0
    let n := if roundUp rnd neg lo rest sh false r then lo + 1 else lo
    clampInt w uns (if neg then -(n : Int) else n)

/-- R101, R103: round a value once into a format. A zero gives `+0` (R98); `zneg` is the sign of a zero where the
operation follows the IEEE 754 sign rules. `mx` marks an MXINT8 target (R114). -/
def roundVal (fmt : Nat) (uns mx : Bool) (rnd : Nat) (sat : Bool) (r : W32) (zneg : Bool) (v : Val) : Nat :=
  match fpOf fmt with
  | none => roundInt (intBits fmt) uns rnd r (if mx && fmt == 12 then v.scale 6 else v)
  | some p =>
    match v with
    | .nan => if p.top = .finite then 0 else canonNan fmt
    | .inf n => p.ofInf sat n
    | .fin neg m e => if m = 0 then p.pack zneg 0 0 else p.round rnd sat r neg m e false

/-! ### Packing of elements (R90) -/

/-- Element `i` of a packed string of bytes read as one little-endian number: every format of fewer than 8 bits lies
at bit `i * width`, which is R90's 4-bit and 6-bit placement. -/
def elemOf (fmt w i : Nat) : Nat := (w >>> (i * fmtBits fmt)) % 2 ^ fmtBits fmt

/-- The number with bits `[lo + n - 1 : lo]` replaced. -/
def setField (w lo n x : Nat) : Nat :=
  (w >>> (lo + n)) <<< (lo + n) ||| (x % 2 ^ n) <<< lo ||| w % 2 ^ lo

/-- A format code of R118: its format, UNS and MX, refused where R118 refuses it. -/
def formatCode (b : Nat) : Option (Nat × Bool × Bool) :=
  let f := b % 16
  let uns := (b >>> 4) % 2 == 1
  let mx := (b >>> 5) % 2 == 1
  if b / 64 ≠ 0 ∨ f = 15 then none
  else if uns && !(f == 12 || f == 13) then none
  else if mx && !isMxFmt f uns then none
  else some (f, uns, mx)

end Sys2Proof.Machine
end

