-- ==== Sys2Proof/Machine/Arith.lean ====
section
/-! DEFINITION. Lane arithmetic of the vector unit, the FP64 chain, and the correctly rounded functions (R97 to R104,
R134, R619). -/

namespace Sys2Proof.Machine

/-- An exact result and the sign a zero result takes under the operation's own rule. -/
structure Exact where
  v : Val
  zneg : Bool
deriving DecidableEq, Repr

/-- R98: an exact sum that is zero gives `+0` in every mode. -/
def addExact (a b : Val) : Exact :=
  match a, b with
  | .nan, _ => ⟨.nan, false⟩
  | _, .nan => ⟨.nan, false⟩
  | .inf x, .inf y => ⟨if x = y then .inf x else .nan, false⟩
  | .inf x, _ => ⟨.inf x, false⟩
  | _, .inf y => ⟨.inf y, false⟩
  | a, b => let u := Val.unit a b; ⟨Val.ofUnits (a.units u + b.units u) u, false⟩

/-- The exact product; a zero takes the product of the signs (R98). -/
def mulExact (a b : Val) : Exact :=
  let s := a.isNeg != b.isNeg
  match a, b with
  | .nan, _ => ⟨.nan, false⟩
  | _, .nan => ⟨.nan, false⟩
  | .inf _, b => ⟨if b.isZero then .nan else .inf s, false⟩
  | a, .inf _ => ⟨if a.isZero then .nan else .inf s, false⟩
  | .fin _ m e, .fin _ n f => ⟨.fin s (m * n) (e + f), s⟩

/-- The exact product plus a third operand, with the IEEE 754 sign of a zero for the mode (R98). -/
def fmaExact (rnd : Nat) (a b c : Val) : Exact :=
  let p := mulExact a b
  let s := addExact p.v c
  match p.v, c with
  | .fin ps pm _, .fin cs cm _ =>
    if pm = 0 ∧ cm = 0 ∧ ps = cs then ⟨s.v, cs⟩ else ⟨s.v, rnd == rdn⟩
  | _, _ => s

/-- R134: one IEEE binary64 fused multiply-add, rounded RNE, NaN canonical. -/
def fma64 (a b c : W64) : W64 :=
  let d := fun (x : W64) => decodeVal 0 false x.toNat
  let r := fmaExact rne (d a) (d b) (d c)
  BitVec.ofNat 64 (roundVal 0 false false rne false 0#32 r.zneg r.v)

/-! ### Lanes -/

/-- Lanes of a vector register: 16 of 8 bytes for FP64, 32 of 4 bytes otherwise (R618). -/
def laneBits (vfmt : Nat) : Nat := if vfmt = 0 then 64 else 32
def laneCount (vfmt : Nat) : Nat := if vfmt = 0 then 16 else 32

def laneOf (w : Nat) (v : BitVec 1024) (i : Nat) : Nat := (v.toNat >>> (i * w)) % 2 ^ w

/-- Build a register from a function of the lane index. -/
def ofLanes (w : Nat) (f : Nat → Nat) : Nat → Nat
  | 0 => 0
  | n + 1 => ofLanes w f n ||| (f n % 2 ^ w) <<< (n * w)

/-- Whether a predicate enables a lane; predicate 0 enables all (R58). -/
def laneOn (p : W32) (i : Nat) : Bool := p.toNat.testBit i

/-- New lanes where enabled, the old ones elsewhere (R58). -/
def mergeLanes (vfmt : Nat) (p : W32) (old : BitVec 1024) (f : Nat → Nat) : BitVec 1024 :=
  let w := laneBits vfmt
  BitVec.ofNat 1024 (ofLanes w (fun i => if laneOn p i then f i else laneOf w old i) (laneCount vfmt))

/-- The two-operand operations of VADD, VSUB, VMUL. -/
inductive Bin where | add | sub | mul
deriving DecidableEq, Repr

/-- One lane of VADD, VSUB or VMUL (R100 for INT32; R98, R101, R103 for the floating formats). -/
def binLane (op : Bin) (vfmt rnd : Nat) (r : W32) (a b : Nat) : Nat :=
  if vfmt = 11 then
    match op with
    | .add => (a + b) % 2 ^ 32
    | .sub => (a + 2 ^ 32 - b) % 2 ^ 32
    | .mul => (a * b) % 2 ^ 32
  else
    let x := decodeVal vfmt false a
    let y := decodeVal vfmt false b
    let e := match op with
      | .add => addExact x y
      | .sub => addExact x y.neg
      | .mul => mulExact x y
    roundVal vfmt false false rnd false r e.zneg e.v

def fmaLane (vfmt rnd : Nat) (r : W32) (a b c : Nat) : Nat :=
  if vfmt = 11 then (a * b + c) % 2 ^ 32
  else
    let d := decodeVal vfmt false
    let e := fmaExact rnd (d a) (d b) (d c)
    roundVal vfmt false false rnd false r e.zneg e.v

/-- R100: order of two lanes for VMIN and VMAX, `-0` below `+0`. -/
def laneBelow (x y : Val) : Bool :=
  let c := Val.cmp x y
  c < 0 || (c == 0 && x.isNeg && !y.isNeg)

/-- R100: VMIN (`mx = false`) and VMAX. -/
def minMaxLane (mx : Bool) (vfmt a b : Nat) : Nat :=
  if vfmt = 11 then
    let less := decodeInt 32 false a < decodeInt 32 false b
    if less != mx then a else b
  else
    let x := decodeVal vfmt false a
    let y := decodeVal vfmt false b
    match x.isNan, y.isNan with
    | true, true => canonNan vfmt
    | true, false => b
    | false, true => a
    | false, false => if laneBelow x y != mx then a else b

/-- R100: VABS and VNEG. -/
def absLane (vfmt a : Nat) : Nat :=
  if vfmt = 11 then (decodeInt 32 false a).natAbs % 2 ^ 32 else a % 2 ^ (laneBits vfmt - 1)

def negLane (vfmt a : Nat) : Nat :=
  if vfmt = 11 then (2 ^ 32 - a) % 2 ^ 32 else a ^^^ 2 ^ (laneBits vfmt - 1)

/-- R58, R100: the relation of VCMP by VC[2:0]; 7 is not defined. -/
def cmpLane (rel vfmt a b : Nat) : Bool :=
  let x := decodeVal vfmt false a
  let y := decodeVal vfmt false b
  let un := x.isNan || y.isNan
  let c := Val.cmp x y
  match rel with
  | 0 => !un && c == 0
  | 1 => un || c != 0
  | 2 => !un && c < 0
  | 3 => !un && c ≤ 0
  | 4 => !un && c > 0
  | 5 => !un && c ≥ 0
  | _ => un

/-- R618: shifts by the unsigned lane of VB. -/
def shlLane (w a n : Nat) : Nat := if w ≤ n then 0 else (a <<< n) % 2 ^ w

def shrLane (w : Nat) (arith : Bool) (a n : Nat) : Nat :=
  if arith then
    (BitVec.sshiftRight (BitVec.ofNat w a) (min n w)).toNat
  else if w ≤ n then 0 else a >>> n

/-! ### The correctly rounded functions of R619 -/

/-- Newton iteration from above; `fuel` bounds the steps. -/
def isqrtGo : Nat → Nat → Nat → Nat
  | 0, _, x => x
  | fuel + 1, n, x => let y := (x + n / x) / 2; if y < x then isqrtGo fuel n y else x

/-- floor of the square root. -/
def isqrt (n : Nat) : Nat :=
  if n = 0 then 0 else isqrtGo (flog2 n + 8) n (2 ^ (flog2 n / 2 + 1))

/-- Round a positive or negative magnitude with a sticky remainder, RNE, SAT = 0. -/
def roundSticky (vfmt : Nat) (neg : Bool) (m : Nat) (e : Int) (sticky : Bool) : Nat :=
  match fpOf vfmt with
  | none => 0
  | some p => if m = 0 then p.pack neg 0 0 else p.round rne false 0#32 neg m e sticky

/-- Extra bits of quotients and roots, far below the last place of FP64. -/
def guardBits : Nat := 160

def rcpLane (vfmt a : Nat) : Nat :=
  match decodeVal vfmt false a with
  | .nan => canonNan vfmt
  | .inf n => roundSticky vfmt n 0 0 false
  | .fin n m e =>
    if m = 0 then roundVal vfmt false false rne false 0#32 false (.inf n)
    else
      let k := flog2 m + guardBits
      roundSticky vfmt n (2 ^ k / m) (-(k : Int) - e) (2 ^ k % m != 0)

def rsqLane (vfmt a : Nat) : Nat :=
  match decodeVal vfmt false a with
  | .nan => canonNan vfmt
  | .inf n => if n then canonNan vfmt else 0
  | .fin n m e =>
    if m = 0 then roundVal vfmt false false rne false 0#32 false (.inf n)
    else if n then canonNan vfmt
    else
      let (m, e) := if e % 2 = 0 then (m, e) else (2 * m, e - 1)
      let k := flog2 m + guardBits
      let s := isqrt (2 ^ (2 * k) / m)
      roundSticky vfmt false s (-(k : Int) - e / 2) (s * s * m != 2 ^ (2 * k))

/-- Bits of the fraction that VEXP2 and VLOG2 work to. PRESUMED: no result of FP64 lies so near a rounding boundary
that more are needed. -/
def fracBits : Nat := 256

/-- `2^f` for the fraction whose first `n` bits are the top bits of `f`, as a number scaled by `2^fracBits`: the bits
are taken from the last to the first, each by a square root. -/
def exp2Frac (f : Nat) : Nat → Nat
  | 0 => 2 ^ fracBits
  | n + 1 =>
    let y := exp2Frac (f / 2) n
    isqrt ((if f % 2 = 1 then 2 * y else y) * 2 ^ fracBits)

/-- The bits of a number of `n` bits in reverse order. -/
def revBits : Nat → Nat → Nat
  | 0, _ => 0
  | n + 1, x => (x % 2) * 2 ^ n + revBits n (x / 2)

def exp2Lane (vfmt a : Nat) : Nat :=
  match decodeVal vfmt false a with
  | .nan => canonNan vfmt
  | .inf n => if n then 0 else roundVal vfmt false false rne false 0#32 false (.inf false)
  | .fin n m e =>
    if m = 0 then roundSticky vfmt false 1 0 false
    else if 0 < (flog2 m : Int) + e - 12 then
      (if n then 0 else roundVal vfmt false false rne false 0#32 false (.inf false))
    else
      -- the input in units of 2^-fracBits, rounded towards minus infinity
      let x : Int :=
        if 0 ≤ e + fracBits then (Val.fin n m e).units (-(fracBits : Int))
        else
          let sh := (-(e + fracBits)).toNat
          let q : Int := (m >>> sh : Nat)
          if n then (if m % 2 ^ sh = 0 then -q else -q - 1) else q
      let whole := x / (2 ^ fracBits : Int)
      let frac := (x % (2 ^ fracBits : Int)).toNat
      let exact := frac == 0 && (if 0 ≤ e + fracBits then true else m % 2 ^ (-(e + fracBits)).toNat == 0)
      if exact then roundSticky vfmt false 1 whole false
      else roundSticky vfmt false (exp2Frac (revBits fracBits frac) fracBits) (whole - fracBits) true

/-- Working precision of the squarings of VLOG2. -/
def logBits : Nat := 640

/-- The first `n` bits of log2 of `u / 2^logBits`, `1 ≤ u / 2^logBits < 2`, appended to `acc`. -/
def log2Frac : Nat → Nat → Nat → Nat
  | 0, _, acc => acc
  | n + 1, u, acc =>
    let v := (u * u) >>> logBits
    if 2 ^ (logBits + 1) ≤ v then log2Frac n (v / 2) (2 * acc + 1) else log2Frac n v (2 * acc)

def log2Lane (vfmt a : Nat) : Nat :=
  match decodeVal vfmt false a with
  | .nan => canonNan vfmt
  | .inf n => if n then canonNan vfmt else roundVal vfmt false false rne false 0#32 false (.inf false)
  | .fin n m e =>
    if m = 0 then roundVal vfmt false false rne false 0#32 false (.inf true)
    else if n then canonNan vfmt
    else
      let l := flog2 m
      let whole : Int := (l : Int) + e
      if m = 2 ^ l then roundSticky vfmt (whole < 0) whole.natAbs 0 false
      else
        let f := log2Frac fracBits (m <<< (logBits - l)) 0
        let x : Int := whole * (2 ^ fracBits : Int) + f
        if x < 0 then roundSticky vfmt true (-x - 1).toNat (-(fracBits : Int)) true
        else roundSticky vfmt false x.toNat (-(fracBits : Int)) true

/-! ### VRED (R138) -/

/-- One level of the tree: neighbours are added with the draws from `g` on. -/
def redLevel (vfmt rnd : Nat) : W32 → List Nat → List Nat
  | g, x :: y :: rest => binLane .add vfmt rnd (draw g) x y :: redLevel vfmt rnd (draw g) rest
  | _, xs => xs

/-- The whole tree over a power-of-two number of lanes; under SR each addition takes its draw in order (R107). -/
def redTree (vfmt rnd : Nat) : Nat → W32 → List Nat → Nat
  | 0, _, xs => xs.headD 0
  | n + 1, g, xs => redTree vfmt rnd n (draws g (xs.length / 2)) (redLevel vfmt rnd g xs)

/-! ### XA640 (R124 to R131) -/

/-- The state of an exact accumulator (R125). -/
inductive XaSt where | fin | pinf | ninf | nan
deriving DecidableEq, Repr

/-- An exact accumulator: a state, and for a finite one the value in units of `2^-298` (R124). -/
structure Xa where
  st : XaSt
  v : Int
deriving DecidableEq, Repr

def Xa.zero : Xa := ⟨.fin, 0⟩

/-- R125: the finite range in units of `2^-298`. -/
def Xa.inRange (v : Int) : Bool := -(2 ^ 638 : Int) ≤ v && v < 2 ^ 638

/-- R128: settle an exact sum into the accumulator. -/
def Xa.ofInt (v : Int) : Xa :=
  if Xa.inRange v then ⟨.fin, v⟩ else if v < 0 then ⟨.ninf, 0⟩ else ⟨.pinf, 0⟩

/-- R124, R125: the 640-bit image. -/
def Xa.image (x : Xa) : Nat :=
  match x.st with
  | .fin => (x.v % (2 ^ 640 : Int)).toNat
  | .pinf => 0x40 * 2 ^ 632 + 1
  | .ninf => 0x40 * 2 ^ 632 + 2
  | .nan => 0x40 * 2 ^ 632 + 3

/-- R126: load an image; an invalid one gives the NaN state. -/
def Xa.ofImage (w : Nat) : Xa :=
  let b : Nat := w % 2 ^ 640
  let top := b / 2 ^ 638
  if top = 0 then ⟨.fin, (b : Int)⟩
  else if top = 3 then ⟨.fin, (b : Int) - 2 ^ 640⟩
  else if b = 0x40 * 2 ^ 632 + 1 then ⟨.pinf, 0⟩
  else if b = 0x40 * 2 ^ 632 + 2 then ⟨.ninf, 0⟩
  else ⟨.nan, 0⟩

/-- R99: what one product contributes, taking in its two block scales. -/
def xaProduct (a b sa sb : Val) : Xa :=
  let p := (mulExact (mulExact a b).v (mulExact sa sb).v).v
  match p with
  | .nan => ⟨.nan, 0⟩
  | .inf n => ⟨if n then .ninf else .pinf, 0⟩
  | .fin .. => ⟨.fin, p.units (-298)⟩

/-- R99, R127: combine two contributions exactly, without the range check of R128. -/
def Xa.join (x y : Xa) : Xa :=
  match x.st, y.st with
  | .nan, _ => ⟨.nan, 0⟩
  | _, .nan => ⟨.nan, 0⟩
  | .pinf, .ninf => ⟨.nan, 0⟩
  | .ninf, .pinf => ⟨.nan, 0⟩
  | .pinf, _ => ⟨.pinf, 0⟩
  | .ninf, _ => ⟨.ninf, 0⟩
  | .fin, .pinf => ⟨.pinf, 0⟩
  | .fin, .ninf => ⟨.ninf, 0⟩
  | .fin, .fin => ⟨.fin, x.v + y.v⟩

/-- R127, R128: the accumulator after one admitted step whose products are `ps`. -/
def Xa.step (x : Xa) (ps : List Xa) : Xa :=
  let y := ps.foldl Xa.join x
  match y.st with
  | .fin => Xa.ofInt y.v
  | _ => y

/-- R131: the accumulator's value as an exact value to round out. -/
def Xa.val (x : Xa) : Val :=
  match x.st with
  | .fin => Val.ofUnits x.v (-298)
  | .pinf => .inf false
  | .ninf => .inf true
  | .nan => .nan

/-! ### XW64 (R140 to R143) -/

/-- R140: the INVALID code. -/
def xwInvalid : W64 := 0x8000000000000000#64

/-- R141: a value into a window at anchor `k`, RNE. -/
def xwOf (k : Int) (v : Val) : W64 :=
  match v with
  | .fin neg m e =>
    let (lo, rest, sh) := splitAt m e k
    let n := if roundUp rne neg lo rest sh false 0#32 then lo + 1 else lo
    if 2 ^ 63 ≤ n then xwInvalid else BitVec.ofInt 64 (if neg then -(n : Int) else n)
  | _ => xwInvalid

/-- R142: XW64 addition. -/
def xwAdd (a b : W64) : W64 :=
  if a = xwInvalid ∨ b = xwInvalid then xwInvalid
  else
    let s := a.toInt + b.toInt
    if s < -(2 ^ 63 - 1) ∨ 2 ^ 63 - 1 < s then xwInvalid else BitVec.ofInt 64 s

/-- R143: round a window out into a format. -/
def xwOut (k : Int) (fmt rnd : Nat) (w : W64) : Nat :=
  if w = xwInvalid then (if isIntFmt fmt then 0 else canonNan fmt)
  else roundVal fmt false false rnd false 0#32 false (Val.ofUnits w.toInt k)

end Sys2Proof.Machine
end

