-- ==== Sys2Proof/Machine/TileState.lean ====
section
/-! DEFINITION. The state of one Serac tile (R36 to R86, R120 to R122). -/

namespace Sys2Proof.Machine

/-- R49: a completion counter CC*k*, or the run-ahead count of a window (R69). -/
structure Counter where
  count : W32
  /-- The first non-OK completion code; 0 is OK. -/
  code : Byte
  /-- How many completions were not OK. -/
  bad : W32
  tolerant : Bool
deriving DecidableEq, Repr

/-- R48: an active hardware loop: its first and last bundle and the passes still to run. -/
structure LoopLevel where
  first : Nat
  last : Nat
  left : W64
deriving DecidableEq, Repr

/-- R120: an accumulator set, in XA mode (`fp64 = false`) or FP64 mode. -/
structure AccSet where
  fp64 : Bool
  xa : RF 4 Xa
  fp : RF 4 W64
deriving DecidableEq, Repr

/-- R50: the operations that the matrix queue holds. -/
inductive MatKind where | mma | mmaz | mout | moutz | mzero | mload
deriving DecidableEq, Repr

/-- R51, R107: a queued matrix operation with its copied descriptor, addresses and generator state. -/
structure MatOp where
  kind : MatKind
  desc : BitVec 256
  aa : BitVec 20
  ab : BitVec 20
  ac : BitVec 20
  set : BitVec 1
  /-- Depth steps in all, and steps admitted so far. -/
  count : Nat
  done : Nat
  g : W32
deriving DecidableEq, Repr

/-- R42, R60: a vector result not yet written, to a vector register or to a predicate. -/
inductive VPend where
  | reg (r : BitVec 5) (v : BitVec 1024)
  | pred (p : BitVec 2) (v : W32)
deriving DecidableEq, Repr

/-- R64: what a link operation does with its flits. -/
inductive LinkKind where | recv | pass | passw
deriving DecidableEq, Repr

/-- An SSEND in progress (R61, R63). -/
structure SendOp where
  cc : BitVec 4
  addr : BitVec 20
  left : Nat
deriving DecidableEq, Repr

/-- What holds the send channel of a direction: an SSEND, or a SPASS from another direction (R62). -/
inductive SendCh where
  | idle
  | send (op : SendOp)
  | pass (dir : BitVec 2)
deriving DecidableEq, Repr

/-- An SRECV, SPASS or SPASSW in progress on a receive channel. -/
structure RecvOp where
  kind : LinkKind
  dir2 : BitVec 2
  cc : BitVec 4
  addr : BitVec 20
  left : Nat
deriving DecidableEq, Repr

/-- A 64-byte flit and its poison mark (R38, R63). -/
structure Flit where
  data : BitVec 512
  poison : Bool
deriving DecidableEq, Repr

/-- R61: the operations that share the memory queue. -/
inductive MemKind where | frd | fwr | gld | gst | gat | gstf | ffl | fiv
deriving DecidableEq, Repr

/-- R62: an operation of the memory queue, after its segment check. -/
structure MemOp where
  id : Nat
  kind : MemKind
  /-- Address in the tile SRAM. -/
  addr : BitVec 20
  /-- Global address of the first byte (R162). -/
  ga : Nat
  /-- FC of the segment (R191). -/
  fc : Bool
  /-- Bytes moved; 256 a line for FFL and FIV. -/
  bytes : Nat
  cc : BitVec 4
  atop : BitVec 4
  /-- Bytes already sent to the Firn, and bytes already answered. -/
  sent : Nat
  done : Nat
  /-- The first completion code that is not OK; 0 so far. -/
  code : Byte
deriving DecidableEq, Repr

/-- R68: an entry of a run-ahead list: its number in the run, its block, address, length and place in the SRAM, and
the bytes requested and answered so far with the first code that is not OK. -/
structure RaEntry where
  id : Nat
  block : Nat
  seg : BitVec 4
  off : BitVec 40
  len : Nat
  dst : Nat
  sent : Nat
  done : Nat
  code : Byte
  /-- R329: parts that were refused for want of PF and are issued again when the block runs: offset and length. -/
  redo : List (Nat × Nat)
deriving DecidableEq, Repr

/-- A run-ahead reply: completion code, data, and its poisoned 32-byte sectors counted from the first byte's. -/
structure RaRsp where
  code : Byte
  data : List Byte
  poison : NSet
deriving DecidableEq, Repr

/-- R69, R72: an outstanding run-ahead request, of at most 512 bytes of an entry. -/
structure RaReq where
  id : Nat
  epoch : Byte
  entry : Nat
  /-- Byte in the entry, and length. -/
  off : Nat
  len : Nat
  ga : Nat
  fc : Bool
  /-- Issued before its block runs (R70). -/
  early : Bool
  /-- It has reached the Firn; its reply, once there is one. -/
  sent : Bool
  rsp : Option RaRsp
deriving DecidableEq, Repr

/-- R49: what a completed operation is counted on: a completion counter, or the window of a block. -/
inductive CountTo where
  | cc (k : BitVec 4)
  | window (block : Nat)
deriving DecidableEq, Repr

/-- What a tile is doing. -/
inductive TileSt where
  | free                  -- held by no program
  | zeroing               -- zeroing before a load (R178)
  | ready                 -- zeroed, to be loaded or released
  | running
  | sliceHold             -- holds at a SLICE (R82)
  | barrier               -- executed DONE (R179)
  | halted                -- executed HALT
  | stopped               -- stopped by a fault or an abort (R73, R74)
deriving DecidableEq, Repr

/-- The run-ahead unit (R69 to R72). -/
structure RunAhead where
  /-- The block that runs; none before the first BLK. -/
  block : Option Nat
  /-- The blocks expected after it, as far as run-ahead has reached them, in order. -/
  reached : List Nat
  /-- The depth in force for the run (R69, R87). -/
  depth : Nat
  epoch : Byte
  counts : RF 3 Counter
  /-- The block that owns each window. -/
  owner : RF 3 (Option Nat)
  /-- Entries of the block that runs and of the reached blocks that are not complete, in block and list order. -/
  entries : List RaEntry
  out : List RaReq
  nextId : Nat
deriving DecidableEq, Repr

/-- One tile. -/
structure Tile where
  st : TileSt
  /-- PROG_TAG of the program that holds the tile. -/
  prog : Option W32
  /-- Number of the next bundle (R41). -/
  bundle : Nat
  /-- Region sizes set by the image (R39): bytes of code, bytes of staging area. -/
  codeBytes : Nat
  stageBytes : Nat
  loops : RF 2 (Option LoopLevel)
  /-- The last eight fetched lines, newest first (R43). -/
  fetch : List Nat
  a : RF 4 (BitVec 20)
  s : RF 4 W64
  cc : RF 4 Counter
  md : RF 4 (BitVec 256)
  v : RF 5 (BitVec 1024)
  p : RF 2 W32
  rnd : BitVec 3
  g : W32
  acc : RF 1 AccSet
  sram : Mem
  /-- 16-byte words that hold uncorrectable data (R38). -/
  uc : NSet
  matQ : List MatOp
  vPend : List VPend
  /-- Post-increments of the bundle being issued, applied when its control slot issues (R44). -/
  postA : RF 4 (BitVec 20)
  postS : RF 4 W64
  sendCh : RF 2 SendCh
  recvCh : RF 2 (Option RecvOp)
  /-- Operations that have ended and wait to be counted (R49, R64), with their completion codes, oldest first. -/
  doneOps : List (CountTo × Byte)
  linkBuf : RF 2 (List Flit)
  /-- Flits on the wire towards this tile, by the direction they arrive from, oldest first. -/
  wire : RF 2 (List Flit)
  /-- Credits this tile holds towards each neighbour (R63). -/
  credit : RF 2 Nat
  memQ : List MemOp
  nextOp : Nat
  ra : RunAhead
  phase : Nat
  /-- The last slice point reached, and whether a preemption is asked for (R82). -/
  slice : Nat
  holdReq : Bool
  /-- The slice at which to hold once N0 has set it. -/
  holdAt : Option Nat
deriving DecidableEq, Repr

def Counter.zero : Counter := ⟨0, 0, 0, false⟩

/-- R120: both sets are in XA mode and hold 0 at program start. -/
def AccSet.zero : AccSet := ⟨false, RF.all 4 Xa.zero, RF.all 4 0⟩

def RunAhead.reset : RunAhead :=
  { block := none, reached := [], depth := 0, epoch := 0, counts := RF.all 3 Counter.zero, owner := RF.all 3 none,
    entries := [], out := [], nextId := 0 }

/-- A tile that holds nothing: registers as a program finds them, SRAM zero, and 4 credits on every link (R63). -/
def Tile.reset : Tile :=
  { st := .free, prog := none, bundle := 0, codeBytes := 0, stageBytes := 0, loops := RF.all 2 none, fetch := [],
    a := RF.all 4 0, s := RF.all 4 0, cc := RF.all 4 Counter.zero, md := RF.all 4 0, v := RF.all 5 0,
    p := RF.put (RF.all 2 0) 0 (BitVec.allOnes 32), rnd := 0, g := 0x9E3779B9#32, acc := RF.all 1 AccSet.zero,
    sram := [], uc := [], matQ := [], vPend := [], postA := RF.all 4 0, postS := RF.all 4 0,
    sendCh := RF.all 2 .idle, recvCh := RF.all 2 none, doneOps := [], linkBuf := RF.all 2 [], wire := RF.all 2 [],
    credit := RF.all 2 4, memQ := [], nextOp := 0, ra := RunAhead.reset, phase := 0, slice := 0, holdReq := false,
    holdAt := none }

/-- R77: what a tile of the map is. -/
inductive MapSt where | enabled | fused | retired
deriving DecidableEq, Repr

/-- R77: the bandwidth class of a tile. -/
inductive BwClass where | full | half | none
deriving DecidableEq, Repr

structure MapEnt where
  bw : BwClass
  st : MapSt
deriving DecidableEq, Repr

/-- R77: the tile map: entries that differ from an enabled tile at FULL, and the header's variable fields. -/
structure TileMap where
  ents : SMap MapEnt
  conform : Bool
deriving DecidableEq, Repr

/-- The Serac side of the device. -/
structure Serac where
  tiles : SMap Tile
  map : TileMap
  /-- The map has been put in force at the end of a THAW (R85). -/
  mapOn : Bool
  mapNext : TileMap
  /-- R80: the tile retirement list held in the Moraine store, and the volatile copy. -/
  retiredStore : NSet
  retiredList : NSet
  /-- Retired tiles whose bit N5 has yet to write to the store. -/
  retirePending : NSet
  faultCount : W32
  /-- R86, per stack: run-ahead depth limit, run-ahead enable, CFG_IGNORED, last fault code. -/
  raMax : RF 2 Nat
  raEn : RF 2 Bool
  /-- A TILE_RA_ENABLE write that waits for the stack's EN to be 0 (R85). -/
  raPend : RF 2 (Option Bool)
  cfgIgnored : RF 2 Bool
  lastFault : RF 2 Byte
deriving DecidableEq, Repr

/-- R77, R86: an enabled tile at FULL is the default of the map. -/
def MapEnt.full : MapEnt := ⟨.full, .enabled⟩

/-- R76: the map of a part as it is made: whole rows fused off, every other tile enabled at FULL. -/
def TileMap.ofRows (rows : RF 2 (List Nat)) : TileMap :=
  ⟨(List.range 4).flatMap (fun t => (RF.at rows (BitVec.ofNat 2 t)).flatMap (fun y =>
    (List.range 16).map (fun x => (256 * t + 16 * y + x, ⟨.none, .fused⟩)))), true⟩

def Serac.reset (rows : RF 2 (List Nat)) : Serac :=
  { tiles := [], map := TileMap.ofRows rows, mapOn := false, mapNext := TileMap.ofRows rows, retiredStore := [], retiredList := [], retirePending := [],
    faultCount := 0, raMax := RF.all 2 4, raEn := RF.all 2 true, raPend := RF.all 2 none, cfgIgnored := RF.all 2 false,
    lastFault := RF.all 2 0 }

end Sys2Proof.Machine
end

