-- ==== Sys2Proof/Machine/State.lean ====
section
/-! DEFINITION. The state of one T24, why a command can stop, and the state after reset. -/

namespace Sys2Proof.Machine

/-- Why a command stops with a fault: no command does. Every command of the spec has an effect. -/
inductive Fault where
deriving DecidableEq, Repr

/-- Why a command is refused. -/
inductive Refusal where
  /-- Raised by Dispatch for a command that has no meaning yet. Safe. -/
  | notModelled (mnemonic : String)
deriving DecidableEq, Repr

/-- The whole device, and the commands that wait for it. -/
structure State where
  part : Part
  pkg : Pkg
  pins : Pins
  cal : Cal
  sec : Sec
  firm : Firm
  sched : Sched
  serac : Serac
  firn : Firn
  hbm : Hbm
  floe : Floe
  fab : Fab
  mem : MemSem
  clk : Clk
  pow : Power
  dict : Dict
  regs : Regs
  errs : Errs
  cvu : RF 4 Cvu
  mor : Moraine
  /-- Commands that wait, the front one next. -/
  pending : List Instr
  /-- The model's own: how many free values have been drawn (log entry 3). -/
  free : Nat
  /-- The model's own: everything sent out, newest last (log entry 4). -/
  outbox : List Output
deriving DecidableEq, Repr

/-- The device right after reset: PERST_N released, THAW before its first step, every register at its reset value. -/
def State.reset : State :=
  { part := Part.reset, pkg := Pkg.reset, pins := Pins.reset, cal := Cal.reset, sec := Sec.reset, firm := Firm.reset,
    sched := Sched.reset, serac := Serac.reset Part.reset.fusedRows, firn := Firn.reset, hbm := Hbm.reset, floe := Floe.reset,
    fab := Fab.reset, mem := MemSem.reset, clk := Clk.reset, pow := Power.reset, dict := Dict.reset,
    regs := Regs.reset, errs := Errs.reset, cvu := RF.all 4 Cvu.reset, mor := Moraine.reset, pending := [], free := 0,
    outbox := [] }

end Sys2Proof.Machine
end

