-- ==== Sys2Proof/Machine/Ops.lean ====
section
/-! DEFINITION. Shared operations: time, outputs, free values, interrupts, the log, errors and the mailbox. -/

namespace Sys2Proof.Machine

/-- The outcome type of every meaning. -/
abbrev Res := Host.Outcome State Fault Refusal

/-! ### Numbers and time -/

/-- Saturating increment of a counter (R389). -/
def satInc {w : Nat} (x : BitVec w) : BitVec w := if x = BitVec.allOnes w then x else x + 1

/-- Saturating addition. -/
def satAdd {w : Nat} (x : BitVec w) (n : Nat) : BitVec w :=
  if 2 ^ w ≤ x.toNat + n then BitVec.allOnes w else BitVec.ofNat w (x.toNat + n)

/-- R389: serial order: `a` is before `b`. -/
def serBefore {w : Nat} (a b : BitVec w) : Bool := 1 ≤ (b - a).toNat && (b - a).toNat < 2 ^ (w - 1)

/-- R389: `a` is before `b` or equal to it. -/
def serLe {w : Nat} (a b : BitVec w) : Bool := (b - a).toNat < 2 ^ (w - 1)

/-- R7: fabric time units of 1/64 ns. -/
def nsU (n : Nat) : Nat := 64 * n
def usU (n : Nat) : Nat := 64000 * n
def msU (n : Nat) : Nat := 64000000 * n

/-- The local count, by which the device measures its own intervals. -/
def State.now (s : State) : W64 := s.clk.ftLocal

/-- Units elapsed since a local time. -/
def State.since (s : State) (t : W64) : Nat := (s.now - t).toNat

/-- Fabric time, 0 while FT_STATE is UNSET (R454, R515). -/
def State.ftime (s : State) : W64 := if s.clk.ftState = .unset then 0 else s.clk.ft

/-! ### Outputs and free values -/

def State.emit (s : State) (o : Output) : State := { s with outbox := s.outbox ++ [o] }

/-- A free value of `w` bits (log entry 3). -/
def State.drawFree (s : State) (w : Nat) : BitVec w × State :=
  (Config.freeValue w s.free, { s with free := s.free + 1 })

/-- `n` free bytes. -/
def State.drawBytes (s : State) (n : Nat) : List Byte × State :=
  (Config.freeBytes s.free n, { s with free := s.free + n })

/-! ### Device state -/

/-- R448, R442: vector 2 for a change of MBX_STATE, once the firmware runs. -/
def State.mbxChanged (s : State) : State := if s.firm.load.st = .done then s.emit (.msix 2) else s

/-- R3, R448: a change of the device state, which MBX_STATE shows. -/
def State.setDev (s : State) (d : DevSt) : State :=
  if s.pkg.dev = d then s else State.mbxChanged { s with pkg := { s.pkg with dev := d } }

def State.coreUp (s : State) (n : Nat) : Bool := (RF.at s.firm.cores (BitVec.ofNat 3 n)).st = .running

def State.onCores (s : State) (f : RF 3 Core → RF 3 Core) : State :=
  { s with firm := { s.firm with cores := f s.firm.cores } }
def State.onLoad (s : State) (f : Load → Load) : State := { s with firm := { s.firm with load := f s.firm.load } }
def State.onMbx (s : State) (f : Mbx → Mbx) : State := { s with firm := { s.firm with mbx := f s.firm.mbx } }
def State.onLog (s : State) (f : Log → Log) : State := { s with firm := { s.firm with log := f s.firm.log } }
def State.onLease (s : State) (f : Lease → Lease) : State :=
  { s with firm := { s.firm with lease := f s.firm.lease } }
def State.onDm (s : State) (f : Dm → Dm) : State := { s with firm := { s.firm with dm := f s.firm.dm } }
def State.onErrs (s : State) (f : Errs → Errs) : State := { s with errs := f s.errs }

/-! ### The log (R454, R455) -/

/-- R454: a log entry as made now; LOG_SEQ is set when N5 writes it. -/
def State.logEnt (s : State) (core sev point : Nat) (payload : List Byte) : LogEnt :=
  { ftime := s.ftime, seq := 0, bootUs := BitVec.ofNat 32 (s.since s.pkg.bootAt / 64000), core := core, sev := sev,
    point := point, payload := (payload ++ List.replicate 44 0#8).take 44 }

/-- R454: N5 writes an entry to the ring. -/
def Log.push (l : Log) (e : LogEnt) : Log :=
  { l with ents := ({ e with seq := l.nextSeq } :: l.ents).take 16384, nextSeq := l.nextSeq + 1 }

/-- R455: while N5 is down each core buffers up to 256 entries. -/
def Log.hold (l : Log) (e : LogEnt) : Log :=
  if (l.held.filter (fun x => x.core == e.core)).length < 256 then { l with held := l.held ++ [e] }
  else { l with lost := satInc l.lost }

/-- LOG_MIN_SEV 6 and 7 act as 5 (R476). -/
def Log.floor (l : Log) : Nat := min l.minSev 5

/-- R455, R448: a non-trace entry; `exempt` entries pass LOG_MIN_SEVERITY (R607). -/
def State.log (s : State) (core sev : Nat) (payload : List Byte) (exempt : Bool := false) : State :=
  if sev < s.firm.log.floor && !exempt then s
  else
    let e := s.logEnt core sev 0xFFFF payload
    let s := s.onLog (fun l => if s.coreUp 5 then l.push e else l.hold e)
    if 4 ≤ sev then s.emit (.msix 1) else s

/-! ### Errors (R512 to R527) -/

/-- R516: the UNIT code. -/
def unitCode (kind t inst : Nat) : W16 := BitVec.ofNat 16 (kind * 4096 + t * 1024 + inst)

/-- R515: the 64 bytes of a record. -/
def ErrRec.bytes (r : ErrRec) : List Byte :=
  let b := natLE 8 r.ftime.toNat ++ natLE 4 r.seq.toNat ++
    natLE 1 (r.cls.code + (if r.overlap then 4 else 0) + (if r.injected then 8 else 0) +
      (if r.escalated then 16 else 0) + (if r.duringFe then 32 else 0)) ++
    [r.overIdx] ++ natLE 2 r.unit.toNat ++ natLE 2 r.cause.toNat ++ [r.state, 0#8] ++ natLE 4 r.progTag.toNat ++
    natLE 8 r.addr.toNat ++ natLE 8 r.detail.toNat ++ natLE 4 r.repeats.toNat ++ natLE 4 r.optime.toNat ++
    natLE 4 r.cycles.toNat ++ List.replicate 8 0#8
  b ++ natLE 4 (crc32c b).toNat

/-- The slot with a number; none is EMPTY. -/
def Errs.slot (e : Errs) (i : Nat) : Option ErrSlot := SMap.get none e.slots i

/-- R518: whether a slot can take a record. -/
def Errs.slotFree (e : Errs) (i : Nat) : Bool :=
  match e.slot i with
  | none => true
  | some x => x.acked

/-- R518: the slot a raise takes: the lowest EMPTY or ACKED one; slot 63 only for an FE. -/
def Errs.pick (e : Errs) (cls : ErrCls) : Option Nat :=
  (List.range (if cls = .fe then 64 else 63)).find? e.slotFree

/-- R519: the NEW CE record that a CE merges into. -/
def Errs.mergeSlot (e : Errs) (unit cause : W16) : Option (Nat × ErrRec) :=
  e.slots.findSome? (fun p => match p.2 with
    | some x => if !x.acked && x.r.cls = .ce && x.r.unit = unit && x.r.cause = cause then some (p.1, x.r) else none
    | none => none)

/-- R520: the most recent NEW record of the same or a higher class. -/
def Errs.overlapOf (e : Errs) (cls : ErrCls) : Option Nat :=
  let c := e.slots.filterMap (fun p => match p.2 with
    | some x => if !x.acked && cls.code ≤ x.r.cls.code then some (p.1, x.r.seq) else none
    | none => none)
  (c.foldl (fun (b : Option (Nat × W32)) p => match b with
    | none => some p
    | some q => if serBefore q.2 p.2 then some p else some q) none).map Prod.fst

/-- R523: the earlier UC raises of a unit within the 1 ms before now. -/
def Errs.ucBefore (e : Errs) (now : W64) (unit : W16) : List UcRaise :=
  e.recent.filter (fun u => u.unit = unit && (now - u.at').toNat ≤ msU 1)

/-- R549 ERR_COUNT: count a raise of a class. -/
def Errs.count (e : Errs) (cls : ErrCls) : Errs :=
  { e with counts := RF.put e.counts (BitVec.ofNat 2 cls.code) (satInc (RF.at e.counts (BitVec.ofNat 2 cls.code))) }

/-- R527: the severity of the log entry of a class. -/
def ErrCls.severity : ErrCls → Nat
  | .ce => 2 | .de => 3 | .uc => 4 | .fe => 5

/-- What a raise reports. -/
structure Raise where
  unit : W16
  cause : W16
  cls : ErrCls
  tag : W32 := 0
  addr : W64 := 0
  detail : W64 := 0
  injected : Bool := false

/-- R525: a raise during or after FE handling. -/
def Errs.during (e : Errs) : Bool := e.fatal

/-- R523: whether a UC raise escalates. -/
def Errs.escalates (e : Errs) (now : W64) (r : Raise) : Bool :=
  r.cls = .uc && !e.during && 2 ≤ (e.ucBefore now r.unit).length

/-- R518 to R525: the record that a raise which is not merged writes, before it is placed. -/
def State.errRecord (s : State) (r : Raise) (cls : ErrCls) (esc : Bool) : ErrRec :=
  let e := s.errs
  { ftime := s.ftime, seq := e.nextSeq, cls := cls, overlap := (e.overlapOf cls).isSome,
    injected := r.injected || (esc && (e.ucBefore s.now r.unit).any (fun u => u.injected)), escalated := esc,
    duringFe := e.during,
    overIdx := match e.overlapOf cls with | some i => BitVec.ofNat 8 i | none => 0xFF,
    unit := r.unit, cause := r.cause, state := BitVec.ofNat 8 s.pkg.dev.code, progTag := r.tag, addr := r.addr,
    detail := r.detail, repeats := 0, optime := s.mor.optime, cycles := s.mor.cycles }

/-- R518, R522: place a record in the bank, or lose it. -/
def Errs.place (e : Errs) (rcd : ErrRec) : Errs :=
  match e.pick rcd.cls with
  | some i => { e with slots := SMap.set none e.slots i (some ⟨false, rcd⟩), last := BitVec.ofNat 8 i,
                       nextSeq := e.nextSeq + 1 }
  | none => { e with lost := satInc e.lost, nextSeq := e.nextSeq + 1 }

/-- R524 step 1: an FE outside FE handling starts it. -/
def Errs.startFe (e : Errs) (cls : ErrCls) : Errs :=
  if cls = .fe && !e.during then { e with fatal := true, handling := true, entryDue := true } else e

/-- R529: a raise that an injection made is counted. -/
def Errs.countInjected (e : Errs) (inj : Bool) : Errs :=
  if inj then { e with injected := satInc e.injected } else e

/-- R529: take one check of an armed injection, if it names this detector. -/
def State.injects (s : State) (unit cause : W16) (addr granule : Nat) : Bool :=
  match s.errs.inj with
  | none => false
  | some i => i.unit = unit && i.cause = cause && (i.addr = 0 || i.addr.toNat / granule == addr / granule)

/-- R529: the next check of a detector whose record carries no address reports its cause (log entry 124). -/
def State.armed (s : State) (unit : W16) (cause : Nat) : Bool := s.injects unit (BitVec.ofNat 16 cause) 0 1

/-- R529: one check of the injection has acted. -/
def State.injUsed (s : State) : State :=
  s.onErrs (fun e => { e with inj := match e.inj with
    | some i => if i.left ≤ 1 then none else some { i with left := i.left - 1 }
    | none => none })

/-- R622: the granule of ADDR of a cause. -/
def injGranule (cause : W16) : Nat :=
  match cause.toNat with
  | 0x02 | 0x03 => 16 | 0x04 | 0x20 | 0x21 => 64 | 0x10 => 256 | 0x11 => 32 | 0x70 => 4 | _ => 1

/-- R529: a check that finds a fault while an injection of it is armed reports it as injected. -/
def State.asInjected (s : State) (r : Raise) : Raise × State :=
  if !r.injected && s.injects r.unit r.cause r.addr.toNat (injGranule r.cause) then ({ r with injected := true }, s.injUsed)
  else (r, s)

/-- R512 to R527: a raise, and the slot of its record if it got one. -/
def State.raise (s : State) (r : Raise) : State × Option Nat :=
  let (r, s) := s.asInjected r
  match (if r.cls = .ce then s.errs.mergeSlot r.unit r.cause else none) with
  | some (i, rcd) =>
    let merged : ErrSlot := ⟨false, { rcd with repeats := satInc rcd.repeats }⟩
    (s.onErrs (fun e =>
      ({ e with slots := SMap.set none e.slots i (some merged) }.count .ce).countInjected r.injected), some i)
  | none =>
    let esc := s.errs.escalates s.now r
    let cls := if esc then .fe else r.cls
    let rcd := s.errRecord r cls esc
    let slot := s.errs.pick cls
    let s := s.onErrs (fun e =>
      let e := ((e.place rcd).count cls).countInjected r.injected
      let e := if r.cls = .uc then
          { e with recent := ⟨r.unit, s.now, r.injected⟩ ::
            e.recent.filter (fun u => (s.now - u.at').toNat ≤ msU 1) }
        else e
      if s.errs.during then e else e.startFe cls)
    (if slot.isSome then s.log 6 cls.severity (rcd.bytes.take 44) else s, slot)

/-- A raise whose slot does not matter. -/
def State.raise' (s : State) (r : Raise) : State := (s.raise r).1

/-- R525: no containment follows a raise during or after FE handling. -/
def State.contains (s : State) : Bool := !s.errs.during

/-! ### Device-to-host messages (R443, R444, R448) -/

/-- R442, R458: the primary scheduler acts: its core runs, and it has not stopped for its lease. -/
def State.schedUp (s : State) : Bool :=
  !s.firm.lease.stopped && s.coreUp (if s.firm.lease.primaryN1 then 1 else 0)

/-- R448: vector 0, at most once per 1 µs: one that comes sooner is raised at the end of it. -/
def State.msgIrqDue (s : State) : State :=
  let m := s.firm.mbx
  if m.irqDue && m.irqAt.all (fun t => usU 1 ≤ s.since t) then
    let now := s.now
    (s.onMbx (fun m => { m with irqDue := false, irqAt := some now })).emit (.msix 0)
  else s

/-- R444: the bytes of a message with its CRC. -/
def msgBytes (major minor : Byte) (type : Nat) (seq : W32) (more : Bool) (payload : List Byte) : List Byte :=
  let h := [major, minor] ++ natLE 2 type ++ natLE 4 seq.toNat ++ natLE 2 (16 + payload.length) ++
    natLE 2 (if more then 1 else 0)
  h ++ natLE 4 (crc32c (h ++ List.replicate 4 0#8 ++ payload)).toNat ++ payload

/-- R443: there is room in the device-to-host slots. -/
def Mbx.room (m : Mbx) : Bool := (m.d2hHead - m.d2hTail).toNat < 64

/-- R163: COMPLETE. -/
def msgComplete : Nat := 0x0103

/-- R167, R448: the next message that N0 can write: the oldest one; while no driver is attached, COMPLETEs wait. -/
def Mbx.nextOut (m : Mbx) : Option D2hMsg :=
  if m.attached then m.out.head? else m.out.find? (fun x => x.type != msgComplete)

/-- Write a created message into its slot. -/
def State.d2hWrite (s : State) (x : D2hMsg) : State :=
  let m := s.firm.mbx
  let b := msgBytes s.firm.msgMajor s.firm.msgMinor x.type m.seq x.more x.payload
  (s.onMbx (fun m => { m with
    d2h := SMap.set [] m.d2h (m.d2hHead.toNat % 64) b, d2hHead := m.d2hHead + 1, seq := m.seq + 1
    out := m.out.erase x, sent := m.sent ++ [x], irqDue := true })).msgIrqDue

/-- R448: write the created messages in order while there is room. -/
def d2hPump : Nat → State → State
  | 0, s => s
  | n + 1, s =>
    match s.firm.mbx.nextOut with
    | none => s
    | some x => if s.firm.mbx.room then d2hPump n (s.d2hWrite x) else s

/-- R448, R457: N0 writes what it can; while no primary acts, messages wait for the takeover. -/
def State.pump (s : State) : State := if s.schedUp then d2hPump 64 s else s

/-- N0 creates a message; it is written as soon as the slots allow (R443, R448). -/
def State.d2h (s : State) (type : Nat) (payload : List Byte) (more : Bool := false) : State :=
  (s.onMbx (fun m => { m with out := m.out ++ [⟨type, payload, more, 0, 0⟩] })).pump

/-- R450: PHASE_EVENT, TRAP_EVENT and FW_EVENT are not sent in DRIFT, but counted. -/
def State.d2hEvent (s : State) (type : Nat) (payload : List Byte) : State :=
  if s.pkg.dev = .drift then s.onMbx (fun m => { m with eventsDropped := satInc m.eventsDropped })
  else s.d2h type payload

/-- R447: FW_EVENT. -/
def State.fwEvent (s : State) (event who : Nat) (gen : W32) : State :=
  s.d2hEvent 0x0014 (natLE 1 event ++ natLE 1 who ++ [0, 0] ++ natLE 4 gen.toNat ++ natLE 8 s.ftime.toNat)

/-! ### Fields of byte strings -/

/-- `n` little-endian bytes at an offset. -/
def fld (m : List Byte) (off n : Nat) : Nat := leNat ((m.drop off).take n)

/-- Replace bytes at an offset. -/
def putAt (m : List Byte) (off : Nat) (bs : List Byte) : List Byte := m.take off ++ bs ++ m.drop (off + bs.length)

/-- A byte string brought to a length with zeros. -/
def padTo (n : Nat) (m : List Byte) : List Byte := (m ++ List.replicate (n - m.length) 0#8).take n

/-- One bit of a number. -/
def bitN (b : Bool) (n : Nat) : Nat := if b then 2 ^ n else 0

end Sys2Proof.Machine
end

