-- ==== Sys2Proof/Machine/DictApply.lean ====
section
/-! DEFINITION. When a dictionary value takes effect: locks, staged values and their landing (R9, R10, R484, R486, R575). -/

namespace Sys2Proof.Machine

def State.onDict (s : State) (f : Dict → Dict) : State := { s with dict := f s.dict }
def State.onRegs (s : State) (f : Regs → Regs) : State := { s with regs := f s.regs }

/-- The key of an entry: its index and subindex as one number. -/
def dk (idx sub : Nat) : Nat := idx * 256 + sub

/-! ### Locks (R10, R484, R508) -/

/-- R499: a block by its group, 0 global and t + 1 for Floe tile t, and its number in the group. -/
def blockKey (group num : Nat) : Nat := 256 * group + num

def State.block (s : State) (b : Nat) : RegBlock := SMap.get RegBlock.reset s.regs.blocks b
def State.onBlock (s : State) (b : Nat) (f : RegBlock → RegBlock) : State :=
  s.onRegs (fun r => { r with blocks := SMap.upd RegBlock.reset r.blocks b f })

/-- R499: the blocks that have a LOCK bit. -/
def lockBlocks : List Nat :=
  (([2, 3, 4, 5, 6, 7, 8, 9, 10] : List Nat).map (blockKey 0)) ++
  (([1, 2, 3, 4] : List Nat).flatMap (fun g => (([2, 3, 4, 5, 6, 7, 8] : List Nat).map (blockKey g))))

/-- What locks an entry. -/
inductive LockBy where
  | free
  | dict
  | glob (num : Nat)
  | tiles (num : Nat)
deriving DecidableEq, Repr

/-- R10, R484: the lock of each entry that has one: the block of its field, or DICT_LOCK. -/
def lockBy (k : Nat) : LockBy :=
  if k = dk 0x5020 2 || k = dk 0x5020 3 then .glob 2
  else if k = dk 0x3200 5 then .glob 3
  else if k = dk 0x4000 8 then .glob 4
  else if k = dk 0x4100 1 || k = dk 0x4100 3 then .glob 5
  else if k = dk 0x5040 1 then .glob 6
  else if k = dk 0x6200 4 then .glob 8
  else if k = dk 0x7000 0x0B then .glob 9
  else if k = dk 0x6300 9 then .glob 10
  else if k = dk 0x2000 7 then .tiles 2
  else if k = dk 0x2100 1 then .tiles 3
  else if k = dk 0x3000 3 then .tiles 5
  else if k = dk 0x3100 4 then .tiles 6
  else if k = dk 0x1000 0x10 || k = dk 0x2200 5 || k = dk 0x3000 4 || k = dk 0x3100 1 || k = dk 0x3100 3 ||
    k = dk 0x3200 3 || k = dk 0x3200 4 || k = dk 0x4000 7 || k = dk 0x4100 4 || k = dk 0x4100 7 || k = dk 0x1200 3 ||
    k = dk 0x5030 1 || k = dk 0x5030 6 || k = dk 0x6000 7 then .dict
  else .free

/-- R484: the entry refuses writes. -/
def State.entryLocked (s : State) (k : Nat) : Bool :=
  match lockBy k with
  | .free => false
  | .dict => s.dict.lock
  | .glob n => (s.block (blockKey 0 n)).lock
  | .tiles n => ([1, 2, 3, 4] : List Nat).any (fun g => (s.block (blockKey g n)).lock)

/-! ### Staged values (R486, R487) -/

def State.staged (s : State) (k : Nat) : Option (List Byte) := SMap.get none s.dict.staged k
def State.stage (s : State) (k : Nat) (v : List Byte) : State :=
  s.onDict (fun d => { d with staged := SMap.set none d.staged k (some v) })
def State.unstage (s : State) (k : Nat) : State := s.onDict (fun d => { d with staged := SMap.set none d.staged k none })

/-- R225: the stacks that HBM_RETIRE_MASK will name at placement. -/
def State.maskNext (s : State) : Nat := match s.staged (dk 0x2200 2) with | some v => leNat v | none => s.hbm.retireMask.toNat

/-- R490: the generation of a DOMAIN entry follows a look at its value (log entry 45). -/
def State.lookDom (s : State) (k : Nat) (v : List Byte) (fresh : Bool) : State :=
  match SMap.get none s.dict.domSeen k with
  | some old =>
    if old = v then s
    else s.onDict (fun d => { d with
      domSeen := SMap.set none d.domSeen k (some v), domGen := SMap.upd 0 d.domGen k (· + 1) })
  | none =>
    s.onDict (fun d => { d with
      domSeen := SMap.set none d.domSeen k (some v)
      domGen := if fresh then SMap.upd 0 d.domGen k (· + 1) else d.domGen })

/-! ### The hardware controls that entries set -/

/-- R407, R409: the entries of PWR_GOV_TABLE; an entry of zeros is empty (log entry 46). -/
def govOf (v : List Byte) : List GovEnt :=
  ((chunksOf 24 4096 v).zipIdx).filterMap (fun p =>
    if p.1.all (· == 0) then none
    else some ⟨BitVec.ofNat 32 (fld p.1 0 4), Vector.ofFn (fun t : Fin (2 ^ 2) => fld p.1 (4 + 4 * t.val) 4), p.2 + 1⟩)

/-- R286: the counts of PHO_ROLES. -/
def rolesOf (v : List Byte) : List Roles :=
  (List.range 6).map (fun i => ⟨fld v (4 * i) 1, fld v (4 * i + 1) 1, fld v (4 * i + 2) 1, fld v (4 * i + 3) 1⟩)

/-- R454: LOG_TRACE_ENABLE as one number, bit n for point n. -/
def traceOf (v : List Byte) : Nat := leNat v

/-- R9: the firmware gives the value of an entry to the hardware. An entry that sets nothing here acts elsewhere. A period of
PHO_SVC_PERIOD ends a PAUSE of PHO_SVC, between which R9 decides (R288). -/
def State.applyEntry (s : State) (k : Nat) (v : List Byte) : State :=
  let n := leNat v
  let b := n != 0
  let s := s.onDict (fun d => { d with vals := SMap.set none d.vals k (some v) })
  if k = dk 0x1200 3 then s.onMbx (fun m => { m with driftPeriod := n })
  else if k = dk 0x2100 1 then { s with firn := { s.firn with scratchDefault := BitVec.ofNat 32 n } }
  else if k = dk 0x2200 1 then ({ s with hbm := { s.hbm with mapWritten := some v } }).lookDom k v true
  else if k = dk 0x2200 2 then { s with hbm := { s.hbm with retireMask := BitVec.ofNat 24 n } }
  else if k = dk 0x2200 5 then { s with hbm := { s.hbm with scrubPeriod := BitVec.ofNat 16 n } }
  else if k = dk 0x3000 1 then ({ s with floe := { s.floe with roles := rolesOf v } }).lookDom k v true
  else if k = dk 0x3000 3 then { s with floe := { s.floe with disable := BitVec.ofNat 16 n } }
  else if k = dk 0x3000 4 then { s with floe := { s.floe with svcPeriod := BitVec.ofNat 16 n, pause := RF.all 2 false } }
  else if k = dk 0x3000 6 then { s with floe := { s.floe with steerTime := BitVec.ofNat 64 n } }
  else if k = dk 0x3100 1 then { s with fab := { s.fab with shape := n } }
  else if k = dk 0x3100 3 then { s with fab := { s.fab with domain := BitVec.ofNat 8 n } }
  else if k = dk 0x3100 4 then { s with fab := { s.fab with seed := RF.all 2 (BitVec.ofNat 8 n) } }
  else if k = dk 0x3200 5 then { s with mem := { s.mem with privSw := b } }
  else if k = dk 0x3200 0x0C then { s with mem := { s.mem with bar4Base := BitVec.ofNat 48 n } }
  else if dk 0x3200 0x10 ≤ k && k ≤ dk 0x3200 0x13 then
    let e := BitVec.ofNat 2 (k - dk 0x3200 0x10)
    { s with mem := { s.mem with hdma := RF.put s.mem.hdma e { RF.at s.mem.hdma e with ringBase := n, take := 0 } } }
  else if dk 0x3300 1 ≤ k && k ≤ dk 0x3300 4 then
    let e := BitVec.ofNat 2 (k - dk 0x3300 1)
    { s with mem := { s.mem with coll := RF.put s.mem.coll e { RF.at s.mem.coll e with ringBase := n, take := 0 } } }
  else if k = dk 0x3300 5 then { s with mem := { s.mem with collTimeout := BitVec.ofNat 32 n } }
  else if k = dk 0x4000 7 then
    ({ s with clk := { s.clk with asym := Vector.ofFn (fun q : Fin (2 ^ 4) => BitVec.ofNat 32 (fld v (4 * q.val) 4)) } }).lookDom k v true
  else if k = dk 0x4000 8 then { s with clk := { s.clk with ppsEn := b } }
  else if k = dk 0x4100 1 then { s with pow := { s.pow with cap := n } }
  else if k = dk 0x4100 3 then { s with pow := { s.pow with brkK := n } }
  else if k = dk 0x4100 4 then { s with pow := { s.pow with brkCap := n } }
  else if k = dk 0x4100 5 then { s with pow := { s.pow with targetStep := n } }
  else if k = dk 0x4100 7 then { s with pow := { s.pow with govEnable := b } }
  else if k = dk 0x4100 8 then
    ({ s with pow := { s.pow with gov := govOf v, govClock := 4096 } }).lookDom k v true
  else if k = dk 0x5020 2 then { s with sched := { s.sched with sliceTimeout := n } }
  else if k = dk 0x5020 3 then { s with sched := { s.sched with preemptEn := b } }
  else if k = dk 0x5030 1 then (s.onDm (fun m => { m with order := v })).lookDom k v true
  else if k = dk 0x5030 6 then s.onDm (fun m => { m with swapPeriod := n })
  else if k = dk 0x5040 1 then s.onLog (fun l => { l with minSev := n })
  else if k = dk 0x5040 2 then (s.onLog (fun l => { l with trace := traceOf v })).lookDom k v true
  else if k = dk 0x6300 9 then { s with cal := { s.cal with replanEn := b } }
  else if k = dk 0x7000 0x0B then { s with sec := { s.sec with hostEn := b } }
  else s

/-- R486, R487: the moment of an entry has come: the value last staged is applied, unless a lock binds the firmware
(R484, R509). -/
def State.land (s : State) (k : Nat) : State :=
  match s.staged k with
  | none => s
  | some v => let s := s.unstage k; if s.entryLocked k then s else s.applyEntry k v

/-- R575: the entries that name the next THAW: PHO_ROLES, PHO_PORT_DISABLE, FAB_SHAPE and FAB_DOMAIN_ID. -/
def nextThaw : List Nat := [dk 0x3000 1, dk 0x3000 3, dk 0x3100 1, dk 0x3100 3]

/-- R575: what was staged for the present THAW by the proceed point takes effect at its point. -/
def State.landFixed (s : State) (k : Nat) : State :=
  match SMap.get none s.dict.fixed k with
  | none => s
  | some v =>
    let s := s.onDict (fun d => { d with fixed := SMap.set none d.fixed k none })
    if s.entryLocked k then s else s.applyEntry k v

/-- R575: at the proceed point the settings for this THAW are fixed. -/
def State.fixSettings (s : State) : State :=
  nextThaw.foldl (fun s k =>
    match s.staged k with
    | none => s
    | some v => (s.unstage k).onDict (fun d => { d with fixed := SMap.set none d.fixed k (some v) })) s

/-- R380: the TAI epoch that the next route update carries. -/
def State.taiNext (s : State) : W64 :=
  match s.staged (dk 0x4000 3) with
  | some v => BitVec.ofNat 64 (leNat v)
  | none => s.clk.taiEpoch

/-- R346, R380: an activation with these settings has put the staged ones in force, or another device governs them. -/
def State.landDomain (s : State) (timeout retention : W32) (tai : W64) : State :=
  let drop := fun (s : State) (k v : Nat) =>
    match s.staged k with
    | some x => if s.firm.dm.role = .holder && leNat x != v then s else s.unstage k
    | none => s
  drop (drop (drop s (dk 0x3200 3) timeout.toNat) (dk 0x3200 4) retention.toNat) (dk 0x4000 3) tai.toNat

/-- R217: the default mode of a slice that returns to it; a staged FIRN_SCRATCH_DEFAULT governs from then on. -/
def State.landSlice (s : State) (k : Nat) : State :=
  match s.staged (dk 0x2100 1) with
  | none => s
  | some v =>
    if s.entryLocked (dk 0x2100 1) then s
    else
      let want := BitVec.ofNat 32 (leNat v)
      let m := 1#32 <<< k
      let d := (s.firn.scratchDefault &&& ~~~m) ||| (want &&& m)
      let s := { s with firn := { s.firn with scratchDefault := d } }
      if d = want then (s.unstage (dk 0x2100 1)).onDict (fun x => { x with vals := SMap.set none x.vals (dk 0x2100 1) (some v) })
      else s

end Sys2Proof.Machine
end

