-- ==== Sys2Proof/Machine/DictTable.lean ====
section
/-! DEFINITION. The entries of the object dictionary: types, access and lengths (R478 to R483, R496, R497). -/

namespace Sys2Proof.Machine

/-- R479: the types of entries. -/
inductive EType where | bool | u8 | u16 | u32 | u64 | i32 | i64 | f32 | str | domain | ftime | optime
deriving DecidableEq, Repr

def EType.code : EType → Nat
  | .bool => 0 | .u8 => 1 | .u16 => 2 | .u32 => 3 | .u64 => 4 | .i32 => 5 | .i64 => 6 | .f32 => 7 | .str => 8
  | .domain => 9 | .ftime => 10 | .optime => 11

/-- R483: the access codes. -/
inductive Access where | ro | rw | wo | rwl
deriving DecidableEq, Repr

/-- R482: the requester classes. -/
inductive Cls where | h | b | p | f
deriving DecidableEq, Repr

/-- R478: an entry, or a run of entries of one kind: index, first and last subindex, name, type, size in bytes, and
access for each class. -/
structure Entry where
  idx : Nat
  lo : Nat
  hi : Nat
  name : String
  ty : EType
  len : Nat
  h : Access
  b : Access
  p : Access
  f : Access
deriving DecidableEq, Repr

def Entry.access (e : Entry) : Cls → Access
  | .h => e.h | .b => e.b | .p => e.p | .f => e.f

/-! The entries, as their chapters list them (R6, R31, R85, R183, R217, R240, R286, R322, R364, R392, R433, R474, R475,
R497, R549 to R551, R571, R595, R610). -/

def rows1a : List Entry :=
  [ ⟨0x1000, 0x01, 0x01, "ID_VENDOR", .str, 16, .ro, .ro, .ro, .ro⟩,
    ⟨0x1000, 0x02, 0x02, "ID_PRODUCT", .str, 16, .ro, .ro, .ro, .ro⟩,
    ⟨0x1000, 0x03, 0x03, "ID_ORDER_CODE", .str, 8, .ro, .ro, .ro, .ro⟩,
    ⟨0x1000, 0x04, 0x04, "ID_SERIAL", .u64, 8, .ro, .ro, .ro, .ro⟩,
    ⟨0x1000, 0x05, 0x05, "ID_MCTP_IANA", .u32, 4, .ro, .ro, .ro, .ro⟩,
    ⟨0x1000, 0x06, 0x06, "DICT_VERSION", .u16, 2, .ro, .ro, .ro, .ro⟩,
    ⟨0x1000, 0x10, 0x10, "DICT_LOCK", .bool, 1, .rwl, .rwl, .ro, .rw⟩,
    ⟨0x1000, 0x11, 0x11, "DICT_GEN", .u32, 4, .ro, .ro, .ro, .rw⟩,
    ⟨0x1100, 0x01, 0x01, "PKG_MAP_GEN", .u32, 4, .ro, .ro, .ro, .rw⟩,
    ⟨0x1100, 0x02, 0x02, "PKG_DIE_COUNT", .u8, 1, .ro, .ro, .ro, .ro⟩,
    ⟨0x1100, 0x03, 0x03, "PKG_DISCOVERY_CAUSE", .u8, 1, .ro, .ro, .ro, .rw⟩,
    ⟨0x1101, 0x01, 0x29, "PKG_DIE_REC", .u64, 8, .ro, .ro, .ro, .rw⟩,
    ⟨0x1200, 0x01, 0x01, "DEVICE_STATE", .u8, 1, .ro, .ro, .ro, .rw⟩,
    ⟨0x1200, 0x02, 0x02, "HOST_ATTACHED", .bool, 1, .ro, .ro, .ro, .rw⟩,
    ⟨0x1200, 0x03, 0x03, "HOST_DRIFT_PERIOD", .u32, 4, .rwl, .rwl, .ro, .rw⟩,
    ⟨0x1200, 0x04, 0x04, "HOST_HEARTBEAT_AGE", .u32, 4, .ro, .ro, .ro, .rw⟩,
    ⟨0x1200, 0x05, 0x05, "DRIFT_EXPIRED", .bool, 1, .ro, .ro, .ro, .rw⟩,
    ⟨0x1200, 0x06, 0x06, "DRIFT_ENTRIES", .u32, 4, .ro, .ro, .ro, .rw⟩,
    ⟨0x1200, 0x07, 0x07, "SOFT_RESET", .u8, 1, .wo, .wo, .ro, .rw⟩ ]

def rows2a : List Entry :=
  [ ⟨0x2000, 0x01, 0x01, "TILE_GRADE", .u8, 1, .ro, .ro, .ro, .ro⟩,
    ⟨0x2000, 0x02, 0x02, "TILE_ENABLED", .u16, 2, .ro, .ro, .ro, .rw⟩,
    ⟨0x2000, 0x03, 0x03, "TILE_MAP_CONFORM", .bool, 1, .ro, .ro, .ro, .rw⟩,
    ⟨0x2000, 0x04, 0x04, "TILE_MAP_DIGEST", .u32, 4, .ro, .ro, .ro, .rw⟩,
    ⟨0x2000, 0x05, 0x05, "TILE_MAP", .domain, 2064, .ro, .ro, .ro, .rw⟩,
    ⟨0x2000, 0x06, 0x06, "TILE_MAP_NEXT", .domain, 2064, .ro, .ro, .ro, .rw⟩,
    ⟨0x2000, 0x07, 0x07, "TILE_RA_ENABLE", .bool, 1, .rwl, .ro, .ro, .rw⟩,
    ⟨0x2000, 0x08, 0x08, "TILE_FAULT_COUNT", .u32, 4, .ro, .ro, .ro, .rw⟩,
    ⟨0x2000, 0x09, 0x09, "TILE_RETIRED_LIST", .domain, 128, .rw, .rw, .ro, .rw⟩,
    ⟨0x2100, 0x01, 0x01, "FIRN_SCRATCH_DEFAULT", .u32, 4, .rwl, .ro, .ro, .rw⟩,
    ⟨0x2100, 0x02, 0x02, "FIRN_SLICE_MODE", .u32, 4, .ro, .ro, .ro, .rw⟩,
    ⟨0x2100, 0x03, 0x03, "FIRN_FLUSH", .u32, 4, .wo, .wo, .ro, .rw⟩,
    ⟨0x2100, 0x04, 0x04, "FIRN_DRAIN_LINES", .u32, 4, .ro, .ro, .ro, .rw⟩,
    ⟨0x2100, 0x05, 0x05, "FIRN_MERGED_READS", .u64, 8, .ro, .ro, .ro, .rw⟩,
    ⟨0x2100, 0x06, 0x06, "FIRN_ARRAY_READS", .u64, 8, .ro, .ro, .ro, .rw⟩,
    ⟨0x2100, 0x07, 0x07, "FIRN_SPARE_SWAPS", .u32, 4, .ro, .ro, .ro, .rw⟩,
    ⟨0x2100, 0x08, 0x08, "FIRN_HALF_BUNDLES", .u16, 2, .ro, .ro, .ro, .rw⟩,
    ⟨0x2100, 0x09, 0x09, "FIRN_RETIRED_BUNDLES", .u16, 2, .ro, .ro, .ro, .rw⟩,
    ⟨0x2100, 0x0A, 0x0A, "FIRN_ECC_CE", .u32, 4, .ro, .ro, .ro, .rw⟩,
    ⟨0x2200, 0x01, 0x01, "HBM_REGION_MAP", .domain, 576, .rw, .ro, .ro, .rw⟩,
    ⟨0x2200, 0x02, 0x02, "HBM_RETIRE_MASK", .u32, 4, .rw, .ro, .ro, .rw⟩,
    ⟨0x2200, 0x03, 0x03, "HBM_MAP_DEFAULTED", .bool, 1, .ro, .ro, .ro, .rw⟩,
    ⟨0x2200, 0x04, 0x04, "HBM_CAPACITY", .u16, 2, .ro, .ro, .ro, .rw⟩,
    ⟨0x2200, 0x05, 0x05, "HBM_SCRUB_PERIOD", .u16, 2, .rwl, .ro, .ro, .rw⟩,
    ⟨0x2200, 0x06, 0x06, "HBM_ECC_CE", .u64, 8, .ro, .ro, .ro, .rw⟩,
    ⟨0x2200, 0x07, 0x07, "HBM_ECC_UC", .u32, 4, .ro, .ro, .ro, .rw⟩,
    ⟨0x2200, 0x08, 0x08, "HBM_ONDIE_CE", .u64, 8, .ro, .ro, .ro, .rw⟩,
    ⟨0x2200, 0x09, 0x09, "HBM_SCRUB_PASSES", .u32, 4, .ro, .ro, .ro, .rw⟩,
    ⟨0x2200, 0x0A, 0x0A, "HBM_FAILED_ACCESSES", .u64, 8, .ro, .ro, .ro, .rw⟩,
    ⟨0x2200, 0x0B, 0x0B, "HBM_TEMP", .domain, 48, .ro, .ro, .ro, .rw⟩ ]

def rows3a : List Entry :=
  [ ⟨0x3000, 0x01, 0x01, "PHO_ROLES", .domain, 24, .rw, .ro, .ro, .rw⟩,
    ⟨0x3000, 0x02, 0x02, "PHO_ROLES_IN_FORCE", .domain, 24, .ro, .ro, .ro, .rw⟩,
    ⟨0x3000, 0x03, 0x03, "PHO_PORT_DISABLE", .u16, 2, .rwl, .ro, .ro, .rw⟩,
    ⟨0x3000, 0x04, 0x04, "PHO_SVC_PERIOD", .u16, 2, .rwl, .ro, .ro, .rw⟩,
    ⟨0x3000, 0x05, 0x05, "PHO_STEER_SETS", .domain, 256, .rw, .ro, .ro, .rw⟩,
    ⟨0x3000, 0x06, 0x06, "PHO_STEER_TIME", .ftime, 8, .rw, .ro, .ro, .rw⟩,
    ⟨0x3000, 0x07, 0x07, "PHO_STEER_GO", .u8, 1, .wo, .ro, .ro, .rw⟩,
    ⟨0x3000, 0x08, 0x08, "PHO_STEER_RESULT", .domain, 20, .ro, .ro, .ro, .rw⟩,
    ⟨0x3000, 0x09, 0x09, "PHO_STEER_IN_FORCE", .domain, 32, .ro, .ro, .ro, .rw⟩,
    ⟨0x3000, 0x0A, 0x0A, "PHO_EMITTERS", .domain, 544, .ro, .ro, .ro, .rw⟩,
    ⟨0x3000, 0x0B, 0x0B, "PHO_EYE_REDUCED", .u32, 4, .ro, .ro, .ro, .rw⟩,
    ⟨0x3000, 0x0C, 0x0C, "PHO_PORT_FEC", .domain, 256, .ro, .ro, .ro, .rw⟩,
    ⟨0x3000, 0x0D, 0x0D, "PHO_SWAPS", .u32, 4, .ro, .ro, .ro, .rw⟩,
    ⟨0x3000, 0x0E, 0x0E, "PHO_TRACK_EVENTS", .u32, 4, .ro, .ro, .ro, .rw⟩,
    ⟨0x3000, 0x0F, 0x0F, "PHO_EYE_EVENTS", .u32, 4, .ro, .ro, .ro, .rw⟩,
    ⟨0x3000, 0x10, 0x10, "PHO_RETIRED_WL", .u64, 8, .ro, .ro, .ro, .rw⟩,
    ⟨0x3100, 0x01, 0x01, "FAB_SHAPE", .u8, 1, .rwl, .rwl, .ro, .rw⟩,
    ⟨0x3100, 0x02, 0x02, "FAB_DEVID", .u8, 1, .ro, .ro, .ro, .ro⟩,
    ⟨0x3100, 0x03, 0x03, "FAB_DOMAIN_ID", .u8, 1, .rwl, .rwl, .ro, .rw⟩,
    ⟨0x3100, 0x04, 0x04, "FAB_HASH_SEED", .u8, 1, .rwl, .ro, .ro, .rw⟩,
    ⟨0x3100, 0x05, 0x05, "FAB_ROUTE_TABLE", .domain, 128, .ro, .ro, .ro, .rw⟩,
    ⟨0x3100, 0x06, 0x06, "FAB_ROUTE_GEN", .u32, 4, .ro, .ro, .ro, .rw⟩,
    ⟨0x3100, 0x07, 0x07, "FAB_LOST_PEERS", .u64, 8, .ro, .ro, .ro, .rw⟩,
    ⟨0x3100, 0x08, 0x08, "FAB_PORT_COUNTERS", .domain, 1408, .ro, .ro, .ro, .rw⟩,
    ⟨0x3100, 0x09, 0x09, "FAB_OUTER_PEERS", .domain, 4, .ro, .ro, .ro, .rw⟩,
    ⟨0x3200, 0x01, 0x01, "MEM_WINDOWS", .domain, 1024, .rw, .ro, .rw, .rw⟩,
    ⟨0x3200, 0x02, 0x02, "MEM_FENCE", .bool, 1, .rw, .ro, .ro, .rw⟩,
    ⟨0x3200, 0x03, 0x03, "MEM_TIMEOUT", .u32, 4, .rwl, .ro, .ro, .rw⟩,
    ⟨0x3200, 0x04, 0x04, "MEM_RESULT_RETENTION", .u32, 4, .rwl, .ro, .ro, .rw⟩,
    ⟨0x3200, 0x05, 0x05, "MEM_PRIV_SW", .bool, 1, .rwl, .ro, .ro, .rw⟩,
    ⟨0x3200, 0x06, 0x06, "MEM_RETRIES", .u64, 8, .ro, .ro, .ro, .rw⟩,
    ⟨0x3200, 0x07, 0x07, "MEM_RESYNCS", .u32, 4, .ro, .ro, .ro, .rw⟩,
    ⟨0x3200, 0x08, 0x08, "MEM_BUSY_NACKS", .u64, 8, .ro, .ro, .ro, .rw⟩,
    ⟨0x3200, 0x09, 0x09, "MEM_AGE_DISCARDS", .u64, 8, .ro, .ro, .ro, .rw⟩,
    ⟨0x3200, 0x0A, 0x0A, "MEM_ATOMIC_UNKNOWN", .u32, 4, .ro, .ro, .ro, .rw⟩,
    ⟨0x3200, 0x0B, 0x0B, "MEM_SEQ_DISCARDS", .u64, 8, .ro, .ro, .ro, .rw⟩,
    ⟨0x3200, 0x0C, 0x0C, "HOST_BAR4_BASE", .u64, 8, .rw, .ro, .ro, .rw⟩,
    ⟨0x3200, 0x0D, 0x0D, "HOST_BAR4_UR", .u32, 4, .ro, .ro, .ro, .rw⟩,
    ⟨0x3200, 0x10, 0x13, "HDMA_RING_BASE", .u64, 8, .rw, .ro, .ro, .rw⟩,
    ⟨0x3200, 0x14, 0x14, "HDMA_DONE", .u64, 8, .ro, .ro, .ro, .rw⟩ ]

def rows3b : List Entry :=
  [ ⟨0x3200, 0x15, 0x15, "HDMA_FAILED", .u32, 4, .ro, .ro, .ro, .rw⟩,
    ⟨0x3300, 0x01, 0x04, "COLL_RING_BASE", .u64, 8, .rw, .ro, .ro, .rw⟩,
    ⟨0x3300, 0x05, 0x05, "COLL_TIMEOUT", .u32, 4, .rw, .ro, .ro, .rw⟩,
    ⟨0x3300, 0x06, 0x06, "COLL_DONE", .u64, 8, .ro, .ro, .ro, .rw⟩,
    ⟨0x3300, 0x07, 0x07, "COLL_FAILED", .u32, 4, .ro, .ro, .ro, .rw⟩ ]

def rows4a : List Entry :=
  [ ⟨0x4000, 0x01, 0x01, "FT_NOW", .ftime, 8, .ro, .ro, .ro, .ro⟩,
    ⟨0x4000, 0x02, 0x02, "FT_STATE", .u8, 1, .ro, .ro, .ro, .rw⟩,
    ⟨0x4000, 0x03, 0x03, "FT_TAI_EPOCH", .u64, 8, .rw, .rw, .ro, .rw⟩,
    ⟨0x4000, 0x04, 0x04, "FT_WRAP_EPOCH", .u16, 2, .ro, .ro, .ro, .rw⟩,
    ⟨0x4000, 0x05, 0x05, "FT_OFFSET", .i32, 4, .ro, .ro, .ro, .rw⟩,
    ⟨0x4000, 0x06, 0x06, "FT_UPSTREAM", .u8, 1, .ro, .ro, .ro, .rw⟩,
    ⟨0x4000, 0x07, 0x07, "FT_PORT_ASYM", .domain, 64, .rwl, .rwl, .ro, .rw⟩,
    ⟨0x4000, 0x08, 0x08, "FT_PPS_EN", .bool, 1, .rwl, .rwl, .ro, .rw⟩,
    ⟨0x4000, 0x09, 0x09, "FT_WRAP_TEST", .u8, 1, .wo, .ro, .ro, .rw⟩,
    ⟨0x4000, 0x0A, 0x0A, "CLK_JOB_STEP", .u8, 1, .ro, .ro, .ro, .rw⟩,
    ⟨0x4000, 0x0B, 0x0B, "CLK_STEP_LIMIT", .u8, 1, .ro, .ro, .ro, .rw⟩,
    ⟨0x4000, 0x0C, 0x0C, "CLK_PENDING", .domain, 16, .ro, .ro, .ro, .rw⟩,
    ⟨0x4000, 0x0D, 0x0D, "CLK_FREQ_CHANGES", .u32, 4, .ro, .ro, .ro, .rw⟩,
    ⟨0x4000, 0x0E, 0x0E, "CLK_LATE_CHANGES", .u32, 4, .ro, .ro, .ro, .rw⟩,
    ⟨0x4000, 0x0F, 0x0F, "CLK_MARGIN_WARN", .u32, 4, .ro, .ro, .ro, .rw⟩,
    ⟨0x4000, 0x10, 0x10, "CLK_MARGIN_ALARM", .u32, 4, .ro, .ro, .ro, .rw⟩,
    ⟨0x4000, 0x11, 0x11, "FT_LOCAL", .ftime, 8, .ro, .ro, .ro, .ro⟩,
    ⟨0x4100, 0x01, 0x01, "PWR_CAP", .u16, 2, .rwl, .rwl, .ro, .rw⟩,
    ⟨0x4100, 0x02, 0x02, "PWR_NOW", .u16, 2, .ro, .ro, .ro, .rw⟩,
    ⟨0x4100, 0x03, 0x03, "PWR_BRK_K", .u8, 1, .rwl, .rwl, .ro, .rw⟩,
    ⟨0x4100, 0x04, 0x04, "PWR_BRK_CAP", .u16, 2, .rwl, .rwl, .ro, .rw⟩,
    ⟨0x4100, 0x05, 0x05, "PWR_TARGET_STEP", .u8, 1, .rw, .ro, .ro, .rw⟩,
    ⟨0x4100, 0x06, 0x06, "PWR_FREQ_JOB", .u32, 4, .ro, .ro, .ro, .rw⟩,
    ⟨0x4100, 0x07, 0x07, "PWR_GOV_ENABLE", .bool, 1, .rwl, .ro, .ro, .rw⟩,
    ⟨0x4100, 0x08, 0x08, "PWR_GOV_TABLE", .domain, 98304, .rw, .ro, .ro, .rw⟩,
    ⟨0x4100, 0x09, 0x09, "PWR_STACK_BUDGET", .domain, 8, .ro, .ro, .ro, .rw⟩,
    ⟨0x4100, 0x0A, 0x0A, "THM_LIMITS", .domain, 32, .ro, .ro, .ro, .rw⟩,
    ⟨0x4100, 0x0B, 0x0B, "THM_TEMPS", .domain, 40, .ro, .ro, .ro, .rw⟩,
    ⟨0x4100, 0x0C, 0x0C, "THM_THROTTLE_EVENTS", .u32, 4, .ro, .ro, .ro, .rw⟩,
    ⟨0x4100, 0x0D, 0x0D, "THM_SUSPECT_SENSORS", .u16, 2, .ro, .ro, .ro, .rw⟩,
    ⟨0x4100, 0x0E, 0x0E, "PWR_FREQ_LOWERINGS", .u32, 4, .ro, .ro, .ro, .rw⟩,
    ⟨0x4100, 0x0F, 0x0F, "PWR_CAP_UNREACHABLE", .bool, 1, .ro, .ro, .ro, .rw⟩,
    ⟨0x4100, 0x10, 0x10, "PWR_FALLBACK_EVENTS", .u32, 4, .ro, .ro, .ro, .rw⟩ ]

def rows5a : List Entry :=
  [ ⟨0x5000, 0x01, 0x01, "FW_RELEASE", .u32, 4, .ro, .ro, .ro, .ro⟩,
    ⟨0x5000, 0x02, 0x02, "FW_MSG_VERSION", .u16, 2, .ro, .ro, .ro, .ro⟩,
    ⟨0x5000, 0x03, 0x03, "FW_CORE_STATE", .u64, 8, .ro, .ro, .ro, .rw⟩,
    ⟨0x5000, 0x04, 0x04, "FW_RESTARTS", .domain, 24, .ro, .ro, .ro, .rw⟩,
    ⟨0x5000, 0x05, 0x05, "FW_EVENTS_DROPPED", .u32, 4, .ro, .ro, .ro, .rw⟩,
    ⟨0x5010, 0x01, 0x01, "SCHED_GEN", .u32, 4, .ro, .ro, .ro, .rw⟩,
    ⟨0x5010, 0x02, 0x02, "SCHED_PRIMARY", .u8, 1, .ro, .ro, .ro, .rw⟩,
    ⟨0x5010, 0x03, 0x03, "SCHED_STANDBY_HEALTH", .u8, 1, .ro, .ro, .ro, .rw⟩,
    ⟨0x5010, 0x04, 0x04, "SCHED_SWAP", .u8, 1, .wo, .ro, .ro, .rw⟩,
    ⟨0x5010, 0x05, 0x05, "SCHED_REPLAY_MISMATCH", .u32, 4, .ro, .ro, .ro, .rw⟩,
    ⟨0x5020, 0x01, 0x01, "SCHED_QUANTUM_DEFAULT", .u8, 1, .rw, .ro, .ro, .rw⟩,
    ⟨0x5020, 0x02, 0x02, "SCHED_SLICE_TIMEOUT", .u32, 4, .rwl, .ro, .ro, .rw⟩,
    ⟨0x5020, 0x03, 0x03, "SCHED_PREEMPT_ENABLE", .bool, 1, .rwl, .ro, .ro, .rw⟩,
    ⟨0x5020, 0x04, 0x04, "SCHED_ACCEPTED", .u8, 1, .ro, .ro, .ro, .rw⟩,
    ⟨0x5020, 0x05, 0x05, "SCHED_STARTED", .u8, 1, .ro, .ro, .ro, .rw⟩,
    ⟨0x5020, 0x06, 0x06, "SCHED_PREEMPTIONS", .u32, 4, .ro, .ro, .ro, .rw⟩,
    ⟨0x5020, 0x07, 0x07, "SCHED_SLICE_ABANDONS", .u32, 4, .ro, .ro, .ro, .rw⟩,
    ⟨0x5020, 0x08, 0x08, "SCHED_TRAPS_DROPPED", .u32, 4, .ro, .ro, .ro, .rw⟩,
    ⟨0x5030, 0x01, 0x01, "DM_ORDER", .domain, 4, .rwl, .rwl, .ro, .rw⟩,
    ⟨0x5030, 0x02, 0x02, "DM_HOLDER", .u8, 1, .ro, .ro, .ro, .rw⟩,
    ⟨0x5030, 0x03, 0x03, "DM_GEN", .u32, 4, .ro, .ro, .ro, .rw⟩,
    ⟨0x5030, 0x04, 0x04, "DM_ROLE", .u8, 1, .ro, .ro, .ro, .rw⟩,
    ⟨0x5030, 0x05, 0x05, "DM_STANDBY_HEALTH", .domain, 3, .ro, .ro, .ro, .rw⟩,
    ⟨0x5030, 0x06, 0x06, "DM_SWAP_PERIOD", .u8, 1, .rwl, .rwl, .ro, .rw⟩,
    ⟨0x5030, 0x07, 0x07, "DM_SWAP", .u8, 1, .wo, .ro, .ro, .rw⟩,
    ⟨0x5030, 0x08, 0x08, "DM_LAST_SWAP", .ftime, 8, .ro, .ro, .ro, .rw⟩,
    ⟨0x5030, 0x09, 0x09, "DM_MGMT_SILENT", .u64, 8, .ro, .ro, .ro, .rw⟩,
    ⟨0x5040, 0x01, 0x01, "LOG_MIN_SEVERITY", .u8, 1, .rw, .ro, .ro, .rw⟩,
    ⟨0x5040, 0x02, 0x02, "LOG_TRACE_ENABLE", .domain, 512, .rw, .ro, .ro, .rw⟩,
    ⟨0x5040, 0x03, 0x03, "LOG_LOST", .u32, 4, .ro, .ro, .ro, .rw⟩,
    ⟨0x5040, 0x04, 0x04, "LOG_SUPPRESSED", .u32, 4, .ro, .ro, .ro, .rw⟩ ]

def rows6a : List Entry :=
  [ ⟨0x6000, 0x01, 0x01, "ERR_BANK", .domain, 4096, .ro, .ro, .ro, .rw⟩,
    ⟨0x6000, 0x02, 0x02, "ERR_SLOT_STATE", .domain, 16, .ro, .ro, .ro, .rw⟩,
    ⟨0x6000, 0x03, 0x03, "ERR_ACK", .u32, 4, .rw, .rw, .ro, .rw⟩,
    ⟨0x6000, 0x04, 0x04, "ERR_NEXT_SEQ", .u32, 4, .ro, .ro, .ro, .rw⟩,
    ⟨0x6000, 0x05, 0x05, "ERR_LOST", .u32, 4, .ro, .ro, .ro, .rw⟩,
    ⟨0x6000, 0x06, 0x06, "ERR_COUNT", .domain, 16, .ro, .ro, .ro, .rw⟩,
    ⟨0x6000, 0x07, 0x07, "ERR_INJECT_EN", .bool, 1, .rwl, .rwl, .ro, .rw⟩,
    ⟨0x6000, 0x08, 0x08, "ERR_INJECT", .domain, 16, .rw, .rw, .ro, .rw⟩,
    ⟨0x6000, 0x09, 0x09, "ERR_INJECTED", .u32, 4, .ro, .ro, .ro, .rw⟩,
    ⟨0x6000, 0x0A, 0x0A, "ERR_PROD_LOCK", .bool, 1, .ro, .ro, .ro, .ro⟩,
    ⟨0x6000, 0x0B, 0x0B, "ERR_PROD_LOCK_SET", .u8, 1, .wo, .wo, .ro, .rw⟩,
    ⟨0x6100, 0x01, 0x10, "CVU_UNIT", .domain, 64, .rw, .rw, .ro, .rw⟩,
    ⟨0x6100, 0x11, 0x11, "CVU_MISMATCHES", .u32, 4, .ro, .ro, .ro, .rw⟩,
    ⟨0x6100, 0x12, 0x12, "CVU_SCANS", .u64, 8, .ro, .ro, .ro, .rw⟩,
    ⟨0x6200, 0x01, 0x01, "MOR_HIST", .domain, 6144, .ro, .ro, .ro, .rw⟩,
    ⟨0x6200, 0x02, 0x02, "MOR_HGEN", .domain, 196, .ro, .ro, .ro, .rw⟩,
    ⟨0x6200, 0x03, 0x03, "MOR_EXTREMES", .domain, 2048, .ro, .ro, .ro, .rw⟩,
    ⟨0x6200, 0x04, 0x04, "MOR_FREEZE", .bool, 1, .rw, .rw, .ro, .rw⟩,
    ⟨0x6200, 0x05, 0x05, "MOR_FLUSH", .u8, 1, .wo, .wo, .ro, .rw⟩,
    ⟨0x6200, 0x06, 0x06, "MOR_POWER_CYCLES", .u32, 4, .ro, .ro, .ro, .rw⟩,
    ⟨0x6200, 0x07, 0x07, "MOR_OPTIME", .optime, 4, .ro, .ro, .ro, .rw⟩,
    ⟨0x6200, 0x08, 0x08, "MOR_LAST_FATAL", .domain, 4160, .ro, .ro, .ro, .rw⟩,
    ⟨0x6200, 0x09, 0x09, "MOR_STORE_STATE", .u8, 1, .ro, .ro, .ro, .rw⟩,
    ⟨0x6200, 0x0A, 0x0A, "MOR_SNAPSHOTS", .u32, 4, .ro, .ro, .ro, .rw⟩,
    ⟨0x6300, 0x01, 0x01, "THAW_STAGE", .u8, 1, .ro, .ro, .ro, .rw⟩,
    ⟨0x6300, 0x02, 0x02, "THAW_PROCEED", .u8, 1, .wo, .wo, .ro, .rw⟩,
    ⟨0x6300, 0x03, 0x03, "CAL_RESTORE", .domain, 262144, .rw, .ro, .ro, .rw⟩,
    ⟨0x6300, 0x04, 0x04, "CAL_RESTORE_RESULT", .u8, 1, .ro, .ro, .ro, .rw⟩,
    ⟨0x6300, 0x05, 0x05, "CAL_EXPORT_TAKE", .u8, 1, .wo, .ro, .ro, .rw⟩,
    ⟨0x6300, 0x06, 0x06, "CAL_EXPORT", .domain, 262144, .ro, .ro, .ro, .rw⟩,
    ⟨0x6300, 0x07, 0x07, "CAL_ITEMS", .domain, 288, .ro, .ro, .ro, .rw⟩,
    ⟨0x6300, 0x08, 0x08, "CAL_SVC_DISAGREE", .u32, 4, .ro, .ro, .ro, .rw⟩,
    ⟨0x6300, 0x09, 0x09, "CAL_REPLAN_EN", .bool, 1, .rwl, .ro, .ro, .rw⟩,
    ⟨0x6300, 0x0A, 0x0A, "MARGIN_PLAN_GEN", .u32, 4, .ro, .ro, .ro, .rw⟩,
    ⟨0x6300, 0x0B, 0x0B, "MARGIN_PLAN", .domain, 32, .ro, .ro, .ro, .rw⟩,
    ⟨0x6300, 0x0C, 0x0C, "AGEING", .domain, 32, .ro, .ro, .ro, .rw⟩ ]

def rows7a : List Entry :=
  [ ⟨0x7000, 0x01, 0x01, "SEC_KEY_HASH", .domain, 128, .ro, .ro, .ro, .ro⟩,
    ⟨0x7000, 0x02, 0x02, "SEC_KEY_REVOKED", .u8, 1, .ro, .ro, .ro, .ro⟩,
    ⟨0x7000, 0x03, 0x03, "SEC_KEY_REVOKE", .u8, 1, .wo, .wo, .ro, .rw⟩,
    ⟨0x7000, 0x04, 0x04, "SEC_SVN_FUSED", .u8, 1, .ro, .ro, .ro, .ro⟩,
    ⟨0x7000, 0x05, 0x05, "SEC_SVN_COMMIT", .u8, 1, .wo, .wo, .ro, .rw⟩,
    ⟨0x7000, 0x06, 0x06, "SEC_FW_DIGEST", .domain, 32, .ro, .ro, .ro, .ro⟩,
    ⟨0x7000, 0x07, 0x07, "SEC_FW_KEY_INDEX", .u8, 1, .ro, .ro, .ro, .ro⟩,
    ⟨0x7000, 0x08, 0x08, "SEC_FW_SVN", .u64, 8, .ro, .ro, .ro, .ro⟩,
    ⟨0x7000, 0x09, 0x09, "SEC_MEAS", .domain, 512, .ro, .ro, .ro, .ro⟩,
    ⟨0x7000, 0x0A, 0x0A, "SEC_MEAS_EXTEND", .domain, 33, .wo, .wo, .ro, .rw⟩,
    ⟨0x7000, 0x0B, 0x0B, "SEC_MEAS_HOST_EN", .bool, 1, .rwl, .rwl, .ro, .rw⟩,
    ⟨0x7000, 0x0C, 0x0C, "SEC_DEVID_PUB", .domain, 1312, .ro, .ro, .ro, .ro⟩,
    ⟨0x7000, 0x0D, 0x0D, "SEC_ALIAS_PUB", .domain, 1312, .ro, .ro, .ro, .ro⟩,
    ⟨0x7000, 0x0E, 0x0E, "SEC_CERT_CHAIN", .domain, 16384, .ro, .ro, .ro, .ro⟩,
    ⟨0x7000, 0x0F, 0x0F, "SEC_ATTEST_STATE", .u8, 1, .ro, .ro, .ro, .rw⟩,
    ⟨0x7000, 0x10, 0x10, "SEC_SPDM_REQUESTS", .u32, 4, .ro, .ro, .ro, .rw⟩ ]

def dictRows : List Entry := rows1a ++ rows2a ++ rows3a ++ rows3b ++ rows4a ++ rows5a ++ rows6a ++ rows7a

/-- R478: the highest subindex in use at an index; none where the index holds no entry. -/
def highestSub (idx : Nat) : Option Nat :=
  dictRows.foldl (fun o e => if e.idx = idx then some (max (o.getD 0) e.hi) else o) none

/-- R478, R485: the entry at an index and subindex; subindex 0 gives the highest subindex in use. -/
def entryAt (idx sub : Nat) : Option Entry :=
  if sub = 0 then (highestSub idx).map (fun _ => ⟨idx, 0, 0, "", .u8, 1, .ro, .ro, .ro, .ro⟩)
  else dictRows.find? (fun e => e.idx == idx && e.lo ≤ sub && sub ≤ e.hi)

end Sys2Proof.Machine
end

