-- ==== Sys2Proof/Machine/ProgOps.lean ====
section
/-! DEFINITION. Shared operations on tiles and programs: access, faults and the start of an abort. -/

namespace Sys2Proof.Machine

/-! ### Tiles and programs as parts of the state -/

/-- A tile by its package tile number 256 t + n. -/
def State.tile (s : State) (n : Nat) : Tile := SMap.get Tile.reset s.serac.tiles n

def State.onSerac (s : State) (f : Serac → Serac) : State := { s with serac := f s.serac }

def State.setTile (s : State) (n : Nat) (t : Tile) : State :=
  s.onSerac (fun x => { x with tiles := SMap.set Tile.reset x.tiles n t })

def State.onTile (s : State) (n : Nat) (f : Tile → Tile) : State := s.setTile n (f (s.tile n))

/-- Apply a function to each of some tiles. -/
def State.onTiles (s : State) (ns : List Nat) (f : Tile → Tile) : State := ns.foldl (fun s n => s.onTile n f) s

def State.onSched (s : State) (f : Sched → Sched) : State := { s with sched := f s.sched }

/-- The accepted program with a tag. -/
def State.prog? (s : State) (tag : W32) : Option Prog := s.sched.progs.find? (fun p => p.tag = tag)

def State.onProg (s : State) (tag : W32) (f : Prog → Prog) : State :=
  s.onSched (fun x => { x with progs := x.progs.map (fun p => if p.tag = tag then f p else p) })

/-- The program that holds a tile. -/
def State.tileProg (s : State) (n : Nat) : Option Prog := (s.tile n).prog.bind s.prog?

/-- The package tile numbers of a program's placement, in placement order. -/
def Prog.tiles (p : Prog) : List Nat := p.img.place.map (fun e => e.tile)

/-! ### Ends of programs -/

/-- R164: program status codes that COMPLETE carries. -/
def stCompleted : Nat := 0x10
def stAbortedHost : Nat := 0x11
def stFault : Nat := 0x12
def stLoadFailed : Nat := 0x13
def stSliceOverrun : Nat := 0x14
def stStartMissed : Nat := 0x15
def stError : Nat := 0x16

/-- R514, R168: N0 begins to abort a program; a program whose abort already runs is unchanged. -/
def State.abortProg (s : State) (tag : W32) (status detail : Nat) : State :=
  s.onProg tag (fun p =>
    if p.st = .ending then p
    else { p with st := .ending, ending := some ⟨BitVec.ofNat 8 status, BitVec.ofNat 32 detail⟩, endTime := s.ftime,
                  preempting := false, reports := [], sliceT := none })

/-- R514: a UC that names a program: the record, and the abort with ERROR and the record's slot. -/
def State.ucProgram (s : State) (tag : W32) (r : Raise) : State :=
  let (s', slot) := s.raise { r with cls := .uc, tag := tag }
  if s.contains then s'.abortProg tag stError (slot.getD 0xFF) else s'

/-! ### Tile faults (R73) -/

def faultIllegalOp : Nat := 0x01
def faultBadDescriptor : Nat := 0x02
def faultMisaligned : Nat := 0x03
def faultEdgeLink : Nat := 0x04
def faultLoopDepth : Nat := 0x05
def faultSramUc : Nat := 0x06
def faultRemoteFail : Nat := 0x07
def faultBundleRange : Nat := 0x08
def faultTileRetired : Nat := 0x09

/-- R516: UNIT of a Serac tile. -/
def tileUnit (n : Nat) : W16 := unitCode 1 (n / 256) (n % 256)

/-- R73: a tile fault stops the tile, writes a UC record and makes N0 abort the program. -/
def State.tileFault (s : State) (n code : Nat) (injected : Bool := false) : State :=
  let t := s.tile n
  let tag := t.prog.getD 0
  let stack := BitVec.ofNat 2 (n / 256)
  let s1 := (s.onTile n (fun t => { t with st := .stopped })).onSerac (fun x =>
    { x with faultCount := satInc x.faultCount, lastFault := RF.put x.lastFault stack (BitVec.ofNat 8 code) })
  let s2 := s1.raise' { unit := tileUnit n, cause := 1, cls := .uc, tag := tag, addr := BitVec.ofNat 64 t.bundle,
                        detail := BitVec.ofNat 64 code, injected := injected }
  if s.contains then s2.abortProg tag stFault (code + 256 * n) else s2

/-! ### Tile SRAM (R37, R38) -/

/-- The byte of the SRAM at an address, modulo 2^20. -/
def Tile.byte (t : Tile) (a : Nat) : Byte := Mem.rd t.sram (a % 2 ^ 20)

/-- `n` bytes from an address on. -/
def Tile.bytes (t : Tile) (a n : Nat) : List Byte := (List.range n).map (fun i => t.byte (a + i))

/-- The bytes as a little-endian number. -/
def Tile.read (t : Tile) (a n : Nat) : Nat := leNat (t.bytes a n)

/-- Whether a read of `n` bytes touches an uncorrectable word. -/
def Tile.bad (t : Tile) (a n : Nat) : Bool :=
  t.uc.any (fun w => (List.range (n / 16 + 2)).any (fun i => w == ((a / 16 + i) % 2 ^ 16) && 16 * (a / 16 + i) < a + n))

/-- How far word `w` begins after an address, modulo 2^20. -/
def wordFrom (a w : Nat) : Nat := (16 * w + 2 ^ 20 - a % 2 ^ 20) % 2 ^ 20

/-- Write bytes; a word written whole becomes correctable again (log entry 20). -/
def Tile.write (t : Tile) (a : Nat) (bs : List Byte) : Tile :=
  { t with
    sram := (bs.foldl (fun (p : Mem × Nat) b => (Mem.wr p.1 (p.2 % 2 ^ 20) b, p.2 + 1)) (t.sram, a)).1
    uc := t.uc.filter (fun w => !(wordFrom a w + 16 ≤ bs.length)) }

/-- Write only the bytes of `bs` whose mask bit is set. -/
def Tile.writeMasked (t : Tile) (a : Nat) (bs : List Byte) (on : Nat → Bool) : Tile :=
  { t with
    sram := (bs.foldl (fun (p : Mem × Nat) b =>
      (if on p.2 then Mem.wr p.1 ((a + p.2) % 2 ^ 20) b else p.1, p.2 + 1)) (t.sram, 0)).1
    uc := t.uc.filter (fun w =>
      !(wordFrom a w + 16 ≤ bs.length && (List.range 16).all (fun i => on (wordFrom a w + i)))) }

/-- Mark the words of a range as holding uncorrectable data. -/
def Tile.mark (t : Tile) (a n : Nat) : Tile :=
  { t with uc := (List.range ((a % 16 + n + 15) / 16)).foldl (fun u i => NSet.add ((a / 16 + i) % 2 ^ 16) u) t.uc }

/-- R529, R38: a corrected read error that an injection makes on words of the range. -/
def State.sramCe (s : State) (n a len : Nat) : State :=
  (List.range ((a % 16 + len + 15) / 16)).foldl (fun s i =>
    let w := 16 * ((a / 16 + i) % 2 ^ 16)
    if s.injects (tileUnit n) 2 w 16 then
      s.injUsed.raise' { unit := tileUnit n, cause := 2, cls := .ce, tag := (s.tile n).prog.getD 0,
                         addr := BitVec.ofNat 64 w, injected := true }
    else s) s

/-! ### Issue (R42 to R44) -/

/-- A slot operation acts only on a tile that runs a program; otherwise it does nothing (log entry 2). -/
def State.withTile (s : State) (n : Nat) (f : Tile → State) : Res :=
  if (s.tile n).st = .running then .next (f (s.tile n)) else .next s

/-- R44: the post-increments of the bundle's matrix and stream slots. -/
def Tile.applyPost (t : Tile) : Tile :=
  { t with
    a := Vector.zipWith (· + ·) t.a t.postA
    s := Vector.zipWith (· + ·) t.s t.postS
    postA := RF.all 4 0
    postS := RF.all 4 0 }

def Tile.postIncA (t : Tile) (r : BitVec 4) (d : Nat) : Tile :=
  { t with postA := RF.put t.postA r (RF.at t.postA r + BitVec.ofNat 20 d) }
def Tile.postIncS (t : Tile) (r : BitVec 4) (d : Nat) : Tile :=
  { t with postS := RF.put t.postS r (RF.at t.postS r + BitVec.ofNat 64 d) }

/-- R48: the end of a bundle, with the loop levels from the innermost outwards. A level that is active and does not end here hides the
levels outside it; no rule says what an inner level does that a branch out of its body has left active (log entry 149). -/
def loopEnd (b : Nat) : List (BitVec 2) → RF 2 (Option LoopLevel) → Nat × RF 2 (Option LoopLevel)
  | [], ls => (b + 1, ls)
  | l :: more, ls =>
    match RF.at ls l with
    | none => loopEnd b more ls
    | some x =>
      if x.last = b then
        if 1 < x.left.toNat then (x.first, RF.put ls l (some { x with left := x.left - 1 }))
        else loopEnd b more (RF.put ls l none)
      else (b + 1, ls)

/-- R43, R48: the bundle after bundle `b` where control does not branch. -/
def Tile.goAfter (t : Tile) (b : Nat) : Tile :=
  let (n, ls) := loopEnd b [3, 2, 1, 0] t.loops
  { t with bundle := n, loops := ls }

/-- The fetch buffer holds the last eight fetched lines. -/
def Tile.fetchLine (t : Tile) : Tile :=
  let l := t.bundle / 4
  if t.fetch.contains l then t else { t with fetch := (l :: t.fetch).take 8 }

/-- R38, R43: go on to the tile's next bundle, which must lie in the code region and be readable; and R529's check of each
bundle. -/
def State.fetchNext (s : State) (n : Nat) : State :=
  let t := s.tile n
  if t.codeBytes < 16 * t.bundle + 16 then s.tileFault n faultBundleRange
  else if t.bad (16 * t.bundle) 16 then s.tileFault n faultSramUc
  else
    let s := (s.sramCe n (16 * t.bundle) 16).setTile n t.fetchLine
    if s.injects (tileUnit n) 1 t.bundle 1 then
      let (code, s) := s.injUsed.drawFree 8
      s.tileFault n code.toNat true
    else s

/-- The end of a bundle whose control slot leaves the tile as `t`, in sequence. -/
def State.ctlNext (s : State) (n : Nat) (t : Tile) : State := (s.setTile n (t.goAfter t.bundle)).fetchNext n

end Sys2Proof.Machine
end

