-- ==== Sys2Proof/Machine/Mem.lean ====
section
/-! DEFINITION. Own memory: global addresses, the placement of HBM, ECC words with poison, Firn scratch and atomics
(R201, R220 to R239, R325 to R335). -/

namespace Sys2Proof.Machine

/-! ### Completion status codes (R335) -/

def scOk : Byte := 0x00
def scTimeout : Byte := 0x01
def scLost : Byte := 0x02
def scDenied : Byte := 0x03
def scPoisoned : Byte := 0x04
def scAtomicUnknown : Byte := 0x05
def scMisaligned : Byte := 0x06
def scBusy : Byte := 0x07
def scOutOfDomain : Byte := 0x08

/-! ### Global addresses (R325) -/

def gDev (a : Nat) : Nat := a / 2 ^ 42 % 64
def gRegion (a : Nat) : Nat := a / 2 ^ 40 % 4
def gOff (a : Nat) : Nat := a % 2 ^ 40

def State.devid (s : State) : Nat := s.fab.devid.toNat

/-- The global address of an offset of the own HBM. -/
def State.ownHbm (s : State) (off : Nat) : Nat := s.devid * 2 ^ 42 + off

def State.onHbm (s : State) (f : Hbm → Hbm) : State := { s with hbm := f s.hbm }
def State.onFirn (s : State) (f : Firn → Firn) : State := { s with firn := f s.firn }

/-! ### Die records (R28, R29) -/

/-- R28: while the device runs a STATUS moves only from GOOD towards DEGRADED, RETIRED or FAILED. -/
def mayFall (old new : Nat) : Bool := (old == 1 || old == 2) && old < new && new < 5

/-- R28, R29: a change of a die's STATUS while the device runs, and the generation after it. -/
def State.dieStatus (s : State) (i status : Nat) : State :=
  match SMap.get none s.pkg.dies i with
  | none => s
  | some r =>
    if !mayFall r.status status then s
    else { s with pkg := { s.pkg with dies := SMap.set none s.pkg.dies i (some { r with status := status }),
                                      mapGen := s.pkg.mapGen + 1 } }

/-- R32: the STATUS of a die. -/
def dieGood : Nat := 1
def dieDegraded : Nat := 2
def dieRetired : Nat := 3
def dieFailed : Nat := 4

/-! ### The placement of HBM (R224 to R227) -/

def Hbm.stack (h : Hbm) (i : Nat) : HbmStack := SMap.get HbmStack.reset h.stks i
def State.onStack (s : State) (i : Nat) (f : HbmStack → HbmStack) : State :=
  s.onHbm (fun h => { h with stks := SMap.upd HbmStack.reset h.stks i f })

/-- The stacks that the placement covers: those in service when HBM was placed, failed since or not (R235). -/
def Hbm.placedStacks (h : Hbm) : List Nat :=
  (List.range 24).filter (fun i => (h.stack i).st = .inService || (h.stack i).st = .failed)

/-- R225: the default map for `ns` stacks. -/
def defaultMap (ns : Nat) : List Byte := List.replicate (24 * ns) 0x00 ++ List.replicate (576 - 24 * ns) 0xFF

/-- R224: a map is valid for the stacks in service. -/
def mapValid (stks : List Nat) (m : List Byte) : Bool :=
  let ns := stks.length
  let ni := m.count 0x00
  m.length == 576 && ns != 0 &&
  (m.take (24 * ns)).all (fun c => c.toNat ≤ 4) && (m.drop (24 * ns)).all (fun c => c == 0xFF) &&
  ni % ns == 0 &&
  ([0, 1, 2, 3] : List Nat).all (fun t =>
    let nt := (stks.filter (fun h => h / 6 == t)).length
    let na := m.count (BitVec.ofNat 8 (t + 1))
    if nt = 0 then na == 0 else na % nt == 0 && ni / ns + na / nt == 24)

/-- R226: the stack and stack-local address of an HBM offset; none where the region is unmapped. -/
def Hbm.decode (h : Hbm) (off : Nat) : Option (Nat × Nat) :=
  let r := off / 2 ^ 30
  let code := h.map.getD r 0xFF
  let x := (h.map.take r).count code * 2 ^ 30 + off % 2 ^ 30
  if 4 < code.toNat then none
  else if code = 0 then
    let st := h.placedStacks
    let g := x / 4096
    (st[g % st.length]?).map (fun k => (k, g / st.length * 4096 + x % 4096))
  else
    let all := h.placedStacks
    let st := all.filter (fun k => k / 6 == code.toNat - 1)
    let g := x / 1024
    (st[g % st.length]?).map (fun k =>
      (k, h.map.count 0x00 / all.length * 2 ^ 30 + g / st.length * 1024 + x % 1024))

/-- R227: the pseudo-channel of a stack-local address. -/
def pseudoChannel (a : Nat) : Nat := (a / 2 ^ 10 % 32) ^^^ (a / 2 ^ 21 % 32)

/-- R227: where a stack-local address lies. -/
structure StackPlace where
  byte : Nat
  column : Nat
  channel : Nat
  bank : Nat
  row : Nat
deriving DecidableEq, Repr

/-- R227: the place that a stack-local address selects. -/
def stackPlace (a : Nat) : StackPlace := ⟨a % 64, a / 2 ^ 6 % 16, pseudoChannel a, a / 2 ^ 15 % 64, a / 2 ^ 21⟩

/-- The key of a byte of a stack. -/
def stackKey (h a : Nat) : Nat := 2 ^ 35 * h + a

/-- R516: UNIT of an HBM stack. -/
def hbmUnit (h : Nat) : W16 := unitCode 4 (h / 6) (h % 6)

/-! ### ECC words (R228 to R235) -/

/-- How the read of an ECC word ends, as the cells and the lanes have it (R228). -/
def State.hbmCorrected (s : State) (h a : Nat) (inj : Bool) : State :=
  (s.onHbm (fun x => { x with ecce := satInc x.ecce })).raise'
    { unit := hbmUnit h, cause := 0x20, cls := .ce, addr := BitVec.ofNat 64 (a / 64 * 64), injected := inj }

/-- R228: an uncorrectable word: a DE, its data lost, and the poison check pattern in its place. -/
def State.hbmUncorrectable (s : State) (h a : Nat) (inj : Bool) : State :=
  let w := a / 64 * 64
  let (bs, s) := s.drawBytes 64
  let s := (s.onHbm (fun x => { x with
    eccUc := satInc x.eccUc
    mem := Mem.wrBytes x.mem (stackKey h w) bs
    poison := NSet.add (stackKey h w / 64) x.poison })).raise'
      { unit := hbmUnit h, cause := 0x21, cls := .de, addr := BitVec.ofNat 64 w, injected := inj }
  let now := s.now
  s.onStack h (fun k =>
    let ts := now :: k.ucTimes.filter (fun t => (now - t).toNat < msU 1000)
    { k with ucTimes := ts, failDue := if 64 < ts.length && k.failDue.isNone then some 3 else k.failDue })

/-- Whether the word of a stack-local address holds the poison check pattern. -/
def Hbm.poisoned (x : Hbm) (h a : Nat) : Bool := x.poison.contains (stackKey h a / 64)

/-- The read of one ECC word, with what an armed injection makes of it (R529, R622). -/
def State.hbmCheck (s : State) (h a : Nat) : State :=
  if s.hbm.poisoned h a then s
  else if s.injects (hbmUnit h) 0x20 (a / 64 * 64) 64 then s.injUsed.hbmCorrected h a true
  else if s.injects (hbmUnit h) 0x21 (a / 64 * 64) 64 then s.injUsed.hbmUncorrectable h a true
  else s

/-- R229: write bytes within one ECC word of a stack. -/
def State.hbmPut (s : State) (h a : Nat) (bs : List Byte) (poison : Bool) : State :=
  let k := stackKey h a
  let whole := a % 64 = 0 && bs.length = 64
  let s := if whole then s else s.hbmCheck h a
  s.onHbm (fun x => { x with
    mem := Mem.wrBytes x.mem k bs
    poison := if poison then NSet.add (k / 64) x.poison
              else if whole then NSet.del (k / 64) x.poison else x.poison })

/-! ### Accesses of own memory -/

/-- Cut an access into pieces that do not cross multiples of `g`. -/
def pieces (g : Nat) : Nat → Nat → Nat → List (Nat × Nat)
  | 0, _, _ => []
  | fuel + 1, a, n =>
    if n = 0 then [] else
      let k := min n (g - a % g)
      (a, k) :: pieces g fuel (a + k) (n - k)

/-- Pieces of ECC words. -/
def wordPieces (a n : Nat) : List (Nat × Nat) := pieces 64 (n / 64 + 2) a n

/-- R201: whether an offset of region 0b01 reaches scratch. -/
def Firn.scratchOk (f : Firn) (off : Nat) : Bool :=
  off < 2 ^ 33 && off % 2 ^ 28 < 0xC000000 && f.scratchMode.getLsbD (off / 2 ^ 28)

/-- Where a byte of a memory region of this device lies. -/
inductive MemPlace where
  | hbm (stack a : Nat)
  | scratch (off : Nat)
  | nowhere

/-- R201, R225, R325: where an address of this device's HBM or scratch lies. -/
def State.memPlace (s : State) (a : Nat) : MemPlace :=
  if gDev a != s.devid then .nowhere
  else if gRegion a = 0 then
    match s.hbm.decode (gOff a) with
    | some (h, l) => .hbm h l
    | none => .nowhere
  else if gRegion a = 1 && s.firn.scratchOk (gOff a) then .scratch (gOff a)
  else .nowhere

/-- Every byte of an access lies in mapped HBM or in scratch. -/
def State.memMapped (s : State) (a n : Nat) : Bool :=
  (wordPieces a n).all (fun p => match s.memPlace p.1 with | .nowhere => false | _ => true)

/-- R235: an access touches a failed stack. -/
def State.memFailed (s : State) (a n : Nat) : Bool :=
  (wordPieces a n).any (fun p => match s.memPlace p.1 with | .hbm h _ => (s.hbm.stack h).st = .failed | _ => false)

/-- R235: one access to a failed stack is counted. -/
def State.countFailed (s : State) (a n : Nat) : State :=
  if s.memFailed a n then s.onHbm (fun x => { x with failedAccesses := satInc x.failedAccesses }) else s

/-- R202: an address lies in scratch of the Firn of a tile's own stack, which its tile-port bundle reaches. -/
def State.portScratch (s : State) (n a : Nat) : Bool := gDev a = s.devid && gRegion a = 1 && gOff a / 2 ^ 31 == n / 256

/-- What a read answers: status, data, and the poisoned 32-byte sectors by address / 32. -/
structure MemRd where
  status : Byte
  data : List Byte
  poison : NSet
deriving DecidableEq, Repr

/-- R516: UNIT of a Firn slice by package slice number. -/
def firnUnit (slice : Nat) : W16 := unitCode 2 (slice / 8) (slice % 8)

/-- R188: a scratch sector found uncorrectable is poisoned. -/
def State.scratchSpoil (s : State) (off : Nat) (inj : Bool) : State :=
  (s.onFirn (fun f => { f with scratchPoison := NSet.add (off / 32) f.scratchPoison })).raise'
    { unit := firnUnit (off / 2 ^ 28), cause := 0x11, cls := .de,
      addr := BitVec.ofNat 64 (s.devid * 2 ^ 42 + 2 ^ 40 + off / 32 * 32), injected := inj }

/-- R188: a single-bit error in scratch is corrected and counted. -/
def State.scratchFix (s : State) (off : Nat) (inj : Bool) : State :=
  (s.onFirn (fun f => { f with eccCe := satInc f.eccCe })).raise'
    { unit := firnUnit (off / 2 ^ 28), cause := 0x10, cls := .ce,
      addr := BitVec.ofNat 64 (s.devid * 2 ^ 42 + 2 ^ 40 + off / 256 * 256), injected := inj }

/-- R188: the error of a line of a stack that its read now meets. -/
def Firn.upset? (f : Firn) (t l : Nat) (ok : Option (BitVec 3) → Bool) : Option Upset :=
  f.upsets.find? (fun u => u.stack == t && u.line == l && ok u.sector)

def State.upsetUsed (s : State) (u : Upset) : State := s.onFirn (fun f => { f with upsets := f.upsets.erase u })

/-- R188, R529: the read of scratch at an offset, with what an error or an armed injection makes of it. -/
def State.scratchCheck (s : State) (off : Nat) : State :=
  let slice := off / 2 ^ 28
  let ga := s.devid * 2 ^ 42 + 2 ^ 40 + off
  if s.firn.scratchPoison.contains (off / 32) then s
  else match s.firn.upset? (off / 2 ^ 31) (ga / 256) (fun x => x.all (fun i => i.toNat == off / 32 % 8)) with
  | some u => if u.sector.isNone then (s.upsetUsed u).scratchFix off false else (s.upsetUsed u).scratchSpoil off false
  | none =>
    if s.injects (firnUnit slice) 0x10 (ga / 256 * 256) 256 then s.injUsed.scratchFix off true
    else if s.injects (firnUnit slice) 0x11 (ga / 32 * 32) 32 then s.injUsed.scratchSpoil off true
    else s

/-- The sectors of a range. -/
def sectorsOf (a n : Nat) : List Nat := (List.range ((a % 32 + n + 31) / 32)).map (fun i => a / 32 + i)

/-- One piece of a read; its data, and whether each sector is poisoned. -/
def State.readPiece (s : State) (a n : Nat) : State × MemRd :=
  match s.memPlace a with
  | .hbm h l =>
    if (s.hbm.stack h).st = .failed then
      let (bs, s) := s.drawBytes n
      (s, ⟨scPoisoned, bs, sectorsOf a n⟩)
    else
      let s := s.hbmCheck h l
      let bad := s.hbm.poisoned h l
      (s, ⟨if bad then scPoisoned else scOk, Mem.bytes s.hbm.mem (stackKey h l) n, if bad then sectorsOf a n else []⟩)
  | .scratch off =>
    let s := (pieces 32 4 off n).foldl (fun s p => s.scratchCheck p.1) s
    let bad := (sectorsOf off n).filter (fun w => s.firn.scratchPoison.contains w)
    (s, ⟨if bad.isEmpty then scOk else scPoisoned, Mem.bytes s.firn.scratch off n,
      bad.map (fun w => w - off / 32 + a / 32)⟩)
  | .nowhere => (s, ⟨scDenied, [], []⟩)

/-- R228, R229: a read of own HBM or scratch; nothing is delivered where a byte is unmapped. -/
def State.memReadRaw (s : State) (a n : Nat) : State × MemRd :=
  if s.memMapped a n then
    (wordPieces a n).foldl (fun (p : State × MemRd) q =>
      let (s, r) := p.1.readPiece q.1 q.2
      (s, ⟨if p.2.status = scOk then r.status else p.2.status, p.2.data ++ r.data, p.2.poison ++ r.poison⟩))
      (s.countFailed a n, ⟨scOk, [], []⟩)
  else (s, ⟨scDenied, [], []⟩)

/-- The 256-byte lines that an access touches. -/
def linesOf (a n : Nat) : Nat := (a % 256 + n + 255) / 256

/-- R202, R205, R217: a read that does not come by a tile port: each line of scratch is an array read of its own. -/
def State.memRead (s : State) (a n : Nat) : State × MemRd :=
  (if gRegion a = 1 && s.memMapped a n then s.onFirn (fun f => { f with arrayReads := satAdd f.arrayReads (linesOf a n) }) else s).memReadRaw a n

/-- R206: a write closes the window of its line. -/
def State.windowShut (s : State) (t l : Nat) : State :=
  s.onFirn (fun f => { f with windows := f.windows.filter (fun w => !(w.stack = t && w.line = l)) })

/-- One piece of a write; whether what it wrote stays poisoned. -/
def State.writePiece (s : State) (a : Nat) (bs : List Byte) (poison : Bool) : State × Bool :=
  match s.memPlace a with
  | .hbm h l =>
    if (s.hbm.stack h).st = .failed then (s, true)
    else
      let s := s.hbmPut h l bs poison
      (s, s.hbm.poisoned h l)
  | .scratch off =>
    let ss := sectorsOf off bs.length
    let s := (s.windowShut (off / 2 ^ 31) (a / 256)).onFirn (fun f => { f with
      scratch := Mem.wrBytes f.scratch off bs
      scratchPoison := ss.foldl (fun p w =>
        if poison then NSet.add w p
        else if off ≤ 32 * w && 32 * w + 32 ≤ off + bs.length then NSet.del w p else p) f.scratchPoison })
    (s, ss.any (fun w => s.firn.scratchPoison.contains w))
  | .nowhere => (s, false)

/-- R229, R188: a write of own HBM or scratch; `poison` says which of its pieces, by address and length, are poisoned. -/
def State.memWriteBy (s : State) (a : Nat) (bs : List Byte) (poison : Nat → Nat → Bool) : State × Byte :=
  if s.memMapped a bs.length then
    let r := (wordPieces a bs.length).foldl (fun (p : (State × Bool) × List Byte) q =>
      let w := p.1.1.writePiece q.1 (p.2.take q.2) (poison q.1 q.2)
      ((w.1, p.1.2 || w.2), p.2.drop q.2)) ((s.countFailed a bs.length, false), bs)
    (r.1.1, if r.1.2 then scPoisoned else scOk)
  else (s, scDenied)

/-- R229, R188: a write of own HBM or scratch. -/
def State.memWrite (s : State) (a : Nat) (bs : List Byte) (poison : Bool) : State × Byte := s.memWriteBy a bs (fun _ _ => poison)

/-! ### Atomics (R332 to R334) -/

/-- R332: the size in bytes that LEN8 names for an ATOP; none where the table does not allow it. -/
def atomSize (atop len8 : Nat) : Option Nat :=
  let n := if len8 = 0 then 4 else if len8 = 1 then 8 else if len8 = 3 then 16 else 0
  let ok := if atop = 2 then n = 8 else if atop = 4 then n = 8 || n = 16
            else atop ≤ 11 && (n = 4 || n = 8)
  if ok then some n else none

/-- R332: what memory becomes: old value `m`, operand `x`, compare value `c`, all of `n` bytes. -/
def atomApply (atop n m x c : Nat) : Nat :=
  let w := 8 * n
  let sm := (BitVec.ofNat w m).toInt
  let sx := (BitVec.ofNat w x).toInt
  match atop with
  | 0 => (m + x) % 2 ^ w
  | 1 => (m + x) % 2 ^ w
  | 2 => (xwAdd (BitVec.ofNat 64 m) (BitVec.ofNat 64 x)).toNat
  | 3 => x
  | 4 => if m = c then x else m
  | 5 => if sm ≤ sx then m else x
  | 6 => if sm ≤ sx then x else m
  | 7 => min m x
  | 8 => max m x
  | 9 => m &&& x
  | 10 => m ||| x
  | 11 => m ^^^ x
  | _ => m

/-- R334: an atomic on own HBM or scratch: its status and the old contents; an operand that arrives poisoned leaves what is written
poisoned (R229). -/
def State.memAtomic (s : State) (a atop n x c : Nat) (poison : Bool := false) : State × Byte × Nat :=
  let (s, r) := s.memRead a n
  if r.status != scOk then (s, r.status, 0)
  else
    let m := leNat r.data
    let (s, st) := s.memWrite a (natLE n (atomApply atop n m x c)) poison
    (s, st, m)

/-! ### Little-endian words of own HBM, as the firmware and the engines read them -/

def State.peek (s : State) (a n : Nat) : Nat := leNat (s.memRead a n).2.data
def State.poke (s : State) (a n v : Nat) : State := (s.memWrite a (natLE n v) false).1

end Sys2Proof.Machine
end

