-- ==== Sys2Proof/Machine/Waves.lean ====
section
/-! DEFINITION. Lanes, waveguides and frames: which channels carry light, the roles of the waveguides, and how flits are dealt
(R244 to R260, R275 to R279, R303). -/

namespace Sys2Proof.Machine

def State.onFloe (s : State) (f : Floe → Floe) : State := { s with floe := f s.floe }
def State.chan (s : State) (k : Nat) : Chan := SMap.get Chan.reset s.floe.chans k

/-! ### Groups and directions (R245, R246, R271, R275) -/

/-- R245, R246: the eight channel positions of the slot that a byte of R278 names, for a group. -/
def slotChans (g : Nat) (b : Byte) : List Nat :=
  (List.range 8).map (fun c => b.toNat % 16 * 32 + (if b.getLsbD 4 then 16 else 0) + g % 2 * 8 + c)

def State.groupByte (s : State) (g : Nat) : Byte := RF.at s.floe.inForce (BitVec.ofNat 5 g)

/-- The 12 on-package directions, in the order of the channel keys. -/
def directions : List (Nat × Nat) :=
  [(0, 1), (1, 0), (0, 2), (2, 0), (0, 3), (3, 0), (1, 2), (2, 1), (1, 3), (3, 1), (2, 3), (3, 2)]

def dirNum (t u : Nat) : Nat := directions.findIdx (fun d => d == (t, u))

/-- R271: the owner of a channel: 0 to 15 for the ports, 16 + direction on the package. -/
def chanOwner (k : Nat) : Nat := if k < 512 then k / 32 else 16 + (k - 512) / 256
/-- The Floe tile of an owner. -/
def ownerTile (o : Nat) : Nat := if o < 16 then o / 4 else ((directions[o - 16]?).map (·.1)).getD 0
/-- The wavelength of a channel. -/
def chanWl (k : Nat) : Nat := k % 16

/-- R255: a wavelength is retired on the tile of a bank. -/
def State.wlOut (s : State) (bank n : Nat) : Bool := s.floe.retiredWl.getLsbD (16 * bank + n)

/-- R255: a channel of a group is accepted, and its wavelength is not retired on the group's home tile. -/
def State.groupChan (s : State) (g k : Nat) : Bool := (s.chan k).ok && !s.wlOut (g / 8) (chanWl k)

/-- R255, R278: a group is lit: the assignment lights it, and it still has 4 channels. -/
def State.groupLit (s : State) (g : Nat) : Bool :=
  (s.groupByte g).getLsbD 7 && 4 ≤ ((slotChans g (s.groupByte g)).filter (s.groupChan g)).length

/-- The group lit in the slot of a port's channel, by the assignment in force. -/
def State.chanGroup (s : State) (k : Nat) : Option Nat :=
  (List.range 32).find? (fun g => (s.groupByte g).getLsbD 7 && (slotChans g (s.groupByte g)).contains k)

/-- The bank that feeds a channel's modulator: of its group's home tile, or of the tile of a dark position (R245, R250). -/
def State.chanBank (s : State) (k : Nat) : Nat :=
  if k < 512 then match s.chanGroup k with | some g => g / 8 | none => k / 128
  else ownerTile (chanOwner k)

/-- R255, R264: a channel may carry traffic: it is accepted, and its wavelength is in use on the tile that feeds it. -/
def State.chanOk (s : State) (k : Nat) : Bool := (s.chan k).ok && !s.wlOut (s.chanBank k) (chanWl k)

/-- The ACTIVE bits of a lane (R258): its channels that may carry traffic and are not out. -/
def activeBits (ks : List Nat) (on : Nat → Bool) : W16 :=
  ks.zipIdx.foldl (fun b p => if on p.1 then b ||| (1#16 <<< p.2) else b) 0

/-- R245: the ACTIVE bits of a group. -/
def State.groupActive (s : State) (g : Nat) : W16 :=
  activeBits (slotChans g (s.groupByte g)) (fun k => s.groupChan g k && (s.chan k).active)

/-- The ACTIVE bits of a waveguide (direction * 16 + index). -/
def State.waveActive (s : State) (w : Nat) : W16 :=
  activeBits ((List.range 16).map (fun c => 512 + 16 * w + c)) (fun k => s.chanOk k && (s.chan k).active)

def popCount (b : W16) : Nat := ((List.range 16).filter (fun i => b.getLsbD i)).length

/-! ### Roles and passages (R275 to R279) -/

/-- Waveguides of a direction with a role, in ascending index: 1 CTL, 2 FAB, 3 FIRN, 4 MEM. -/
def State.wgsOf (s : State) (dir role : Nat) : List Nat :=
  ((List.range 16).map (fun i => 16 * dir + i)).filter (fun w =>
    SMap.get 0 s.floe.wgRole w == role && !s.floe.wgRetired.contains w)

/-- R279: F of a pair: the FAB count in force, less the retired FAB waveguides of the poorer direction. -/
def State.fabCountOf (s : State) (t u : Nat) : Nat :=
  min (s.wgsOf (dirNum t u) 2).length (s.wgsOf (dirNum u t) 2).length

/-- R278, R279: the groups homed on `t` and lit on ports of `u`. -/
def groupsVia (a : RF 5 Byte) (t u : Nat) : List Nat :=
  (List.range 32).filter (fun g =>
    let b := RF.at a (BitVec.ofNat 5 g)
    b.getLsbD 7 && g / 8 == t && b.toNat % 16 / 4 == u)

/-- The FAB passages of the first `n` FAB waveguides of a direction, by waveguide and band: those of groups, light passages in
ascending order of groups of their band, then flit passages in the rest; and those that no group uses (log entry 37). -/
def passages (a : RF 5 Byte) (t u n : Nat) : List (Nat × Bool × Nat) × List (Nat × Bool) :=
  let light := groupsVia a t u
  let even := light.filter (fun g => g % 2 == 0)
  let odd := light.filter (fun g => g % 2 == 1)
  let flits := groupsVia a u t
  let free := (List.range n).flatMap (fun w =>
    (if even.length ≤ w then [(w, false)] else []) ++ (if odd.length ≤ w then [(w, true)] else []))
  (even.zipIdx.map (fun p => (p.2, false, p.1)) ++ odd.zipIdx.map (fun p => (p.2, true, p.1)) ++
    (List.zip flits free).map (fun p => (p.2.1, p.2.2, p.1)), free.drop flits.length)

/-- The groups that use the FAB passages of the `i`-th FAB waveguide of a direction. -/
def passageGroups (a : RF 5 Byte) (t u i : Nat) : List Nat :=
  ((passages a t u 32).1.filter (fun p => p.1 == i)).map (·.2.2)

/-- R276, R277: the roles whose waveguides carry the traffic of a role, in the order in which they are taken: with no FIRN
waveguide, FIRN traffic is on MEM; with no CTL, CTL on MEM; with no MEM, MEM on FIRN, or on CTL. -/
def carriers (role : Nat) : List Nat :=
  match role with
  | 1 => [1, 4, 3]
  | 2 => [2, 4, 3, 1]
  | 3 => [3, 4, 1]
  | _ => [4, 3, 1]

/-- R276, R277: the role whose waveguides of a direction carry the traffic of a role now. -/
def State.carrier (s : State) (dir role : Nat) : Option Nat := (carriers role).find? (fun r => !(s.wgsOf dir r).isEmpty)

/-! ### Frames (R257, R258, R260, R294) -/

def laneKey : Lane → Nat
  | .slot q b h => 4 * q.toNat + bitN b 1 + bitN h 0
  | .wave d w => 64 + 16 * d.toNat + w.toNat
  | .passage d w h => 320 + 2 * (16 * d.toNat + w.toNat) + bitN h 0

/-- R258: a header as frame bytes 0 to 7 hold it. -/
def frameWord (h : FrameHdr) : W64 :=
  BitVec.ofNat 64 (h.seq.toNat * 2 ^ 4 + h.active.toNat * 2 ^ 28 + h.gen.toNat * 2 ^ 44 + h.kind.toNat * 2 ^ 48 +
    h.lane.toNat * 2 ^ 51 + 0xB8 * 2 ^ 56)

/-- R258: the header of a word; none where SYNC is not the alignment value. -/
def frameHdrOf (w : W64) : Option FrameHdr :=
  if w.extractLsb' 56 8 = 0xB8#8 then
    some ⟨w.extractLsb' 51 5, w.extractLsb' 48 3, w.extractLsb' 44 4, w.extractLsb' 28 16, w.extractLsb' 4 24⟩
  else none

/-- R257: the codeword of a frame byte. -/
def codeword (i : Nat) : Nat := (i % 8 + i / 8) % 8

/-- R257, R259: the code corrects 3 byte errors in each of its eight codewords. -/
def frameDecodes (errs : List (BitVec 10)) : Bool :=
  (List.range 8).all (fun c => (errs.eraseDups.filter (fun i => codeword i.toNat == c)).length ≤ 3)

/-- R257: the channel of a lane that carries a frame byte: the (i mod n)-th active one. -/
def byteChannel (active : W16) (i : Nat) : Option Nat :=
  let on := (List.range 16).filter (fun c => active.getLsbD c)
  on[i % on.length]?

/-- A lane that a sender may deal to: LANE of its header, and its ACTIVE bits. -/
structure LaneInfo where
  lane : Lane
  num : Nat
  act : W16
deriving DecidableEq, Repr

/-- Parts of 1/64 ns in which free times of lanes are kept, so that k/8 and k/16 of a rate come out whole. -/
def frameUnit : Nat := 720720
/-- R257: how long a frame takes on a lane with `k` active channels: 102.4 ns / k. -/
def frameCost (k : Nat) : Nat := 4723310592 / k

/-- R260: the lane with the most free capacity: the one that is free first, the lowest among equals. -/
def TxFrames.pick (x : TxFrames) (now : Nat) (lanes : List LaneInfo) : Option LaneInfo :=
  (lanes.filter (fun l => l.act != 0)).foldl (fun (b : Option LaneInfo) l => match b with
    | none => some l
    | some y => if max now (SMap.get 0 x.laneAt (laneKey l.lane)) < max now (SMap.get 0 x.laneAt (laneKey y.lane)) then some l else some y) none

/-- What dealing flits gives: the stream's next FLIT_SEQ and its frames, the FLIT_SEQ of the first flit, how many IDLE flits filled a
frame before it, and the header of a frame that was opened, with its lane and start. -/
structure Dealt where
  next : BitVec 24
  tx : TxFrames
  seq : BitVec 24
  pad : Nat
  frame : Option (Lane × Nat × FrameHdr)
deriving DecidableEq, Repr

/-- R260, R294: `m` flits that belong together are dealt: where the rest of the frame is too short it is filled with IDLE flits, and a
new frame goes to the lane with the most free capacity; `first` goes ahead of what the lane still has to send (R276). -/
def TxFrames.deal (x : TxFrames) (next : BitVec 24) (lanes : List LaneInfo) (now gen kind m : Nat) (first : Bool := false) : Dealt :=
  let pad := if 15 < x.fill + m then 15 - x.fill else 0
  let fill := if pad = 0 then x.fill else 0
  let seq := next + BitVec.ofNat 24 pad
  let after := { x with fill := (fill + m) % 15 }
  let done : Dealt := ⟨seq + BitVec.ofNat 24 m, after, seq, pad, none⟩
  if fill != 0 then done
  else match x.pick now lanes with
    | none => done
    | some l =>
      let free := max now (SMap.get 0 x.laneAt (laneKey l.lane))
      { done with
        tx := { after with laneAt := SMap.set 0 x.laneAt (laneKey l.lane) (free + frameCost (popCount l.act)) }
        frame := some (l.lane, if first then now else free,
          ⟨BitVec.ofNat 5 l.num, BitVec.ofNat 3 kind, BitVec.ofNat 4 gen, l.act, seq⟩) }

/-- The time of the device in `frameUnit`s. -/
def State.frameNow (s : State) : Nat := s.now.toNat * frameUnit

/-- R257, R258: a frame that was opened leaves. -/
def State.emitFrame (s : State) (f : Option (Lane × Nat × FrameHdr)) : State :=
  match f with
  | some (l, t, h) => s.emit (.frame l t (frameWord h))
  | none => s

/-! ### Traffic between tiles (R276, R277, R303) -/

/-- The lanes of a role of a direction. -/
def State.roleLanes (s : State) (dir role : Nat) : List LaneInfo :=
  (s.wgsOf dir role).map (fun w => ⟨.wave (BitVec.ofNat 4 dir) (BitVec.ofNat 4 (w % 16)), w % 16, s.waveActive w⟩)

/-- R303: the FAB passages of a direction that carry no steered group. -/
def State.freePassages (s : State) (t u : Nat) : List LaneInfo :=
  let wgs := s.wgsOf (dirNum t u) 2
  (passages s.floe.inForce t u wgs.length).2.filterMap (fun p => (wgs[p.1]?).map (fun w =>
    ⟨.passage (BitVec.ofNat 4 (dirNum t u)) (BitVec.ofNat 4 (w % 16)) p.2, w % 16,
      s.waveActive w &&& (if p.2 then 0xFF00 else 0x00FF)⟩))

/-- Flits that belong together go on the stream of a role of a direction, over some lanes. -/
def State.dealRole (s : State) (dir role : Nat) (lanes : List LaneInfo) (m : Nat) (first : Bool) : State :=
  let k := 8 * dir + role
  let x := SMap.get (0, TxFrames.reset) s.floe.txPkg k
  let d := x.2.deal x.1 lanes s.frameNow (s.floe.steerGen.toNat % 16) 0 m first
  (s.onFloe (fun f => { f with txPkg := SMap.set (0, TxFrames.reset) f.txPkg k (d.next, d.tx) })).emitFrame d.frame

/-- R276, R277: `n` flits of the traffic of a role cross from tile `t` to tile `u`; CTL goes ahead of other traffic. -/
def State.carry (s : State) (t u role n : Nat) : State :=
  if t = u then s
  else match s.carrier (dirNum t u) role with
    | none => s
    | some r => (List.range n).foldl (fun s _ => s.dealRole (dirNum t u) r (s.roleLanes (dirNum t u) r) 1 (role = 1)) s

/-- R303: the free FAB passages of a direction are full: each still has frames to send, and the open one has no room. -/
def State.passagesFull (s : State) (t u m : Nat) : Bool :=
  let x := (SMap.get (0, TxFrames.reset) s.floe.txPkg (8 * dirNum t u + 2)).2
  let lanes := (s.freePassages t u).filter (fun l => l.act != 0)
  lanes.isEmpty || ((x.fill = 0 || 15 < x.fill + m) && lanes.all (fun l => s.frameNow < SMap.get 0 x.laneAt (laneKey l.lane)))

/-- R303: a packet of `m` flits crosses from tile `t` to tile `u`: on the FAB passages that carry no steered group, or where they are
full on the MEM waveguides behind remote HBM traffic. -/
def State.crossPacket (s : State) (t u m : Nat) : State :=
  if t = u then s
  else if !s.passagesFull t u m then s.dealRole (dirNum t u) 2 (s.freePassages t u) m false
  else match s.carrier (dirNum t u) 4 with
    | none => s
    | some r => s.dealRole (dirNum t u) r (s.roleLanes (dirNum t u) r) m false

/-- R276: what an access of a unit on tile `t` to memory of this device moves between tiles: remote HBM traffic, or remote Firn scratch
traffic, `n` bytes towards the memory or from it. -/
def State.carryMem (s : State) (t a n : Nat) (toMem : Bool) : State :=
  let flits := (n + 63) / 64
  match s.memPlace a with
  | .hbm h _ => if toMem then s.carry t (h / 6) 4 flits else s.carry (h / 6) t 4 flits
  | .scratch off => let u := off / 2 ^ 31; if toMem then s.carry t u 3 flits else s.carry u t 3 flits
  | _ => s

end Sys2Proof.Machine
end

