-- ==== Sys2Proof/Machine/FabOps.lean ====
section
/-! DEFINITION. Shared operations of the fabric: packets as bytes, wiring, routes, ports and injection (R289 to R313). -/

namespace Sys2Proof
open Machine

/-! ### Packets (R293 to R297) -/

/-- A packet whose fields are all 0. -/
def Packet.blank : Packet :=
  { hcrc := 0, addr := 0, seq := 0, tag := 0, opcode := 0, status := 0, mask := 0, dstDom := 0, srcDom := 0, dst := 0,
    src := 0, srcEng := 0, len8 := 0, atop := 0, flow := 0, pflits := 0, rsvd := 0, retry := 0, pch := 0, priv := false,
    poison := false, mc := false, mcdir := false, ord := false, cfirst := false, hop := false, ftValid := false,
    injTime := 0, fkind := 2, ext := List.replicate 32 0#8, body := [] }

/-- R295: header bits 0 to 223. -/
def Packet.hdrNat (p : Packet) : Nat :=
  p.fkind.toNat + p.injTime.toNat * 2 ^ 4 + bitN p.ftValid 36 + bitN p.hop 37 + bitN p.cfirst 38 + bitN p.ord 39 +
  bitN p.mcdir 40 + bitN p.mc 41 + bitN p.poison 42 + bitN p.priv 43 + p.pch.toNat * 2 ^ 44 + p.retry.toNat * 2 ^ 46 +
  p.rsvd.toNat * 2 ^ 48 + p.pflits.toNat * 2 ^ 64 + p.flow.toNat * 2 ^ 68 + p.atop.toNat * 2 ^ 72 +
  p.len8.toNat * 2 ^ 76 + p.srcEng.toNat * 2 ^ 82 + p.src.toNat * 2 ^ 88 + p.dst.toNat * 2 ^ 94 +
  p.srcDom.toNat * 2 ^ 100 + p.dstDom.toNat * 2 ^ 108 + p.mask.toNat * 2 ^ 116 + p.status.toNat * 2 ^ 124 +
  p.opcode.toNat * 2 ^ 132 + p.tag.toNat * 2 ^ 140 + p.seq.toNat * 2 ^ 156 + p.addr.toNat * 2 ^ 176

/-- R295: HCRC over header bytes 0 to 27, the rest of the first flit and the payload flits. -/
def Packet.crc (p : Packet) : W32 := crc32c (natLE 28 p.hdrNat ++ p.ext ++ p.body)

/-- The packet with its HCRC. -/
def Packet.sealed (p : Packet) : Packet := { p with hcrc := p.crc }

/-- R297: DATA opcodes. -/
def isDataOp (o : Nat) : Bool := o = 0x03 || o = 0x05 || o = 0x07 || o = 0x10 || o = 0x13 || o = 0x14 || o = 0x20
/-- R297: opcodes that may use outer ports. -/
def isOuterOp (o : Nat) : Bool := 0x10 ≤ o && o ≤ 0x15
/-- R297: opcodes that are not reserved. -/
def isKnownOp (o : Nat) : Bool :=
  (1 ≤ o && o ≤ 0x0A) || isOuterOp o || o = 0x20 || o = 0x21 || o = 0x30 || o = 0x31 || o = 0x32
/-- Opcodes of replies, which R310 and R330 do not hold back. -/
def isReplyOp (o : Nat) : Bool :=
  o = 0x02 || o = 0x03 || o = 0x08 || o = 0x0A || o = 0x11 || o = 0x13 || o = 0x15 || o = 0x31

/-- R297: bytes that LEN8 names. -/
def Packet.size (p : Packet) : Nat := (p.len8.toNat + 1) * 8

/-- R313: a packet whose format breaks R293, R295 or R297. -/
def Packet.badFormat (p : Packet) : Bool :=
  let o := p.opcode.toNat
  !isKnownOp o || (p.fkind.toNat != (if isDataOp o then 3 else 2)) || p.rsvd != 0 ||
  (if isDataOp o then p.pflits.toNat != (p.size + 63) / 64 else p.pflits != 0) ||
  (isDataOp o && p.size < 33 && !(isOuterOp o && p.len8 = 3 && p.pflits = 1)) ||
  (o = 0x09 && ((12 ≤ p.atop.toNat && p.atop.toNat ≤ 14) || !(p.len8 = 0 || p.len8 = 1 || p.len8 = 3))) ||
  p.ext.length != 32 || p.body.length != 64 * p.pflits.toNat

/-- Flits of a packet. -/
def Packet.flits (p : Packet) : Nat := 1 + p.pflits.toNat

/-- R305: the virtual channel of a packet: C1, C2, D1 or D2. -/
def Packet.channel (p : Packet) (hop2 : Bool) : BitVec 2 :=
  BitVec.ofNat 2 ((if isDataOp p.opcode.toNat then 2 else 0) + (if hop2 then 1 else 0))

/-- The payload of a packet: the body of a DATA packet, bytes 32 to 63 of a CONTROL packet. -/
def Packet.payload (p : Packet) : List Byte := if isDataOp p.opcode.toNat then p.body else p.ext

/-- A packet with `n` bytes of payload, CONTROL or DATA as its opcode says. -/
def Packet.withData (p : Packet) (bs : List Byte) : Packet :=
  if isDataOp p.opcode.toNat then
    let fl := (p.size + 63) / 64
    { p with fkind := 3, pflits := BitVec.ofNat 4 fl, body := padTo (64 * fl) bs }
  else { p with fkind := 2, ext := padTo 32 bs }

/-- R319: the outer port that an outer request names at its gateway. -/
def Packet.outerPort (p : Packet) : Nat := if p.atop.getLsbD 0 then 15 else 14

end Sys2Proof

namespace Sys2Proof.Machine

def State.onFab (s : State) (f : Fab → Fab) : State := { s with fab := f s.fab }
def State.onMem (s : State) (f : MemSem → MemSem) : State := { s with mem := f s.mem }
def State.onPort (s : State) (q : BitVec 4) (f : FabPort → FabPort) : State :=
  s.onFab (fun x => { x with ports := RF.put x.ports q (f (RF.at x.ports q)) })

/-! ### Shape and wiring (R289 to R291) -/

/-- R290: rows and columns of a shape code. -/
def shapeDims (code : Nat) : Nat × Nat :=
  match code with
  | 0 => (1, 2) | 1 => (2, 2) | 2 => (2, 4) | 3 => (4, 4) | 4 => (4, 8) | _ => (8, 8)

def devRow (d : Nat) : Nat := d / 8 % 8
def devCol (d : Nat) : Nat := d % 8
def devAt (r c : Nat) : Nat := 8 * r + c

/-- R290: a DevID of the shape. -/
def inShape (shape d : Nat) : Bool := devRow d < (shapeDims shape).1 && devCol d < (shapeDims shape).2

/-- The DevIDs of a shape, ascending. -/
def shapeDevs (shape : Nat) : List Nat := (List.range 64).filter (inShape shape)

/-- R291: the peer of port `p` of device `d`, and the peer's port; none for an outer port. -/
def wiring (shape d p : Nat) : Option (Nat × Nat) :=
  if 14 ≤ p then none else
    let (rows, cols) := shapeDims shape
    let along := p ≤ 6 || rows = 1
    let n := if along then cols - 1 else rows - 1
    let me := if along then devCol d else devRow d
    let at' := fun x => if along then devAt (devRow d) x else devAt x (devCol d)
    let b := if p ≤ 6 then 0 else 7
    let i := p - b
    if n = 3 && i = 6 then some (at' (3 - me), b + 6)
    else
      let idx := i % n
      let other := if idx < me then idx else idx + 1
      let back := if me < other then me else me - 1
      some (at' other, b + back + n * (i / n))

def State.shape (s : State) : Nat := s.fab.shape

/-- The ports of this device that are wired to a device. -/
def State.portsTo (s : State) (d : Nat) : List Nat :=
  (List.range 14).filter (fun p => ((wiring s.shape s.devid p).map (·.1)) == some d)

/-- The neighbours of this device: those that R291 wires to it. -/
def State.neighbours (s : State) : List Nat := (shapeDevs s.shape).filter (fun d => !(s.portsTo d).isEmpty)

/-! ### Ports and routes -/

def State.portSt (s : State) (q : Nat) : PortSt := (RF.at s.floe.ports (BitVec.ofNat 4 q)).st
def State.portUp (s : State) (q : Nat) : Bool := s.portSt q = .up

/-- R278, R284: a lit group deals the frames of a port; a group between T and its START carries none (R282). -/
def State.portLit (s : State) (q : Nat) : Bool :=
  (List.range 32).any (fun g => s.groupLit g && (s.groupByte g).toNat % 16 == q && !s.floe.starting.contains g)

def routeMode (e : W16) : Nat := e.toNat / 2 ^ 13
def State.mode (s : State) (d : Nat) : Nat := routeMode (RF.at s.fab.routes (BitVec.ofNat 6 d))
def modeVia : Nat := 1
def modeLost : Nat := 2
def modeUnreachable : Nat := 3
def modeOutside : Nat := 4
def modeSelf : Nat := 5

/-- R298: the table at the end of THAW. -/
def defaultRoutes (shape own : Nat) : RF 6 W16 :=
  Vector.ofFn (fun d : Fin (2 ^ 6) => BitVec.ofNat 16 (2 ^ 13 *
    (if d.val = own then modeSelf else if inShape shape d.val then 0 else modeOutside)))

/-- R14, R15: the Floe tile of a source engine. -/
def engTile (e : Nat) : Nat :=
  if e < 32 then e / 8 else if e < 36 then e - 32
  else match e with | 37 => 2 | 39 => 1 | 41 => 3 | _ => 0

/-- R300: the hash of a flow. -/
def flowHash (eng dst flow seed : Nat) : Nat := (eng * 29 + dst * 13 + flow * 7 + seed) % 256

/-- R314: a device is locally lost. -/
def State.locallyLost (s : State) (d : Nat) : Bool := s.fab.lostPeers.getLsbD d

/-- R300: the next hop of a packet for another device, and whether it goes column first; `tile` holds it. -/
def State.nextHop (s : State) (p : Packet) (tile : Nat) : Nat × Bool :=
  let own := s.devid
  let dst := p.dst.toNat
  let e := RF.at s.fab.routes p.dst
  if p.hop then (dst, p.cfirst)
  else if routeMode e = modeVia then ((e.toNat / 64) % 64, p.cfirst)
  else if devRow dst = devRow own || devCol dst = devCol own then (dst, p.cfirst)
  else
    let x := flowHash p.srcEng.toNat dst p.flow.toNat (RF.at s.fab.seed (BitVec.ofNat 2 tile)).toNat
    let viaCol := devAt (devRow dst) (devCol own)
    let viaRow := devAt (devRow own) (devCol dst)
    let c := !p.ord && 128 ≤ x
    let c := if s.locallyLost (if c then viaCol else viaRow) then !c else c
    (if c then viaCol else viaRow, c)

/-- R301: what becomes of a packet for a next hop. -/
inductive PortChoice where
  | port (q : Nat)
  | wait
  | discard
deriving DecidableEq, Repr

/-- R301: the port to the next hop. -/
def State.choosePort (s : State) (p : Packet) (next tile : Nat) : PortChoice :=
  let x := flowHash p.srcEng.toNat p.dst.toNat p.flow.toNat (RF.at s.fab.seed (BitVec.ofNat 2 tile)).toNat
  let wired := s.portsTo next
  let ups := wired.filter (fun q => s.portUp q)
  let lit := ups.filter (fun q => s.portLit q)
  let cands := if p.ord || lit.isEmpty then ups else lit
  match cands[x % cands.length]? with
  | some q => .port q
  | none =>
    if wired.any (fun q => s.portSt q = .training) || s.fab.silent.contains next then .wait else .discard

/-! ### Counters (R313, R321) -/

def cntTxFlits : Nat := 0
def cntRxFlits : Nat := 1
def cntTxCtrl : Nat := 2
def cntTxData : Nat := 3
def discCrc : Nat := 4
def discFormat : Nat := 5
def discRoute : Nat := 6
def discOuter : Nat := 7
def discBusy : Nat := 8

def State.fabCount (s : State) (q i n : Nat) : State :=
  s.onFab (fun x => { x with counters := SMap.upd 0 x.counters (11 * q + i) (fun c => satAdd c n) })

/-- R313: a packet that arrived on a port is discarded and counted there; an injected one is not counted. -/
def State.discard (s : State) (port : Option (BitVec 4)) (i : Nat) : State :=
  match port with
  | some q => s.fabCount q.toNat i 1
  | none => s

/-! ### Sending -/

/-- Put a packet at the end of a port's send queue. -/
def State.enqueue (s : State) (q : Nat) (x : Queued) : State :=
  s.onPort (BitVec.ofNat 4 q) (fun p => { p with out := p.out ++ [{ x with pkt := x.pkt.sealed }] })

/-- R301, R303, R313, R314: hand a packet that a tile holds to a port to its next hop, or let it wait, or discard it. -/
def State.sendTo (s : State) (x : Queued) (tile : Nat) : State :=
  if s.locallyLost x.next then s.discard x.port discRoute
  else match s.choosePort x.pkt x.next tile with
  | .port q => (s.crossPacket tile (q / 4) x.pkt.flits).enqueue q x
  | .wait => s.onFab (fun f => { f with waiting := f.waiting ++ [x] })
  | .discard => s.discard x.port discRoute

/-- The Floe tile that holds a packet: of the port on which it arrived, or of its issuing unit (R301). -/
def Queued.tile (x : Queued) : Nat :=
  match x.port with
  | some p => p.toNat / 4
  | none => engTile x.pkt.srcEng.toNat

/-- R299: no packet is injected towards a destination whose MODE is LOST, UNREACHABLE or OUTSIDE. -/
def State.sealedOff (s : State) (d : Nat) : Bool :=
  d != s.devid && (s.mode d = modeLost || s.mode d = modeUnreachable || s.mode d = modeOutside)

/-- R319: an outer request leaves the domain at its gateway, this device. -/
def State.sendOuter (s : State) (p : Packet) (port : Option (BitVec 4)) : State :=
  let q := p.outerPort
  if s.portUp q = false then s.discard port discRoute
  else if (RF.at s.floe.ports (BitVec.ofNat 4 q)).peerDom != p.dstDom then s.discard port discOuter
  else
    let x : Queued := ⟨p, p.dst.toNat, port⟩
    (s.crossPacket x.tile (q / 4) p.flits).enqueue q x

/-- R295: stamp a packet at its injection. -/
def State.stamp (s : State) (p : Packet) : Packet :=
  { p with src := s.fab.devid, injTime := BitVec.ofNat 32 (s.clk.ft.toNat / 64), ftValid := s.clk.ftState != .unset }

/-- R299 to R301: inject a packet of a unit on a tile towards another device. -/
def State.inject (s : State) (p : Packet) (tile : Nat) : State :=
  let p := s.stamp p
  if s.sealedOff p.dst.toNat then s
  else if isOuterOp p.opcode.toNat && p.dst.toNat = s.devid then s.sendOuter p none
  else
    let (next, c) := s.nextHop p tile
    s.sendTo ⟨{ p with cfirst := c }, next, none⟩ tile

/-- R301: packets that wait for a port try again. -/
def State.retryWaiting (s : State) : State :=
  s.fab.waiting.foldl (fun s x => s.sendTo x x.tile) (s.onFab (fun f => { f with waiting := [] }))

/-- R301, R314: a port has gone DOWN: its waiting packets choose again; flits in its send stream are gone. -/
def State.requeue (s : State) (q : BitVec 4) : State :=
  let w := (RF.at s.fab.ports q).out
  let s := s.onPort q (fun p => { p with out := [], ctlWait := 0 })
  w.foldl (fun s x =>
    if 14 ≤ q.toNat then s.discard x.port discRoute
    else s.sendTo x x.tile) s

/-! ### Fabric-time upstream (R382, R385) -/

/-- R382: the UP port whose peer is LOCKED or GRANDMASTER with the fewest hops, the lowest port among equals. -/
def State.bestUpstream (s : State) : Option (Nat × Nat) :=
  ((List.range 16).filterMap (fun q =>
    let p := RF.at s.clk.ports (BitVec.ofNat 4 q)
    if s.portUp q && (p.state = .locked || p.state = .grandmaster) && (p.a.isSome || p.b.isSome) then some (q, p.hops) else none)).foldl
    (fun (b : Option (Nat × Nat)) x => match b with
      | none => some x
      | some y => if x.2 < y.2 then some x else some y) none

/-- R382, R385: take the upstream, or go to HOLDOVER without one; the holder of the role follows none. -/
def State.pickUpstream (s : State) : State :=
  if s.clk.ftState = .grandmaster then s
  else match s.bestUpstream with
  | some (q, h) =>
    let same := s.clk.upstream == some (BitVec.ofNat 4 q)
    { s with clk := { s.clk with
      upstream := some (BitVec.ofNat 4 q), hops := h + 1
      inRow := if same then s.clk.inRow else 0, outRow := if same then s.clk.outRow else 0
      ftState := if s.clk.ftState = .holdover then .acquiring else s.clk.ftState } }
  | none =>
    { s with clk := { s.clk with
      upstream := none, inRow := 0, outRow := 0
      ftState := if s.clk.ftState = .unset then .unset else .holdover } }

/-- R382: a port that carries nothing tells no time. -/
def State.forgetTime (s : State) (q : BitVec 4) : State :=
  let s := { s with clk := { s.clk with ports := RF.put s.clk.ports q PortTime.reset } }
  if s.clk.upstream = some q then s.pickUpstream else s

/-! ### Service messages (R263) -/

/-- R263: the UP port on which a message for a device goes: to it, or row first to the row peer in its column. -/
def State.svcPort (s : State) (d : Nat) : List Nat :=
  let direct := (s.portsTo d).filter (fun q => s.portUp q)
  if d = s.devid then []
  else if !(s.portsTo d).isEmpty then direct.take 1
  else ((s.portsTo (devAt (devRow s.devid) (devCol d))).filter (fun q => s.portUp q)).take 1

/-- R263: the ports on which a message is sent. -/
def State.svcPorts (s : State) (dest : SvcTo) : List Nat :=
  match dest with
  | .link q _ => [q.toNat]
  | .dev d => s.svcPort d.toNat
  | .all => (List.range 14).filter (fun q => s.portUp q)

/-- R263: byte 3: the destination. -/
def SvcTo.byte : SvcTo → Byte
  | .link _ _ => 0x80
  | .dev d => d.setWidth 8
  | .all => 0x40

/-- R263: a message as it is framed: LENGTH counts the whole message and is a multiple of 4 from 16 on. -/
def svcFrame (src : BitVec 6) (dest : SvcTo) (type : Byte) (seq : W16) (payload : List Byte) : List Byte :=
  let n := max 4 ((payload.length + 3) / 4 * 4)
  let b := [type, BitVec.ofNat 8 (n + 12), src.setWidth 8, dest.byte, 0, 0] ++ natLE 2 seq.toNat ++ padTo n payload
  b ++ natLE 4 (crc32c b).toNat

/-- R263: send a service message, with the next count of its type. -/
def State.svc (s : State) (dest : SvcTo) (type : Byte) (payload : List Byte) : State :=
  let n := SMap.get 0 s.floe.svcSeq type.toNat
  (s.onFloe (fun f => { f with svcSeq := SMap.set 0 f.svcSeq type.toNat (n + 1) })).emit
    (.svc dest (s.svcPorts dest) type n (svcFrame s.fab.devid dest type n payload))

/-- R263: ports on which a message that arrived is forwarded once. -/
def State.relayPorts (s : State) (h : SvcHdr) : List Nat :=
  if h.relay || h.link then []
  else if h.all then
    if h.port.toNat ≤ 6 && (shapeDims s.shape).1 != 1 then ([7, 8, 9, 10, 11, 12, 13] : List Nat).filter (fun q => s.portUp q)
    else []
  else if h.dst = s.fab.devid then []
  else ((s.portsTo h.dst.toNat).filter (fun q => s.portUp q)).take 1

/-- R263: a service message arrives: whether this device acts on it, and the state with the copy remembered and the
message forwarded where R263 asks for it. -/
def State.svcIn (s : State) (h : SvcHdr) (type : Byte) (payload : List Byte) : Bool × State :=
  let now := s.now
  let recent := s.floe.svcSeen.filter (fun x => (now - x.2.2.2).toNat ≤ msU 10)
  if !h.crcOk || recent.any (fun x => x.1 = h.src && x.2.1 = type && x.2.2.1 = h.seq) then (false, s)
  else
    let ports := s.relayPorts h
    let s := { s with floe := { s.floe with svcSeen := (h.src, type, h.seq, now) :: recent } }
    let s := if ports.isEmpty then s else s.emit (.svcRelay ports { h with relay := true } type payload)
    (h.link || h.all || h.dst = s.fab.devid, s)

/-- A meaning of a service message that this device acts on. -/
def State.onSvc (s : State) (h : SvcHdr) (type : Byte) (payload : List Byte) (f : State → State) : Res :=
  match s.svcIn h type payload with
  | (true, s) => .next (f s)
  | (false, s) => .next s

end Sys2Proof.Machine
end

