-- ==== Sys2Proof/Machine/TileCtl.lean ====
section
/-! DEFINITION. The control slot (R43 to R49, R55, R72, R82, R102, R157, R169, R179). -/

namespace Sys2Proof.Machine

/-- A control operation whose SUB value is one of those it defines; any other stops the tile (R46). -/
def ctlOp (s : State) (n : Nat) (subOk : Bool) (f : Tile → State) : Res :=
  s.withTile n (fun t => if subOk then f t else s.tileFault n faultIllegalOp)

/-- The end of a bundle whose control slot writes an address register (R44). -/
def State.ctlSetA (s : State) (n : Nat) (t : Tile) (r : BitVec 4) (v : BitVec 20) : State :=
  let u := t.applyPost
  s.ctlNext n { u with a := RF.put u.a r v }

/-- The end of a bundle whose control slot writes a scalar register (R44). -/
def State.ctlSetS (s : State) (n : Nat) (t : Tile) (r : BitVec 4) (v : W64) : State :=
  let u := t.applyPost
  s.ctlNext n { u with s := RF.put u.s r v }

/-- The register that IMM20[3:0] names. -/
def ctlLow (c : CtlSlot) : BitVec 4 := c.imm.setWidth 4

/-- CNOP: none (R47); the bundle ends. -/
def execCnop (n : Nat) (_ : CtlSlot) (s : State) : Res := s.withTile n (fun t => s.ctlNext n t.applyPost)

/-- SETA: A[REG] := IMM20 (R47). -/
def execSeta (n : Nat) (c : CtlSlot) (s : State) : Res :=
  ctlOp s n (c.sub = 0) (fun t => s.ctlSetA n t c.reg c.imm)

/-- ADDA: A[REG] := A[REG] + sext(IMM20), modulo 2^20 (R47). -/
def execAdda (n : Nat) (c : CtlSlot) (s : State) : Res :=
  ctlOp s n (c.sub = 0) (fun t => s.ctlSetA n t c.reg (RF.at t.a c.reg + c.imm))

/-- SETS: S[REG] := IMM20 (R47). -/
def execSets (n : Nat) (c : CtlSlot) (s : State) : Res :=
  ctlOp s n (c.sub = 0) (fun t => s.ctlSetS n t c.reg (c.imm.setWidth 64))

/-- SHIS: S[REG] := (S[REG] << 20) or IMM20 (R47). -/
def execShis (n : Nat) (c : CtlSlot) (s : State) : Res :=
  ctlOp s n (c.sub = 0) (fun t => s.ctlSetS n t c.reg ((RF.at t.s c.reg <<< 20) ||| c.imm.setWidth 64))

/-- ADDS: S[REG] := S[REG] + sext(IMM20) (R47). -/
def execAdds (n : Nat) (c : CtlSlot) (s : State) : Res :=
  ctlOp s n (c.sub = 0) (fun t => s.ctlSetS n t c.reg (RF.at t.s c.reg + c.imm.signExtend 64))

/-- LDS: S[REG] := 8 B at A[IMM20[3:0]], 8-byte aligned (R47); an uncorrectable word is SRAM_UC (R38). -/
def execLds (n : Nat) (c : CtlSlot) (s : State) : Res :=
  ctlOp s n (c.sub = 0) (fun t =>
    let a := (RF.at t.a (ctlLow c)).toNat
    if a % 8 ≠ 0 then s.tileFault n faultMisaligned
    else if t.bad a 8 then s.tileFault n faultSramUc
    else (s.sramCe n a 8).ctlSetS n t c.reg (BitVec.ofNat 64 (t.read a 8)))

/-- STS: 8 B at A[IMM20[3:0]] := S[REG] (R47); no rule makes a misaligned STS a fault (log entry 21). -/
def execSts (n : Nat) (c : CtlSlot) (s : State) : Res :=
  ctlOp s n (c.sub = 0) (fun t =>
    s.ctlNext n (t.applyPost.write (RF.at t.a (ctlLow c)).toNat (natLE 8 (RF.at t.s c.reg).toNat)))

/-- MOVA: A[REG] := S[IMM20[3:0]][19:0] (R47). -/
def execMova (n : Nat) (c : CtlSlot) (s : State) : Res :=
  ctlOp s n (c.sub = 0) (fun t => s.ctlSetA n t c.reg ((RF.at t.s (ctlLow c)).setWidth 20))

/-- MOVS: S[REG] := A[IMM20[3:0]] (R47). -/
def execMovs (n : Nat) (c : CtlSlot) (s : State) : Res :=
  ctlOp s n (c.sub = 0) (fun t => s.ctlSetS n t c.reg ((RF.at t.a (ctlLow c)).setWidth 64))

/-- The bundle number at a signed distance, modulo 2^20. -/
def bundleAt (b : Nat) (d : BitVec 20) : Nat := (BitVec.ofNat 20 b + d).toNat

/-- BR: bundle number := current + sext(IMM20): always, if S[REG] = 0, or if S[REG] is not 0 (R47). -/
def execBr (n : Nat) (c : CtlSlot) (s : State) : Res :=
  ctlOp s n (c.sub != 3) (fun t =>
    let taken := if c.sub = 0 then true else if c.sub = 1 then RF.at t.s c.reg = 0 else RF.at t.s c.reg ≠ 0
    if taken then (s.setTile n { t.applyPost with bundle := bundleAt t.bundle c.imm }).fetchNext n
    else s.ctlNext n t.applyPost)

/-- LOOP: run the next IMM20 bundles S[REG] times at level SUB; a count of 0 skips them (R47, R48). A LOOP over no
bundles does nothing (log entry 22). -/
def execLoop (n : Nat) (c : CtlSlot) (s : State) : Res :=
  s.withTile n (fun t =>
    let k := RF.at t.s c.reg
    let u := t.applyPost
    if (RF.at t.loops c.sub).isSome then s.tileFault n faultLoopDepth
    else if c.imm = 0 then s.ctlNext n u
    else if k = 0 then (s.setTile n (u.goAfter (t.bundle + c.imm.toNat))).fetchNext n
    else s.ctlNext n { u with loops := RF.put u.loops c.sub (some ⟨t.bundle + 1, t.bundle + c.imm.toNat, k⟩) })

/-- The counter that a WAIT names: CC[REG], or the run-ahead count of the window of the block that runs (R69); before the first BLK
no block runs, and the spec does not say which count SUB 1 takes: the model takes that of W0 (log entry 146). -/
def Tile.waitCounter (t : Tile) (c : CtlSlot) : Counter :=
  if c.sub = 0 then RF.at t.cc c.reg else RF.at t.ra.counts (BitVec.ofNat 3 (t.ra.block.getD 0))

/-- WAIT: until the count reaches IMM20; a met WAIT on a status that is not OK is REMOTE_FAIL unless the counter is
tolerant (R47, R49). -/
def execWait (n : Nat) (c : CtlSlot) (s : State) : Res :=
  ctlOp s n (c.sub.toNat < 2) (fun t =>
    let k := t.waitCounter c
    if k.count.toNat < c.imm.toNat then s
    else if k.bad ≠ 0 ∧ k.tolerant = false then s.tileFault n faultRemoteFail
    else s.ctlNext n t.applyPost)

/-- CCSET: CC[REG] := IMM20, its status cleared, tolerant if SUB[0] (R47). -/
def execCcset (n : Nat) (c : CtlSlot) (s : State) : Res :=
  ctlOp s n (c.sub.toNat < 2) (fun t =>
    let u := t.applyPost
    s.ctlNext n { u with cc := RF.put u.cc c.reg ⟨c.imm.setWidth 32, 0, 0, c.sub = 1⟩ })

/-- CCST: S[REG] := the code of CC[IMM20[3:0]] in [7:0] and its non-OK count in [39:8] (R47). -/
def execCcst (n : Nat) (c : CtlSlot) (s : State) : Res :=
  ctlOp s n (c.sub = 0) (fun t =>
    let k := RF.at t.cc (ctlLow c)
    s.ctlSetS n t c.reg (k.code.setWidth 64 ||| (k.bad.setWidth 64 <<< 8)))

/-- R45: no stream operation of the tile is unfinished. -/
def Tile.streamIdle (t : Tile) : Bool :=
  t.memQ.isEmpty && t.doneOps.isEmpty &&
  t.sendCh.toList.all (fun c => match c with | .idle => true | _ => false) && t.recvCh.toList.all (fun c => c.isNone)

/-- R45: no matrix operation of the tile is unfinished. -/
def Tile.matrixIdle (t : Tile) : Bool := t.matQ.isEmpty

/-- TFENCE: waits until the accesses of earlier matrix operations, stream operations or both are complete (R45). -/
def execTfence (n : Nat) (c : CtlSlot) (s : State) : Res :=
  ctlOp s n (c.sub != 0) (fun t =>
    if (c.sub.getLsbD 0 && !t.matrixIdle) || (c.sub.getLsbD 1 && !t.streamIdle) then s
    else s.ctlNext n t.applyPost)

/-! ### Matrix descriptors (R55, R117) -/

def descWord (d : BitVec 256) (w : Nat) : W32 := (d >>> (32 * w)).setWidth 32
def descFmtA (d : BitVec 256) : Nat := ((descWord d 0).toNat) % 16
def descFmtB (d : BitVec 256) : Nat := ((descWord d 0).toNat / 16) % 16
def descFmtOut (d : BitVec 256) : Nat := ((descWord d 0).toNat / 256) % 16
def descAUns (d : BitVec 256) : Bool := d.getLsbD 13
def descBUns (d : BitVec 256) : Bool := d.getLsbD 14
def descRnd (d : BitVec 256) : Nat := ((descWord d 0).toNat / 32768) % 8
def descMx (d : BitVec 256) : Bool := d.getLsbD 18
def descSat (d : BitVec 256) : Bool := d.getLsbD 19

/-- R52, R117: the row of the operand table that a format belongs to. -/
def matRow (f : Nat) : Nat :=
  match f with
  | 0 => 1 | 1 => 2 | 2 => 3 | 3 => 4 | 4 => 4 | 5 => 5 | 6 => 5 | 7 => 6 | 8 => 6 | 9 => 7 | 12 => 8 | 13 => 9 | _ => 0

/-- R117: the outputs of a row. -/
def matOuts (row : Nat) : List Nat :=
  if row = 1 then [0] else if row = 8 ∨ row = 9 then [0, 1, 3, 11, 12, 14] else [0, 1, 2, 3, 4, 5, 6, 14]

/-- R55, R117: whether a descriptor is accepted. -/
def descOk (d : BitVec 256) : Bool :=
  let a := descFmtA d
  let b := descFmtB d
  let row := matRow a
  let intA := a == 12 || a == 13
  let intB := b == 12 || b == 13
  row != 0 && row == matRow b && (matOuts row).contains (descFmtOut d) && descRnd d < 5 &&
  (!descMx d || (isMxFmt a (descAUns d) && isMxFmt b (descBUns d))) &&
  (!descAUns d || intA) && (!descBUns d || intB) &&
  (descWord d 0).toNat / 2 ^ 20 == 0 && !d.getLsbD 12 && (descWord d 5).toNat / 2 ^ 20 == 0 &&
  (descWord d 6).toNat / 2 ^ 20 == 0 && descWord d 7 == 0

/-- LDMD: MD[REG] := 32 B at A[IMM20[3:0]], or BAD_DESCRIPTOR (R55). -/
def execLdmd (n : Nat) (c : CtlSlot) (s : State) : Res :=
  ctlOp s n (c.sub = 0) (fun t =>
    let a := (RF.at t.a (ctlLow c)).toNat
    let d := BitVec.ofNat 256 (t.read a 32)
    if t.bad a 32 then s.tileFault n faultSramUc
    else if descOk d then
      let u := t.applyPost
      (s.sramCe n a 32).ctlNext n { u with md := RF.put u.md c.reg d }
    else s.tileFault n faultBadDescriptor)

/-- SETRND: the rounding mode, and with SUB[0] the seed S[REG][31:0] (R47, R102). -/
def execSetrnd (n : Nat) (c : CtlSlot) (s : State) : Res :=
  ctlOp s n (c.sub.toNat < 2) (fun t =>
    if 4 < c.imm.toNat then s.tileFault n faultIllegalOp
    else
      let u := t.applyPost
      s.ctlNext n { u with rnd := c.imm.setWidth 3, g := if c.sub = 1 then (RF.at t.s c.reg).setWidth 32 else u.g })

/-! ### Run-ahead (R69 to R72, R158) -/

/-- R158: an entry of the block table: list address, list count, next block. -/
def Tile.blockEntry (t : Tile) (table b : Nat) : Nat × Nat × Nat :=
  let e := t.read (table + 8 * b) 8
  (e % 2 ^ 20, (e / 2 ^ 20) % 2 ^ 12, (e / 2 ^ 32) % 2 ^ 20)

/-- R39: the address of a staging window. -/
def Tile.windowAddr (t : Tile) (block : Nat) : Nat := 2 ^ 20 - t.stageBytes + (block % 8) * (t.stageBytes / 8)

/-- R68: the list of a block, with entry numbers from `id` on. -/
def Tile.blockList (t : Tile) (table b id : Nat) : List RaEntry :=
  let (addr, count, _) := t.blockEntry table b
  (List.range count).map (fun i =>
    let w := t.read (addr + 16 * i) 8
    { id := id + i, block := b, seg := BitVec.ofNat 4 (w / 2 ^ 60), off := BitVec.ofNat 40 w,
      len := t.read (addr + 16 * i + 8) 2, dst := t.windowAddr b + 8 * t.read (addr + 16 * i + 10) 2,
      sent := 0, done := 0, code := 0, redo := [] })

/-- R69: give a block its window: the count starts from 0, also where the block had the window before. -/
def RunAhead.claim (r : RunAhead) (b : Nat) : RunAhead :=
  let w := BitVec.ofNat 3 b
  { r with owner := RF.put r.owner w (some b), counts := RF.put r.counts w Counter.zero }

/-- R38: the table entry of a block and its list can be read. -/
def Tile.listReadable (t : Tile) (table b : Nat) : Bool :=
  !t.bad (table + 8 * b) 8 && !t.bad (t.blockEntry table b).1 (16 * (t.blockEntry table b).2.1)

/-- R38: the table entry of a block and its list are read. -/
def State.listCe (s : State) (n : Nat) (t : Tile) (table b : Nat) : State :=
  (s.sramCe n (table + 8 * b) 8).sramCe n (t.blockEntry table b).1 (16 * (t.blockEntry table b).2.1)

/-- Reach a block: it gets its window, and its list joins the entries. -/
def Tile.reach (t : Tile) (table b : Nat) : Tile :=
  let l := t.blockList table b t.ra.nextId
  let r := t.ra.claim b
  { t with ra := { r with entries := r.entries ++ l, nextId := r.nextId + l.length } }

/-- R72: undo run-ahead: the epoch increments, and what later blocks hold of counts, statuses and entries is cleared, with the
completions of their entries that wait to be counted. -/
def Tile.undoRunAhead (t : Tile) : Tile :=
  let r := t.ra
  let keep := r.block.map (BitVec.ofNat 3)
  { t with
    doneOps := t.doneOps.filter (fun d => match d.1 with | .window b => r.block = some b | .cc _ => true)
    ra := { r with
      reached := []
      epoch := r.epoch + 1
      entries := []
      counts := Vector.ofFn (fun i => if keep = some (BitVec.ofFin i) then RF.at r.counts (BitVec.ofFin i) else Counter.zero)
      owner := Vector.ofFn (fun i => if keep = some (BitVec.ofFin i) then RF.at r.owner (BitVec.ofFin i) else none) } }

/-- The block expected after the one that runs (R158 NEXT). -/
def Tile.expected (t : Tile) (table : Nat) : Option Nat := t.ra.block.map (fun b => (t.blockEntry table b).2.2)

/-- R72: block `b` is not the one expected after the block that runs. -/
def Tile.misses (t : Tile) (table b : Nat) : Bool := t.expected table != none && t.expected table != some b

/-- R72: requests tagged with the next epoch value are outstanding, so an undo waits for them. -/
def Tile.epochBusy (t : Tile) : Bool := t.ra.out.any (fun q => q.epoch = t.ra.epoch + 1)

/-- R69, R70, R72: block `b` begins: a block other than the one expected undoes run-ahead, and a block that run-ahead
did not reach has its whole list issued now. -/
def Tile.enterBlock (t : Tile) (table b : Nat) : Tile :=
  let t := if t.misses table b then t.undoRunAhead else t
  if t.ra.reached.head? = some b then { t with ra := { t.ra with block := some b, reached := t.ra.reached.tail } }
  else
    let u := { t with ra := { t.ra with block := some b, reached := [] } }
    u.reach table b

/-- BLK: the block marker IMM20 (R72, R158). A block that undoes run-ahead waits while the next epoch value is still on
outstanding requests (R72). -/
def execBlk (n : Nat) (c : CtlSlot) (s : State) : Res :=
  ctlOp s n (c.sub = 0) (fun t =>
    match s.tileProg n with
    | none => s
    | some p =>
      let b := c.imm.toNat
      if p.img.blockCount ≤ b then s.tileFault n faultIllegalOp
      else if t.ra.reached.head? != some b && !t.listReadable p.img.blockTable b then s.tileFault n faultSramUc
      else if t.misses p.img.blockTable b && t.epochBusy then s
      else
        let s := if t.ra.reached.head? != some b then s.listCe n t p.img.blockTable b else s
        s.ctlNext n (t.applyPost.enterBlock p.img.blockTable b))

/-- PHASE: the phase marker IMM20; a phase that the image does not have is ILLEGAL_OP (R157). -/
def execPhase (n : Nat) (c : CtlSlot) (s : State) : Res :=
  ctlOp s n (c.sub = 0) (fun t =>
    match s.tileProg n with
    | none => s
    | some p =>
      if p.img.phases.length ≤ c.imm.toNat then s.tileFault n faultIllegalOp
      else (s.onProg p.tag (fun p => { p with phase := c.imm.toNat })).ctlNext n
        { t.applyPost with phase := c.imm.toNat })

/-- R82: nothing of the tile is in flight at a slice point: its channels are idle, its counters and the count of the block that runs
have counted all that was issued, no flit waits in a link buffer, and the engines hold nothing that a context does not carry (log entry 23). -/
def Tile.drained (t : Tile) : Bool :=
  t.streamIdle && t.ra.entries.all (fun e => t.ra.block != some e.block) && t.matrixIdle && t.vPend.isEmpty && t.linkBuf.toList.all (fun b => b.isEmpty)

/-- SLICE: a tile asked to preempt drains, holds and reports its slice number; any other runs on (R82). -/
def execSlice (n : Nat) (c : CtlSlot) (s : State) : Res :=
  ctlOp s n (c.sub = 0) (fun t =>
    let k := c.imm.toNat
    let u := { t.applyPost with slice := k }
    if t.holdReq && (t.holdAt = none || t.holdAt = some k) then
      if t.drained then
        (s.setTile n { u with st := .sliceHold }).onProg (t.prog.getD 0) (fun p =>
          { p with reports := SMap.set none p.reports n (some k) })
      else s
    else s.ctlNext n u)

/-- R179: whether every tile of a program waits at the barrier or has halted, and whether all have halted. -/
def State.allAtBarrier (s : State) (p : Prog) : Bool :=
  p.tiles.all (fun n => (s.tile n).st = .barrier || (s.tile n).st = .halted)
def State.allHalted (s : State) (p : Prog) : Bool := p.tiles.all (fun n => (s.tile n).st = .halted)

/-- R179, R408: after a DONE or a HALT: the barrier is reached when every tile has come to it, and then waits for the
phase governor; the time of the last HALT is kept for COMPLETE (R163). A halted tile counts as having come to the
barrier (log entry 24). -/
def State.barrierCheck (s : State) (tag : W32) : State :=
  match s.prog? tag with
  | none => s
  | some p =>
    if p.st != .running then s
    else if s.allHalted p then s.onProg tag (fun p => { p with endTime := s.ftime })
    else if s.allAtBarrier p then
      s.onProg tag (fun p => { p with
        st := .atBarrier, phaseDone := p.phase
        govHold := match p.img.phases[p.phase + 1]? with
          | some e => e.est = 0 || 120000 ≤ e.est.toNat
          | none => false })
    else s

/-- R407: a tile has come to the end of its phase. -/
def State.phaseEnds (s : State) (tag : W32) (n : Nat) : State :=
  let now := s.now
  s.onProg tag (fun p => { p with doneAt := RF.put p.doneAt (BitVec.ofNat 2 (n / 256)) now })

/-- DONE: the end of the phase for this tile (R179). -/
def execPhaseDone (n : Nat) (c : CtlSlot) (s : State) : Res :=
  ctlOp s n (c.sub = 0) (fun t =>
    ((s.setTile n { t.applyPost.goAfter t.bundle with st := .barrier }).phaseEnds (t.prog.getD 0) n).barrierCheck (t.prog.getD 0))

/-- HALT: the end of the program for this tile (R47). -/
def execHalt (n : Nat) (c : CtlSlot) (s : State) : Res :=
  ctlOp s n (c.sub = 0) (fun t =>
    (s.setTile n { t.applyPost with st := .halted }).barrierCheck (t.prog.getD 0))

/-- R169: a trap: with NOTIFY_TRAP at most one TRAP_EVENT a scheduler cycle, the rest counted. -/
def State.trapEvent (s : State) (n : Nat) (imm : Nat) : State :=
  match s.tileProg n with
  | none => s
  | some p =>
    if p.notifyTrap = false then s
    else if p.trapSent then s.onSched (fun x => { x with trapsDropped := satInc x.trapsDropped })
    else (s.onProg p.tag (fun p => { p with trapSent := true })).d2hEvent 0x0107
      (natLE 4 p.tag.toNat ++ natLE 2 n ++ natLE 2 0 ++ natLE 4 imm)

/-- TRAP: an event to N0; the tile continues (R47, R169). -/
def execTrap (n : Nat) (c : CtlSlot) (s : State) : Res :=
  ctlOp s n (c.sub = 0) (fun t => (s.trapEvent n c.imm.toNat).ctlNext n t.applyPost)

end Sys2Proof.Machine
end

