-- ==== Sys2Proof/Machine/TileLink.lean ====
section
/-! DEFINITION. Neighbour links, bridges and the link operations of the stream slot (R38, R61 to R67, R75). -/

namespace Sys2Proof.Machine

/-! ### Geometry -/

/-- The neighbour of a tile: 0 north, 1 east, 2 south, 3 west; none beyond the die's edge. -/
def nbr (n : Nat) (d : BitVec 2) : Option Nat :=
  let x := n % 16
  let y := (n / 16) % 16
  match d.toNat with
  | 0 => if y = 15 then none else some (n + 16)
  | 1 => if x = 15 then none else some (n + 1)
  | 2 => if y = 0 then none else some (n - 16)
  | _ => if x = 0 then none else some (n - 1)

/-- The direction that a flit sent on `d` arrives from. -/
def opp (d : BitVec 2) : BitVec 2 := d + 2

/-- R75: a fused or retired tile of the map in force is a bridge. -/
def State.isBridge (s : State) (n : Nat) : Bool := (SMap.get MapEnt.full s.serac.map.ents n).st != .enabled

/-! ### Moving flits -/

/-- A link end that may be able to move a flit: a send side or a receive side of a tile. -/
structure LinkEnd where
  tile : Nat
  dir : BitVec 2
  send : Bool

/-- R63: put a flit on the wire towards `d`, using a credit. R65 stops a tile that would send off the die; no rule says what becomes of
a flit that a bridge at the edge forwards off it: the model uses a credit and the flit is gone (log entry 147). -/
def State.wireOut (s : State) (n : Nat) (d : BitVec 2) (f : Flit) : State :=
  let s := s.onTile n (fun t => { t with credit := RF.put t.credit d (RF.at t.credit d - 1) })
  match nbr n d with
  | none => s
  | some m => s.onTile m (fun t => { t with wire := RF.put t.wire (opp d) (RF.at t.wire (opp d) ++ [f]) })

/-- R63: a flit has left the buffer for direction `d`: the neighbour's credit returns, and it may send on. -/
def State.creditBack (s : State) (n : Nat) (d : BitVec 2) : State × List LinkEnd :=
  match nbr n d with
  | none => (s, [])
  | some m =>
    (s.onTile m (fun t => { t with credit := RF.put t.credit (opp d) (RF.at t.credit (opp d) + 1) }), [⟨m, opp d, true⟩])

/-- A completed operation waits to be counted (R49). -/
def Tile.finish (t : Tile) (c : CountTo) (code : Byte) : Tile := { t with doneOps := t.doneOps ++ [(c, code)] }

/-- R38, R529: the flit that a link send reads; poisoned if a word of it is, or if an injection says so. -/
def State.sendFlit (s : State) (n a : Nat) : Flit × State :=
  let t := s.tile n
  let data := BitVec.ofNat 512 (t.read a 64)
  match (List.range 4).find? (fun i => s.injects (tileUnit n) 3 (a + 16 * i) 16) with
  | some i =>
    let r : Raise := { unit := tileUnit n, cause := 3, cls := .de, tag := t.prog.getD 0,
                       addr := BitVec.ofNat 64 ((a + 16 * i) % 2 ^ 20), injected := true }
    (⟨data, true⟩, s.injUsed.raise' r)
  | none => (⟨data, t.bad a 64⟩, s.sramCe n a 64)

/-- R64: write a received flit; a poisoned one leaves its words uncorrectable. -/
def Tile.takeFlit (t : Tile) (a : Nat) (f : Flit) : Tile :=
  let t := t.write a (natLE 64 f.data.toNat)
  if f.poison then t.mark a 64 else t

/-- One flit out of the send side of direction `d`, if it has one and a credit. -/
def State.trySend (s : State) (n : Nat) (d : BitVec 2) : Option (State × List LinkEnd) :=
  let t := s.tile n
  if RF.at t.credit d = 0 then none
  else if s.isBridge n then
    match RF.at t.linkBuf (opp d) with
    | [] => none
    | f :: rest =>
      let s := (s.onTile n (fun t => { t with linkBuf := RF.put t.linkBuf (opp d) rest })).wireOut n d f
      some (s.creditBack n (opp d))
  else match RF.at t.sendCh d with
  | .idle => none
  | .send op =>
    let (f, s) := s.sendFlit n op.addr.toNat
    let s := s.onTile n (fun t =>
      if op.left ≤ 1 then { t with sendCh := RF.put t.sendCh d .idle }.finish (.cc op.cc) 0
      else { t with sendCh := RF.put t.sendCh d (.send { op with addr := op.addr + 64, left := op.left - 1 }) })
    some (s.wireOut n d f, [⟨n, d, true⟩])
  | .pass src =>
    match RF.at t.linkBuf src, RF.at t.recvCh src with
    | f :: rest, some op =>
      let s := s.onTile n (fun t =>
        let t := { t with linkBuf := RF.put t.linkBuf src rest }
        let t := if op.kind = .passw then t.takeFlit op.addr.toNat f else t
        if op.left ≤ 1 then
          { t with recvCh := RF.put t.recvCh src none, sendCh := RF.put t.sendCh d .idle }.finish (.cc op.cc) 0
        else { t with recvCh := RF.put t.recvCh src (some { op with addr := op.addr + 64, left := op.left - 1 }) })
      some ((s.wireOut n d f).creditBack n src)
    | _, _ => none

/-- One flit out of the receive buffer of direction `d` into the SRAM, if an SRECV holds the channel. -/
def State.tryRecv (s : State) (n : Nat) (d : BitVec 2) : Option (State × List LinkEnd) :=
  let t := s.tile n
  match RF.at t.linkBuf d, RF.at t.recvCh d with
  | f :: rest, some op =>
    if op.kind = .recv then
      let s := s.onTile n (fun t =>
        let t := { t with linkBuf := RF.put t.linkBuf d rest }.takeFlit op.addr.toNat f
        if op.left ≤ 1 then { t with recvCh := RF.put t.recvCh d none }.finish (.cc op.cc) 0
        else { t with recvCh := RF.put t.recvCh d (some { op with addr := op.addr + 64, left := op.left - 1 }) })
      let (s, w) := s.creditBack n d
      some (s, ⟨n, d, false⟩ :: w)
    else none
  | _, _ => none

/-- R63, R64: move flits until nothing of the work list can move; the fuel bounds the moves. -/
def linkRun : Nat → List LinkEnd → State → State
  | 0, _, s => s
  | _, [], s => s
  | k + 1, e :: rest, s =>
    match (if e.send then s.trySend e.tile e.dir else s.tryRecv e.tile e.dir) with
    | none => linkRun k rest s
    | some (s, more) => linkRun k (rest ++ more ++ [e]) s

/-- More moves than one event can cause: four flits at each of the hops of a row, and their work list entries. -/
def linkFuel : Nat := 4096

/-- Whatever the receive side of direction `d` can now move. -/
def State.linkKick (s : State) (n : Nat) (d : BitVec 2) : State :=
  let t := s.tile n
  let out := if s.isBridge n then opp d else match RF.at t.recvCh d with | some op => op.dir2 | none => d
  linkRun linkFuel [⟨n, d, false⟩, ⟨n, out, true⟩] s

/-- FLIT_ARRIVE: the flit at the head of the wire reaches the tile's link logic, and is forwarded, written or held in
the buffer (R63, R64, R75). -/
def execFlitArrive (n : Nat) (d : BitVec 2) (s : State) : Res :=
  match RF.at (s.tile n).wire d with
  | [] => .next s
  | f :: rest =>
    .next ((s.onTile n (fun t =>
      { t with wire := RF.put t.wire d rest, linkBuf := RF.put t.linkBuf d (RF.at t.linkBuf d ++ [f]) })).linkKick n d)

/-! ### Issue -/

/-- R61: COUNT 0 means 64. -/
def strCount (c : BitVec 6) : Nat := if c = 0 then 64 else c.toNat

/-- R46, R61: the fields that must be 0. -/
def strReserved (x : StrSlot) (dir2 sreg atop : Bool) : Bool :=
  (dir2 || x.dir2 = 0) && (sreg || x.sreg = 0) && (atop || x.atop = 0)

/-- R61: POSTINC of the address register. -/
def Tile.strPostA (t : Tile) (x : StrSlot) (bytes : Nat) : Tile := if x.postinc then t.postIncA x.areg bytes else t

/-- SNOP: none (R61). -/
def execSnop (_ : Nat) (_ : StrSlot) (s : State) : Res := .next s

/-- A link operation issues on a running tile: reserved fields, edge and alignment first, then the channels it needs. -/
def linkIssue (n : Nat) (x : StrSlot) (s : State) (dir2 aligned : Bool) (free : Tile → Bool) (f : Tile → State) : Res :=
  s.withTile n (fun t =>
    if strReserved x dir2 false false = false then s.tileFault n faultIllegalOp
    else if (nbr n x.dir).isNone || (dir2 && (nbr n x.dir2).isNone) then s.tileFault n faultEdgeLink
    else if aligned && (RF.at t.a x.areg).toNat % 64 != 0 then s.tileFault n faultMisaligned
    else if free t then f t
    else s)

def sendFree (t : Tile) (d : BitVec 2) : Bool := match RF.at t.sendCh d with | .idle => true | _ => false
def recvFree (t : Tile) (d : BitVec 2) : Bool := (RF.at t.recvCh d).isNone

/-- SSEND: send COUNT flits from SRAM on link DIR (R63). -/
def execSsend (n : Nat) (x : StrSlot) (s : State) : Res :=
  linkIssue n x s false true (fun t => sendFree t x.dir) (fun t =>
    let k := strCount x.count
    let u := { t with sendCh := RF.put t.sendCh x.dir (.send ⟨x.cc, RF.at t.a x.areg, k⟩) }
    linkRun linkFuel [⟨n, x.dir, true⟩] (s.setTile n (u.strPostA x (64 * k))))

/-- SRECV: write COUNT flits arriving on link DIR (R64). -/
def execSrecv (n : Nat) (x : StrSlot) (s : State) : Res :=
  linkIssue n x s false true (fun t => recvFree t x.dir) (fun t =>
    let k := strCount x.count
    let u := { t with recvCh := RF.put t.recvCh x.dir (some ⟨.recv, 0, x.cc, RF.at t.a x.areg, k⟩) }
    (s.setTile n (u.strPostA x (64 * k))).linkKick n x.dir)

/-- The shape of SPASS and SPASSW: they hold the receive channel of DIR and the send channel of DIR2 (R62). -/
def passIssue (kind : LinkKind) (n : Nat) (x : StrSlot) (s : State) : Res :=
  linkIssue n x s true (kind = .passw) (fun t => recvFree t x.dir && sendFree t x.dir2) (fun t =>
    let k := strCount x.count
    let u := { t with
      recvCh := RF.put t.recvCh x.dir (some ⟨kind, x.dir2, x.cc, RF.at t.a x.areg, k⟩)
      sendCh := RF.put t.sendCh x.dir2 (.pass x.dir) }
    (s.setTile n (u.strPostA x (64 * k))).linkKick n x.dir)

/-- SPASS: forward COUNT flits from DIR to DIR2, not written (R64). -/
def execSpass (n : Nat) (x : StrSlot) (s : State) : Res := passIssue .pass n x s
/-- SPASSW: forward COUNT flits from DIR to DIR2 and write each (R64). -/
def execSpassw (n : Nat) (x : StrSlot) (s : State) : Res := passIssue .passw n x s

/-! ### Counting (R49) -/

/-- R49: one completion on a counter; it saturates at 0xFFFF_FFFF. -/
def Counter.complete (c : Counter) (code : Byte) : Counter :=
  { c with
    count := satInc c.count
    code := if c.bad = 0 then code else c.code
    bad := if code = 0 then c.bad else satInc c.bad }

/-- STREAM_OP_COMPLETE: the oldest ended operation or run-ahead entry is counted (R49). -/
def execStreamOpComplete (n : Nat) (s : State) : Res :=
  let t := s.tile n
  match t.doneOps with
  | [] => .next s
  | (dest, code) :: rest =>
    .next (s.setTile n (match dest with
      | .cc k => { t with doneOps := rest, cc := RF.put t.cc k ((RF.at t.cc k).complete code) }
      | .window b =>
        let w := BitVec.ofNat 3 b
        if RF.at t.ra.owner w = some b then
          { t with doneOps := rest, ra := { t.ra with counts := RF.put t.ra.counts w ((RF.at t.ra.counts w).complete code) } }
        else { t with doneOps := rest }))

/-- The flits in the buffers of some sides of a tile and on the way to them are gone, their credits returned. -/
def State.clearSides (s : State) (n : Nat) (ds : List (BitVec 2)) : State :=
  ds.foldl (fun s (d : BitVec 2) =>
    let s := s.onTile n (fun t => { t with linkBuf := RF.put t.linkBuf d [], wire := RF.put t.wire d [] })
    match nbr n d with
    | none => s
    | some m => s.onTile m (fun t => { t with credit := RF.put t.credit (opp d) 4 })) s

/-- R74: the links of a stopped tile: its operations stop, and its link buffers are emptied. -/
def State.clearLinks (s : State) (n : Nat) : State :=
  (s.onTile n (fun t => { t with sendCh := RF.all 2 .idle, recvCh := RF.all 2 none })).clearSides n [0, 1, 2, 3]

/-- R74, R75: the bridges between a stopped tile and the next tile of each direction hold nothing of its streams either; what
crosses them at right angles stays. -/
def State.clearBridges (s : State) (n : Nat) : State :=
  ([0, 1, 2, 3] : List (BitVec 2)).foldl (fun s (d : BitVec 2) =>
    ((List.range 16).foldl (fun (p : State × Option Nat) _ => match p.2 with
      | none => p
      | some m => if p.1.isBridge m then (p.1.clearSides m [d, opp d], nbr m d) else (p.1, none)) (s, nbr n d)).1) s

end Sys2Proof.Machine
end

