-- ==== Sys2Proof/Machine/ReqOps.lean ====
section
/-! DEFINITION. Shared operations on requests: issue, injection, completion, and what a completion does for its owner
(R299, R331 to R349). -/

namespace Sys2Proof.Machine

/-! ### Kinds of requests (R331) -/

def opLd : Nat := 0x01
def opLdRspS : Nat := 0x02
def opLdRsp : Nat := 0x03
def opStS : Nat := 0x04
def opSt : Nat := 0x05
def opStfS : Nat := 0x06
def opStf : Nat := 0x07
def opAck : Nat := 0x08
def opAt : Nat := 0x09
def opAtRsp : Nat := 0x0A
def opXput : Nat := 0x10
def opXputAck : Nat := 0x11
def opXget : Nat := 0x12
def opXgetRsp : Nat := 0x13
def opXmsg : Nat := 0x14
def opXmsgAck : Nat := 0x15
def opColl : Nat := 0x20
def opCollCtl : Nat := 0x21
def opMgmt : Nat := 0x30
def opMgmtRsp : Nat := 0x31

def Req.op (r : Req) : Nat := r.pkt.opcode.toNat
def Req.isLoad (r : Req) : Bool := r.op = opLd || r.op = opXget
def Req.isStore (r : Req) : Bool := opStS ≤ r.op && r.op ≤ opStf
def Req.isFlagged (r : Req) : Bool := r.op = opStfS || r.op = opStf
def Req.isAtomic (r : Req) : Bool := r.op = opAt
/-- R342: the requests that take a sequence number. -/
def seqOp (o : Nat) : Bool := (opStS ≤ o && o ≤ opStf) || o = opAt || o = opColl

/-- Bytes of memory that a request names. -/
def Req.bytes (r : Req) : Nat :=
  if r.isAtomic then (atomSize r.pkt.atop.toNat r.pkt.len8.toNat).getD 0 else r.pkt.size

/-- Two requests have a byte in common. -/
def Req.overlaps (r q : Req) : Bool :=
  r.dest == q.dest && r.pkt.addr.toNat < q.pkt.addr.toNat + q.bytes && q.pkt.addr.toNat < r.pkt.addr.toNat + r.bytes

/-- R342: the key of a pair at its source. -/
def pairKey (eng dest : Nat) : Nat := 64 * eng + dest

def State.pair (s : State) (eng dest : Nat) : SrcPair := SMap.get SrcPair.reset s.mem.pairs (pairKey eng dest)
def State.onPair (s : State) (eng dest : Nat) (f : SrcPair → SrcPair) : State :=
  s.onMem (fun m => { m with pairs := SMap.upd SrcPair.reset m.pairs (pairKey eng dest) f })

def State.req? (s : State) (id : Nat) : Option Req := s.mem.reqs.find? (fun r => r.id == id)
def State.onReq (s : State) (id : Nat) (f : Req → Req) : State :=
  s.onMem (fun m => { m with reqs := m.reqs.map (fun r => if r.id = id then f r else r) })

/-- R349: the outstanding limit of a source engine. -/
def engLimit (eng : Nat) : Nat := if 36 ≤ eng && eng < 42 then 64 else 512

/-- R349: whether an engine can take another request for a destination. -/
def State.canIssue (s : State) (eng dest op : Nat) : Bool :=
  (s.mem.reqs.filter (fun r => r.eng == eng)).length + (s.mem.flagged.filter (fun f => f.req.eng == eng)).length < engLimit eng &&
  (!(op = opAt || op = opXmsg) ||
    (s.mem.reqs.filter (fun r => r.eng == eng && r.dest == dest && (r.op = opAt || r.op = opXmsg))).length < 16)

/-! ### Building packets -/

/-- R336: a request packet of `n` bytes at an address; ORD and FLOW follow from the opcode. -/
def mkReqPkt (op eng dest addr n : Nat) (own : BitVec 6) (dom : Byte) : Packet :=
  let ord := seqOp op
  { Packet.blank with
    opcode := BitVec.ofNat 8 op, addr := BitVec.ofNat 48 addr, dst := BitVec.ofNat 6 dest, src := own,
    srcEng := BitVec.ofNat 6 eng, dstDom := dom, srcDom := dom, len8 := BitVec.ofNat 6 (n / 8 - 1), ord := ord,
    flow := if ord then 0 else BitVec.ofNat 4 (addr / 4096) }

def State.reqPkt (s : State) (op eng dest addr n : Nat) : Packet :=
  mkReqPkt op eng dest addr n s.fab.devid s.fab.domain

/-- R331: the opcode of a store of `n` bytes. -/
def storeOp (flagged : Bool) (n : Nat) : Nat :=
  if flagged then (if n ≤ 32 then opStfS else opStf) else (if n ≤ 32 then opStS else opSt)

/-! ### Injection -/

/-- R337: a load waits for earlier stores and atomics of its engine that share a byte with it. -/
def loadHeld (r : Req) (before : List Req) : Bool :=
  r.isLoad && before.any (fun q => q.eng == r.eng && seqOp q.op && r.overlaps q)

/-- Requests issued before a request and not completed, flagged stores that wait for their snapshot among them. -/
def State.before (s : State) (r : Req) : List Req :=
  (s.mem.reqs ++ s.mem.flagged.map (·.req)).filter (fun q => q.id < r.id)

/-- R337, R345: a request that is not yet injected must wait. -/
def State.held (s : State) (r : Req) : Bool :=
  let before := s.before r
  loadHeld r before || (s.pair r.eng r.dest).resync ||
  (r.sequenced && before.any (fun q => q.eng == r.eng && q.dest == r.dest && q.sequenced && q.attempts = 0))

/-- R342: the sequence number that a request takes at its first injection, and the pair after it. -/
def State.takeSeq (s : State) (r : Req) : Packet × State :=
  let p := s.pair r.eng r.dest
  let pkt := { r.pkt with seq := p.next, tag := BitVec.ofNat 16 (r.id % 2 ^ 15) ||| (r.pkt.tag &&& 0x8000) }
  (pkt, if r.sequenced then s.onPair r.eng r.dest (fun p => { p with next := p.next + 1 }) else s)

/-- Send a request's packet into the fabric now, as an attempt or a repeat of one. -/
def State.sendReq (s : State) (r : Req) : State :=
  let now := s.now
  ((s.onReq r.id (fun q => { q with lastInj := now })).onPair r.eng r.dest
    (fun p => { p with lastInj := now })).inject r.pkt (engTile r.eng)

/-- The first injection of a request to another device. -/
def State.firstInject (s : State) (r : Req) : State :=
  let (pkt, s) := s.takeSeq r
  let now := s.now
  let r := { r with pkt := pkt, waiting := false, attempts := 1, firstInj := now, lastInj := now }
  (s.onReq r.id (fun _ => r)).sendReq r

/-- A request of this device to its own memory, which no packet carries; an outer request is a packet even where its gateway is
this device (R319). -/
def State.isLocal (s : State) (r : Req) : Bool := r.dest = s.devid && !isOuterOp r.op

/-- Inject whatever of the waiting requests no longer has to wait, oldest first. -/
def releaseGo : List Nat → State → State
  | [], s => s
  | id :: ids, s =>
    match s.req? id with
    | none => releaseGo ids s
    | some r =>
      if s.isLocal r || r.attempts != 0 || s.held r then releaseGo ids s
      else releaseGo ids (s.firstInject r)

def State.release (s : State) : State := releaseGo ((s.mem.reqs.filter (fun r => r.attempts = 0)).map (·.id)) s

/-- R299, R314: the status with which a request to a destination ends at once. -/
def State.destFails (s : State) (dest : Nat) : Option Byte :=
  if dest = s.devid then none
  else if s.mode dest = modeLost || s.mode dest = modeUnreachable || s.locallyLost dest then some scLost
  else if s.mode dest = modeOutside then some scOutOfDomain
  else none

/-- Issue a request: it joins the outstanding ones and is injected as soon as the order of R337 lets it; or it ends at
once with the status of R299. -/
def State.issueRaw (s : State) (pkt : Packet) (owner : ReqOwner) (prog : Option W32) : State × Option Byte :=
  let dest := pkt.dst.toNat
  match s.destFails dest with
  | some st => (s, some st)
  | none =>
    let r : Req :=
      { id := s.mem.nextReq, eng := pkt.srcEng.toNat, dest := dest, pkt := pkt, owner := owner, prog := prog,
        sequenced := seqOp pkt.opcode.toNat, firstInj := 0, lastInj := 0, attempts := 0, waiting := true, dup := false,
        busy := false }
    ((s.onMem (fun m => { m with reqs := m.reqs ++ [r], nextReq := m.nextReq + 1 })).release, none)

/-! ### Completion at the owner -/

/-- Write loaded data into the SRAM; words under a poisoned sector hold uncorrectable data (R38, R229). -/
def Tile.land (t : Tile) (a ga : Nat) (data : List Byte) (poison : NSet) : Tile :=
  poison.foldl (fun t w =>
    let lo := max ga (32 * w)
    let hi := min (ga + data.length) (32 * w + 32)
    if lo < hi then t.mark (a + (lo - ga)) (hi - lo) else t) (t.write a data)

/-- A piece of `n` bytes of a memory-queue operation is answered; the last one ends the operation (R49, R62). -/
def Tile.opAnswer (t : Tile) (id n : Nat) (st : Byte) : Tile :=
  match t.memQ.find? (fun o => o.id == id) with
  | none => t
  | some o =>
    let o' := { o with done := o.done + n, code := if o.code = 0 then st else o.code }
    if o.bytes ≤ o'.done then { t with memQ := t.memQ.filter (fun q => q.id != id) }.finish (.cc o.cc) o'.code
    else { t with memQ := t.memQ.map (fun q => if q.id = id then o' else q) }

/-- Data for a memory-queue operation, where it still waits for it. -/
def Tile.opData (t : Tile) (id a ga : Nat) (st : Byte) (data : List Byte) (poison : NSet) : Tile :=
  if t.memQ.any (fun o => o.id == id) && (st = scOk || st = scPoisoned) then t.land a ga data poison else t

/-- The reply of a run-ahead request. -/
def Tile.raAnswer (t : Tile) (id : Nat) (rsp : RaRsp) : Tile :=
  { t with ra := { t.ra with out := t.ra.out.map (fun q => if q.id = id then { q with rsp := some rsp } else q) } }

/-- R199: an FFL is complete when its last line has been looked up and every write-back of it is acknowledged. -/
def State.fflCheck (s : State) (tile id : Nat) : State :=
  let owed := s.firn.wbWait.any (fun w => w.ffl == some (tile, id)) ||
    s.mem.reqs.any (fun r => match r.owner with | .writeBack _ (some (t, i)) _ => t == tile && i == id | _ => false)
  match (s.tile tile).memQ.find? (fun o => o.id == id) with
  | some o => if o.sent = o.bytes && !owed then s.onTile tile (fun t => t.opAnswer id o.bytes scOk) else s
  | none => s

def State.onHdma (s : State) (e : Nat) (f : Hdma → Hdma) : State :=
  s.onMem (fun m => { m with hdma := RF.put m.hdma (BitVec.ofNat 2 e) (f (RF.at m.hdma (BitVec.ofNat 2 e))) })
def State.onRun (s : State) (e j : Nat) (f : HdmaRun → HdmaRun) : State :=
  s.onHdma e (fun h => { h with runs := h.runs.map (fun r => if r.num = j then f r else r) })
def State.run? (s : State) (e j : Nat) : Option HdmaRun :=
  (RF.at s.mem.hdma (BitVec.ofNat 2 e)).runs.find? (fun r => r.num == j)

/-- R355: a request of a descriptor has ended. -/
def HdmaRun.ended (r : HdmaRun) (st : Byte) : HdmaRun :=
  { r with outstanding := r.outstanding - 1, status := if r.status = 0 then st else r.status }

/-- R355: an answer for a host DMA engine: data for host memory is written there, data of a copy is stored on, and a
store or an outer request ends. -/
def State.hdmaAnswer (s : State) (e j off : Nat) (op : Nat) (st : Byte) (data : List Byte) (poison : Bool) : State :=
  match s.run? e j with
  | none => s
  | some r =>
    let got := st = scOk || st = scPoisoned
    if (op = opLd && r.op = 1) || op = opXget then
      let s := if got then s.emit (.hostWrite (r.host + off) data poison) else s
      s.onRun e j (fun r => r.ended st)
    else if op = opLd && st = scOk && r.status = 0 && !r.norec then
      let n := data.length
      let dest := gDev (r.aux + off)
      let p := { (s.reqPkt (storeOp false n) (42 + e) dest (r.aux + off) n).withData data with poison := poison }
      let (s, fail) := s.issueRaw p (.hdma e j off) none
      let st := fail.getD 0
      s.onRun e j (fun r => { r with outstanding := if fail.isSome then r.outstanding - 1 else r.outstanding,
                                     status := if r.status = 0 then st else r.status })
    else s.onRun e j (fun r => r.ended st)

def State.onColl (s : State) (cu : Nat) (f : CollUnit → CollUnit) : State :=
  s.onMem (fun m => { m with coll := RF.put m.coll (BitVec.ofNat 2 cu) (f (RF.at m.coll (BitVec.ofNat 2 cu))) })
def State.onCollRun (s : State) (cu : Nat) (id : W32) (f : CollRun → CollRun) : State :=
  s.onColl cu (fun u => { u with runs := u.runs.map (fun r => if r.id = id then f r else r) })

/-- R362: the status of a collective is the first that is not OK. -/
def CollRun.fails (r : CollRun) (st : Byte) : CollRun := { r with status := if r.status = 0 then st else r.status }

/-- R362: an answer for a collective unit: data of its own contribution, or the end of a store or a contribution. -/
def State.collAnswer (s : State) (cu : Nat) (id : W32) (load : Option Nat) (st : Byte) (data : List Byte)
    (poison : Bool) : State :=
  s.onCollRun cu id (fun r =>
    match load with
    | some off =>
      if st = scOk && !poison then { r with buf := Mem.wrBytes r.buf off data, pieces := NSet.add (off / 512) r.pieces }
      else r.fails (if st = scOk then scPoisoned else st)
    | none => r.fails st)

/-- What a reply carries to the owner of a request. -/
structure Answer where
  st : Byte
  data : List Byte
  /-- Poisoned 32-byte sectors, by address / 32. -/
  poison : NSet
  /-- Marks FC and PF of the window (R329). -/
  fc : Bool
  pf : Bool

def Answer.plain (st : Byte) : Answer := ⟨st, [], [], true, true⟩

def State.onCvu (s : State) (c : Nat) (f : Cvu → Cvu) : State :=
  { s with cvu := RF.put s.cvu (BitVec.ofNat 4 c) (f (RF.at s.cvu (BitVec.ofNat 4 c))) }

/-- The first poisoned byte of data that begins at an address; its length where none is. -/
def firstBad (ga n : Nat) (poison : NSet) : Nat :=
  poison.foldl (fun m w => if ga + n ≤ 32 * w || 32 * w + 32 ≤ ga then m else min m (32 * w - ga)) n

/-- R533, R539: an answer for a check-value unit: a load's data waits to be fed in order; the result store ends the
scan. -/
def State.cvuAnswer (s : State) (c : Nat) (load : Option Nat) (ga : Nat) (a : Answer) : State :=
  match load with
  | some k =>
    s.onCvu c (fun u => { u with flight := u.flight.map (fun l =>
      if l.num = k then { l with res := some (a.st, a.data, firstBad ga a.data.length a.poison) } else l) })
  | none =>
    s.onCvu c (fun u => if u.storing then { u with en := false, storing := false, cfgIgnored := false } else u)

/-- The owner of a request learns its completion. -/
def State.tell (s : State) (owner : ReqOwner) (op ga n : Nat) (atop : Nat) (a : Answer) : State :=
  match owner with
  | .tileOp tile id sram =>
    s.onTile tile (fun t =>
      let t := if op = opLd then t.opData id sram ga a.st a.data a.poison
               else if op = opAt && a.st = scOk && atop != 0 then t.opData id sram ga a.st a.data []
               else t
      t.opAnswer id n a.st)
  | .runAhead tile id => s.onTile tile (fun t => t.raAnswer id ⟨a.st, a.data, a.poison⟩)
  | .fill stack line =>
    s.onFirn (fun f => { f with fills := f.fills.map (fun x =>
      if x.stack = stack && x.line = line then
        { x with res := some ⟨a.st, a.data, a.poison.map (fun w => w - 8 * line), a.fc⟩ } else x) })
  | .writeBack _ ffl _ => match ffl with | some (tile, id) => s.fflCheck tile id | none => s
  | .hdma e j off => s.hdmaAnswer e j off op a.st a.data (!a.poison.isEmpty || a.st = scPoisoned)
  | .coll cu id load => s.collAnswer cu id load a.st a.data (!a.poison.isEmpty || a.st = scPoisoned)
  | .collRecord _ _ => s
  | .cvu c load => s.cvuAnswer c load ga a
  | .core _ _ => s

/-- Who issued a request, for the snapshot rule of R341. -/
def Req.sameIssuer (r q : Req) : Bool :=
  match r.prog, q.prog with
  | some a, some b => a == b
  | _, _ =>
    match r.owner, q.owner with
    | .collRecord a _, .coll b _ _ => a == b
    | .collRecord a _, .collRecord b _ => a == b
    | .core a _, .core b _ => a == b
    | _, _ => false

/-- R341: flagged stores that wait for a request see it complete. -/
def Flagged.after (f : Flagged) (r : Req) (st : Byte) : Flagged :=
  if f.waits.contains r.id then
    { f with
      waits := NSet.del r.id f.waits
      fail := if st != scOk && f.req.sameIssuer r then
                match f.fail with
                | some (i, c) => if i < r.id then some (i, c) else some (r.id, st)
                | none => some (r.id, st)
              else f.fail }
  else f

/-- R349, R621: the write-back that waits longest for an engine is issued where the engine has room. -/
def State.nextWb (s : State) (eng : Nat) : State :=
  match s.firn.wbWait.find? (fun w => w.pkt.srcEng.toNat == eng) with
  | some w =>
    if s.canIssue eng s.devid opSt then
      ((s.onFirn (fun f => { f with wbWait := f.wbWait.erase w })).issueRaw w.pkt (.writeBack w.stack w.ffl w.bad) none).1
    else s
  | none => s

/-- A request completes: it leaves the outstanding ones, its owner and the flagged stores that wait for it learn the
status, and requests held behind it are injected (R335, R337, R341). -/
def State.complete (s : State) (r : Req) (a : Answer) : State :=
  let s := s.onMem (fun m => { m with
    reqs := m.reqs.filter (fun q => q.id != r.id)
    flagged := m.flagged.map (fun f => f.after r a.st)
    atomicUnknown := if a.st = scAtomicUnknown then satInc m.atomicUnknown else m.atomicUnknown })
  ((s.tell r.owner r.op r.pkt.addr.toNat r.bytes r.pkt.atop.toNat a).release).nextWb r.eng

/-- Issue a request whose owner learns at once a completion of R299. -/
def State.issue (s : State) (pkt : Packet) (owner : ReqOwner) (prog : Option W32) : State :=
  match s.issueRaw pkt owner prog with
  | (s, none) => s
  | (s, some st) =>
    let n := if pkt.opcode.toNat = opAt then (atomSize pkt.atop.toNat pkt.len8.toNat).getD 0 else pkt.size
    s.tell owner pkt.opcode.toNat pkt.addr.toNat n pkt.atop.toNat (Answer.plain st)

/-- R340: issue a flagged store: its channel's snapshot is every store and atomic issued and not acknowledged. -/
def State.issueFlagged (s : State) (ch : BitVec 2) (pkt : Packet) (owner : ReqOwner) (prog : Option W32) : State :=
  let dest := pkt.dst.toNat
  match s.destFails dest with
  | some st => s.tell owner pkt.opcode.toNat pkt.addr.toNat pkt.size 0 (Answer.plain st)
  | none =>
    let pend := (s.mem.reqs.filter (fun r => r.isStore || r.isAtomic)).map (·.id) ++ s.mem.flagged.map (·.req.id)
    let r : Req :=
      { id := s.mem.nextReq, eng := pkt.srcEng.toNat, dest := dest, pkt := { pkt with priv := true, pch := ch },
        owner := owner, prog := prog, sequenced := true, firstInj := 0, lastInj := 0, attempts := 0, waiting := true,
        dup := false, busy := false }
    s.onMem (fun m => { m with
      flagged := m.flagged ++ [⟨ch, r, pend.foldl (fun l i => NSet.add i l) [], none⟩], nextReq := m.nextReq + 1 })

end Sys2Proof.Machine
end

