-- ==== Sys2Proof/Machine/Fabric.lean ====
section
/-! DEFINITION. The fabric of one device: frames, credits, packets and the loss of a neighbour (R257 to R260, R289 to R321). -/

namespace Sys2Proof.Machine

/-! ### Receiving (R259, R260, R293, R313) -/

/-- R297: outer requests, which travel to a gateway of their own domain. -/
def isOuterReq (o : Nat) : Bool := o = opXput || o = opXget || o = opXmsg

/-- R313: why a packet is discarded as it arrives on a port, if it is. An outer reply on its way from its gateway names
its own domain and is not discarded for it (log entry 31). -/
def State.arrivalFault (s : State) (q : BitVec 4) (p : Packet) : Option Nat :=
  let o := p.opcode.toNat
  let outer := 14 ≤ q.toNat
  if p.hcrc != p.crc then some discCrc
  else if p.badFormat then some discFormat
  else if outer && !isOuterOp o then some discOuter
  else if !outer && isOuterReq o && p.dstDom = s.fab.domain then some discOuter
  else if !outer && p.srcDom = s.fab.domain && !isReplyOp o && s.mode p.src.toNat = modeLost then some discRoute
  else none

/-- One thing that a frame carries. -/
def State.takeItem (s : State) (q : BitVec 4) (x : StreamItem) : State :=
  match x with
  | .packet p =>
    let s := s.fabCount q.toNat cntRxFlits p.flits
    match s.arrivalFault q p with
    | some i => s.discard (some q) i
    | none => s.onPort q (fun f =>
        let ch := p.channel p.hop
        { f with inq := RF.put f.inq ch (RF.at f.inq ch ++ [p]), occ := RF.put f.occ ch (RF.at f.occ ch + p.flits) })
  | .credit c =>
    let s := s.fabCount q.toNat cntRxFlits 1
    if c.crcOk then s.onPort q (fun f => { f with creditIn := f.creditIn ++ [c] }) else s.discard (some q) discCrc
  | .reserved _ => (s.fabCount q.toNat cntRxFlits 1).discard (some q) discFormat

def State.onRx (s : State) (q : BitVec 4) (f : RxStream → RxStream) : State :=
  { s with floe := { s.floe with rx := RF.put s.floe.rx q (f (RF.at s.floe.rx q)) } }

/-- R260: release the held frames that are next in order; `fuel` bounds them. -/
def rxRelease (q : BitVec 4) : Nat → State → State
  | 0, s => s
  | n + 1, s =>
    let r := RF.at s.floe.rx q
    match r.held.find? (fun h => h.1 = r.expect) with
    | none => s
    | some (k, items) =>
      let s := s.onRx q (fun r => { r with expect := r.expect + 15, held := r.held.filter (fun h => h.1 != k) })
      rxRelease q n ((items.foldl (fun s x => s.takeItem q x) s).onPort q (fun f => { f with frames := f.frames + 1 }))

def State.rxRun (s : State) (q : BitVec 4) : State := rxRelease q ((RF.at s.floe.rx q).held.length + 1) s

/-- R260: what a stream on the package releases in order: its flits belong to accesses whose own commands act (log entry 154). -/
def RxStream.drain : Nat → RxStream → RxStream
  | 0, r => r
  | n + 1, r =>
    if r.held.any (fun h => h.1 = r.expect) then
      RxStream.drain n { r with expect := r.expect + 15, held := r.held.filter (fun h => h.1 != r.expect) }
    else r

/-- A frame joins a stream: one from before the next in order is dropped; the first that a stream sees sets the order. -/
def RxStream.join (r : RxStream) (seq : BitVec 24) (items : List StreamItem) : RxStream :=
  if r.synced && serBefore seq r.expect then r
  else { r with expect := if r.synced then r.expect else seq, synced := true, held := r.held ++ [(seq, items)] }

def State.onRole (s : State) (k : Nat) (f : RxStream → RxStream) : State :=
  s.onFloe (fun x => { x with rxPkg := SMap.upd RxStream.reset x.rxPkg k f })

/-- R260: the stream of a lane: of its port, or of the role of its waveguide; none on a waveguide without a role. -/
def State.laneStream (s : State) (l : Lane) : Option StreamId :=
  match l with
  | .slot q _ _ => if s.portUp q.toNat then some (.port q) else none
  | .wave d w =>
    let i := 16 * d.toNat + w.toNat
    let r := SMap.get 0 s.floe.wgRole i
    if r = 0 || s.floe.wgRetired.contains i then none else some (.role d (BitVec.ofNat 3 r))
  | .passage d w _ =>
    if (s.wgsOf d.toNat 2).contains (16 * d.toNat + w.toNat) then some (.role d 2) else none

/-- A frame of a stream arrives, and what is in order is released. -/
def State.joinStream (s : State) (x : StreamId) (seq : BitVec 24) (items : List StreamItem) : State :=
  match x with
  | .port q => (s.onRx q (fun r => r.join seq items)).rxRun q
  | .role d r => s.onRole (8 * d.toNat + r.toNat) (fun y => let z := y.join seq []; z.drain (z.held.length + 1))

/-- The channels of a lane by the bits of ACTIVE, and the bits that a lane has. -/
def laneChan (l : Lane) (c : Nat) : Nat :=
  match l with
  | .slot q b h => 32 * q.toNat + bitN b 4 + bitN h 3 + c
  | .wave d w => 512 + 256 * d.toNat + 16 * w.toNat + c
  | .passage d w _ => 512 + 256 * d.toNat + 16 * w.toNat + c
def laneMask (l : Lane) : W16 :=
  match l with
  | .slot _ _ _ => 0x00FF
  | .wave _ _ => 0xFFFF
  | .passage _ _ h => if h then 0xFF00 else 0x00FF

/-- R259: bytes that the code corrected count for the port, and for the channel that carried each. -/
def State.countFec (s : State) (l : Lane) (errs : List (BitVec 10)) : State :=
  let bad := errs.eraseDups
  let act := (SMap.get none s.floe.rxActive (laneKey l)).getD (laneMask l)
  let s := match l with
    | .slot q _ _ => s.onFloe (fun x => { x with fecCorrected := RF.put x.fecCorrected q (satAdd (RF.at x.fecCorrected q) bad.length) })
    | _ => s
  bad.foldl (fun s i => match byteChannel act i.toNat with
    | some c => s.onFloe (fun x => { x with chanFec := SMap.upd 0 x.chanFec (laneChan l c) satInc })
    | none => s) s

/-- R259: a frame that the code cannot correct is counted at its port. -/
def State.countLostFrame (s : State) (l : Lane) : State :=
  match l with
  | .slot q _ _ => s.onFloe (fun x => { x with fecDiscarded := RF.put x.fecDiscarded q (satInc (RF.at x.fecDiscarded q)) })
  | _ => s

/-- R258, R282: a frame that was decoded: its KIND may release the lane or take it, and its flits join the stream of the lane. IDLE
and TRAIN frames carry nothing, and a released lane carries no data until TRAIN or START comes. -/
def State.takeFrame (s : State) (l : Lane) (h : FrameHdr) (items : List StreamItem) : State :=
  let k := laneKey l
  let kind := h.kind.toNat
  match s.laneStream l with
  | none => s
  | some x =>
    let s := s.onFloe (fun f => { f with
      rxActive := SMap.set none f.rxActive k (some h.active)
      rxReleased := if kind = 2 || kind = 4 then NSet.del k f.rxReleased else f.rxReleased })
    if 2 < kind || s.floe.rxReleased.contains k then s
    else
      let s := s.joinStream x h.seq items
      if kind = 1 then s.onFloe (fun f => { f with rxReleased := NSet.add k f.rxReleased }) else s

/-- FRAME_RECEIVE: a frame comes on a lane with errors in some bytes. One that any codeword cannot correct is discarded whole;
else its corrected bytes are counted, and its flits are released in FLIT_SEQ order (R257 to R260). Without SYNC it is no frame. -/
def execFrameReceive (l : Lane) (errs : List (BitVec 10)) (hdr : W64) (items : List StreamItem) (s : State) : Res :=
  if frameDecodes errs = false then .next (s.countLostFrame l)
  else match frameHdrOf hdr with
    | none => .next s
    | some h => .next ((s.countFec l errs).takeFrame l h items)

/-- The held frame that comes first in serial order. -/
def RxStream.first (r : RxStream) : Option (BitVec 24) :=
  r.held.foldl (fun (b : Option (BitVec 24)) h => match b with
    | none => some h.1
    | some k => if serBefore h.1 k then some h.1 else some k) none

/-- FRAME_SKIP_TIMEOUT: 200 ns after a later frame, the missing sequence numbers are skipped as lost (R260). -/
def execFrameSkipTimeout (x : StreamId) (s : State) : Res :=
  match x with
  | .port q =>
    match (RF.at s.floe.rx q).first with
    | none => .next s
    | some k => .next ((s.onRx q (fun r => { r with expect := k })).rxRun q)
  | .role d r =>
    .next (s.onRole (8 * d.toNat + r.toNat) (fun y => match y.first with
      | none => y
      | some k => { y with expect := k }.drain (y.held.length + 1)))

/-! ### Credits (R306 to R308) -/

/-- R307: a credit report: occupancies and S; flits before S are forgotten. -/
def TxCredit.report (x : TxCredit) (c : CreditFlit) : TxCredit :=
  { x with
    o := RF.put (RF.put (RF.put (RF.put x.o 0 c.oC1.toNat) 1 c.oC2.toNat) 2 c.oD1.toNat) 3 c.oD2.toNat
    s := c.s
    dealt := x.dealt.filter (fun d => serLe c.s d.1) }

/-- CREDIT_FLIT: the oldest CREDIT flit received on the port updates the sender's credit (R307). -/
def execCreditFlit (q : BitVec 4) (s : State) : Res :=
  match (RF.at s.fab.ports q).creditIn with
  | [] => .next s
  | c :: rest => .next (s.onPort q (fun f => { f with creditIn := rest, tx := f.tx.report c }))

/-- R307: a packet of `m` flits on channel `v` may start. -/
def TxCredit.admits (x : TxCredit) (v : BitVec 2) (m : Nat) : Bool :=
  let need := fun (w : BitVec 2) =>
    RF.at x.o w + (x.dealt.filter (fun d => d.2 = w)).length + (if w = v then m else 0)
  need v ≤ 256 || ((([0, 1, 2, 3] : List (BitVec 2)).map (fun w => need w - 256)).sum ≤ 7168)

/-- The first waiting packet of a channel, with its place, if it holds credit. -/
def FabPort.ready (f : FabPort) (v : BitVec 2) : Option (Nat × Queued) :=
  match f.out.findIdx? (fun x => x.pkt.channel x.pkt.hop = v) with
  | none => none
  | some i => (f.out[i]?).bind (fun x => if f.tx.admits v x.pkt.flits then some (i, x) else none)

/-- R309: within a class, hop-2 before hop-1. -/
def FabPort.readyOf (f : FabPort) (data : Bool) : Option (Nat × Queued) :=
  match f.ready (if data then 3 else 1) with
  | some x => some x
  | none => f.ready (if data then 2 else 0)

/-! ### The transmit stream of a port (R258, R260, R294) -/

/-- The lit lanes of a port, ascending: its groups but those that have not yet sent START (R282). -/
def State.portLanes (s : State) (q : BitVec 4) : List LaneInfo :=
  ((List.range 32).filter (fun g => s.groupLit g && (s.groupByte g).toNat % 16 == q.toNat && !s.floe.starting.contains g)).map (fun g =>
    ⟨.slot q ((s.groupByte g).getLsbD 4) (g % 2 == 1), g, s.groupActive g⟩)

/-- R294: IDLE flits that the open frame of a port takes: with no open frame, IDLE frames go, which take no sequence number. -/
def FabPort.idleIn (f : FabPort) (idle : Nat) : Nat := if f.frm.fill = 0 then 0 else min idle (15 - f.frm.fill)

/-- R294: the IDLE flits that a packet of `m` flits needs before it, `idle` flits from now. -/
def FabPort.padFor (f : FabPort) (idle m : Nat) : Nat :=
  let fill := (f.frm.fill + f.idleIn idle) % 15
  if 15 < fill + m then 15 - fill else 0

/-- R260, R294: `m` flits go into the stream of a port, after `idle` IDLE flits. -/
def State.dealPort (s : State) (q : BitVec 4) (idle m : Nat) : State × Dealt :=
  let f := RF.at s.fab.ports q
  let i := f.idleIn idle
  let d := { f.frm with fill := (f.frm.fill + i) % 15 }.deal (f.tx.next + BitVec.ofNat 24 i) (s.portLanes q) s.frameNow
    (s.floe.steerGen.toNat % 16) 0 m
  ((s.onPort q (fun f => { f with tx := { f.tx with next := d.next }, frm := d.tx })).emitFrame d.frame, d)

/-- R282: a frame of a group on its own: END or START, whose 15 flits are IDLE, or TRAIN, which takes no sequence number; what is left
of the open frame is filled first. -/
def State.groupFrame (s : State) (g : Nat) (b : Byte) (kind : Nat) : State :=
  let q := BitVec.ofNat 4 (b.toNat % 16)
  let f := RF.at s.fab.ports q
  let pad := if f.frm.fill = 0 || kind = 4 then 0 else 15 - f.frm.fill
  let seq := f.tx.next + BitVec.ofNat 24 pad
  let lane : Lane := .slot q (b.getLsbD 4) (g % 2 == 1)
  let act := activeBits (slotChans g b) (fun k => s.groupChan g k && (s.chan k).active)
  let free := max s.frameNow (SMap.get 0 f.frm.laneAt (laneKey lane))
  let s := s.onPort q (fun f => { f with
    tx := if kind = 4 then f.tx else { f.tx with next := seq + 15 }
    frm := ⟨if kind = 4 then f.frm.fill else 0, SMap.set 0 f.frm.laneAt (laneKey lane) (free + frameCost (popCount act))⟩ })
  s.emitFrame (some (lane, free, ⟨BitVec.ofNat 5 g, BitVec.ofNat 3 kind, BitVec.ofNat 4 (s.floe.steerGen.toNat % 16), act, seq⟩))

/-- R306: what a receiver reports. -/
def State.creditNow (s : State) (q : BitVec 4) : CreditFlit :=
  let f := RF.at s.fab.ports q
  let o := fun (k : BitVec 2) => BitVec.ofNat 16 (RF.at f.occ k)
  { crcOk := true, s := (RF.at s.floe.rx q).expect, oC1 := o 0, oC2 := o 1, oD1 := o 2, oD2 := o 3 }

def creditBytes (c : CreditFlit) : List Byte :=
  let b := [1#8, 0, 0, 0] ++ natLE 3 c.s.toNat ++ [0] ++ natLE 2 c.oC1.toNat ++ natLE 2 c.oC2.toNat ++
    natLE 2 c.oD1.toNat ++ natLE 2 c.oD2.toNat ++ List.replicate 44 0#8
  b ++ natLE 4 (crc32c b).toNat

/-- CREDIT_SEND: the receiver reports in its transmit stream; a dark port reports by service message 0x30 on each
fibre's λS (R308). -/
def execCreditSend (q : BitVec 4) (s : State) : Res :=
  let c := s.creditNow q
  if s.portUp q.toNat = false then .next s
  else
    let done := fun (s : State) => s.onPort q (fun f => { f with reported := f.occ, s := c.s, frames := 0 })
    if s.portLit q.toNat then
      let f := RF.at s.fab.ports q
      let slots := f.padFor 0 1 + 1
      let s := ((done s).onPort q (fun f => { f with ctlWait := if (f.readyOf false).isSome then f.ctlWait + slots else 0 })).dealPort q 0 1
      .next ((s.1.fabCount q.toNat cntTxFlits 1).emit (.credit q c))
    else
      .next (((done s).svc (.link q false) 0x30 (creditBytes c)).svc (.link q true) 0x30 (creditBytes c))

/-- CREDIT: service message 0x30 updates the sender's credit of the port it came on (R308). -/
def execCredit (h : SvcHdr) (c : CreditFlit) (s : State) : Res :=
  s.onSvc h 0x30 (creditBytes c) (fun s =>
    if c.crcOk then s.onPort h.port (fun f => { f with tx := f.tx.report c }) else s.discard (some h.port) discCrc)

/-! ### Sending (R307, R309) -/

/-- R309: the flit slots for which a control packet has waited, `idle` flits from now. -/
def FabPort.waited (f : FabPort) (idle : Nat) : Nat := if f.ctlWait = 0 then 0 else f.ctlWait + idle

/-- R309: the packet that starts after `idle` flits: the older of the two classes' candidates, and the control packet where with the
data packet more than 15 flit slots would have gone ahead of it. -/
def FabPort.pick (f : FabPort) (idle : Nat) : Option (Nat × Queued) :=
  match f.readyOf false, f.readyOf true with
  | some c, some d =>
    if c.1 < d.1 || 15 < f.waited idle + f.padFor idle d.2.pkt.flits + d.2.pkt.flits then some c else some d
  | some c, none => some c
  | none, d => d

/-- R307: the flits of a packet are dealt from a FLIT_SEQ on. -/
def TxCredit.deal (x : TxCredit) (seq : BitVec 24) (v : BitVec 2) (m : Nat) : TxCredit :=
  { x with dealt := x.dealt ++ (List.range m).map (fun i => (seq + BitVec.ofNat 24 i, v)) }

/-- PACKET_START: the arbiter of a lit port starts a packet, which is dealt into one frame of its stream (R260, R294, R307, R309).
`idle` flits have been sent since the last packet, and `stallNs`, `darkNs` are how long the packet was held for credit and on a dark
port, as measured (R321). -/
def execPacketStart (q : BitVec 4) (idle stallNs darkNs : Nat) (s : State) : Res :=
  let f := RF.at s.fab.ports q
  if s.portUp q.toNat = false || s.portLit q.toNat = false then .next s
  else match f.pick idle with
  | none => .next s
  | some (i, x) =>
    let m := x.pkt.flits
    let v := x.pkt.channel x.pkt.hop
    let data := isDataOp x.pkt.opcode.toNat
    let (s, d) := s.dealPort q idle m
    let s := s.onPort q (fun g => { g with
      out := g.out.eraseIdx i
      tx := g.tx.deal d.seq v m
      ctlWait := if data && (f.readyOf false).isSome then f.waited idle + d.pad + m else 0 })
    let s := (s.fabCount q.toNat cntTxFlits m).fabCount q.toNat (if data then cntTxData else cntTxCtrl) 1
    .next (((s.fabCount q.toNat 9 stallNs).fabCount q.toNat 10 darkNs).emit (.packet q x.pkt))

/-! ### Taking packets off a receive channel -/

/-- The packet at the head of a receive channel. -/
def State.headOf (s : State) (q : BitVec 4) (ch : BitVec 2) : Option Packet := (RF.at (RF.at s.fab.ports q).inq ch).head?

/-- Take it: its flits leave the buffer, but those from before the last training, which O no longer counts (R307). -/
def State.pop (s : State) (q : BitVec 4) (ch : BitVec 2) : State :=
  s.onPort q (fun f => match RF.at f.inq ch with
    | [] => f
    | p :: rest =>
      if 0 < RF.at f.before ch then { f with inq := RF.put f.inq ch rest, before := RF.put f.before ch (RF.at f.before ch - 1) }
      else { f with inq := RF.put f.inq ch rest, occ := RF.put f.occ ch (RF.at f.occ ch - p.flits) })

/-- PACKET_FORWARD: a packet for another device sets HOP and goes on, or is discarded (R300 to R302, R313). -/
def execPacketForward (q : BitVec 4) (ch : BitVec 2) (s : State) : Res :=
  match s.headOf q ch with
  | none => .next s
  | some p =>
    if p.dst = s.fab.devid || (14 ≤ q.toNat) then .next s
    else
      let s := s.pop q ch
      if p.hop || !inShape s.shape p.dst.toNat then .next (s.discard (some q) discRoute)
      else
        let p := { p with hop := true }
        let (next, _) := s.nextHop p (q.toNat / 4)
        .next (s.sendTo ⟨p, next, some q⟩ (q.toNat / 4))

/-- HEAD_BUSY_TIMEOUT: a request for this device, of its own domain or at an outer port, has found no reply space for 2 µs at the head and is discarded (R310). -/
def execHeadBusyTimeout (q : BitVec 4) (ch : BitVec 2) (s : State) : Res :=
  match s.headOf q ch with
  | none => .next s
  | some p =>
    if (if q.toNat < 14 then p.dst = s.fab.devid else isOuterOp p.opcode.toNat) && !isReplyOp p.opcode.toNat then .next ((s.pop q ch).discard (some q) discBusy)
    else .next s

/-! ### Loss of a neighbour (R314, R348) -/

/-- R318: FAB_OUTER_PEERS of an outer port. -/
def State.setOuter (s : State) (q : Nat) (dom dev : Byte) : State :=
  if q < 14 then s
  else s.onFab (fun f => { f with
    outerPeers := RF.put (RF.put f.outerPeers (BitVec.ofNat 2 (2 * (q - 14))) dom) (BitVec.ofNat 2 (2 * (q - 14) + 1)) dev })

/-- A port's state changes to one in which it carries nothing: its steers note it (R285), FAB_OUTER_PEERS no longer shows its peer
(R322), and packets that wait choose again (R301). -/
def State.portDown (s : State) (q : BitVec 4) (st : PortSt) : State :=
  let s := (s.onFloe (fun f => { f with
    ports := RF.put f.ports q { RF.at f.ports q with st := st }
    rx := RF.put f.rx q RxStream.reset
    steers := f.steers.map (fun x => if x.asked.contains q.toNat then { x with fallen := NSet.add q.toNat x.fallen } else x) })).setOuter
      q.toNat 0xFF 0xFF
  ((s.forgetTime q).requeue q).retryWaiting

/-- NEIGHBOUR_PORTS_DOWN: 10 µs into its silence, every port to a neighbour is DOWN; packets whose next hop it is wait
(R314 step 2). -/
def execNeighbourPortsDown (d : BitVec 6) (s : State) : Res :=
  let ports := s.portsTo d.toNat
  if ports.isEmpty then .next s
  else
    let s := s.onFab (fun f => { f with silent := NSet.add d.toNat f.silent, silentDown := NSet.add d.toNat f.silentDown })
    .next (ports.foldl (fun s q =>
      if s.portUp q || s.portSt q = .training then s.portDown (BitVec.ofNat 4 q) .down else s) s)

/-- R348: the status of a request whose destination is lost. -/
def lostStatus (r : Req) : Byte := if r.isAtomic && r.attempts != 0 then scAtomicUnknown else scLost

/-- R314, R315, R345, R348: every operation of this device to a lost destination completes. -/
def State.loseDest (s : State) (d : Nat) : State :=
  let gone := s.mem.reqs.filter (fun r => r.dest == d)
  let flags := s.mem.flagged.filter (fun f => f.req.dest == d)
  let s := s.onMem (fun m => { m with
    flagged := m.flagged.filter (fun f => f.req.dest != d)
    pairs := m.pairs.map (fun p => if p.1 % 64 = d then (p.1, { p.2 with resync := false, queried := false, exp := none }) else p) })
  let s := s.onMem (fun m => { m with pairs := m.pairs.filter (fun p => p.2 != SrcPair.reset) })
  let s := gone.foldl (fun s r => s.complete r (Answer.plain (lostStatus r))) s
  flags.foldl (fun s f => s.complete f.req (Answer.plain scLost)) s

/-- R471: a local declaration of step 3 is reported to the holder of the domain-manager role, where it is another device. -/
def State.sendPeerDown (s : State) (d : Nat) : State :=
  if s.firm.dm.holder = 0xFF || s.firm.dm.holder.toNat = s.devid then s
  else s.svc (.dev (s.firm.dm.holder.setWidth 6)) 0x51
    (natLE 1 d ++ List.replicate 7 0#8 ++ natLE 8 s.ftime.toNat ++ natLE 4 s.firm.dm.gen.toNat)

/-- R313, R314: packets that wait for a lost neighbour: a second hop is discarded, a first hop takes the other order. -/
def State.dropWaiting (s : State) (d : Nat) : State :=
  let mine := s.fab.waiting.filter (fun x => x.next == d)
  let s := s.onFab (fun f => { f with waiting := f.waiting.filter (fun x => x.next != d) })
  mine.foldl (fun s x =>
    if x.pkt.hop || x.pkt.dst.toNat = d then s.discard x.port discRoute
    else
      let (next, c) := s.nextHop x.pkt x.tile
      s.sendTo { x with pkt := { x.pkt with cfirst := if x.port.isNone then c else x.pkt.cfirst }, next := next } x.tile) s

/-- R314 step 3: this device declares a neighbour lost. -/
def State.declareLost (s : State) (d : BitVec 6) : State :=
  let s := s.onFab (fun f => { f with
    lostPeers := f.lostPeers ||| (1#64 <<< d.toNat)
    silent := NSet.del d.toNat f.silent, silentDown := NSet.del d.toNat f.silentDown })
  let s := ((s.loseDest d.toNat).dropWaiting d.toNat).sendPeerDown d.toNat
  if s.firm.dm.role = .holder then
    s.onDm (fun m => { m with reports := NSet.add (64 * d.toNat + s.devid) m.reports })
  else s

end Sys2Proof.Machine
end

