-- ==== Sys2Proof/Machine/FirnOps.lean ====
section
/-! DEFINITION. Shared operations on the Firn caches: lookup, replacement, merging, write-back (R186 to R206, R621). -/

namespace Sys2Proof.Machine

/-! ### Where a line lives (R190) -/

def lineOf (a : Nat) : Nat := a / 256
def homeSlice (l : Nat) : Nat := (l % 8) ^^^ (l / 2 ^ 9 % 8) ^^^ (l / 2 ^ 18 % 8) ^^^ (l / 2 ^ 27 % 8)
def lineSet (l : Nat) : Nat := (l / 8) % 49152
/-- The package slice number of a line's home on a stack. -/
def homeOn (t l : Nat) : Nat := 8 * t + homeSlice l
def setKey (t l : Nat) : Nat := homeOn t l * 49152 + lineSet l
def wayKey (t l w : Nat) : Nat := setKey t l * 16 + w

def Firn.frame (f : Firn) (k : Nat) : Option FLine := SMap.get none f.lines k

/-- The frame that holds a line on a stack. -/
def Firn.find (f : Firn) (t l : Nat) : Option (Nat × FLine) :=
  (List.range 16).findSome? (fun w =>
    match f.frame (wayKey t l w) with
    | some x => if x.line = l then some (wayKey t l w, x) else none
    | none => none)

def State.setLine (s : State) (k : Nat) (x : Option FLine) : State :=
  s.onFirn (fun f => { f with lines := SMap.set none f.lines k x })

/-- R187, R191: a line's home slice on a stack is in cache mode. -/
def State.cacheMode (s : State) (t l : Nat) : Bool := !s.firn.scratchMode.getLsbD (homeOn t l)

/-! ### Tree pseudo-LRU (R189) -/

/-- Each node points at the half to replace next; an access to a way turns the nodes on its path away from it. -/
def plruTouch (tree : BitVec 15) (w : Nat) : BitVec 15 :=
  (([3, 2, 1, 0] : List Nat).foldl (fun (p : BitVec 15 × Nat) i =>
    let b := w.testBit i
    let m := 1#15 <<< p.2
    ((if b then p.1 &&& ~~~ m else p.1 ||| m), 2 * p.2 + 1 + (if b then 1 else 0))) (tree, 0)).1

def plruVictim (tree : BitVec 15) : Nat :=
  (([0, 1, 2, 3] : List Nat).foldl (fun (p : Nat × Nat) _ =>
    let b := if tree.getLsbD p.2 then 1 else 0
    (2 * p.1 + b, 2 * p.2 + 1 + b)) (0, 0)).1

def State.touchWay (s : State) (k : Nat) : State :=
  s.onFirn (fun f => { f with plru := SMap.upd 0 f.plru (k / 16) (fun b => plruTouch b (k % 16)) })

/-! ### Line contents -/

def FLine.bytes (x : FLine) (off n : Nat) : List Byte := ((natLE 256 x.data.toNat).drop off).take n

/-- Sectors of a line that a range touches. -/
def touched (off n : Nat) : List Nat := (List.range 8).filter (fun i => 32 * i < off + n && off < 32 * i + 32)

def byteBits (l : List Nat) : Byte := l.foldl (fun b i => b ||| (1#8 <<< i)) 0

/-- R188: bytes merged into a line; a sector written whole with good data loses its poison. -/
def FLine.merge (x : FLine) (off : Nat) (bs : List Byte) (bad : NSet) : FLine :=
  let ts := touched off bs.length
  { x with
    data := BitVec.ofNat 2048 (leNat (putAt (natLE 256 x.data.toNat) off bs))
    poison := ts.foldl (fun p i =>
      if bad.contains i then p ||| (1#8 <<< i)
      else if off ≤ 32 * i && 32 * i + 32 ≤ off + bs.length then p &&& ~~~ (1#8 <<< i) else p) x.poison }

/-- A touched sector is poisoned. -/
def FLine.bad (x : FLine) (off n : Nat) : Bool := (touched off n).any (fun i => x.poison.getLsbD i)

/-- R192: a store of an own-device line: its sectors become dirty, and the slot owns the line. -/
def FLine.store (x : FLine) (off : Nat) (bs : List Byte) (bad : NSet) (slot : Nat) : FLine :=
  let y := x.merge off bs bad
  { y with dirty := y.dirty ||| byteBits (touched off bs.length), owner := slot }

/-! ### Write-back (R621) -/

/-- R188, R529: what the array read of a line of a stack finds: `ecc`, or an error that waited for this read. -/
def State.eccFound (s : State) (t l : Nat) (ecc : FirnEcc) : FirnEcc × State :=
  match ecc with
  | .single | .double _ => (ecc, s)
  | _ => match s.firn.upset? t l (fun _ => true) with
    | some u => ((u.sector.map FirnEcc.double).getD .single, s.upsetUsed u)
    | none => (.clean, s)

/-- R188: a corrected error of a line. -/
def State.lineFix (s : State) (t l : Nat) (inj : Bool) : State :=
  (s.onFirn (fun f => { f with eccCe := satInc f.eccCe })).raise'
    { unit := firnUnit (homeOn t l), cause := 0x10, cls := .ce, addr := BitVec.ofNat 64 (256 * l), injected := inj }

/-- R188: an uncorrectable word in a sector of the line of a frame. -/
def State.lineSpoil (s : State) (t k : Nat) (x : FLine) (i : Nat) (inj : Bool) : State × Option FLine :=
  let y := { x with poison := x.poison ||| (1#8 <<< i) }
  ((s.setLine k (some y)).raise'
    { unit := firnUnit (homeOn t x.line), cause := 0x11, cls := .de, addr := BitVec.ofNat 64 (256 * x.line + 32 * i), injected := inj },
    some y)

/-- R188, R529: the array read of a present line; the line after it, or none where a clean line is invalidated. -/
def State.lineEcc (s : State) (t : Nat) (k : Nat) (x : FLine) (off n : Nat) (ecc : FirnEcc) : State × Option FLine :=
  let u := firnUnit (homeOn t x.line)
  let ga := 256 * x.line
  match s.eccFound t x.line ecc with
  | (.single, s) => (s.lineFix t x.line false, some x)
  | (.double i, s) =>
    if x.dirty = 0 then ((s.setLine k none).lineFix t x.line false, none) else s.lineSpoil t k x i.toNat false
  | (_, s) =>
    if s.injects u 0x10 ga 256 then (s.injUsed.lineFix t x.line true, some x)
    else match (touched off n).find? (fun i => x.dirty.getLsbD i && s.injects u 0x11 (ga + 32 * i) 32) with
      | some i => s.injUsed.lineSpoil t k x i true
      | none => (s, some x)

/-- R621: contiguous dirty sectors: first sector, and how many. -/
def dirtyRuns (x : FLine) : List (Nat × Nat) :=
  (List.range 8).foldl (fun (acc : List (Nat × Nat)) i =>
    if x.dirty.getLsbD i then
      match acc.getLast? with
      | some (b, n) => if b + n = i then acc.dropLast ++ [(b, n + 1)] else acc ++ [(i, 1)]
      | none => [(i, 1)]
    else acc) []

/-- R621, R349: a store of a write-back is issued, or waits for room at its engine. -/
def State.issueWb (s : State) (w : WbWait) : State :=
  if s.firn.wbWait.any (fun x => x.pkt.srcEng = w.pkt.srcEng) || !s.canIssue w.pkt.srcEng.toNat s.devid opSt then
    s.onFirn (fun f => { f with wbWait := f.wbWait ++ [w] })
  else s.issue w.pkt (.writeBack w.stack w.ffl w.bad) none

/-- R188, R621: write back the dirty sectors of a frame, each poisoned one with its mark; the line stays, clean. -/
def State.writeBack (s : State) (k : Nat) (ffl : Option (Nat × Nat)) (ecc : FirnEcc := .clean) : State :=
  match s.firn.frame k with
  | none => s
  | some x =>
    if x.dirty = 0 then s
    else
      let slice := k / 16 / 49152
      match s.lineEcc (slice / 8) k x 0 256 ecc with
      | (s, none) => s
      | (s, some x) =>
        (dirtyRuns x).foldl (fun s (b, n) =>
          let a := 256 * x.line + 32 * b
          let bad := ((List.range n).filter (fun i => x.poison.getLsbD (b + i))).map (fun i => a / 32 + i)
          let pkt := { (s.reqPkt (storeOp false (32 * n)) slice s.devid a (32 * n)).withData (x.bytes (32 * b) (32 * n)) with
            poison := !bad.isEmpty }
          s.issueWb ⟨pkt, slice / 8, ffl, bad⟩) (s.setLine k (some { x with dirty := 0 }))

/-- A write-back of a line of a stack is not yet acknowledged. -/
def State.writingBack (s : State) (t l : Nat) : Bool :=
  s.firn.wbWait.any (fun w => w.stack == t && w.pkt.addr.toNat / 256 == l) ||
  s.mem.reqs.any (fun r => match r.owner with
    | .writeBack u _ _ => u == t && r.pkt.addr.toNat / 256 == l
    | _ => false)

/-- Some write-back of a stack is not yet acknowledged. -/
def State.stackWritingBack (s : State) (t : Nat) : Bool :=
  s.firn.wbWait.any (fun w => w.stack == t) ||
  s.mem.reqs.any (fun r => match r.owner with | .writeBack u _ _ => u == t | _ => false)

/-- R206: a fill of a line is under way, and what reaches the line meanwhile comes after it. -/
def State.filling (s : State) (t l : Nat) : Bool := s.firn.fills.any (fun f => f.stack = t && f.line = l)

/-- R189, R192: a frame for a new line: an invalid way, or the way that the tree names once its line has been written
back; none while that write-back is under way. -/
def State.freeFrame (s : State) (t l : Nat) : State × Option Nat :=
  match (List.range 16).find? (fun w => (s.firn.frame (wayKey t l w)).isNone) with
  | some w => (s, some (wayKey t l w))
  | none =>
    let k := wayKey t l (plruVictim (SMap.get 0 s.firn.plru (setKey t l)))
    match s.firn.frame k with
    | none => (s, some k)
    | some v =>
      if v.dirty != 0 then (s.writeBack k none, none)
      else if s.writingBack t v.line then (s, none)
      else (s.setLine k none, some k)

/-- Put a new line into a frame. -/
def State.allocate (s : State) (k : Nat) (x : FLine) : State :=
  ((s.setLine k (some x)).touchWay k).onFirn (fun f => { f with
    upsets := f.upsets.filter (fun u => !(u.stack == k / 16 / 49152 / 8 && u.line == x.line)) })

/-- R200: a walk begins once the COMPLETE of its program has been sent, or at once where it discards. -/
def State.walkBegun (s : State) (w : Walk) : Bool :=
  w.discard || !s.firm.mbx.out.any (fun x => x.type == msgComplete && fld x.payload 0 4 == w.tag.toNat)

/-! ### Slices -/

/-- The frames of some package slices that hold a line. -/
def Firn.framesOf (f : Firn) (slices : Nat → Bool) : List (Nat × FLine) :=
  f.lines.filterMap (fun p => if slices (p.1 / 16 / 49152) then p.2.map (fun x => (p.1, x)) else none)

/-- Write back every dirty line of some slices. -/
def State.flushSlices (s : State) (slices : Nat → Bool) : State :=
  (s.firn.framesOf slices).foldl (fun s (k, x) => if x.dirty != 0 then s.writeBack k none else s) s

/-- R189: invalidate every line of a slice; its trees return to way 0. -/
def State.clearSlice (s : State) (slice : Nat) : State :=
  s.onFirn (fun f => { f with
    lines := f.lines.filter (fun p => p.1 / 16 / 49152 != slice)
    plru := f.plru.filter (fun p => p.1 / 49152 != slice) })

/-- R204: a cache-mode slice begins its change to scratch mode. -/
def State.toScratch (s : State) (slice : Nat) : State :=
  if s.firn.scratchMode.getLsbD slice || s.firn.toScratch.contains slice then s
  else (s.flushSlices (fun x => x == slice)).onFirn (fun f => { f with toScratch := NSet.add slice f.toScratch })

/-- R204: a scratch-mode slice returns to cache mode: its contents are discarded. -/
def State.toCache (s : State) (slice : Nat) : State :=
  let lo := slice * 2 ^ 28
  (s.clearSlice slice).onFirn (fun f => { f with
    scratchMode := f.scratchMode &&& ~~~ (1#32 <<< slice)
    toScratch := NSet.del slice f.toScratch
    scratch := Mem.zero f.scratch lo (2 ^ 28)
    scratchPoison := f.scratchPoison.filter (fun w => w / 2 ^ 23 != slice)
    windows := f.windows.filter (fun w => !(gRegion (256 * w.line) = 1 && gOff (256 * w.line) / 2 ^ 28 = slice)) })

/-! ### Tile data at the vertical port (R38) -/

/-- The bytes that a vertical-port write reads from the SRAM, with the 32-byte sectors of `ga` that they poison. -/
def State.portRead (s : State) (n a len ga : Nat) : List Byte × NSet × State :=
  let t := s.tile n
  let words := (List.range ((a % 16 + len + 15) / 16)).map (fun i => (a / 16 + i) % 2 ^ 16)
  let hit := words.find? (fun w => s.injects (tileUnit n) 3 (16 * w) 16)
  let s := match hit with
    | some w => s.injUsed.raise' { unit := tileUnit n, cause := 3, cls := .de, tag := t.prog.getD 0,
                                   addr := BitVec.ofNat 64 (16 * w), injected := true }
    | none => s.sramCe n a len
  let bad := words.filter (fun w => t.uc.contains w || hit == some w)
  let secs := bad.flatMap (fun w =>
    let i := (16 * w + 2 ^ 20 - a) % 2 ^ 20
    let lo := if i < len then i else 0
    let hi := min (if i < len then i + 15 else 15 - a % 16) (len - 1)
    [(ga + lo) / 32, (ga + hi) / 32])
  (t.bytes a len, secs.foldl (fun l x => NSet.add x l) [], s)

/-! ### Merge windows (R205, R206) -/

def Firn.window? (f : Firn) (t l : Nat) : Option MergeWin := f.windows.find? (fun w => w.stack = t && w.line = l)

/-- R205: a tile-port read joins the open window of its line, or opens one, with an array read where the data is here. -/
def State.windowRead (s : State) (t l : Nat) (array : Bool) : State :=
  match s.firn.window? t l with
  | some _ => s.onFirn (fun f => { f with
      windows := f.windows.map (fun w => if w.stack = t && w.line = l then { w with joined := w.joined + 1 } else w)
      mergedReads := satInc f.mergedReads })
  | none => s.onFirn (fun f => { f with
      windows := f.windows ++ [⟨t, l, array, 0⟩]
      arrayReads := if array then satInc f.arrayReads else f.arrayReads })

end Sys2Proof.Machine
end

