-- ==== Sys2Proof/Machine/Image.lean ====
section
/-! DEFINITION. The tile map as bytes, program images and the checks of a SUBMIT (R76 to R79, R151 to R166, R170, R620). -/

namespace Sys2Proof.Machine

/-! ### The tile map (R76, R77) -/

def TileMap.ent (m : TileMap) (n : Nat) : MapEnt := SMap.get MapEnt.full m.ents n
def BwClass.code : BwClass → Nat
  | .full => 0 | .half => 1 | .none => 2
def MapSt.code : MapSt → Nat
  | .enabled => 0 | .fused => 1 | .retired => 2

/-- R77: the 16 bits of an entry: BWCLASS, STATE, Y and X. -/
def TileMap.word (m : TileMap) (n : Nat) (bw : Bool) : Nat :=
  let e := m.ent n
  (if bw then e.bw.code * 2 ^ 14 else 0) + e.st.code * 2 ^ 12 + n % 256

/-- R77: the fused rows of a die, ascending. -/
def TileMap.fusedRows (m : TileMap) (t : Nat) : List Nat :=
  (List.range 16).filter (fun y => (m.ent (256 * t + 16 * y)).st = .fused)

/-- R77: MAP_DIGEST. -/
def TileMap.digest (m : TileMap) : W32 := crc32c ((List.range 1024).flatMap (fun n => natLE 2 (m.word n false)))

/-- R77: the 2,064 bytes of the map. -/
def TileMap.bytes (m : TileMap) (gradeB : Bool) : List Byte :=
  [1#8, if gradeB then 1 else 0, if m.conform then 1 else 0, 0] ++
  (List.range 4).flatMap (fun t =>
    let r := m.fusedRows t
    [BitVec.ofNat 8 (r.getD 0 0xFF), BitVec.ofNat 8 (r.getD 1 0xFF)]) ++
  natLE 4 m.digest.toNat ++ (List.range 1024).flatMap (fun n => natLE 2 (m.word n true))

/-- R85: the map that the dictionary shows: the one in force, and before the end of THAW the part's as it was made. -/
def State.mapShown (s : State) : TileMap := if s.serac.mapOn then s.serac.map else TileMap.ofRows s.part.fusedRows

/-- R76: the package tile number of logical row `y`, column `x` of a die: the `y`+1-th row that is not fused. -/
def TileMap.physical (m : TileMap) (t y x : Nat) : Nat :=
  let rows := (List.range 16).filter (fun r => (m.ent (256 * t + 16 * r)).st != .fused)
  256 * t + 16 * rows.getD y 0 + x

/-! ### Reading the image (R151, R153, R164) -/

/-- Bytes of own memory that N0 reads; none where a byte is unmapped or reads POISONED. -/
def State.fwRead (s : State) (a n : Nat) : Option (List Byte) × State :=
  let (s, r) := s.memRead a n
  (if r.status = scOk then some r.data else none, s)

/-- A range of own HBM is mapped. -/
def State.hbmMapped (s : State) (off n : Nat) : Bool :=
  (List.range ((off % 2 ^ 30 + n + (2 ^ 30 - 1)) / 2 ^ 30)).all (fun i =>
    (s.hbm.decode ((off / 2 ^ 30 + i) * 2 ^ 30)).isSome)

/-- R151, R170: a range lies wholly in mapped HBM of this device, at a multiple of 4 KiB. -/
def State.inOwnHbm (s : State) (a n : Nat) : Bool :=
  a < 2 ^ 48 && gDev a = s.devid && gRegion a = 0 && a % 4096 = 0 && gOff a + n ≤ 2 ^ 40 && s.hbmMapped (gOff a) n

/-- R39, R152: STAGE_SIZE in bytes. -/
def stageOf (code : Nat) : Nat := match code with | 0 => 0 | 1 => 32768 | 2 => 65536 | _ => 131072

/-- R39: the data region of an image header. -/
def hdrLo (h : List Byte) : Nat := 4096 * fld h 0x29 1
def hdrHi (h : List Byte) : Nat := 2 ^ 20 - stageOf (fld h 0x28 1)

def allZero (bs : List Byte) : Bool := bs.all (fun b => b == 0)

/-- R151, R152, R158: the fields of a header that stand for themselves. -/
def hdrOk (h : List Byte) : Bool :=
  let size := fld h 0x08 8
  let table := fld h 0x20 4
  fld h 0 4 = 0x34325454 && fld h 4 1 = 1 && fld h 6 2 < 8 && size % 4096 = 0 && 4096 ≤ size && size ≤ 2 ^ 30 &&
  fld h 0x10 4 % 32 = 0 && 1 ≤ fld h 0x14 2 && fld h 0x14 2 ≤ 256 && fld h 0x10 4 + 32 * fld h 0x14 2 ≤ size &&
  fld h 0x16 1 ≤ 2 && fld h 0x17 1 ≤ 4 && (fld h 0x16 1 = 0 || fld h 0x18 4 = 0) &&
  1 ≤ fld h 0x1C 2 && fld h 0x1C 2 ≤ 960 && 1 ≤ fld h 0x1E 2 && fld h 0x1E 2 ≤ 4096 &&
  1 ≤ fld h 0x24 4 && fld h 0x24 4 ≤ 130560 && fld h 0x28 1 ≤ 3 && 1 ≤ fld h 0x29 1 && fld h 0x29 1 ≤ 64 &&
  allZero ((h.drop 0x2A).take 6) && allZero ((h.drop 0x38).take 68) &&
  table % 8 = 0 && hdrLo h ≤ table && table + 8 * fld h 0x24 4 ≤ hdrHi h

/-- R153: entry `i` of the section table. -/
def sectAt (t : List Byte) (i : Nat) : Sect :=
  let e := t.drop (32 * i)
  ⟨fld e 0 2, fld e 2 2, fld e 8 8, fld e 16 8, fld e 24 4, i⟩

/-- R153: an entry breaks a rule by itself or beside an earlier one. -/
def sectBad (t : List Byte) (size i : Nat) : Bool :=
  let e := t.drop (32 * i)
  let x := sectAt t i
  let before := (List.range i).map (sectAt t)
  x.type = 0 || 8 < x.type || fld e 4 4 != 0 || fld e 28 4 != 0 || size < x.off + x.size ||
  before.any (fun y => y.type == x.type && (y.idx == x.idx || x.type = 1 || (4 ≤ x.type && x.type ≤ 6)))

/-- Sections whose contents are checked at submission. -/
def Sect.checked (x : Sect) : Bool := x.type = 1 || (4 ≤ x.type && x.type ≤ 7)

/-- The section of a type and index. -/
def findSect (l : List Sect) (type idx : Nat) : Option Sect := l.find? (fun x => x.type == type && x.idx == idx)
def ofType (l : List Sect) (type : Nat) : Option Sect := l.find? (fun x => x.type == type)

/-- Entries of `n` bytes. -/
def entries (n : Nat) (bs : List Byte) : List (List Byte) := chunksOf n (bs.length / n) bs

/-- R156: the ranges of a LIVE section. -/
def liveRanges (bs : List Byte) : List (Nat × Nat) := (entries 8 bs).map (fun e => (fld e 0 4, fld e 4 4))

/-- R156: ranges do not overlap. -/
def apart : List (Nat × Nat) → Bool
  | [] => true
  | (a, n) :: l => l.all (fun (b, m) => n = 0 || m = 0 || a + n ≤ b || b + m ≤ a) && apart l

/-- R154 to R160: the contents of a section hold; `h` the header, `l` the section table, `members` the job size. -/
def contentOk (h : List Byte) (l : List Sect) (members : Nat) (x : Sect) (bs : List Byte) : Bool :=
  let lo := hdrLo h
  let hi := hdrHi h
  crc32c bs = BitVec.ofNat 32 x.crc &&
  match x.type with
  | 1 => bs.length = 8 * fld h 0x1C 2 && (entries 8 bs).all (fun e =>
      (findSect l 2 (fld e 2 2)).isSome && (fld e 4 2 = 0xFFFF || (findSect l 3 (fld e 4 2)).isSome) &&
      (fld e 6 2 = 0xFFFF || (findSect l 7 (fld e 6 2)).isSome))
  | 4 => bs.length = 16 * fld h 0x1E 2 && (entries 16 bs).all (fun e =>
      fld e 8 4 < fld h 0x24 4 && fld e 12 2 < 2 && fld e 14 2 = 0)
  | 5 => bs.length = 128 && (entries 8 bs).all (fun e => fld e 4 1 < 64 && fld e 5 1 < 4 && fld e 6 2 = 0)
  | 6 => bs.length % 16 = 0 && (entries 16 bs).all (fun e =>
      let kind := fld e 2 1
      let arg := fld e 3 1
      let a := fld e 4 4
      fld e 0 2 < fld h 0x1C 2 && kind ≤ 6 &&
      (if kind = 0 then arg < 16 else if kind = 3 then arg < members else arg = 0) &&
      a % 8 = 0 && lo ≤ a && a + 8 ≤ hi && fld e 8 8 = 0)
  | 7 => bs.length % 8 = 0 && 8 ≤ bs.length && bs.length ≤ 128 && apart (liveRanges bs) &&
      (liveRanges bs).all (fun (a, n) => a % 256 = 0 && n % 256 = 0 && lo ≤ a && a < hi && a + n ≤ hi)
  | _ => true

/-- The sections that an image must have (R153). -/
def sectsPresent (l : List Sect) : Bool :=
  ([1, 2, 4, 5] : List Nat).all (fun t => (ofType l t).isSome)

/-- Read the checked sections; the bytes of each, or none where they could not be read. -/
def State.readSects (s : State) (base : Nat) : List Sect → List (Sect × Option (List Byte)) × State
  | [] => ([], s)
  | x :: l =>
    let (b, s) := s.fwRead (base + x.off) x.size
    let (r, s) := s.readSects base l
    ((x, b) :: r, s)

/-- What a checked image holds; `tile` entries still as the PLACE section names them. -/
def imageInfo (h : List Byte) (l : List Sect) (got : List (Sect × List Byte)) : ImageInfo :=
  let body := fun t => ((got.find? (fun p => p.1.type == t)).map (·.2)).getD []
  { span := (fld h 6 2).testBit 0, priv := (fld h 6 2).testBit 1, preemptible := (fld h 6 2).testBit 2,
    size := fld h 8 8, mapKind := fld h 0x16 1, mapDigest := fld h 0x18 4, sects := l,
    segReqs := (entries 8 (body 5)).map (fun e =>
      ⟨fld e 0 4, fld e 4 1, (fld e 5 1).testBit 0, (fld e 5 1).testBit 1⟩),
    relocs := (entries 16 (body 6)).map (fun e => ⟨fld e 0 2, fld e 2 1, fld e 3 1, fld e 4 4⟩),
    lives := (got.filter (fun p => p.1.type == 7)).map (fun p => (p.1.idx, liveRanges p.2)),
    raDepth := fld h 0x17 1, blockTable := fld h 0x20 4, blockCount := fld h 0x24 4, stageBytes := stageOf (fld h 0x28 1),
    codeBytes := hdrLo h, ctxSize := fld h 0x30 8,
    place := (entries 8 (body 1)).map (fun e => ⟨fld e 0 2, fld e 2 2, fld e 4 2, fld e 6 2⟩),
    phases := (entries 16 (body 4)).map (fun e =>
      ⟨BitVec.ofNat 32 (fld e 0 4), BitVec.ofNat 32 (fld e 4 4), fld e 8 4, (fld e 12 2).testBit 0⟩) }

/-- R151 to R160: the image at an address, or the DETAIL of BAD_IMAGE. Of several bad sections the one that stands
first in the section table is named (log entry 28). -/
def State.loadImage (s : State) (base members : Nat) : Except Nat ImageInfo × State :=
  if s.inOwnHbm base 128 = false then (.error 0xFFFF, s)
  else
    match s.fwRead base 128 with
    | (none, s) => (.error 0xFFFF, s)
    | (some h, s) =>
      if !hdrOk h || !s.inOwnHbm base (fld h 8 8) then (.error 0xFFFF, s)
      else
        let count := fld h 0x14 2
        match s.fwRead (base + fld h 0x10 4) (32 * count) with
        | (none, s) => (.error 0xFFFF, s)
        | (some t, s) =>
          let l := (List.range count).map (sectAt t)
          if crc32c (h.take 0x7C ++ t) != BitVec.ofNat 32 (fld h 0x7C 4) then (.error 0xFFFF, s)
          else match (List.range count).find? (sectBad t (fld h 8 8)) with
          | some i => (.error i, s)
          | none =>
            if sectsPresent l = false then (.error 0xFFFF, s)
            else
              let (got, s) := s.readSects base (l.filter Sect.checked)
              match got.find? (fun (x, b) => match b with
                | none => true
                | some b => !contentOk h l members x b) with
              | some (x, _) => (.error x.pos, s)
              | none => (.ok (imageInfo h l (got.filterMap (fun (x, b) => b.map (fun b => (x, b))))), s)

/-! ### The checks of a SUBMIT (R165) -/

/-- R161: a segment descriptor from its 12 bytes. -/
def segOf (bs : List Byte) : Seg :=
  let n := leNat (bs.take 12)
  { v := n.testBit 82, f := n.testBit 81, fc := n.testBit 80, pf := n.testBit 79, at' := n.testBit 78, w := n.testBit 77,
    rd := n.testBit 76, limit := BitVec.ofNat 28 (n / 2 ^ 48), base := BitVec.ofNat 48 n }

/-- R159: the rights of a segment in the bit order of RIGHTS. -/
def Seg.rights (g : Seg) : Nat :=
  bitN g.rd 0 + bitN g.w 1 + bitN g.at' 2 + bitN g.pf 3 + bitN g.fc 4 + bitN g.f 5

def Seg.size (g : Seg) : Nat := (g.limit.toNat + 1) * 4096

/-- R620: bits of byte `o` of a SUBMIT's slot that offend. -/
def submitBad (own shape : Nat) (m : List Byte) (o : Nat) : Bool :=
  let b := fld m o 1
  if o = 20 then 3 < b
  else if o = 22 then 1 < b
  else if o = 23 then b != 0
  else if 48 ≤ o && o < 56 then
    (List.range 8).any (fun i =>
      let d := 8 * (o - 48) + i
      (b.testBit i && !inShape shape d) || (d = own && !b.testBit i))
  else if 64 ≤ o then
    let k := (o - 64) % 12
    (k = 10 && 8 ≤ b) || (k = 11 && b != 0)
  else false

/-- R620: DETAIL of BAD_MESSAGE, where the message offends. -/
def State.badMessage (s : State) (m : List Byte) : Option Nat :=
  if fld m 8 2 != 256 then some 8 else (List.range 256).find? (submitBad s.devid s.shape m)

/-- R78: the tile map accepts the image. -/
def State.mapAccepts (s : State) (i : ImageInfo) : Bool :=
  match i.mapKind with
  | 0 => i.mapDigest == s.serac.map.digest.toNat
  | 1 => !s.part.gradeB && s.serac.map.conform
  | _ => s.serac.map.conform

/-- R154: the package tile that a placement entry names; none where it names none that the image can use. -/
def State.placeTile (s : State) (i : ImageInfo) (tile : Nat) : Option Nat :=
  if 1024 ≤ tile then none
  else if i.mapKind = 0 then (if (s.serac.map.ent tile).st = .enabled then some tile else none)
  else if (if i.mapKind = 1 then 15 else 14) ≤ tile % 256 / 16 then none
  else some (s.serac.map.physical (tile / 256) (tile % 256 / 16) (tile % 16))

/-- R154: the placement with its package tiles; none where it breaks the rule. -/
def State.placement (s : State) (i : ImageInfo) : Option (List Place) :=
  let names := i.place.map (·.tile)
  if names.eraseDups.length = names.length then
    i.place.mapM (fun e => (s.placeTile i e.tile).map (fun n => { e with tile := n }))
  else none

/-- R166: a segment is refused. -/
def State.segRefused (s : State) (priv : Bool) (q : SegReq) (g : Seg) : Bool :=
  let b := g.base.toNat
  (g.v && (b % 4096 != 0 || b / 2 ^ 40 != (b + g.size - 1) / 2 ^ 40 || gRegion b = 3 || (gRegion b = 2 && !priv) ||
    (gDev b = s.devid && gRegion b = 0 && !s.hbmMapped (gOff b) g.size) || (q.loc && gDev b != s.devid))) ||
  (q.used && (!g.v || g.limit.toNat + 1 < q.minUnits || q.rights &&& g.rights != q.rights))

/-- The bound segments in the scratch of this device. -/
def State.scratchSegs (s : State) (segs : List Seg) : List Seg :=
  segs.filter (fun g => g.v && gDev g.base.toNat = s.devid && gRegion g.base.toNat = 1)

/-- R170: bytes that a context area must hold. -/
def State.ctxNeed (s : State) (i : ImageInfo) (segs : List Seg) : Nat :=
  i.ctxSize + ((s.scratchSegs segs).map Seg.size).sum

/-- R201: the package slices that a program's scratch segments touch. -/
def State.slicesOf (s : State) (segs : List Seg) : NSet :=
  (s.scratchSegs segs).foldl (fun l g =>
    let o := gOff g.base.toNat
    (List.range ((o + g.size - 1) / 2 ^ 28 - o / 2 ^ 28 + 1)).foldl (fun l i => NSet.add ((o / 2 ^ 28 + i) % 32) l) l) []

/-- R165: the status and DETAIL of a SUBMIT, with the checked image where it is ACCEPTED. -/
inductive Verdict where
  | refuse (status detail : Nat)
  | accept (i : ImageInfo)

/-- R164: a START_FTIME at least 2 ms after the message was read. -/
def State.startOk (s : State) (start : W64) : Bool :=
  match s.firm.mbx.msgFt with
  | some t => !serBefore start (t + BitVec.ofNat 64 (msU 2))
  | none => false

/-- R165, from MAP_MISMATCH on. -/
def State.judgeImage (s : State) (m : List Byte) (segs : List Seg) (i : ImageInfo) : Verdict :=
  let ctx := fld m 32 8
  let units := fld m 60 4
  let start := fld m 40 8
  let placePos := ((ofType i.sects 1).map (·.pos)).getD 0xFFFF
  if !s.mapAccepts i then .refuse 0x04 s.serac.map.digest.toNat
  else match s.placement i with
  | none => .refuse 0x03 placePos
  | some pl =>
    match pl.find? (fun e => (s.serac.mapNext.ent e.tile).st = .retired) with
    | some e => .refuse 0x05 e.tile
    | none =>
      match (List.range 16).find? (fun k =>
          s.segRefused i.priv (i.segReqs.getD k ⟨0, 0, false, false⟩) (segs.getD k Seg.none)) with
      | some k => .refuse 0x06 k
      | none =>
        let need := s.ctxNeed i segs
        if i.priv && !s.mem.privSw then .refuse 0x07 0
        else if units * 4096 < need || !s.inOwnHbm ctx (units * 4096) then .refuse 0x08 ((need + 4095) / 4096)
        else if 64 ≤ s.sched.progs.length then .refuse 0x09 0
        else if start != 0 && !s.startOk (BitVec.ofNat 64 start) then .refuse 0x0A 0
        else .accept { i with place := pl }

/-- R165: the checks of a SUBMIT in their order. -/
def State.judge (s : State) (m : List Byte) : Verdict × State :=
  if s.pkg.dev != .flow then (.refuse 0x0C s.pkg.dev.code, s)
  else match s.badMessage m with
  | some o => (.refuse 0x01 o, s)
  | none =>
    if s.sched.progs.any (fun p => p.tag.toNat == fld m 16 4) then (.refuse 0x02 0, s)
    else
      let members := (List.range 64).countP (fun d => (fld m 48 8).testBit d)
      match s.loadImage (fld m 24 8) members with
      | (.error d, s) => (.refuse 0x03 d, s)
      | (.ok i, s) => (s.judgeImage m ((List.range 16).map (fun k => segOf (m.drop (64 + 12 * k)))) i, s)

end Sys2Proof.Machine
end

