-- ==== Sys2Proof/Machine/SchedOps.lean ====
section
/-! DEFINITION. Shared operations of the scheduler: resources, starts, preemption, the end of a program (R167, R171 to R181). -/

namespace Sys2Proof.Machine

/-! ### Messages (R163) -/

/-- R163: the payload that SUBMIT_REPLY, COMPLETE and ABORT_REPLY share. -/
def progReply (tag : W32) (status slot phase detail : Nat) (pre : W32) (start ends cycles : W64) : List Byte :=
  natLE 4 tag.toNat ++ natLE 1 status ++ natLE 1 slot ++ natLE 2 phase ++ natLE 4 detail ++ natLE 4 pre.toNat ++
  natLE 8 start.toNat ++ natLE 8 ends.toNat ++ natLE 8 cycles.toNat ++ List.replicate 200 0#8

/-- The scheduler slot as messages carry it. -/
def slotByte (slot : Option Nat) : Nat := slot.getD 0xFF

/-- N0 takes up the oldest message that it has read. -/
def State.takeUp (s : State) : State :=
  s.onMbx (fun x => { x with taken := x.taken.drop 1, readFt := x.readFt.drop 1, msgFt := x.readFt.headD none })

/-- N0 acts on the oldest message that it has taken, where that is of the type of the command: the message in 256 bytes. -/
def State.onTaken (s : State) (type : Nat) (f : List Byte → State → State) : Res :=
  match s.firm.mbx.taken with
  | [] => .next s
  | m :: _ => if s.schedUp && fld m 2 2 = type then .next (f (padTo 256 m) s.takeUp)
    else .next s

/-! ### Resources (R172, R173) -/

/-- The program holds a tile, a slice or a channel that `p` needs. -/
def State.blocks (s : State) (q p : Prog) : Bool :=
  q.tag != p.tag &&
  (p.tiles.any (fun n => (s.tile n).prog == some q.tag) ||
   (s.slicesOf p.segs.toList).any (fun k => (SMap.get [] s.firn.held k).contains q.tag) ||
   (p.img.priv && p.privCh.isNone && s.mem.privSw && s.mem.priv2.isSome && s.mem.priv3.isSome && q.privCh.isSome))

/-- R174 step 6: a reserved program that has not started keeps what it needs from others. -/
def State.reservedFrom (s : State) (q p : Prog) : Bool :=
  q.tag != p.tag && q.reserved && q.st == .queued && !p.reserved &&
  (p.tiles.any (fun n => q.tiles.contains n) || (s.slicesOf p.segs.toList).any (fun k => (s.slicesOf q.segs.toList).contains k) ||
   (p.img.priv && p.privCh.isNone && q.img.priv && s.mem.privSw && (s.mem.priv2.isSome || s.mem.priv3.isSome)))

/-- R172, R174: `p` conflicts with no started program. -/
def State.unblocked (s : State) (p : Prog) : Bool :=
  !s.sched.progs.any (fun q => s.blocks q p || s.reservedFrom q p)

/-- R174: a waiting program; one with START_FTIME waits from its reservation on. -/
def Prog.waits (p : Prog) : Bool := p.st == .preempted || (p.st == .queued && (p.startFtime == 0 || p.reserved))

/-- R174 step 5, R185: the program may be preempted. -/
def State.preemptible (s : State) (p : Prog) : Bool :=
  !p.img.span && p.img.preemptible && p.preemptOk && s.sched.preemptEn

/-- The lowest slot that no program and no walk has (R172, R200). -/
def State.freeSlot (s : State) : Option Nat :=
  (List.range 16).find? (fun k => !s.sched.walkSlots.contains k && !s.sched.progs.any (fun p => p.slot == some k))

/-! ### Loading (R178, R203) -/

/-- What outlives a program on a tile: the SRAM until it is zeroed, the registers that no rule sets at a program's start (log entry
6), the links, and run-ahead requests that have still to be answered, with the epoch (R72). -/
def Tile.left (t : Tile) : Tile :=
  { Tile.reset with
    sram := t.sram, uc := t.uc, nextOp := t.nextOp, credit := t.credit, linkBuf := t.linkBuf, wire := t.wire
    a := t.a, s := t.s, cc := t.cc, md := t.md, v := t.v, p := t.p
    ra := { RunAhead.reset with nextId := t.ra.nextId, epoch := t.ra.epoch, out := t.ra.out } }

/-- A tile as a program takes it: its SRAM is to be zeroed, and R102's generator, the rounding mode of R59 and the sets of R120 are as
at a program's start. -/
def Tile.claim (t : Tile) (tag : W32) : Tile := { t.left with st := .zeroing, prog := some tag }

/-- A program takes a scratch slice; on a start, and on a resume of a slice that it does not hold still, the slice is
brought to scratch mode, and on a start it is zeroed. -/
def State.takeSlice (s : State) (p : Prog) (k : Nat) : State :=
  let s := s.onFirn (fun f => { f with
    held := SMap.upd [] f.held k (fun l => if l.contains p.tag then l else l ++ [p.tag])
    zeroing := if p.st = .preempted then f.zeroing else NSet.add k f.zeroing })
  s.toScratch k

/-- R339: a grant of a privileged channel. -/
def State.grantPriv (s : State) (p : Prog) : Option (BitVec 2) × State :=
  if p.privCh.isSome || !p.img.priv || !s.mem.privSw then (p.privCh, s)
  else if s.mem.priv2.isNone then (some 2, { s with mem := { s.mem with priv2 := some p.tag } })
  else if s.mem.priv3.isNone then (some 3, { s with mem := { s.mem with priv3 := some p.tag } })
  else (none, s)

/-- R69, R87: the run-ahead depth on each stack for a run that starts. -/
def State.runDepths (s : State) (i : ImageInfo) : RF 2 Nat :=
  Vector.ofFn (fun t : Fin (2 ^ 2) =>
    let k := BitVec.ofFin t
    if RF.at s.serac.raEn k then min i.raDepth (min (RF.at s.serac.raMax k) 4) else 0)

/-- R174 step 1, R178: a waiting program takes its resources and begins to load, or to be restored. -/
def State.beginLoad (s : State) (p : Prog) : State :=
  match (if p.slot.isSome then p.slot else s.freeSlot) with
  | none => s
  | some slot =>
    let resume := p.st = .preempted
    let (ch, s) := s.grantPriv p
    let s := (s.slicesOf p.segs.toList).foldl (fun s k => s.takeSlice p k) s
    let s := s.onTiles p.tiles (fun t => t.claim p.tag)
    let depths := s.runDepths p.img
    let en := s.sched.preemptEn
    s.onProg p.tag (fun p => { p with
      st := .loading, slot := some slot, privCh := ch, resuming := resume, quantumLeft := p.quantum, reserved := false,
      scratch := s.slicesOf p.segs.toList
      preemptOk := if resume then p.preemptOk else en
      raDepths := if resume then p.raDepths else depths })

/-! ### Tiles given back -/

/-- R86: EN of a stack's Serac block. -/
def State.srcEn (s : State) (t : Nat) : Bool := s.serac.tiles.any (fun p => p.1 / 256 == t && p.2.prog.isSome)

/-- R85, R86: on a stack whose EN has become 0, a waiting TILE_RA_ENABLE takes effect, unless a lock binds the firmware
(R484), and CFG_IGNORED clears; the entry is no longer pending when no stack waits. -/
def State.settleSrc (s : State) : State :=
  let lock := s.entryLocked (dk 0x2000 7)
  let s := ([0, 1, 2, 3] : List Nat).foldl (fun s t =>
    if s.srcEn t then s
    else
      let k := BitVec.ofNat 2 t
      s.onSerac (fun x => { x with
        raEn := RF.put x.raEn k (if lock then RF.at x.raEn k else (RF.at x.raPend k).getD (RF.at x.raEn k))
        raPend := RF.put x.raPend k none
        cfgIgnored := RF.put x.cfgIgnored k false })) s
  if s.serac.raPend.toList.all (fun p => p.isNone) then s.land (dk 0x2000 7) else s

/-- R218: EN of a stack's Firn block. -/
def State.frnEn (s : State) (t : Nat) : Bool :=
  s.srcEn t || (List.range 8).any (fun i => !(SMap.get [] s.firn.held (8 * t + i)).isEmpty)

/-- R218: on a die whose EN has become 0, CFG_IGNORED clears. -/
def State.settleFrn (s : State) : State :=
  ([0, 1, 2, 3] : List Nat).foldl (fun s t =>
    if s.frnEn t then s else s.onFirn (fun f => { f with cfgIgnored := RF.put f.cfgIgnored (BitVec.ofNat 2 t) false })) s

/-- R85: a write of TILE_RA_ENABLE waits on each stack for its EN to be 0. -/
def State.putRaEnable (s : State) (v : List Byte) : State :=
  ((s.stage (dk 0x2000 7) v).onSerac (fun x => { x with raPend := RF.all 2 (some (leNat v != 0)) })).settleSrc

/-- A tile that its program gives back; its SRAM is zeroed before another uses it (R74, R178). A store or an atomic that is still in
the memory queue has not been issued to the Firn, and is dropped with it (log entry 145). -/
def Tile.freed (t : Tile) : Tile := t.left

def State.freeTiles (s : State) (p : Prog) : State :=
  (s.onTiles (p.tiles.filter (fun n => (s.tile n).prog == some p.tag)) Tile.freed).settleSrc.settleFrn

/-- R173: a program gives back a scratch slice; its last holder's end returns it to its default mode where `last`. -/
def State.dropSlice (s : State) (tag : W32) (last : Bool) (k : Nat) : State :=
  let l := (SMap.get [] s.firn.held k).filter (fun x => x != tag)
  let s := (s.onFirn (fun f => { f with held := SMap.set [] f.held k l })).settleFrn
  if !last || !l.isEmpty then s
  else
  let s := s.landSlice k
  if s.firn.scratchDefault.getLsbD k then s
  else if s.firn.scratchMode.getLsbD k then
    (s.toCache k).onFirn (fun f => { f with zeroing := NSet.del k f.zeroing })
  else s.onFirn (fun f => { f with toScratch := NSet.del k f.toScratch, zeroing := NSet.del k f.zeroing })

/-! ### The end of a program (R164, R167) -/

/-- COMPLETE of a program leaves N0, and the program is no longer accepted. -/
def State.completeProg (s : State) (p : Prog) (status detail : Nat) (cycles : W64) : State :=
  let body := progReply p.tag status (slotByte p.slot) p.phaseDone detail p.preemptions p.startTime p.endTime cycles
  let s := p.scratch.foldl (fun s k => s.dropSlice p.tag true k) s
  let s := { s with mem := { s.mem with
    priv2 := if s.mem.priv2 = some p.tag then none else s.mem.priv2
    priv3 := if s.mem.priv3 = some p.tag then none else s.mem.priv3 } }
  ((s.onSched (fun x => { x with progs := x.progs.filter (fun q => q.tag != p.tag) })).onMbx (fun m =>
    { m with out := m.out ++ [⟨msgComplete, body, false, p.jobId, p.prio⟩] })).pump

/-! ### Preemption (R82, R176, R177, R180) -/

/-- R82, R180: N0 asks a program to stop: its tiles hold at the next SLICE, unless a barrier is partly reached. -/
def State.askPreempt (s : State) (p : Prog) : State :=
  if p.preempting || !(p.st == .running || p.st == .atBarrier) || s.allHalted p then s
  else
    let s := s.onProg p.tag (fun p => { p with preempting := true, reports := [], sliceT := none })
    if p.st = .atBarrier || p.tiles.any (fun n => (s.tile n).st = .barrier) then s
    else s.onTiles p.tiles (fun t => { t with holdReq := true })

/-- A tile leaves its slice point for the bundle after it. -/
def Tile.pastSlice (t : Tile) : Tile := { t.goAfter t.bundle with st := .running }

/-- Tiles that hold at a slice go on after it (R82, R177). -/
def State.runOn (s : State) (ns : List Nat) (f : Tile → Tile) : State :=
  ns.foldl (fun s n =>
    if (s.tile n).st = .sliceHold then (s.onTile n (fun t => (f t).pastSlice)).fetchNext n
    else s.onTile n f) s

/-- R82: every tile of the program has halted or holds at a slice. -/
def State.allHold (s : State) (p : Prog) : Bool :=
  p.tiles.all (fun n => (s.tile n).st = .sliceHold || (s.tile n).st = .halted)

/-! ### Contexts (R83, R170) -/

/-- Bytes of a tile's live ranges. -/
def ImageInfo.live (i : ImageInfo) (e : Place) : List (Nat × Nat) :=
  ((i.lives.find? (fun p => p.1 == e.live)).map (·.2)).getD []

/-- R170: bytes of a tile's context. -/
def ImageInfo.ctxBytes (i : ImageInfo) (e : Place) : Nat :=
  (8192 + ((i.live e).map (·.2)).sum + 4095) / 4096 * 4096

/-- R170: the placement entries with the offsets of their contexts, and the offset after them. -/
def ctxPlan (i : ImageInfo) : List (Place × Nat) × Nat :=
  i.place.foldl (fun p e => (p.1 ++ [(e, p.2)], p.2 + i.ctxBytes e)) ([], 4096)

/-- R83: an accumulator set's images. -/
def AccSet.slots (a : AccSet) : List Byte :=
  (List.range 16).flatMap (fun i =>
    let k := BitVec.ofNat 4 i
    if a.fp64 then natLE 80 (RF.at a.fp k).toNat else natLE 80 (RF.at a.xa k).image)

/-- R83: a counter's status and tolerant flag in 4 bytes: the code, the flag, and the count of completions that were not OK up to
23 bits (log entry 29). -/
def Counter.saved (c : Counter) : Nat := c.code.toNat + bitN c.tolerant 8 + min c.bad.toNat (2 ^ 23 - 1) * 2 ^ 9

/-- R83: an active loop level in 16 bytes; the spec does not place its parts (log entry 29). -/
def loopSaved (l : Option LoopLevel) : List Byte :=
  match l with
  | none => List.replicate 16 0#8
  | some x => natLE 4 (x.first + 2 ^ 31) ++ natLE 4 x.last ++ natLE 8 x.left.toNat

/-- R83: the 8,192-byte record of a tile; the order and widths of the parts of its first 64 bytes are the model's (log entry 29). -/
def Tile.record (t : Tile) : List Byte :=
  padTo 64 (natLE 4 t.bundle ++ natLE 4 t.phase ++ natLE 4 (match t.ra.block with | some b => b + 1 | none => 0) ++
    natLE 4 t.slice ++ natLE 4 t.rnd.toNat ++ natLE 4 t.g.toNat ++ natLE 4 t.ra.epoch.toNat ++
    natLE 4 (bitN (RF.at t.acc 0).fp64 0 + bitN (RF.at t.acc 1).fp64 1)) ++
  t.a.toList.flatMap (fun x => natLE 4 x.toNat) ++ t.s.toList.flatMap (fun x => natLE 8 x.toNat) ++
  t.cc.toList.flatMap (fun c => natLE 4 c.count.toNat) ++ t.cc.toList.flatMap (fun c => natLE 4 c.saved) ++
  t.loops.toList.flatMap loopSaved ++ t.p.toList.flatMap (fun x => natLE 4 x.toNat) ++ List.replicate 48 0#8 ++
  t.md.toList.flatMap (fun x => natLE 32 x.toNat) ++ t.v.toList.flatMap (fun x => natLE 128 x.toNat) ++
  (RF.at t.acc 0).slots ++ (RF.at t.acc 1).slots ++ List.replicate 512 0#8

/-- Fields of a record by offset and width. -/
def recBv (b : List Byte) (off n w : Nat) : BitVec w := BitVec.ofNat w (fld b off n)

def accOf (b : List Byte) (off : Nat) (fp64 : Bool) : AccSet :=
  { fp64 := fp64
    xa := Vector.ofFn (fun i : Fin (2 ^ 4) => if fp64 then Xa.zero else Xa.ofImage (fld b (off + 80 * i.val) 80))
    fp := Vector.ofFn (fun i : Fin (2 ^ 4) => if fp64 then recBv b (off + 80 * i.val) 8 64 else 0) }

/-- R83, R84: a tile with its record written back; windows start empty and the fetch buffer is not saved. -/
def Tile.restored (t : Tile) (b : List Byte) : Tile :=
  let block := if fld b 8 4 = 0 then none else some (fld b 8 4 - 1)
  let r : RunAhead := { RunAhead.reset with
    block := block, epoch := recBv b 24 4 8, nextId := t.ra.nextId, depth := t.ra.depth, out := t.ra.out }
  { t with
    bundle := fld b 0 4, phase := fld b 4 4, slice := fld b 12 4, rnd := recBv b 16 4 3, g := recBv b 20 4 32
    ra := (match block with | some k => r.claim k | none => r)
    a := Vector.ofFn (fun i : Fin (2 ^ 4) => recBv b (0x40 + 4 * i.val) 4 20)
    s := Vector.ofFn (fun i : Fin (2 ^ 4) => recBv b (0x80 + 8 * i.val) 8 64)
    cc := Vector.ofFn (fun i : Fin (2 ^ 4) =>
      let k := fld b (0x140 + 4 * i.val) 4
      ⟨recBv b (0x100 + 4 * i.val) 4 32, BitVec.ofNat 8 k, BitVec.ofNat 32 (k / 2 ^ 9), k.testBit 8⟩)
    loops := Vector.ofFn (fun i : Fin (2 ^ 2) =>
      let o := 0x180 + 16 * i.val
      if fld b o 4 < 2 ^ 31 then none else some ⟨fld b o 4 - 2 ^ 31, fld b (o + 4) 4, recBv b (o + 8) 8 64⟩)
    p := Vector.ofFn (fun i : Fin (2 ^ 2) => recBv b (0x1C0 + 4 * i.val) 4 32)
    md := Vector.ofFn (fun i : Fin (2 ^ 4) => recBv b (0x200 + 32 * i.val) 32 256)
    v := Vector.ofFn (fun i : Fin (2 ^ 5) => recBv b (0x400 + 128 * i.val) 128 1024)
    acc := Vector.ofFn (fun i : Fin (2 ^ 1) =>
      if i.val = 0 then accOf b 0x1400 ((fld b 28 4).testBit 0) else accOf b 0x1900 ((fld b 28 4).testBit 1)) }

/-- Copy bytes within own memory, with the poison of the source (R170, R171, R236). -/
def State.copyMem (s : State) (src dst n : Nat) : State × Bool :=
  (wordPieces dst n).foldl (fun (p : State × Bool) q =>
    let (s, r) := p.1.memRead (src + (q.1 - dst)) q.2
    let bad := r.status != scOk
    ((s.memWrite q.1 r.data bad).1, p.2 || bad)) (s, false)

/-- The pieces of saved scratch: address of the bytes, offset in the part of the area that holds scratch, and length,
for the slices that are saved. -/
def State.scratchPlan (s : State) (p : Prog) : List (Nat × Nat × Nat) :=
  ((s.scratchSegs p.segs.toList).foldl (fun (acc : List (Nat × Nat × Nat) × Nat) g =>
    let b := g.base.toNat
    let cut := (pieces (2 ^ 28) (g.size / 2 ^ 28 + 2) (gOff b) g.size).filterMap (fun (o, n) =>
      if p.savedScratch.contains (o / 2 ^ 28) && o % 2 ^ 28 < 0xC000000 then
        some (b - gOff b + o, acc.2 + (o - gOff b), min n (0xC000000 - o % 2 ^ 28))
      else none)
    (acc.1 ++ cut, acc.2 + g.size)) ([], 0)).1

/-- R171: save one tile's record and live ranges. -/
def State.saveTile (s : State) (ctx : Nat) (i : ImageInfo) (e : Place) (off : Nat) : State :=
  let s := (s.memWrite (ctx + off) (s.tile e.tile).record false).1
  ((i.live e).foldl (fun (p : State × Nat) r =>
    ((wordPieces (ctx + p.2) r.2).foldl (fun s q =>
      let (bs, bad, s) := s.portRead e.tile (r.1 + (q.1 - (ctx + p.2))) q.2 q.1
      (s.memWrite q.1 bs (!bad.isEmpty)).1) p.1, p.2 + r.2)) (s, off + 8192)).1

/-- R170: the program record. -/
def Prog.record (p : Prog) : List Byte :=
  padTo 4096 (natLE 4 p.tag.toNat ++ natLE 4 (p.sliceT.getD 0) ++ natLE 1 ((p.privCh.map (·.toNat)).getD 0xFF) ++
    natLE 1 (if p.st = .atBarrier then 1 else 0) ++ natLE 2 p.phase ++ natLE 1 p.prio ++ natLE 1 p.quantum ++ natLE 2 p.phaseDone ++
    p.segs.toList.flatMap (fun g => natLE 12 (g.base.toNat + g.limit.toNat * 2 ^ 48 + bitN g.rd 76 + bitN g.w 77 +
      bitN g.at' 78 + bitN g.pf 79 + bitN g.fc 80 + bitN g.f 81 + bitN g.v 82)))

/-- R170, R176: write the whole context of a program. -/
def State.saveContext (s : State) (p : Prog) : State :=
  let s := (s.memWrite p.ctxAddr p.record false).1
  let (tiles, scratch) := ctxPlan p.img
  let s := tiles.foldl (fun s (e, off) => s.saveTile p.ctxAddr p.img e off) s
  (s.scratchPlan p).foldl (fun s (a, off, n) => (s.copyMem a (p.ctxAddr + scratch + off) n).1) s

/-- R178: write one tile's context back; whether a byte read POISONED. -/
def State.loadTile (s : State) (ctx : Nat) (i : ImageInfo) (e : Place) (off : Nat) : State × Bool :=
  let (s, r) := s.memRead (ctx + off) 8192
  let s := s.onTile e.tile (fun t => t.restored r.data)
  let (s, bad, _) := (i.live e).foldl (fun (p : State × Bool × Nat) q =>
    let (s, r) := p.1.memRead (ctx + p.2.2) q.2
    (s.onTile e.tile (fun t => t.write q.1 r.data), p.2.1 || r.status != scOk, p.2.2 + q.2))
    (s, r.status != scOk, off + 8192)
  (s, bad)

/-- R178 steps 2 and 3: write a program's context back; whether a byte read POISONED. -/
def State.restoreContext (s : State) (p : Prog) : State × Bool :=
  let (s, r) := s.memRead p.ctxAddr 4096
  let (tiles, scratch) := ctxPlan p.img
  let (s, bad) := tiles.foldl (fun (q : State × Bool) (e, off) =>
    let (s, b) := q.1.loadTile p.ctxAddr p.img e off
    (s, q.2 || b)) (s, r.status != scOk)
  (s.scratchPlan p).foldl (fun (q : State × Bool) (a, off, n) =>
    let (s, b) := q.1.copyMem (p.ctxAddr + scratch + off) a n
    (s, q.2 || b)) (s, bad)

/-- R529, R622: the 64-byte word of a context that an armed CONTEXT_POISON makes poisoned. -/
def State.contextInj (s : State) (p : Prog) : Option Nat :=
  let base := p.ctxAddr
  match s.errs.inj with
  | some i =>
    let w := if i.addr = 0 then base else i.addr.toNat / 64 * 64
    if i.unit = unitCode 9 0 0 && i.cause = 4 && base ≤ w && w < base + p.ctxUnits * 4096 then some w else none
  | none => none

/-- The global address of the first poisoned word of a context, for the record of R514 and R517. -/
def State.firstPoison (s : State) (a n : Nat) : Nat :=
  ((wordPieces a n).find? (fun q => (s.memRead q.1 q.2).2.status != scOk)).elim a (fun q => q.1 / 64 * 64)

end Sys2Proof.Machine
end

