-- ==== Sys2Proof/Machine/Mailbox.lean ====
section
/-! DEFINITION. Firmware load, the mailbox, attachment and DRIFT (R436 to R453). -/

namespace Sys2Proof.Machine

/-! ### Loading the firmware (R439, R440, R442) -/

/-- R442: a load buffer holds a chunk not yet taken. -/
def Load.busy (l : Load) (b : Bool) : Bool := l.queue.any (fun c => c.buf == b)

/-- LOAD_CHUNK_SUBMIT: a write of LOAD_CTRL with GO = 1. A GO write that names a busy buffer, or that comes while STATE
is not WAITING or LOADING, is ignored (R439, R442). `bytes` is what the load buffer holds. -/
def execLoadChunkSubmit (ctrl : W32) (bytes : List Byte) (s : State) : Res :=
  let l := s.firm.load
  let buf := ctrl.getLsbD 29
  let last := ctrl.getLsbD 30
  let n := ctrl.toNat % 65536 + 1
  let now := s.now
  let s := s.onLoad (fun l => { l with ctrl := ctrl &&& 0x7FFFFFFF })
  if ctrl.getLsbD 31 && (l.st = .waiting || l.st = .loading) && !l.busy buf then
    .next (s.onLoad (fun l => { l with
      st := .loading, queue := l.queue ++ [⟨buf, last, padTo n (bytes.take n)⟩], chunkAt := now
      bufs := SMap.set [] l.bufs (if buf then 1 else 0) (bytes.take 65536) }))
  else .next s

/-- LOAD_CHUNK_TAKE: N4 takes the oldest chunk (R439 step 3). -/
def execLoadChunkTake (s : State) : Res :=
  match s.firm.load.queue with
  | [] => .next s
  | c :: rest =>
    if s.firm.load.lastTaken || !(s.coreUp 4 || (RF.at s.firm.cores 4).st = .boot) then .next s
    else .next (s.onLoad (fun l => { l with queue := rest, image := l.image ++ c.bytes, lastTaken := c.last }))

/-- R440: an image is refused: its bytes are discarded and LOAD_STATUS returns to WAITING with the cause. -/
def State.loadRefused (s : State) (cause : Byte) : State :=
  s.onLoad (fun l => { l with st := .waiting, cause := cause, queue := [], image := [], lastTaken := false })

/-- LOAD_CHUNK_TIMEOUT: more than 10 s have passed between two chunks (R440). -/
def execLoadChunkTimeout (s : State) : Res :=
  if s.firm.load.st = .loading && !s.firm.load.lastTaken then .next (s.loadRefused 7) else .next s

/-! ### Host-to-device messages (R443 to R447) -/

/-- R447, R163, R492: host-to-device types. -/
def isH2dType (t : Nat) : Bool :=
  t = 0x0010 || t = 0x0011 || t = 0x0101 || t = 0x0104 || t = 0x0201 || t = 0x0202

/-- R444: the CRC of a message holds. -/
def msgCrcOk (m : List Byte) : Bool :=
  crc32c (m.take 12 ++ List.replicate 4 0#8 ++ (m.drop 16).take (fld m 8 2 - 16)) = BitVec.ofNat 32 (fld m 12 4)

/-- What N0 makes of a message (R445). -/
inductive MsgVerdict where
  | reject (cause : Nat)
  | version
  | pass
deriving DecidableEq, Repr

/-- R445: the checks in their order; the first that fails decides. -/
def State.judgeMsg (s : State) (m : List Byte) : MsgVerdict :=
  let n := fld m 8 2
  if n < 16 || 256 < n then .reject 1
  else if !msgCrcOk m then .reject 2
  else if m.getD 0 0 != s.firm.msgMajor then .version
  else if !isH2dType (fld m 2 2) then .reject 3
  else if fld m 2 2 != 0x0011 && !s.firm.mbx.attached then .reject 4
  else if fld m 10 2 / 2 != 0 then .reject 5
  else .pass

/-- N0 takes one message: a refusal is answered, and a message that passes waits for N0 to act on it; its age is 0. -/
def State.takeMsg (s : State) (m : List Byte) : State :=
  let seq := fld m 4 4
  match s.judgeMsg m with
  | .reject c => s.d2h 0x0002 (natLE 4 seq ++ natLE 1 c ++ List.replicate 3 0#8)
  | .version =>
    s.d2h 0x0001 (natLE 4 seq ++ [s.firm.msgMajor, s.firm.msgMinor, 0, 0] ++ natLE 4 s.firm.release.toNat)
  | .pass =>
    let now := s.now
    let ft := if s.clk.ftState = .unset then none else some s.clk.ft
    s.onMbx (fun x => { x with taken := x.taken ++ [m], readFt := x.readFt ++ [ft], lastMsg := now })

/-- The messages from the tail up to the head, in index order (R443). -/
def Mbx.waiting (m : Mbx) : List (List Byte) :=
  (List.range (m.h2dHead - m.h2dTail).toNat).map (fun i =>
    padTo 256 (SMap.get [] m.h2d ((m.h2dTail.toNat + i) % 64)))

/-- Messages as the host wrote them into the slots from the tail on. -/
def Mbx.fill (m : Mbx) (msgs : List (List Byte)) : Mbx :=
  { m with h2d := (msgs.zipIdx).foldl (fun d p => SMap.set [] d ((m.h2dTail.toNat + p.2) % 64) (p.1.take 256)) m.h2d }

/-- MBX_POLL: N0 reads MBX_H2D_HEAD and takes the new messages in index order; a head more than 64 ahead of the tail is
ignored (R443). `msgs` is what the host has written into the slots from the tail on. -/
def execMbxPoll (head : W32) (msgs : List (List Byte)) (s : State) : Res :=
  let s := s.onMbx (fun m => ({ m with h2dHead := head }).fill (msgs.take 64))
  if s.schedUp = false || s.pkg.dev = .cold || 64 < (head - s.firm.mbx.h2dTail).toNat then .next s
  else
    let ms := s.firm.mbx.waiting
    .next (ms.foldl State.takeMsg (s.onMbx (fun m => { m with h2dTail := head })))

/-- MBX_D2H_TAIL_WRITE: the host has read messages, which frees their slots; a tail past the head is ignored
(R443, R167). -/
def execMbxD2hTailWrite (tail : W32) (s : State) : Res :=
  let m := s.firm.mbx
  let n := (tail - m.d2hTail).toNat
  if (m.d2hHead - m.d2hTail).toNat < n then .next s
  else .next (s.onMbx (fun m => { m with d2hTail := tail, sent := m.sent.drop n })).pump

/-- HEARTBEAT: the age of the newest host message is 0, and there is no reply (R449). -/
def execHeartbeat (s : State) : Res :=
  s.onTaken 0x0010 (fun _ s =>
    let now := s.now
    s.onMbx (fun m => { m with lastMsg := now }))

/-! ### DRIFT (R449 to R451) -/

/-- HEARTBEAT_TIMEOUT: the newest host message is 1 s old, so DRIFT begins at the next scheduler cycle start (R449). -/
def execHeartbeatTimeout (s : State) : Res :=
  if s.pkg.dev = .flow then .next (s.onMbx (fun m => { m with driftDue := true })) else .next s

/-- R449, R450, R474: the entry into DRIFT, at a scheduler cycle start. -/
def State.enterDrift (s : State) : State :=
  let now := s.now
  let ft := s.ftime
  ((s.land (dk 0x1200 3)).onMbx (fun m => { m with
    driftDue := false, attached := false, driftSince := now, driftFt := ft
    driftEntries := satInc m.driftEntries })).setDev .drift

/-- DRIFT_PERIOD_EXPIRE: every started program is held at its next barrier, the windows are fenced, and DRIFT_EXPIRED is
set; a period of 0 never expires (R451). -/
def execDriftPeriodExpire (s : State) : Res :=
  if s.pkg.dev = .drift && s.firm.mbx.driftPeriod != 0 then
    .next ((s.onMbx (fun m => { m with driftExpired := true })).onMem (fun m => { m with driftFence := true }))
  else .next s

/-! ### Attachment (R446, R452, R453) -/

/-- R184, R452: the state of a program as SCHED_SLOT and INVENTORY show it. -/
def Prog.stateCode (p : Prog) : Nat :=
  match p.st with
  | .queued => 7 | .loading => 1 | .running => 2 | .atBarrier => 3 | .saving => 4 | .preempted => 5 | .ending => 6

/-- An entry of INVENTORY. -/
def invEntry (tag job : W32) (st slot prio : Nat) : List Byte :=
  natLE 4 tag.toNat ++ natLE 4 job.toNat ++ natLE 1 st ++ natLE 1 slot ++ natLE 1 prio ++ List.replicate 5 0#8

/-- R452: the entries: programs that are accepted, then the COMPLETEs that are held. -/
def State.inventory (s : State) (held : List D2hMsg) : List (List Byte) :=
  s.sched.progs.map (fun p => invEntry p.tag p.jobId p.stateCode (slotByte p.slot) p.prio) ++
  held.map (fun x => invEntry (BitVec.ofNat 32 (fld x.payload 0 4)) x.job 8 (fld x.payload 5 1) x.prio)

/-- R452: parts of 14 entries; with no entry, one empty part. -/
def invParts (es : List (List Byte)) : List D2hMsg :=
  let n := max 1 ((es.length + 13) / 14)
  (List.range n).map (fun i =>
    ⟨0x0013, natLE 2 i ++ natLE 2 n ++ List.replicate 12 0#8 ++ ((es.drop (14 * i)).take 14).flatten, i + 1 < n, 0, 0⟩)

/-- COMPLETEs that the host has not consumed, in their order. -/
def Mbx.completes (m : Mbx) : List D2hMsg := (m.sent ++ m.out).filter (fun x => x.type == msgComplete)

/-- R452 step 2: ATTACH_REPLY. -/
def State.attachReply (s : State) (driver : W32) (held : Nat) : D2hMsg :=
  let rel := s.firm.release
  ⟨0x0012, natLE 1 (if driver.toNat / 65536 = rel.toNat / 65536 then 1 else 0) ++ natLE 1 s.pkg.dev.code ++ [0, 0] ++
    natLE 4 rel.toNat ++ natLE 2 s.sched.progs.length ++ natLE 2 held ++ List.replicate 4 0#8 ++
    natLE 8 (if s.pkg.dev = .drift then s.firm.mbx.driftFt.toNat else 0), false, 0, 0⟩

/-- ATTACH: the indices become 0, the reply, the inventory and every COMPLETE not consumed are written, and ATTACHED is
set; DRIFT becomes FLOW (R452). -/
def execAttach (s : State) : Res :=
  s.onTaken 0x0011 (fun msg s =>
    if (s.pkg.dev = .thaw || s.pkg.dev = .flow || s.pkg.dev = .drift) && !s.errs.entryDue then
      let held := s.firm.mbx.completes
      let out := s.attachReply (BitVec.ofNat 32 (fld msg 16 4)) held.length :: invParts (s.inventory held) ++ held
      let was := s.firm.mbx.attached
      let s := s.onMbx (fun m => { m with
        h2dHead := 0, h2dTail := 0, d2hHead := 0, d2hTail := 0, taken := [], readFt := [], sent := [], out := out, attached := true
        driftExpired := false, releaseDue := true })
      let s := s.pump
      if s.pkg.dev = .drift then s.setDev .flow
      else if was then s
      else s.mbxChanged
    else s)

/-- R453, R355, R511: a Function Level Reset of the mailbox and the load buffers; COMPLETEs are kept. -/
def State.flrMailbox (s : State) : State :=
  let was := s.firm.mbx.attached
  let s := s.onMbx (fun m => { m with
    h2dHead := 0, h2dTail := 0, d2hHead := 0, d2hTail := 0, h2d := [], d2h := [], taken := [], readFt := [], sent := []
    out := m.completes, attached := false, irqDue := false })
  let s := s.onLoad (fun l => { l with queue := [], bufs := [] })
  if was then s.mbxChanged else s

end Sys2Proof.Machine
end

