-- ==== Sys2Proof/Machine/Lease.lean ====
section
/-! DEFINITION. The Nunatak cores' failures and the scheduler lease (R456 to R463). -/

namespace Sys2Proof.Machine

/-- R436: the Floe tile of a core. -/
def coreTile (n : Nat) : Nat := match n with | 1 => 2 | 3 => 1 | 5 => 3 | _ => 0

def coreUnit (n : Nat) : W16 := unitCode 9 (coreTile n) n
/-- R516: the scheduler lease, and the domain-manager role. -/
def leaseUnit : W16 := unitCode 15 0 1
def roleUnit : W16 := unitCode 15 0 2

def State.core (s : State) (n : BitVec 3) : Core := RF.at s.firm.cores n
def State.onCore (s : State) (n : BitVec 3) (f : Core → Core) : State :=
  s.onCores (fun c => RF.put c n (f (RF.at c n)))

/-- The cores of the present primary and standby scheduler. -/
def Lease.primary (l : Lease) : BitVec 3 := if l.primaryN1 then 1 else 0
def Lease.standby (l : Lease) : BitVec 3 := if l.primaryN1 then 0 else 1

/-- R429, R447, R457: while N3 is down the power control falls back. -/
def State.powerFallback (s : State) : State :=
  ({ s with pow := { s.pow with fallback := true, fallbackEvents := satInc s.pow.fallbackEvents } }).fwEvent 4 3 0

/-- R385, R457: N2 no longer disciplines fabric time. -/
def State.timeHoldover (s : State) : State :=
  if s.clk.ftState = .unset then s
  else { s with clk := { s.clk with ftState := .holdover, upstream := none, inRow := 0, outRow := 0 } }

/-- R457: what the loss of a core does at once. -/
def State.coreLost (s : State) (n : BitVec 3) : State :=
  match n.toNat with
  | 0 | 1 =>
    if s.firm.lease.primary = n then s.onLease (fun l => { l with stopped := true })
    else s.onLease (fun l => { l with health := .down, run := 0 })
  | 2 =>
    (s.onDm (fun m => { m with
      role := if m.role = .holder then .standby else m.role, claim := none, copy := none, copyIn := none
      incoming := none, sending := if m.role = .holder then none else m.sending, swapDue := false })).timeHoldover
  | 3 => s.powerFallback
  | _ => s

/-- R456: a core is reset, measured and started again. -/
def State.restartCore (s : State) (n : BitVec 3) : State :=
  (s.onCore n (fun c => { c with st := .restarting, restarts := satInc c.restarts })).coreLost n

/-! ### The lease (R458 to R463) -/

/-- The standby becomes the primary with the next generation, which the scheduler hardware takes. -/
def State.newPrimary (s : State) (health : Health) : State :=
  let now := s.now
  s.onLease (fun l => { l with
    gen := l.gen + 1, primaryN1 := !l.primaryN1, stopped := false, renewed := now, health := health, syncSince := now
    run := 0, swapPending := false, handover := false, journal := [] })

/-- SCHED_LEASE_STOP: the primary has not renewed 100 µs before its lease expires, and issues no more commands (R460). -/
def execSchedLeaseStop (s : State) : Res := .next (s.onLease (fun l => { l with stopped := true }))

/-- R442, R458: the scheduler pair runs. -/
def State.leaseRuns (s : State) : Bool := s.firm.load.st = .done && s.pkg.dev != .cold && s.pkg.dev != .icebound

/-- SCHED_LEASE_EXPIRY: the standby sees the lease expire; a HEALTHY one takes over, and with none an FE-class error is
raised (R460 to R462). -/
def execSchedLeaseExpiry (s : State) : Res :=
  let l := s.firm.lease
  if !s.leaseRuns then .next s
  else if l.health = .healthy && s.coreUp l.standby.toNat && !s.armed leaseUnit 0x64 then
    let s := s.newPrimary (if s.coreUp l.primary.toNat then .syncing else .down)
    .next ((s.fwEvent 2 l.standby.toNat s.firm.lease.gen).pump)
  else .next ((s.onLease (fun l => { l with stopped := true })).raise'
    { unit := leaseUnit, cause := 0x0064, cls := .fe, detail := l.gen.setWidth 64 })

/-- SCHED_JOURNAL_RECORD: the standby applies a journal record to the last copy (R459). -/
def execSchedJournalRecord (rcd : List Byte) (s : State) : Res :=
  if s.leaseRuns && s.coreUp s.firm.lease.standby.toNat then
    .next (s.onLease (fun l => { l with journal := l.journal ++ [rcd] }))
  else .next s

/-- SCHED_STATE_COPY: the standby replays the copied cycle from the previous copy and the journal; `agrees` is the outcome
of the digests' comparison (R461). -/
def execSchedStateCopy (agrees : Bool) (s : State) : Res :=
  let l := s.firm.lease
  let cycle := s.sched.cycle
  if !s.leaseRuns || s.coreUp l.standby.toNat = false then .next s
  else
    let s := s.onLease (fun l => { l with copyCycle := cycle, journal := [] })
    if agrees && !s.armed leaseUnit 0x63 then
      .next (s.onLease (fun l => { l with
        run := 0, health := if l.health = .syncing && s.since l.syncSince < msU 1 then .syncing else .healthy }))
    else
      let s := s.onLease (fun l => { l with run := l.run + 1, mismatches := satInc l.mismatches, health := .syncing })
      let s := s.raise' { unit := leaseUnit, cause := 0x0063, cls := .ce, detail := l.gen.setWidth 64 }
      if s.firm.lease.run < 3 then .next s
      else .next ((s.fwEvent 5 l.standby.toNat l.gen).restartCore l.standby)

/-- R463: a swap asked for is refused unless the standby is HEALTHY. -/
def State.askSwap (s : State) : Bool × State :=
  if s.firm.lease.health = .healthy && s.schedUp then (true, s.onLease (fun l => { l with swapPending := true }))
  else (false, s)

/-- R463: at a cycle end the primary sends a final copy marked HANDOVER and stops. -/
def State.handOver (s : State) : State :=
  if s.firm.lease.swapPending && s.firm.lease.health = .healthy then
    s.onLease (fun l => { l with swapPending := false, stopped := true, handover := true })
  else s

/-- SCHED_HANDOVER_COPY: the standby receives the final copy, writes the next generation and starts the next cycle
(R463). -/
def execSchedHandoverCopy (s : State) : Res :=
  if s.firm.lease.handover && s.coreUp s.firm.lease.standby.toNat then .next (s.newPrimary .healthy).pump else .next s

end Sys2Proof.Machine
end

