-- ==== Sys2Proof/Machine/DmOps.lean ====
section
/-! DEFINITION. Shared operations of the domain manager: lists, messages, route updates, state copies (R315, R464 to R473). -/

namespace Sys2Proof.Machine

/-- R382: the code of a fabric time state. -/
def FtState.code : FtState → Nat
  | .unset => 0 | .acquiring => 1 | .locked => 2 | .holdover => 3 | .grandmaster => 4

/-- N2 runs its exchanges: in FLOW and in DRIFT (R450). -/
def State.dmUp (s : State) : Bool := s.coreUp 2 && (s.pkg.dev = .flow || s.pkg.dev = .drift)

def State.isHolder (s : State) : Bool := s.dmUp && s.firm.dm.role = .holder

/-! ### The list (R464, R467) -/

/-- R464: the devices that DM_ORDER names; where it names none, the four lowest DevIDs of the shape. -/
def State.dmOrder (s : State) : List Nat :=
  let l := (s.firm.dm.order.filter (fun b => b != 0xFF)).map (·.toNat)
  if l.isEmpty then (shapeDevs s.shape).take 4 else l

/-- The list as it runs from a holder on, the former ones last. -/
def rotateTo (l : List Nat) (d : Nat) : List Nat := l.dropWhile (· != d) ++ l.takeWhile (· != d)

/-- The list in force. -/
def State.dmList (s : State) : List Nat := if s.firm.dm.list.isEmpty then s.dmOrder else s.firm.dm.list

/-- R475: a DM_ORDER that has been written takes effect at a claim: the list runs as it says. -/
def State.landOrder (s : State) : State :=
  if (s.staged (dk 0x5030 1)).isSome && !s.entryLocked (dk 0x5030 1) then
    (s.land (dk 0x5030 1)).onDm (fun m => { m with list := [] })
  else s.unstage (dk 0x5030 1)

def State.dmListed (s : State) : Bool := s.dmList.contains s.devid

/-- R464: devices that must acknowledge, the claimant included. -/
def State.quorum (s : State) : Nat := (shapeDevs s.shape).length / 2 + 1

/-! ### Sending (R471) -/

/-- A message to one device of the domain. -/
def State.svcDev (s : State) (d : Nat) (type : Byte) (payload : List Byte) : State :=
  s.svc (.dev (BitVec.ofNat 6 d)) type payload

/-- R471, R470: the local declarations are sent to the holder. -/
def State.resendDeclared (s : State) : State :=
  ((List.range 64).filter (fun d => s.locallyLost d)).foldl State.sendPeerDown s

/-! ### Route update bodies (R472) -/

/-- R472: what a route update says. -/
structure RouteBody where
  base : List W16
  lost : W64
  readmit : W64
  timeout : W32
  retention : W32
  tai : W64
  wrapEpoch : W16
  wrapTest : Nat
  exc : List (Nat × Nat × W16)
deriving DecidableEq, Repr

def RouteBody.bytes (r : RouteBody) : List Byte :=
  r.base.flatMap (fun e => natLE 2 e.toNat) ++ natLE 8 r.lost.toNat ++ natLE 8 r.readmit.toNat ++
  natLE 4 r.timeout.toNat ++ natLE 4 r.retention.toNat ++ natLE 8 r.tai.toNat ++ natLE 2 r.wrapEpoch.toNat ++
  natLE 1 r.wrapTest ++ List.replicate 29 0#8 ++ natLE 4 r.exc.length ++
  r.exc.flatMap (fun e => natLE 1 e.1 ++ natLE 1 e.2.1 ++ natLE 2 e.2.2.toNat)

def RouteBody.parse (b : List Byte) : RouteBody :=
  { base := (List.range 64).map (fun d => BitVec.ofNat 16 (fld b (2 * d) 2)), lost := BitVec.ofNat 64 (fld b 128 8),
    readmit := BitVec.ofNat 64 (fld b 136 8), timeout := BitVec.ofNat 32 (fld b 144 4),
    retention := BitVec.ofNat 32 (fld b 148 4), tai := BitVec.ofNat 64 (fld b 152 8),
    wrapEpoch := BitVec.ofNat 16 (fld b 160 2), wrapTest := fld b 162 1,
    exc := (List.range (min (fld b 192 4) 4032)).map (fun i =>
      (fld b (196 + 4 * i) 1, fld b (197 + 4 * i) 1, BitVec.ofNat 16 (fld b (198 + 4 * i) 2))) }

/-- Segments of 96 bytes. -/
def segs96 (b : List Byte) : List (List Byte) :=
  (List.range ((b.length + 95) / 96)).map (fun i => (b.drop (96 * i)).take 96)

/-! ### What the holder decides (R315) -/

/-- R291: two devices of the shape are wired to each other. -/
def wired (shape a b : Nat) : Bool :=
  a != b && inShape shape a && inShape shape b && (devRow a = devRow b || devCol a = devCol b)

/-- A report of `d` by `r` is held. -/
def Dm.reported (m : Dm) (d r : Nat) : Bool := m.reports.contains (64 * d + r)

/-- The link between two devices works as far as the reports say. -/
def State.linkLive (s : State) (a b : Nat) : Bool :=
  wired s.shape a b && !s.firm.dm.reported a b && !s.firm.dm.reported b a

/-- One pass over the devices taken for lost: one stays only while every neighbour that is not lost reports it. -/
def State.lostPass (s : State) (l : List Nat) : List Nat :=
  l.filter (fun d => s.mode d = modeLost || (shapeDevs s.shape).all (fun n =>
    !wired s.shape d n || l.contains n || s.firm.dm.reported d n))

def lostGo (s : State) : Nat → List Nat → List Nat
  | 0, l => l
  | n + 1, l =>
    let l' := s.lostPass l
    if l'.length = l.length then l else lostGo s n l'

/-- R315, R316: the devices that are lost: those that are LOST already, and those that every neighbour reports. -/
def State.lostNow (s : State) (readmit : NSet) : List Nat :=
  (lostGo s 64 ((shapeDevs s.shape).filter (fun d => d != s.devid &&
    (s.mode d = modeLost || (shapeDevs s.shape).any (fun r => s.firm.dm.reported d r))))).filter
    (fun d => !readmit.contains d)

/-- R315: the exception of a source for a destination, where its one-hop or its pinned path crosses a failed link. -/
def State.detour (s : State) (lost : List Nat) (a b : Nat) : Option W16 :=
  let i := devAt (devRow a) (devCol b)
  let ok := if wired s.shape a b then s.linkLive a b else s.linkLive a i && s.linkLive i b
  if ok then none
  else
    match (shapeDevs s.shape).find? (fun v => !lost.contains v && s.linkLive a v && s.linkLive v b) with
    | some v => some (BitVec.ofNat 16 (modeVia * 2 ^ 13 + v * 64))
    | none => some (BitVec.ofNat 16 (modeUnreachable * 2 ^ 13))

/-- The mask of a list of DevIDs. -/
def devMask (l : List Nat) : W64 := BitVec.ofNat 64 ((l.map (2 ^ ·)).sum)

/-- R315, R346, R380, R390: the body of the next route update. -/
def State.nextBody (s : State) (readmit : NSet) : RouteBody :=
  let devs := shapeDevs s.shape
  let lost := s.lostNow readmit
  let live := devs.filter (fun d => !lost.contains d)
  { base := (List.range 64).map (fun d => BitVec.ofNat 16 (2 ^ 13 *
      (if lost.contains d then modeLost else if inShape s.shape d then 0 else modeOutside))),
    lost := devMask lost, readmit := devMask readmit, timeout := s.mem.timeoutOwn, retention := s.mem.retentionOwn,
    tai := s.taiNext, wrapEpoch := s.clk.wrapEpoch, wrapTest := s.clk.wrapTest.getD 0,
    exc := live.flatMap (fun a => live.filterMap (fun b =>
      if a = b then none else (s.detour lost a b).map (fun e => (a, b, e)))) }

/-! ### Sending updates (R304, R472) -/

/-- R471: the ROUTE_UPDATE messages of an update. -/
def RouteUpd.segments (u : RouteUpd) : List (List Byte) :=
  let l := segs96 u.body
  (l.zipIdx).map (fun p => natLE 4 u.gen.toNat ++ natLE 8 u.act.toNat ++ natLE 1 p.2 ++ natLE 1 l.length ++ [0, 0] ++ p.1)

/-- R304, R472: the holder starts an update, unless one is pending; it activates 100 µs later. -/
def State.startUpdate (s : State) (body : RouteBody) : State :=
  if s.isHolder && s.firm.dm.sending.isNone then
    let u : RouteUpd := ⟨s.fab.routeGen + 1, s.ftime + BitVec.ofNat 64 (usU 100), body.bytes⟩
    u.segments.foldl (fun s p => s.svc .all 0x66 p) (s.onDm (fun m => { m with sending := some u, acks := [] }))
  else s

/-- What routes and losses a body gives, apart from what it readmits and the settings that it carries. -/
def RouteBody.routes (r : RouteBody) : List W16 × List (Nat × Nat × W16) := (r.base, r.exc)

/-- R315: the holder sends an update where what the reports ask for differs from what is in force. -/
def State.decideRoutes (s : State) : State :=
  let b := s.nextBody []
  let cur : List W16 × List (Nat × Nat × W16) :=
    if s.firm.dm.inForce.isEmpty then
      ((List.range 64).map (fun d => BitVec.ofNat 16 (2 ^ 13 * (if inShape s.shape d then 0 else modeOutside))), [])
    else (RouteBody.parse s.firm.dm.inForce).routes
  if b.routes = cur then s else s.startUpdate b

/-! ### Applying updates (R304, R342, R346, R472) -/

/-- R342: the pairs with a readmitted device, or all of them where it is this device, count from 0 again. -/
def State.resetPairs (s : State) (readmit : W64) : State :=
  let all := readmit.getLsbD s.devid
  s.onMem (fun m => { m with
    pairs := m.pairs.filter (fun p => !(all || readmit.getLsbD (p.1 % 64)))
    exps := m.exps.filter (fun p => !(all || readmit.getLsbD (p.1 / 64 % 64))) })

/-- R472: the route table that a body gives this device. -/
def RouteBody.table (r : RouteBody) (own : Nat) : RF 6 W16 :=
  let base : RF 6 W16 := Vector.ofFn (fun d : Fin (2 ^ 6) =>
    if d.val = own then BitVec.ofNat 16 (modeSelf * 2 ^ 13) else (r.base[d.val]?).getD 0)
  r.exc.foldl (fun t e => if e.1 = own then RF.put t (BitVec.ofNat 6 e.2.1) e.2.2 else t) base

/-- R346: the domain's timeout and retention take effect. -/
def State.memSettings (s : State) (t r : W32) : State :=
  let now := s.now
  s.onMem (fun m => { m with
    timeoutOld := if t = m.timeout then m.timeoutOld else some (m.timeout, now), timeout := t, retention := r })

/-- R390: every device steps forward to the preset. -/
def State.wrapPreset (s : State) (n : Nat) : State :=
  if n = 0 || s.clk.ftState = .unset then s
  else { s with clk := { s.clk with ft := BitVec.ofNat 64 (2 ^ 64 - n * 64 * 10 ^ 9) } }

/-- R299, R304, R472: an update takes effect on this device; requests that wait to be injected towards a destination that it shuts off
end. -/
def State.applyUpdate (s : State) (gen : W32) (body : List Byte) : State :=
  let r := RouteBody.parse body
  let own := s.devid
  let newly := (List.range 64).filter (fun d => r.lost.getLsbD d && d != own && s.mode d != modeLost)
  let s := s.onFab (fun f => { f with
    routes := r.table own, routeGen := gen, lostPeers := f.lostPeers &&& r.lost, selfLost := r.lost.getLsbD own })
  let s := newly.foldl (fun s d => s.loseDest d) s
  let s := (s.mem.reqs.filter (fun r => r.attempts = 0 && !s.isLocal r)).foldl (fun s r =>
    match s.destFails r.dest with
    | some st => s.complete r (Answer.plain st)
    | none => s) s
  let s := ((s.resetPairs r.readmit).memSettings r.timeout r.retention).landDomain r.timeout r.retention r.tai
  let s := { s with clk := { s.clk with taiEpoch := r.tai, wrapEpoch := r.wrapEpoch, wrapTest := none } }
  (s.wrapPreset r.wrapTest).retryWaiting.release

/-! ### State copies (R466, R473) -/

/-- A part preceded by its length. -/
def withLen (b : List Byte) : List Byte := natLE 4 b.length ++ b

/-- R473: the body of a state copy. -/
def State.copyBody (s : State) : List Byte :=
  let m := s.firm.dm
  let pend := match m.sending with
    | some u => natLE 8 u.act.toNat ++ u.body
    | none => []
  let time := padTo 64 (natLE 8 s.ftime.toNat ++ natLE 4 (s.clk.trim % 2 ^ 32).toNat ++ [if s.clk.ppsEn then 1 else 0, 0, 0, 0] ++
    natLE 8 s.clk.taiEpoch.toNat ++ natLE 2 s.clk.wrapEpoch.toNat)
  let decl := (List.range 64).flatMap (fun d =>
    natLE 8 (devMask ((List.range 64).filter (fun r => m.reported d r))).toNat)
  let rest := withLen m.inForce ++ withLen pend ++
    (List.range 64).flatMap (fun d => padTo 1024 (SMap.get [] m.windows d)) ++ time ++ decl
  natLE 4 m.gen.toNat ++ natLE 4 m.copySeq.toNat ++ natLE 8 s.ftime.toNat ++ natLE 4 (64 + rest.length) ++
    List.replicate 12 0#8 ++ sha3 rest ++ rest

/-- The bytes of a copy whose every segment is held. -/
def DmCopy.whole (c : DmCopy) : Option (List Byte) :=
  if c.total != 0 && (List.range c.total).all (fun i => !(SMap.get [] c.segs i).isEmpty) then
    some (((List.range c.total).map (fun i => SMap.get [] c.segs i)).flatten)
  else none

/-- R473: the digest in the header of a copy matches. -/
def copyOk (b : List Byte) : Bool :=
  fld b 16 4 = b.length && (b.drop 32).take 32 == sha3 (b.drop 64)

/-- R466, R473: a new holder takes what the newest copy holds. -/
def State.adoptCopy (s : State) (b : List Byte) : State :=
  let n1 := fld b 64 4
  let o2 := 68 + n1
  let n2 := fld b o2 4
  let o3 := o2 + 4 + n2
  let time := b.drop (o3 + 65536)
  let decl := time.drop 64
  let reports := (List.range 64).flatMap (fun d =>
    ((List.range 64).filter (fun r => (fld decl (8 * d) 8).testBit r)).map (fun r => 64 * d + r))
  let s := s.onDm (fun m => { m with
    inForce := (b.drop 68).take n1
    sending := if n2 < 8 then none else some ⟨s.fab.routeGen + 1, BitVec.ofNat 64 (fld b (o2 + 4) 8), (b.drop (o2 + 12)).take (n2 - 8)⟩
    windows := (List.range 64).foldl (fun w d =>
      let x := (b.drop (o3 + 1024 * d)).take 1024
      if x.all (· == 0) then w else SMap.set [] w d x) []
    reports := reports.foldl (fun l x => NSet.add x l) m.reports })
  { s with clk := { s.clk with ppsEn := (fld time 12 1) = 1 } }

/-! ### The role (R465, R467, R470) -/

/-- R471: a renewal, or a release. -/
def State.sendRenew (s : State) (release : Bool) : State :=
  let m := s.firm.dm
  s.svc .all 0x62 (natLE 4 m.gen.toNat ++ natLE 1 s.devid ++ [if release then 1 else 0, 0, 0] ++
    natLE 8 (s.ftime + BitVec.ofNat 64 (msU 50)).toNat ++ natLE 4 s.fab.routeGen.toNat ++
    natLE 8 ((m.sending.map RouteUpd.act).getD 0).toNat)

/-- R465: a renewal is sent, and its acknowledgements are counted from this device on. -/
def State.renew (s : State) : State :=
  let now := s.now
  let own := s.devid
  (s.onDm (fun m => { m with renewSent := now, renewAcks := [own] })).sendRenew false

/-- R471: DM_CLAIM. -/
def State.sendClaim (s : State) (gen : W32) : State :=
  let now := s.now
  let own := s.devid
  let s := s.onDm (fun m => { m with claim := some ⟨gen, now, [own]⟩, acked := some (gen, own) })
  let m := s.firm.dm
  s.svc .all 0x60 (natLE 4 gen.toNat ++ natLE 1 own ++ natLE 1 (s.dmList.takeWhile (· != own)).length ++ [0, 0] ++
    natLE 4 ((m.copy.map DmCopy.seq).getD 0).toNat)

/-- R465: this device may claim: it is listed, no renewal lives, and its newest copy was at most 10 ms old at the last
renewal that it heard, where a holder has been (log entry 136). -/
def State.mayClaim (s : State) : Bool :=
  let m := s.firm.dm
  s.dmUp && m.role != .holder && s.dmListed &&
  (m.released || (match m.heardAt with | some t => msU 50 ≤ s.since t | none => true)) &&
  (m.seenGen = 0 || m.gen = 0 || (match m.copy with
    | some c => s.since c.at' ≤ msU 10 + (match m.heardAt with | some t => s.since t | none => 0)
    | none => false))

/-- R464, R465: a claim of the next generation, or the same claim again. -/
def State.claimRole (s : State) : State :=
  if s.mayClaim then
    match s.firm.dm.claim with
    | some c => if serBefore c.gen s.firm.dm.seenGen then s.onDm (fun m => { m with claim := none }) else s.sendClaim c.gen
    | none => s.landOrder.sendClaim (s.firm.dm.seenGen + 1)
  else s

/-- R380, R385: the holder is the grandmaster; when the domain forms, its fabric time becomes 0. -/
def State.becomeMaster (s : State) (forms : Bool) : State :=
  { s with clk := { s.clk with
      ft := if forms then 0 else s.clk.ft, ftState := .grandmaster, hops := 0, upstream := none } }

/-- R464, R465, R467, R470: a claim has its quorum, and this device takes the role. -/
def State.takeRole (s : State) (gen : W32) : State :=
  let now := s.now
  let forms := s.firm.dm.gen = 0
  let swap := s.firm.dm.released
  let s := s.landOrder.land (dk 0x5030 6)
  let list := rotateTo s.dmList s.devid
  let copy := s.firm.dm.copy.bind DmCopy.whole
  let s := (if forms then s else match copy with | some b => s.adoptCopy b | none => s).becomeMaster forms
  let own := s.devid
  let ft := s.ftime
  let s := s.onDm (fun m => { m with
    role := .holder, holder := BitVec.ofNat 8 own, gen := gen, seenGen := gen, list := list, claim := none
    heardAt := none, released := false, expiry := now + BitVec.ofNat 64 (msU 50), copySeq := m.copySeq + 1
    health := [1, 1, 1], copy := none, copyIn := none, incoming := none, acks := [], swapDue := false, swapAt := now
    lastSwap := if swap then ft else m.lastSwap
    reports := ((List.range 64).filter (fun d => s.locallyLost d)).foldl (fun l d => NSet.add (64 * d + own) l) m.reports })
  let s := if forms then s else s.fwEvent 3 own gen
  s.renew.decideRoutes

/-- R464, R468: a holder is known: the list runs from it, and this device is a standby if it is listed. -/
def State.followHolder (s : State) (gen : W32) (holder : Nat) : State :=
  let s := s.landOrder
  let order := s.dmList
  let list := if order.contains holder then rotateTo order holder else order
  let own := s.devid
  (s.onDm (fun m => { m with
    holder := BitVec.ofNat 8 holder, gen := gen, list := list, claim := none, sending := none, swapDue := false
    role := if list.contains own then .standby else .none })).resendDeclared

/-- R466: the holder sends its state copy to each standby. -/
def State.sendCopy (s : State) (dest : List Nat) : State :=
  let s := s.onDm (fun m => { m with copySeq := m.copySeq + 1 })
  let m := s.firm.dm
  let l := segs96 s.copyBody
  dest.foldl (fun s d => (l.zipIdx).foldl (fun s p =>
    s.svcDev d 0x64 (natLE 4 m.gen.toNat ++ natLE 4 m.copySeq.toNat ++ natLE 2 p.2 ++ natLE 2 l.length ++
      List.replicate 4 0#8 ++ p.1)) s) s

/-- R467: the holder hands the role over: a last copy, a release, and it stops; not while a route update is pending. -/
def State.giveRole (s : State) : State :=
  if !s.isHolder then s
  else if s.firm.dm.sending.isSome then s.onDm (fun m => { m with swapDue := true })
  else
    let now := s.now
    let ft := s.ftime
    let s := ((s.land (dk 0x5030 6)).sendCopy ((s.dmList.drop 1).take 1)).sendRenew true
    (s.onDm (fun m => { m with role := .standby, released := true, heardAt := some now, lastSwap := ft, swapDue := false })).timeHoldover

end Sys2Proof.Machine
end

