-- ==== Sys2Proof/Machine/Dm.lean ====
section
/-! DEFINITION. The domain-manager role, route updates and management liveness (R315, R464 to R473). -/

namespace Sys2Proof.Machine

/-! ### Liveness (R469) -/

/-- The ports on which a message to a neighbour can go: one that is UP. -/
def State.linkTo (s : State) (d : Nat) : Option Nat := (s.portsTo d).find? (fun q => s.portUp q)

/-- The fibre of a port on which LINK messages go: A, or B while A is lost. -/
def State.svcFibreB (s : State) (q : Nat) : Bool := (RF.at s.floe.ports (BitVec.ofNat 4 q)).a.lost

/-- MGMT_ALIVE_SEND: every 10 ms N2 sends MGMT_ALIVE to its neighbours (R469, R471). -/
def execMgmtAliveSend (s : State) : Res :=
  if s.dmUp then
    let m := s.firm.dm
    let body := natLE 4 m.seenGen.toNat ++ natLE 1 m.role.code ++ natLE 1 s.clk.ftState.code ++ [0, 0]
    .next (s.neighbours.foldl (fun s d =>
      match s.linkTo d with
      | some q => s.svc (.link (BitVec.ofNat 4 q) (s.svcFibreB q)) 0x50 body
      | none => s) s)
  else .next s

/-- MGMT_ALIVE: the bit of the neighbour clears (R469). -/
def execMgmtAlive (hdr : SvcHdr) (payload : List Byte) (s : State) : Res :=
  s.onSvc hdr 0x50 payload (fun s =>
    if s.neighbours.contains hdr.src.toNat && s.coreUp 2 then
      let now := s.now
      s.onDm (fun m => { m with
        mgmtSilent := m.mgmtSilent &&& ~~~(1#64 <<< hdr.src.toNat)
        aliveAt := SMap.set none m.aliveAt hdr.src.toNat (some now) })
    else s)

/-- MGMT_SILENT_TIMEOUT: a neighbour has been silent for 200 ms; no route changes (R469). -/
def execMgmtSilentTimeout (dev : BitVec 6) (s : State) : Res :=
  if s.dmUp && s.neighbours.contains dev.toNat then
    .next (s.onDm (fun m => { m with mgmtSilent := m.mgmtSilent ||| (1#64 <<< dev.toNat) }))
  else .next s

/-! ### Claims (R464, R465, R471) -/

/-- DM_CLAIM_SEND: the wait of a standby after expiry has ended, or 10 ms have passed since its claim (R465, R471). -/
def execDmClaimSend (s : State) : Res := .next s.claimRole

/-- R464, R471: the answer to a claim: 0 ACK, 1 NACK_NEWER, 2 NACK_LIVE. A generation that another claim has had, or
that has been seen, is not after it. A holder's own renewal counts as heard (log entry 136). -/
def State.claimAnswer (s : State) (gen : W32) (claimant : Nat) : Nat :=
  let m := s.firm.dm
  if m.acked = some (gen, claimant) then 0
  else if !serBefore m.seenGen gen then 1
  else if !m.released && (if m.role = .holder then some m.renewSent else m.heardAt).any (fun t => s.since t < msU 50) then 2
  else 0

/-- DM_CLAIM: the device answers the claimant (R464, R471). -/
def execDmClaim (hdr : SvcHdr) (payload : List Byte) (s : State) : Res :=
  s.onSvc hdr 0x60 payload (fun s =>
    if !s.dmUp then s
    else
      let gen := BitVec.ofNat 32 (fld payload 0 4)
      let who := fld payload 4 1 % 64
      let a := s.claimAnswer gen who
      let s := if a = 0 then
          s.onDm (fun m => { m with
            seenGen := gen, acked := some (gen, who)
            claim := if m.claim.any (fun c => serBefore c.gen gen) then none else m.claim })
        else s
      s.svcDev who 0x61 (natLE 4 gen.toNat ++ natLE 1 a ++ [0, 0, 0] ++ natLE 4 s.firm.dm.seenGen.toNat))

/-- DM_ACK: the claimant takes the role when its quorum has acknowledged within 1 ms (R464, R471). -/
def execDmAck (hdr : SvcHdr) (payload : List Byte) (s : State) : Res :=
  s.onSvc hdr 0x61 payload (fun s =>
    let gen := BitVec.ofNat 32 (fld payload 0 4)
    match s.firm.dm.claim with
    | none => s
    | some c =>
      if !s.dmUp || c.gen != gen then s
      else if fld payload 4 1 = 1 then
        let seen := BitVec.ofNat 32 (fld payload 8 4)
        s.onDm (fun m => { m with claim := none, seenGen := if serBefore m.seenGen seen then seen else m.seenGen })
      else if fld payload 4 1 = 0 && s.since c.sentAt ≤ msU 1 then
        let acks := NSet.add hdr.src.toNat c.acks
        if s.quorum ≤ acks.length then s.takeRole gen
        else s.onDm (fun m => { m with claim := some { c with acks := acks } })
      else s)

/-! ### The lease of the role (R465, R467) -/

/-- DM_RENEW_SEND: every 10 ms the holder sends a renewal (R465). -/
def execDmRenewSend (s : State) : Res := if s.isHolder then .next s.renew else .next s

/-- R465, R467, R470: a renewal of the generation in force, or of a later one, is heard. -/
def State.hearRenew (s : State) (gen : W32) (holder : Nat) (release : Bool) : State :=
  let now := s.now
  let fresh := gen != s.firm.dm.gen || s.firm.dm.holder != BitVec.ofNat 8 holder
  let s := if fresh then s.followHolder gen holder else s
  let s := s.onDm (fun m => { m with seenGen := gen, heardAt := some now, released := release })
  if release then (if s.dmList[1]? = some s.devid then s.claimRole else s)
  else s.svcDev holder 0x63 (natLE 4 gen.toNat ++ natLE 4 s.fab.routeGen.toNat)

/-- DM_RENEW: a renewal is acknowledged; at a release the first standby claims (R465, R467, R471). -/
def execDmRenew (hdr : SvcHdr) (payload : List Byte) (s : State) : Res :=
  s.onSvc hdr 0x62 payload (fun s =>
    let gen := BitVec.ofNat 32 (fld payload 0 4)
    if !s.dmUp || serBefore gen s.firm.dm.seenGen || (s.firm.dm.role = .holder && gen = s.firm.dm.gen) then s
    else
      let s := if s.firm.dm.role = .holder then s.timeHoldover else s
      s.hearRenew gen (fld payload 4 1 % 64) ((fld payload 5 1).testBit 0))

/-- DM_RENEW_ACK: on a quorum within 1 ms the holder's own expiry moves to 50 ms after its sending; a lost device that
answers is readmitted by a route update (R316, R465, R471; log entry 35). -/
def execDmRenewAck (hdr : SvcHdr) (payload : List Byte) (s : State) : Res :=
  s.onSvc hdr 0x63 payload (fun s =>
    if !s.isHolder || BitVec.ofNat 32 (fld payload 0 4) != s.firm.dm.gen then s
    else
      let d := hdr.src.toNat
      let s := if s.since s.firm.dm.renewSent ≤ msU 1 then
          s.onDm (fun m =>
            let acks := NSet.add d m.renewAcks
            { m with
              renewAcks := acks
              expiry := if s.quorum ≤ acks.length then m.renewSent + BitVec.ofNat 64 (msU 50) else m.expiry })
        else s
      if s.mode d = modeLost && s.firm.dm.sending.isNone then
        let s := s.onDm (fun m => { m with reports := m.reports.filter (fun x => x / 64 != d && x % 64 != d) })
        s.startUpdate (s.nextBody [d])
      else s)

/-- DM_HOLDER_EXPIRY: at its expiry less 1 ms the holder stops acting (R465). -/
def execDmHolderExpiry (s : State) : Res :=
  if s.firm.dm.role = .holder then
    .next (s.onDm (fun m => { m with role := .standby, sending := none, swapDue := false })).timeHoldover
  else .next s

/-- DM_SWAP_PERIOD_EXPIRE: the swap period has passed since the last swap (R467). -/
def execDmSwapPeriodExpire (s : State) : Res := .next s.giveRole

/-! ### State copies (R466, R468, R473) -/

/-- DM_MGMT_CYCLE: at the end of every 1 ms the holder copies its state to each standby (R466). -/
def execDmMgmtCycle (s : State) : Res :=
  if s.isHolder then .next (s.sendCopy ((s.dmList.drop 1).take 3)) else .next s

/-- R471: the report of a standby on a copy. -/
def State.sendReport (s : State) (gen seq : W32) (health : Nat) (missing : Bool) : State :=
  if s.firm.dm.holder = 0xFF then s
  else s.svcDev s.firm.dm.holder.toNat 0x65
    (natLE 4 gen.toNat ++ natLE 4 seq.toNat ++ natLE 1 health ++ [if missing then 1 else 0, 0, 0])

/-- R466: domains of up to 8 devices replay their copies. -/
def State.replays (s : State) : Bool := (shapeDevs s.shape).length ≤ 8

/-- R466, R473: a copy whose every segment has come is kept where its digest matches; in a small domain its replay is
compared, which `agrees` gives. -/
def State.copyDone (s : State) (c : DmCopy) (b : List Byte) (agrees : Bool) : State :=
  let first := s.firm.dm.copy.isNone
  if !copyOk b then (s.onDm (fun m => { m with copyIn := none })).sendReport c.gen c.seq 1 true
  else
    let s := s.onDm (fun m => { m with copy := some c, copyIn := none })
    if !s.replays then s.sendReport c.gen c.seq 3 false
    else if first then s.sendReport c.gen c.seq 1 false
    else if agrees && !s.armed roleUnit 0x63 then (s.onDm (fun m => { m with run := 0 })).sendReport c.gen c.seq 0 false
    else
      let s := s.onDm (fun m => { m with run := m.run + 1 })
      let s := s.raise' { unit := roleUnit, cause := 0x0063, cls := .ce, detail := c.gen.setWidth 64 }
      s.sendReport c.gen c.seq (if 3 ≤ s.firm.dm.run then 2 else 1) false

/-- DM_COPY: a standby stores a segment; it keeps the newest complete copy that matches its digest (R466, R473). A copy
that a newer one overtakes is reported with its segments missing. -/
def execDmCopy (hdr : SvcHdr) (payload : List Byte) (agrees : Bool) (s : State) : Res :=
  s.onSvc hdr 0x64 payload (fun s =>
    let gen := BitVec.ofNat 32 (fld payload 0 4)
    let seq := BitVec.ofNat 32 (fld payload 4 4)
    let now := s.now
    if !s.dmUp || s.firm.dm.role != .standby || serBefore gen s.firm.dm.gen then s
    else
      let s := match s.firm.dm.copyIn with
        | some c => if c.seq = seq && c.gen = gen then s else s.sendReport c.gen c.seq 1 true
        | none => s
      let c := match s.firm.dm.copyIn with
        | some c => if c.seq = seq && c.gen = gen then c else ⟨gen, seq, fld payload 10 2, [], now⟩
        | none => ⟨gen, seq, fld payload 10 2, [], now⟩
      let c := { c with segs := SMap.set [] c.segs (fld payload 8 2) ((payload.drop 16).take 96), at' := now }
      match c.whole with
      | some b => s.copyDone c b agrees
      | none => s.onDm (fun m => { m with copyIn := some c }))

/-- DM_COPY_REPORT: the holder records a standby's health (R466, R475). -/
def execDmCopyReport (hdr : SvcHdr) (payload : List Byte) (s : State) : Res :=
  s.onSvc hdr 0x65 payload (fun s =>
    let i := (s.dmList.takeWhile (· != hdr.src.toNat)).length
    if s.isHolder && BitVec.ofNat 32 (fld payload 0 4) = s.firm.dm.gen && 1 ≤ i && i < s.dmList.length && i ≤ 3 then
      s.onDm (fun m => { m with health := putAt m.health (i - 1) [BitVec.ofNat 8 (fld payload 8 1)] })
    else s)

/-! ### Reports and route updates (R304, R315, R472) -/

/-- PEER_DOWN: the holder records a report that addresses it, and decides (R315, R471). -/
def execPeerDown (hdr : SvcHdr) (payload : List Byte) (s : State) : Res :=
  s.onSvc hdr 0x51 payload (fun s =>
    if s.isHolder && BitVec.ofNat 32 (fld payload 16 4) = s.firm.dm.gen then
      (s.onDm (fun m => { m with reports := NSet.add (64 * (fld payload 0 1 % 64) + hdr.src.toNat) m.reports })).decideRoutes
    else s)

/-- NEIGHBOUR_LOST_LOCAL: 50 µs into its silence, a neighbour is declared lost; a holder decides on its own declaration
as on a report (R314 step 3, R315). -/
def execNeighbourLostLocal (d : BitVec 6) (s : State) : Res :=
  if s.fab.silent.contains d.toNat then
    let s := s.declareLost d
    .next (if s.isHolder then s.decideRoutes else s)
  else .next s

/-- The bytes of an update whose every segment is held. -/
def RouteIn.whole (r : RouteIn) : Option (List Byte) :=
  if r.total != 0 && (List.range r.total).all (fun i => !(SMap.get [] r.segs i).isEmpty) then
    some (((List.range r.total).map (fun i => SMap.get [] r.segs i)).flatten)
  else none

def State.sendRouteAck (s : State) (gen : W32) (result : Nat) : State :=
  if s.firm.dm.holder = 0xFF then s
  else s.svcDev s.firm.dm.holder.toNat 0x67 (natLE 4 gen.toNat ++ natLE 1 result ++ [0, 0, 0])

/-- ROUTE_UPDATE: a segment is stored; a device that holds every segment answers COMPLETE, or applies the update at once
and answers LATE where its activation has passed; at the last segment one that misses others answers MISSING (R472). -/
def execRouteUpdate (hdr : SvcHdr) (payload : List Byte) (s : State) : Res :=
  s.onSvc hdr 0x66 payload (fun s =>
    let gen := BitVec.ofNat 32 (fld payload 0 4)
    let act := BitVec.ofNat 64 (fld payload 4 8)
    let idx := fld payload 12 1
    let total := fld payload 13 1
    if !s.dmUp || s.firm.dm.role = .holder || !serBefore s.fab.routeGen gen then s
    else
      let r := match s.firm.dm.incoming with
        | some r => if r.gen = gen && r.act = act then r else ⟨gen, act, total, []⟩
        | none => ⟨gen, act, total, []⟩
      let r := { r with segs := SMap.set [] r.segs idx ((payload.drop 16).take 96) }
      match r.whole with
      | some b =>
        if s.clk.ftState = .unset || !serBefore s.clk.ft act then
          ((s.onDm (fun m => { m with incoming := none })).applyUpdate gen b).sendRouteAck gen 2
        else (s.onDm (fun m => { m with incoming := some r })).sendRouteAck gen 0
      | none =>
        let s := s.onDm (fun m => { m with incoming := some r })
        if idx + 1 = total then s.sendRouteAck gen 1 else s)

/-- ROUTE_ACK: the holder records that a device holds the whole update (R472). -/
def execRouteAck (hdr : SvcHdr) (payload : List Byte) (s : State) : Res :=
  s.onSvc hdr 0x67 payload (fun s =>
    match s.firm.dm.sending with
    | some u =>
      if s.isHolder && u.gen = BitVec.ofNat 32 (fld payload 0 4) && fld payload 4 1 = 0 then
        s.onDm (fun m => { m with acks := NSet.add hdr.src.toNat m.acks })
      else s
    | none => s)

/-- ROUTE_SEGMENT_RESEND: every 20 µs the holder sends again the segments of each device that has not answered COMPLETE
(R472). -/
def execRouteSegmentResend (s : State) : Res :=
  match s.firm.dm.sending with
  | some u =>
    if s.isHolder then
      let dest := (shapeDevs s.shape).filter (fun d => d != s.devid && !s.firm.dm.acks.contains d)
      .next (dest.foldl (fun s d => u.segments.foldl (fun s p => s.svcDev d 0x66 p) s) s)
    else .next s
  | none => .next s

/-- R304, R467, R472: the activation on the holder. -/
def State.activateOwn (s : State) (u : RouteUpd) : State :=
  let s := (s.onDm (fun m => { m with sending := none, inForce := u.body, acks := [] })).applyUpdate u.gen u.body
  let s := s.decideRoutes
  if s.firm.dm.swapDue then s.giveRole else s

/-- ROUTE_UPDATE_ACTIVATE: at the activation time the route table, the domain settings and readmissions take effect
(R304, R346, R472); on the holder what has been reported since is decided, and a swap that waited is made. -/
def execRouteUpdateActivate (s : State) : Res :=
  match s.firm.dm.role, s.firm.dm.sending with
  | .holder, some u => if s.dmUp then .next (s.activateOwn u) else .next s
  | _, _ =>
    match s.firm.dm.incoming with
    | some r =>
      match r.whole with
      | some b => if s.coreUp 2 then .next ((s.onDm (fun m => { m with incoming := none })).applyUpdate r.gen b) else .next s
      | none => .next s
    | none => .next s

end Sys2Proof.Machine
end

