-- ==== Sys2Proof/Machine/Cvu.lean ====
section
/-! DEFINITION. The check-value units (R531 to R539). -/

namespace Sys2Proof.Machine

def State.cvuAt (s : State) (c : BitVec 4) : Cvu := RF.at s.cvu c

/-- R516: CVU(4t + u). -/
def cvuUnit (c : BitVec 4) : W16 := unitCode 10 (c.toNat / 4) (c.toNat % 4)
/-- R533: the memory engine of a unit. -/
def cvuEng (c : BitVec 4) : Nat := 8 * (c.toNat / 4) + c.toNat % 4

/-- R554: FW_ONLY reserves the unit for the firmware. -/
def State.cvuFwOnly (s : State) (c : BitVec 4) : Bool :=
  (RF.at s.errs.fwOnly (BitVec.ofNat 2 (c.toNat / 4))).getLsbD (c.toNat % 4)

/-- R554: MODE 2 and 3 act as 0. -/
def Cvu.compares (u : Cvu) : Bool := u.mode = 1

/-- R532: the settings with which a unit refuses to start. -/
def Cvu.badConfig (u : Cvu) : Bool :=
  let region := u.start.toNat / 2 ^ 40 % 4
  u.start.toNat % 8 != 0 || 2 ≤ region || u.len = 0 || 2 ^ 40 < u.len.toNat || u.len.toNat % 8 != 0 ||
  u.block.toNat % 8 != 0 || (u.block != 0 && (u.stride.toNat < u.block.toNat || u.stride.toNat % 8 != 0)) || u.algo = 3

/-- R531: feed bytes. -/
def Cvu.feed (u : Cvu) (bs : List Byte) : Cvu :=
  let run := match u.algo.toNat with
    | 0 => (crc32cFrom (u.run.setWidth 32) bs).setWidth 64
    | 1 => crc64From u.run bs
    | _ => sum64From u.run bs
  { u with run := run, pos := u.pos + BitVec.ofNat 64 bs.length }

/-- R534: fold in VALUE. -/
def Cvu.fold (u : Cvu) : W64 :=
  match u.algo.toNat with
  | 0 => (crc32cFrom (u.run.setWidth 32) (natLE 2 u.value.toNat)).setWidth 64
  | 1 => crc64From u.run (natLE 2 u.value.toNat)
  | _ => u.run + u.value.setWidth 64

/-- R532, R533: the address of a position, and the bytes that one load takes there: up to 512, within a block. -/
def Cvu.nextPiece (u : Cvu) : Nat × Nat :=
  let left := u.len.toNat - u.asked
  if u.block = 0 then (u.start.toNat + u.asked, min 512 left)
  else
    let b := u.block.toNat
    (u.start.toNat + u.asked / b * u.stride.toNat + u.asked % b, min (min 512 left) (b - u.asked % b))

/-- R533: issue loads while fewer than 64 are in flight and the engine can take them. -/
def cvuIssue (c : BitVec 4) : Nat → State → State
  | 0, s => s
  | n + 1, s =>
    let u := s.cvuAt c
    let (a, k) := u.nextPiece
    if u.asked < u.len.toNat && u.flight.length < 64 && s.canIssue (cvuEng c) (gDev a) opLd then
      let s := s.onCvu c.toNat (fun u => { u with
        asked := u.asked + k, flight := u.flight ++ [⟨u.nextLoad, k, none⟩], nextLoad := u.nextLoad + 1 })
      cvuIssue c n (s.issue (s.reqPkt opLd (cvuEng c) (gDev a) (a % 2 ^ 48) k) (.cvu c.toNat (some u.nextLoad)) none)
    else s

/-- R537, R539: a scan ends with a result; where RADDR is not 0 its record is stored, and EN clears when that is done. -/
def State.cvuFinish (s : State) (c : BitVec 4) (result : Byte) (value : W16) : State :=
  let u := s.cvuAt c
  let s := s.onCvu c.toNat (fun u => { u with result := result, flight := [], stopping := false })
  let s := s.onErrs (fun e => { e with scans := satInc e.scans })
  if u.raddr = 0 then s.onCvu c.toNat (fun u => { u with en := false, cfgIgnored := false })
  else
    let rcd := natLE 8 u.run.toNat ++ [result, 0] ++ natLE 2 value.toNat ++ List.replicate 4 0#8
    let a := u.raddr.toNat % 2 ^ 48
    let s := s.onCvu c.toNat (fun u => { u with storing := true })
    s.issue ((s.reqPkt opStS (cvuEng c) (gDev a) a 16).withData rcd) (.cvu c.toNat none) none

/-- R535: the check of VALUE against LAST at a start: the result where it fails. -/
def Cvu.aliveFails (u : Cvu) : Option Byte :=
  let d := (u.value - u.last).toNat
  if !u.compares || u.pos != 0 || u.aliveFirst || (1 ≤ d && d ≤ 16) then none
  else if d = 0 then some 0x21
  else some 0x22

/-- R537: a scan starts at POS, with RUN as it stands. -/
def State.cvuBegin (s : State) (c : BitVec 4) : State :=
  let u := s.cvuAt c
  if u.badConfig then s.onCvu c.toNat (fun u => { u with result := 0x24 })
  else
    let s := s.onCvu c.toNat (fun u => { u with en := true, asked := u.pos.toNat, flight := [], stopping := false })
    match u.aliveFails with
    | some r =>
      let s := s.raise' { unit := cvuUnit c, cause := 0x0091, cls := .ce, addr := u.start
                          detail := BitVec.ofNat 64 (u.value.toNat + u.last.toNat * 65536) }
      s.cvuFinish c r u.value
    | none =>
      if s.injects (cvuUnit c) 0x0091 u.start.toNat 1 && u.compares && u.pos = 0 && !u.aliveFirst then
        let s := s.injUsed.raise' { unit := cvuUnit c, cause := 0x0091, cls := .ce, addr := u.start, injected := true
                                    detail := BitVec.ofNat 64 (u.value.toNat + u.last.toNat * 65536) }
        s.cvuFinish c 0x22 u.value
      else cvuIssue c 64 s

/-- R509, R537, R554: CVU_CTRL is written: its fields take effect while EN is 0; EN starts or stops a scan. -/
def State.cvuCtrl (s : State) (c : BitVec 4) (w : W32) : State :=
  let u := s.cvuAt c
  let same := u.aliveFirst = w.getLsbD 15 && u.autoInc = w.getLsbD 14 && u.mode = w.extractLsb' 8 2 && u.algo = w.extractLsb' 4 2
  let s :=
    if u.en then (if same then s else s.onCvu c.toNat (fun u => { u with cfgIgnored := true }))
    else s.onCvu c.toNat (fun u => { u with
      aliveFirst := w.getLsbD 15, autoInc := w.getLsbD 14, mode := w.extractLsb' 8 2, algo := w.extractLsb' 4 2 })
  if w.getLsbD 0 then (if u.en then s else s.cvuBegin c)
  else if u.en && !u.storing then
    if u.flight.isEmpty then s.cvuFinish c 0x23 u.value
    else s.onCvu c.toNat (fun u => { u with stopping := true })
  else s

/-- CVU_LOAD_COMPLETE: the oldest load has returned: its bytes are fed, or it stops the scan; a unit that stops ends
when no load is in flight (R533, R537). -/
def execCvuLoadComplete (c : BitVec 4) (s : State) : Res :=
  let u := s.cvuAt c
  match u.flight with
  | [] => .next s
  | l :: rest =>
    match l.res with
    | none => .next s
    | some (st, data, ok) =>
      let s := s.onCvu c.toNat (fun u => { u with flight := rest })
      if !u.en || u.storing then .next s
      else if st != scOk then
        let s := if st = scPoisoned then s.onCvu c.toNat (fun u => u.feed (data.take (ok / 8 * 8))) else s
        .next (s.cvuFinish c st u.value)
      else
        let s := s.onCvu c.toNat (fun u => u.feed data)
        if u.stopping then .next (if rest.isEmpty then s.cvuFinish c 0x23 u.value else s)
        else .next (cvuIssue c 64 s)

/-- R535, R536: what a completed scan compares to. -/
def State.cvuCompare (s : State) (c : BitVec 4) (u : Cvu) : State :=
  let inj := s.injects (cvuUnit c) 0x0090 u.start.toNat 1
  if u.run = u.expect && !inj then (s.onCvu c.toNat (fun u => { u with last := u.value })).cvuFinish c 0 u.value
  else
    let s := if inj then s.injUsed else s
    let s := s.raise' { unit := cvuUnit c, cause := 0x0090, cls := .ce, addr := u.start, detail := u.run, injected := inj }
    (s.onErrs (fun e => { e with mismatches := satInc e.mismatches })).cvuFinish c 0x20 u.value

/-- CVU_SCAN_END: the last byte has been fed: VALUE is folded in, the result is compared, and its record is stored
(R534 to R536, R539). -/
def execCvuScanEnd (c : BitVec 4) (s : State) : Res :=
  let u := s.cvuAt c
  if !u.en || u.storing || u.stopping || !u.flight.isEmpty || u.pos.toNat < u.len.toNat then .next s
  else
    let s := s.onCvu c.toNat (fun u => { u with run := u.fold })
    let u := s.cvuAt c
    if u.compares then .next (s.cvuCompare c u)
    else
      let s := s.onCvu c.toNat (fun u => { u with value := if u.autoInc then u.value + 1 else u.value })
      .next (s.cvuFinish c 0 u.value)

/-- R539: soft reset, PERST_N and ICEBOUND stop every unit without a record. -/
def Cvu.halt (u : Cvu) : Cvu := { u with en := false, flight := [], stopping := false, storing := false, cfgIgnored := false }

end Sys2Proof.Machine
end

