-- ==== Sys2Proof/Machine/Moraine.lean ====
section
/-! DEFINITION. The Moraine: histograms, extremes, freezes and snapshots (R540 to R548). -/

namespace Sys2Proof.Machine

def State.onMor (s : State) (f : Moraine → Moraine) : State := { s with mor := f s.mor }

/-- R250: the key of an emitter of a laser bank. -/
def emKey (bank e : Nat) : Nat := 64 * bank + e
def State.emitter (s : State) (bank e : Nat) : Emitter := SMap.get Emitter.reset s.floe.emitters (emKey bank e)

/-! ### Bins and extremes (R540, R541) -/

/-- R540: a bin held to 0 to 31. -/
def clampBin (i : Int) : Nat := if i < 0 then 0 else min i.toNat 31

/-- R540: "log2" bins. -/
def log2Bin (n : Nat) : Nat := if n = 0 then 0 else min (n.log2 + 1) 31

/-- R540: the bin of a sample: temperatures in 1/16 °C, powers in 0.1 W, biases and slacks in 0.1 %, dips in mV. -/
def histBin (h : Nat) (v : Int) : Nat :=
  if h ≤ 7 then clampBin ((v - 320).fdiv 48)
  else if h ≤ 12 then clampBin ((v - 480).fdiv 32)
  else if h = 13 then clampBin ((v - 320).fdiv 32)
  else if h = 14 then clampBin (v.fdiv 800)
  else if h ≤ 18 then clampBin (v.fdiv 100)
  else if h = 19 then clampBin (v - 5)
  else if h ≤ 23 then clampBin ((4 * v).fdiv 125)
  else if h ≤ 27 then clampBin v
  else if h ≤ 43 then log2Bin v.toNat
  else if h = 44 then clampBin ((v - 15).fdiv 5)
  else if h = 45 then clampBin (v.fdiv 10)
  else log2Bin v.toNat

/-- R542: a histogram changes and its generation follows. -/
def MorData.add (d : MorData) (h bin n : Nat) : MorData :=
  { d with hist := SMap.upd 0 d.hist (32 * h + bin) (fun c => satAdd c n), gens := SMap.upd 0 d.gens h (· + 1) }

def MorData.extreme (d : MorData) (e : Nat) : Extreme := SMap.get Extreme.none d.ext e

/-- R541, R542: a value of an extreme, with its stamps. -/
def MorData.seen (d : MorData) (e : Nat) (v : Int) (op cyc : W32) : MorData :=
  let x := d.extreme e
  let y := if v < x.min then { x with min := v, minOp := op, minCyc := cyc } else x
  let y := if x.max < v then { y with max := v, maxOp := op, maxCyc := cyc } else y
  if y = x then d else { d with ext := SMap.set Extreme.none d.ext e y, gens := SMap.upd 0 d.gens 48 (· + 1) }

/-- R543: what is recorded goes into the shadow while the Moraine is frozen. -/
def Moraine.on (m : Moraine) (f : MorData → MorData) : Moraine :=
  if m.frozen.isSome then { m with shadow := f m.shadow } else { m with d := f m.d }

def Moraine.count (m : Moraine) (h : Nat) (v : Int) : Moraine := m.on (fun d => d.add h (histBin h v) 1)
def Moraine.value (m : Moraine) (e : Nat) (v : Int) : Moraine := m.on (fun d => d.seen e v m.optime m.cycles)

/-- R541, R543: the further out of two extremes. -/
def Extreme.merge (a b : Extreme) : Extreme :=
  let c := if b.min < a.min then { a with min := b.min, minOp := b.minOp, minCyc := b.minCyc } else a
  if a.max < b.max then { c with max := b.max, maxOp := b.maxOp, maxCyc := b.maxCyc } else c

/-- R543: the deltas of a freeze are merged in; each histogram that changes, and the extremes, change once. -/
def MorData.merge (d x : MorData) : MorData :=
  let hist := x.hist.foldl (fun h p => SMap.upd 0 h p.1 (fun c => satAdd c p.2.toNat)) d.hist
  let ext := x.ext.foldl (fun e p => SMap.upd Extreme.none e p.1 (fun a => a.merge p.2)) d.ext
  let gens := (List.range 48).foldl (fun g h => if x.hist.any (fun p => p.1 / 32 == h) then SMap.upd 0 g h (· + 1) else g) d.gens
  ⟨hist, if ext = d.ext then gens else SMap.upd 0 gens 48 (· + 1), ext⟩

/-- What the state itself holds of the quantities of R540: histogram and value. -/
def State.heldSamples (s : State) : List (Nat × Int) :=
  let st := fun (t : Nat) => RF.at s.pow.stks (BitVec.ofNat 2 t)
  let hbm := ((List.range 24).filter (fun h => (s.hbm.stack h).st = .inService)).map (fun h => (s.hbm.stack h).temp.toInt)
  let maxOf := fun (l : List Int) => l.foldl (fun (m : Option Int) v => match m with | none => some v | some w => some (max v w)) none
  ((List.range 4).flatMap (fun t => [(t, (st t).tSerac), (4 + t, (st t).tFirn), (8 + t, (st t).tFloe)])) ++
  ((maxOf hbm).toList.map (fun v => (12, v))) ++
  ((maxOf ((List.range 4).map (fun t => (st t).tLb))).toList.map (fun v => (13, v))) ++
  [(19, (s.clk.jobStep : Int))] ++
  (List.range 4).flatMap (fun b => ((List.range 32).filter (fun e => (s.emitter b e).st = .active)).map (fun e =>
    (20 + b, ((s.emitter b e).bias : Int))))

/-- What the state itself holds of the quantities of R541: extreme and value. -/
def State.heldExtremes (s : State) : List (Nat × Int) :=
  let st := fun (t : Nat) => RF.at s.pow.stks (BitVec.ofNat 2 t)
  let emit := fun (b : Nat) => ((List.range 34).filter (fun e => (s.emitter b e).st = .active)).map (s.emitter b)
  let least := fun (l : List Nat) => l.foldl (fun (m : Option Nat) v => match m with | none => some v | some w => some (min v w)) none
  let most := fun (l : List Nat) => l.foldl (fun (m : Option Nat) v => match m with | none => some v | some w => some (max v w)) none
  (List.range 4).flatMap (fun t => [(t, (st t).tSerac), (4 + t, (st t).tFirn), (8 + t, (st t).tFloe), (12 + t, (st t).slopeVal),
    (40 + t, (st t).tLb), (49 + t, Int.ofNat (RF.at s.clk.vddSrc (BitVec.ofNat 2 t)))]) ++
  ((List.range 24).filter (fun h => (s.hbm.stack h).st = .inService)).map (fun h => (16 + h, (s.hbm.stack h).temp.toInt)) ++
  [(53, s.clk.offset.toInt), (62, (s.clk.jobStep : Int))] ++
  (List.range 4).flatMap (fun b =>
    ((least (((emit b).filter (fun x => x.margin != 0xFF)).map (·.margin))).toList.map (fun (v : Nat) => (54 + b, (v : Int)))) ++
    ((most ((emit b).map (·.bias))).toList.map (fun (v : Nat) => (58 + b, (v : Int)))))

/-- MORAINE_SAMPLE: every 1 s the histograms and the extremes take a sample: of what the state holds, and of the
measured averages and counts that come with the command as histogram or extreme index and value (R540, R541). -/
def execMoraineSample (hists exts : List (Nat × Int)) (s : State) : Res :=
  if s.mor.en then
    let held := s.heldSamples
    let heldE := s.heldExtremes
    .next (s.onMor (fun m =>
      let m := (held ++ hists.filter (fun p => p.1 < 48)).foldl (fun m p => m.count p.1 p.2) m
      (heldE ++ exts.filter (fun p => p.1 < 64)).foldl (fun m p => m.value p.1 p.2) m))
  else .next s

/-- VDD_SRC_DIP: a dip of more than 15 mV below the set point is counted by its depth in mV (R540). -/
def execVddSrcDip (depth : Nat) (s : State) : Res :=
  if s.mor.en && 15 < depth then .next (s.onMor (fun m => m.count 44 depth)) else .next s

/-! ### Snapshots (R545 to R548) -/

/-- N5 begins the snapshot that is due, unless the Moraine is frozen (R546) or N5 is down (R457). -/
def State.startSnap (s : State) : State :=
  let m := s.mor
  if m.snapDue && m.writing.isNone && m.frozen.isNone && m.store = 1 && s.coreUp 5 then
    s.onMor (fun m => { m with
      snapDue := false, writing := some ⟨m.nextSlot, m.d, m.cycles, m.optime⟩ })
  else s

/-- A snapshot falls due. -/
def State.dueSnap (s : State) : State := (s.onMor (fun m => { m with snapDue := true })).startSnap

/-- SNAPSHOT_DUE: ten minutes of operating time have passed since the last one (R546). -/
def execSnapshotDue (s : State) : Res := if s.mor.en then .next s.dueSnap else .next s

/-- R545: the flash address of a snapshot's slot in the ring of 2,048. -/
def snapAddr (n : Nat) : Nat := n % 2048 * 16384

/-- R548: a snapshot is in the store. -/
def State.snapWritten (s : State) (x : Snap) : State :=
  s.onMor (fun m => { m with
    writing := none, stored := some x, nextSlot := x.seq + 1, failRun := 0, snapshots := satInc m.snapshots })

/-- R516: the Moraine. -/
def morUnit : W16 := unitCode 14 0 0

/-- SNAPSHOT_WRITE_COMPLETE: a snapshot write ends; a failed one is retried in the next slot, and after three failures
in a row the store is FAILED (R27, R548). -/
def execSnapshotWriteComplete (ok : Bool) (s : State) : Res :=
  match s.mor.writing with
  | none => .next s
  | some x =>
    let a := snapAddr x.seq
    let inj := s.injects morUnit 0x00A0 a 1
    if ok && !inj then .next (s.snapWritten x).startSnap
    else
      let s := if inj then s.injUsed else s
      let s := s.raise' { unit := morUnit, cause := 0x00A0, cls := .ce, addr := BitVec.ofNat 64 a, injected := inj }
      let n := s.mor.failRun + 1
      if n < 3 then
        .next (s.onMor (fun m => { m with failRun := n, nextSlot := x.seq + 1, writing := some { x with seq := x.seq + 1 } }))
      else
        .next ((s.onMor (fun m => { m with failRun := n, writing := none, snapDue := false, store := 2 })).dieStatus 16 dieFailed)

/-! ### Freezes (R543) -/

/-- R543: a freeze ends: its deltas are merged, and a snapshot that waited is written. -/
def State.thaw (s : State) : State :=
  if s.mor.frozen.isNone then s
  else (s.onMor (fun m => { m with frozen := none, d := m.d.merge m.shadow, shadow := MorData.reset })).startSnap

/-- R543: a write of MOR_FREEZE; a write of 1 while frozen is refused. -/
def State.morFreeze (s : State) (on : Bool) : Bool × State :=
  if !on then (true, s.thaw)
  else if s.mor.frozen.isSome then (false, s)
  else
    let now := s.now
    (true, s.onMor (fun m => { m with frozen := some now, shadow := MorData.reset }))

/-- MOR_FREEZE_EXPIRE: the freeze has lasted 1 s (R543). -/
def execMorFreezeExpire (s : State) : Res := .next s.thaw

end Sys2Proof.Machine
end

