-- ==== Sys2Proof/Machine/CalOps.lean ====
section
/-! DEFINITION. Shared operations of calibration: runs that agree, acceptance, suspect marks (R578 to R581, R587). -/

namespace Sys2Proof.Machine

def State.onCal (s : State) (f : Cal → Cal) : State := { s with cal := f s.cal }

/-- The key of an element of an item. -/
def elemKey (item n : Nat) : Nat := item * 2 ^ 24 + n
def State.calElem (s : State) (k : Nat) : CalElem := SMap.get CalElem.reset s.cal.elems k
def State.onElem (s : State) (k : Nat) (f : CalElem → CalElem) : State :=
  s.onCal (fun c => { c with elems := SMap.upd CalElem.reset c.elems k f })
def State.calItem (s : State) (i : Nat) : CalItem := SMap.get CalItem.reset s.cal.items i
def State.onItem (s : State) (i : Nat) (f : CalItem → CalItem) : State :=
  s.onCal (fun c => { c with items := SMap.upd CalItem.reset c.items i f })

/-- R578: how many candidates an item's elements have that are found by runs: a fused or factory value needs none. -/
def candidates (item : Nat) : Nat :=
  match item with
  | 1 => 2 | 3 => 5 | 4 => 2 | 5 => 2 | 6 => 2 | 7 => 4 | _ => 1

/-- R578: the tolerance of the `i`-th trim of an item, in the units of its runs: 0.01 °C, 0.01%, 0.001 ppm/K, 1/64 UI and
% UI of eye, delay steps, 0.1% of bias and 0.01 GHz of lock, 0.01 GHz, 0.01 dB (log entry 38). None: not compared. -/
def tolerance (item i : Nat) : Option Nat :=
  match item with
  | 0 => some 20
  | 1 => some 30
  | 2 => if i = 0 then some 20 else none
  | 3 => if i = 0 then some 2 else none
  | 4 => some 2
  | 5 => if i = 0 then some 10 else some 50
  | 6 => some 50
  | 7 => some 30
  | _ => none

/-- R579: two trims of an item agree; the coefficients of item 8 within 5% of the larger. -/
def trimAgrees (item i : Nat) (a b : Int) : Bool :=
  let d := (a - b).natAbs
  if item = 8 then 100 * d ≤ 5 * max a.natAbs b.natAbs
  else match tolerance item i with
    | some t => d ≤ t
    | none => true

/-- R578: item 3 needs an eye of 30% UI in each run. -/
def eyeOk (item : Nat) (r : CalRun) : Bool := item != 3 || 30 ≤ r.trims.getD 1 0

/-- R579: two runs make the same choice, and every trim agrees. -/
def agree (item : Nat) (a b : CalRun) : Bool :=
  a.choice == b.choice && a.trims.length == b.trims.length && eyeOk item a && eyeOk item b &&
  (List.range a.trims.length).all (fun i => trimAgrees item i (a.trims.getD i 0) (b.trims.getD i 0))

/-- R579: the mean of two runs, each trim rounded down. -/
def meanRun (a b : CalRun) : CalRun := ⟨a.choice, (List.zip a.trims b.trims).map (fun p => (p.1 + p.2) / 2)⟩

/-- R579: the first candidate of an order that is not suspect. -/
def nextCand (order : List Nat) (suspects : NSet) : Option Nat := order.find? (fun c => !suspects.contains c)

/-- R581: an accepted element counts, with the time of its acceptance. -/
def State.countAccept (s : State) (item : Nat) : State :=
  s.onItem item (fun i => { i with count := satInc i.count, lastFt := s.ftime, lastOp := s.mor.optime })
def State.countThird (s : State) (item : Nat) : State := s.onItem item (fun i => { i with thirdRuns := satInc i.thirdRuns })
def State.countSuspect (s : State) (item : Nat) : State := s.onItem item (fun i => { i with suspect := satInc i.suspect })

/-- R579: an element accepts a value. -/
def State.acceptElem (s : State) (item k : Nat) (v : CalRun) : State :=
  (s.onElem k (fun e => { e with value := some v, cand := v.choice, runs := [] })).countAccept item

/-- R587: a new value of an element that has one in use, from a service slot; whether the element needs the channel's
next slot. -/
def State.judgeValue (s : State) (item k : Nat) (v : CalRun) : State × Bool :=
  let e := s.calElem k
  match e.value with
  | none => (s, false)
  | some u =>
    if e.cand != u.choice then
      match e.runs.find? (fun r => agree item r v) with
      | some r => (s.acceptElem item k (meanRun r v), false)
      | none => (s.onElem k (fun e => { e with runs := e.runs ++ [v] }), true)
    else
      match e.runs with
      | [] =>
        if (candidates item) ≤ e.suspects.length then (s, false)
        else if agree item u v then (s.acceptElem item k v, false)
        else
          ((s.onElem k (fun e => { e with runs := [v] })).onCal (fun c => { c with svcDisagree := satInc c.svcDisagree }), true)
      | v1 :: _ =>
        let s := s.countThird item
        if agree item v u then (s.acceptElem item k u, false)
        else if agree item v v1 then (s.acceptElem item k (meanRun v1 v), false)
        else
          let sus := NSet.add u.choice e.suspects
          let s := s.countSuspect item
          match nextCand (List.range (candidates item)) sus with
          | some c => (s.onElem k (fun e => { e with suspects := sus, cand := c, runs := [] }), true)
          | none => (s.onElem k (fun e => { e with suspects := sus, runs := [] }), false)

end Sys2Proof.Machine
end

