-- ==== Sys2Proof/Machine/PhoOps.lean ====
section
/-! DEFINITION. Shared operations of the photonics: channels, slots, emitters, waveguides, ports and probing
(R245 to R277). -/

namespace Sys2Proof.Machine

def State.onChan (s : State) (k : Nat) (f : Chan → Chan) : State :=
  s.onFloe (fun x => { x with chans := SMap.upd Chan.reset x.chans k f })
def State.phoPort (s : State) (q : Nat) : Port := RF.at s.floe.ports (BitVec.ofNat 4 q)
def State.onPho (s : State) (q : Nat) (f : Port → Port) : State :=
  s.onFloe (fun x => { x with ports := RF.put x.ports (BitVec.ofNat 4 q) (f (RF.at x.ports (BitVec.ofNat 4 q))) })
def Port.fibre (p : Port) (b : Bool) : Fibre := if b then p.b else p.a
def Port.onFibre (p : Port) (b : Bool) (f : Fibre → Fibre) : Port := if b then { p with b := f p.b } else { p with a := f p.a }
def State.onEmitter (s : State) (bank e : Nat) (f : Emitter → Emitter) : State :=
  s.onFloe (fun x => { x with emitters := SMap.upd Emitter.reset x.emitters (emKey bank e) f })
def State.owner (s : State) (o : Nat) : Owner := SMap.get Owner.reset s.floe.owners o
def State.onOwner (s : State) (o : Nat) (f : Owner → Owner) : State :=
  s.onFloe (fun x => { x with owners := SMap.upd Owner.reset x.owners o f })

/-- R263: send a message of the photonics on a fibre of a port. -/
def State.phoSend (s : State) (q : Nat) (fibreB : Bool) (type : Byte) (m : PhoMsg) : State :=
  let n := SMap.get 0 s.floe.svcSeq type.toNat
  (s.onFloe (fun x => { x with svcSeq := SMap.set 0 x.svcSeq type.toNat (n + 1) })).emit
    (.pho (BitVec.ofNat 4 q) fibreB type n m)

/-- The fibre on which a port's LINK messages go: A, or B while A is down. -/
def State.svcB (s : State) (q : Nat) : Bool := (s.phoPort q).a.lost

/-! ### Places (R245, R271) -/

/-- Its place in the owner's order, and the channel at a place. -/
def chanPlace (k : Nat) : Nat := if k < 512 then k % 32 else (k - 512) % 256
def ownerSize (o : Nat) : Nat := if o < 16 then 32 else 256
def chanAt (o i : Nat) : Nat := if o < 16 then 32 * o + i else 512 + 256 * (o - 16) + i
/-- R250: the emitter of the bank that the selector ring of a channel picks. -/
def State.chanEmitter (s : State) (k : Nat) : Nat := 2 * chanWl k + (if (s.chan k).selB then 1 else 0)

/-- Every channel position of a wavelength that a bank feeds. -/
def State.bankChans (s : State) (bank n : Nat) : List Nat :=
  (((List.range 32).map (fun i => 16 * i + n)) ++ ((List.range 192).map (fun i => 512 + 16 * i + n))).filter
    (fun k => s.chanBank k == bank)

/-- The channels that an emitter of the grid feeds. -/
def State.fedBy (s : State) (bank e : Nat) : List Nat :=
  (s.bankChans bank (e / 2)).filter (fun k => s.chanEmitter k == e)

/-- A channel carries light of traffic: its group is lit on a port that is UP, or its waveguide is in use. -/
def State.chanLit (s : State) (k : Nat) : Bool :=
  s.chanOk k && (if k < 512 then s.portUp (k / 32) && (match s.chanGroup k with | some g => s.groupLit g | none => false)
    else !s.floe.wgRetired.contains ((k - 512) / 16))

/-! ### Words of the registers (R287) -/

def EmitSt.code : EmitSt → Nat
  | .active => 0 | .spare => 1 | .spareHot => 2 | .failed => 3 | .off => 4
def Fade.code : Fade → Nat
  | .none => 0 | .advise => 1 | .swap => 2 | .urgent => 3
def PortSt.code : PortSt → Nat
  | .down => 0 | .training => 1 | .up => 2 | .miswired => 3 | .crossed => 4 | .disabled => 5

def Emitter.word (x : Emitter) : W32 :=
  BitVec.ofNat 32 (x.st.code * 2 ^ 29 + x.fade.code * 2 ^ 27 + x.bias % 1024 * 2 ^ 16 + x.slope % 256 * 2 ^ 8 + x.margin % 256)

/-- PHO_EMIT; before a first measurement it reads its reset value. -/
def State.emitWord (s : State) (bank e : Nat) : W32 := (s.emitter bank e).word

/-- Lit groups on a port. -/
def State.groupsOn (s : State) (q : Nat) : List Nat :=
  (List.range 32).filter (fun g => s.groupLit g && (s.groupByte g).toNat % 16 == q)

/-- PHO_PORT: the launch gates are shown from the end of THAW's calibration on; before it EYE_A and EYE_B read their reset value. -/
def State.portWord (s : State) (q : Nat) : W32 :=
  let p := s.phoPort q
  let up := s.portUp q
  BitVec.ofNat 32 (p.st.code * 2 ^ 29 + bitN (s.floe.en && p.a.gate) 28 + bitN (s.floe.en && p.b.gate) 27 +
    bitN p.a.los 26 + bitN p.b.los 25 + (if up then (s.groupsOn q).length else 0) * 2 ^ 16 + p.peerDev.toNat * 2 ^ 10 + p.peerPort.toNat * 2 ^ 6)

def State.groupWord (s : State) (g : Nat) : W32 :=
  let b := s.groupByte g
  let lit := s.groupLit g && s.portUp (b.toNat % 16)
  if lit then BitVec.ofNat 32 (2 ^ 31 + bitN (b.getLsbD 4) 25 + g % 2 * 2 ^ 24 + b.toNat % 16 * 2 ^ 20 + (s.groupActive g).toNat * 2 ^ 12 +
    s.floe.steerGen.toNat % 16 * 2 ^ 8)
  else BitVec.ofNat 32 (g % 2 * 2 ^ 24 + s.floe.steerGen.toNat % 16 * 2 ^ 8)

/-- The pair of two tiles in the order of PHO_ROLES. -/
def pairNum (t u : Nat) : Nat :=
  ([(0, 1), (0, 2), (0, 3), (1, 2), (1, 3), (2, 3)] : List (Nat × Nat)).findIdx (fun p => p == (min t u, max t u))

/-- PHO_ROLE; it reads 0 until roles are assigned. -/
def State.roleWord (s : State) (t u : Nat) : W32 :=
  if t = u || (s.floe.healthy.isEmpty && s.floe.wgRole.isEmpty) then 0
  else
    let r := (s.floe.rolesInForce[pairNum t u]?).getD Roles.reset
    BitVec.ofNat 32 (SMap.get 0 s.floe.healthy (dirNum t u) % 32 * 2 ^ 24 + r.mem % 32 * 2 ^ 19 + r.firn % 32 * 2 ^ 14 +
      r.fab % 32 * 2 ^ 9 + r.ctl % 32 * 2 ^ 4)

/-! ### Waveguides (R275 to R279) -/

/-- R278: a group loses its light. -/
def unlight (a : RF 5 Byte) (g : Nat) : RF 5 Byte := RF.put a (BitVec.ofNat 5 g) 0

/-- R277: a waveguide is retired until the next THAW; the groups routed over a FAB waveguide are unlit. -/
def State.retireWg (s : State) (w : Nat) : State :=
  let dir := w / 16
  let (t, u) := (directions[dir]?).getD (0, 0)
  let i := (s.wgsOf dir 2).findIdx (fun x => x == w)
  let lose := if (s.wgsOf dir 2).contains w then passageGroups s.floe.inForce t u i else []
  s.onFloe (fun x => { x with wgRetired := NSet.add w x.wgRetired, inForce := lose.foldl unlight x.inForce })

/-- R277: after a channel went out: its waveguide is retired with fewer than 8 active channels. -/
def State.laneCheck (s : State) (k : Nat) : State :=
  if k < 512 then s
  else
    let w := (k - 512) / 16
    if popCount (s.waveActive w) < 8 && !s.floe.wgRetired.contains w && SMap.get 0 s.floe.wgRole w != 0 then s.retireWg w else s

/-- R275: counts cut to `h` healthy waveguides: MEM first, then FIRN, then FAB, then CTL. -/
def Roles.cut (r : Roles) (h : Nat) : Roles :=
  let d := r.mem + r.firn + r.fab + r.ctl - h
  let a := min d (r.mem - 1)
  let b := min (d - a) r.firn
  let c := min (d - a - b) r.fab
  let e := min (d - a - b - c) (r.ctl - 1)
  ⟨r.mem - a, r.firn - b, r.fab - c, r.ctl - e⟩

/-- Channels of a waveguide that calibration accepted. -/
def State.wgOk (s : State) (w : Nat) : Nat :=
  ((List.range 16).filter (fun c => s.chanOk (512 + 16 * w + c))).length

/-- R275: roles of one direction, given to its healthy waveguides in ascending index: CTL, FAB, FIRN, MEM. -/
def dirRoles (healthy : List Nat) (r : Roles) : List (Nat × Nat) :=
  List.zip healthy (List.replicate r.ctl 1 ++ List.replicate r.fab 2 ++ List.replicate r.firn 3 ++ List.replicate r.mem 4)

/-- R275: roles are assigned once, after calibration of the waveguides; a pair with fewer than 2 healthy waveguides in a
direction raises an FE. -/
def State.assignRoles (s : State) : State :=
  let healthy := fun (dir : Nat) => ((List.range 16).map (fun i => 16 * dir + i)).filter (fun w => 12 ≤ s.wgOk w)
  let count := fun (dir : Nat) => (healthy dir).length
  let pairs := (List.range 6).map (fun p => (p, 2 * p, 2 * p + 1))
  let cuts := pairs.map (fun x =>
    ((s.floe.roles[x.1]?).getD Roles.reset).cut (min (count x.2.1) (count x.2.2)))
  let roles := pairs.flatMap (fun x =>
    let r := (cuts[x.1]?).getD Roles.reset
    dirRoles (healthy x.2.1) r ++ dirRoles (healthy x.2.2) r)
  let s := s.onFloe (fun x => { x with
    rolesInForce := cuts, wgRole := roles.foldl (fun m p => SMap.set 0 m p.1 p.2) [], wgRetired := []
    healthy := (List.range 12).foldl (fun m d => SMap.set 0 m d (count d)) [] })
  (List.range 12).foldl (fun s d =>
    let (t, u) := (directions[d]?).getD (0, 0)
    if count d < 2 || s.armed (unitCode 6 t (16 + u)) 0x35 then
      s.raise' { unit := unitCode 6 t (16 + u), cause := 0x35, cls := .fe, detail := BitVec.ofNat 64 (count d) }
    else s) s

/-! ### Slots (R271 to R274) -/

def Slot.single (x : Slot) : Bool := x.kind != .immediate

/-- A channel's ACTIVE bit as its slots leave it: set where it may carry traffic and no slot has it out (R272). -/
def State.settle (s : State) (k : Nat) : State :=
  let out := (s.owner (chanOwner k)).running.any (fun x => x.chan == k)
  s.onChan k (fun c => { c with active := s.chanOk k && !out })

/-- R274: the elements that a slot on a channel judged hold again what they held before it. -/
def State.undoJudged (s : State) (k : Nat) : State :=
  let mine := (s.cal.slotOld.filter (fun p => p.1 == k)).flatMap (·.2)
  (mine.foldl (fun s e => s.onElem e.1 (fun _ => e.2)) s).onCal (fun c => { c with slotOld := c.slotOld.filter (fun p => p.1 != k) })

/-- A slot is abandoned: its channel returns with its previous values, and a scheduled one is retried; the selector of a swap slot
goes back, and its channel waits for another swap slot (R274, R285). -/
def State.abandonSlot (s : State) (o : Nat) (x : Slot) : State :=
  let s := (s.undoJudged x.chan).onOwner o (fun w => { w with
    running := w.running.filter (fun y => y != x)
    swaps := if x.kind = .swap then x.chan :: w.swaps else w.swaps })
  (s.onChan x.chan (fun c => { c with
    retry := c.retry || x.kind == .scheduled, selB := if x.kind = .swap then !c.selB else c.selB })).settle x.chan

/-- R274: slots on the channels that hold of a test are abandoned. -/
def State.abandonOn (s : State) (p : Nat → Bool) : State :=
  s.floe.owners.foldl (fun s o => (o.2.running.filter (fun x => p x.chan)).foldl (fun s x => s.abandonSlot o.1 x) s) s

/-- The launch gate of a port's channel is closed, or ordered to close; the waveguides have none (R266). -/
def State.gateShut (s : State) (k : Nat) : Bool :=
  k < 512 && (let f := (s.phoPort (k / 32)).fibre (16 ≤ k % 32); f.gate || f.closing)

/-- R273, R274: an immediate slot takes a channel out and abandons a scheduled slot on its owner; one that arises while
its group moves waits for the group's START (R285). -/
def State.immediate (s : State) (k : Nat) : State :=
  let o := chanOwner k
  match (if k < 512 then s.chanGroup k else none) with
  | some g => if s.floe.starting.contains g then s.onFloe (fun x => { x with deferred := NSet.add k x.deferred }) else go s o
  | none => go s o
where
  go (s : State) (o : Nat) : State :=
    if s.gateShut k || (s.owner o).running.any (fun x => x.chan == k && x.kind == .immediate) then s
    else
      let s := ((s.owner o).running.filter (fun x => x.kind == .scheduled)).foldl (fun s x => s.abandonSlot o x) s
      let s := s.onOwner o (fun w => { w with running := w.running ++ [⟨.immediate, k, s.now⟩] })
      (s.onChan k (fun c => { c with active := false })).laneCheck k

/-! ### Emitters (R252 to R256) -/

def emitUnit (bank e : Nat) : W16 := unitCode 5 bank e

/-- R255: a grid wavelength is retired on a tile until the next THAW: every channel that the tile's bank feeds with it is out. -/
def State.retireWl (s : State) (t n : Nat) : State :=
  if s.floe.retiredWl.getLsbD (16 * t + n) then s
  else
    let ks := s.bankChans t n
    let s := s.onFloe (fun x => { x with retiredWl := x.retiredWl ||| (1#64 <<< (16 * t + n)) })
    let s := ks.foldl (fun s k => (s.onChan k (fun c => { c with active := false })).laneCheck k) s
    (s.dieStatus (12 + t) dieDegraded).raise' { unit := emitUnit t (2 * n), cause := 0x32, cls := .ce, detail := BitVec.ofNat 64 n }

/-- The margin of an emitter: the lowest among the lit channels that it feeds; 0xFF with none (R251, R287). -/
def State.emitMargin (s : State) (bank e : Nat) : Nat :=
  if 32 ≤ e then 0xFF
  else
    let ms := ((s.fedBy bank e).filter s.chanLit).map (fun k => (s.chan k).margin)
    match ms with
    | [] => 0xFF
    | m :: rest => min ((rest.foldl min m).toNat) 0xFE

/-- R252: the condition of ADVISE; a slope efficiency that has not been sampled yet meets none. -/
def Emitter.advised (x : Emitter) : Bool := 800 ≤ x.bias || (x.known && x.slope ≤ 75)

/-- R252: the fade state whose condition holds. -/
def Emitter.condition (x : Emitter) : Fade :=
  if x.margin < 5 then .urgent
  else if 900 ≤ x.bias || x.margin < 15 then .swap
  else if x.advised then .advise
  else .none

/-! ### Steers that are dropped (R280, R285) -/

/-- R280: the requested steers that `old` held are over, with result ABANDONED. -/
def Floe.abandoned (x old : Floe) : Floe :=
  let asked := old.steers.filter (fun t => !t.internal)
  if asked.isEmpty then x
  else { x with
    steerRes := 5, steerPorts := []
    cmdResult := if asked.any (fun t => t.src = .register) then 5 else x.cmdResult }

/-! ### Ports and probing (R264 to R270) -/

/-- A launch gate that opens or closes, as PHO_EYE_REDUCED shows it. -/
def State.setGate (s : State) (q : Nat) (b shut : Bool) : State :=
  let i := 2 * q + (if b then 1 else 0)
  let m : W32 := 1#32 <<< i
  (s.onPho q (fun p => p.onFibre b (fun f => { f with gate := shut, closing := false }))).onFloe (fun x => { x with
    eyeReduced := if shut then x.eyeReduced ||| m else x.eyeReduced &&& ~~~m })

/-- A port is kept untrained. -/
def State.portDisabled (s : State) (q : Nat) : Bool := s.portSt q = .disabled

/-- R269: a port begins probing on both fibres. -/
def State.startProbing (s : State) (q : Nat) : State :=
  if s.portDisabled q then s
  else s.onPho q (fun p => { p with
    a := { p.a with probing := true, heard := false }, b := { p.b with probing := true, heard := false } })

/-- R256: both λS emitters of a tile have failed. -/
def State.lambdaLost (s : State) (t : Nat) : Bool := (s.emitter t 32).st = .failed && (s.emitter t 33).st = .failed

/-- R266, R270: every launch gate closes, and every port goes DOWN and probes at probe level. -/
def State.shutAll (s : State) : State :=
  let s := (List.range 16).foldl (fun s q =>
    if s.portDisabled q || s.portSt q = .down then s else s.portDown (BitVec.ofNat 4 q) .down) s
  let s := s.abandonOn (fun k => k < 512)
  (List.range 16).foldl (fun s q =>
    let s := ((s.setGate q false true).setGate q true true).onPho q (fun p => { p with wired := false })
    if s.lambdaLost (q / 4) || !s.floe.en then s else s.startProbing q) s

/-- ID_SERIAL: the serial number of Floe 0 (R25, R480). -/
def State.idSerial (s : State) : W64 := SMap.get 0 s.part.assembly 0

/-- R264 step 1: both ends exchange IDENT on both fibres. -/
def State.sendIdent (s : State) (q : Nat) : State :=
  [false, true].foldl (fun s b =>
    s.phoSend q b 0x02 (.ident s.fab.devid (BitVec.ofNat 4 q) b s.idSerial s.fab.shape s.fab.domain)) s

end Sys2Proof.Machine
end

