-- ==== Sys2Proof/Machine/Fatal.lean ====
section
/-! DEFINITION. Acknowledgement, injection and fatal errors (R521, R524 to R530, R547). -/

namespace Sys2Proof.Machine

/-! ### Acknowledgement and injection (R521, R528 to R530, R622) -/

/-- R521: a write of ERR_ACK; one that would acknowledge no record is refused. -/
def State.errAck (s : State) (v : W32) : Bool × State :=
  let hit := fun (x : ErrSlot) => !x.acked && serLe x.r.seq v
  if s.errs.slots.any (fun p => p.2.any hit) then
    (true, s.onErrs (fun e => { e with
      ackVal := v
      slots := e.slots.map (fun p => (p.1, p.2.map (fun x => if hit x then { x with acked := true } else x))) }))
  else (false, s)

/-- R517: the causes. -/
def causes : List Nat :=
  [0x01, 0x02, 0x03, 0x04, 0x10, 0x11, 0x12, 0x13, 0x14, 0x20, 0x21, 0x22, 0x30, 0x31, 0x32, 0x33, 0x34, 0x35, 0x40, 0x41,
   0x50, 0x51, 0x52, 0x53, 0x60, 0x61, 0x62, 0x63, 0x64, 0x70, 0x80, 0x90, 0x91, 0xA0]

/-- R517: causes whose record carries an address. -/
def causeHasAddr (c : Nat) : Bool :=
  ([0x01, 0x02, 0x03, 0x04, 0x10, 0x11, 0x20, 0x21, 0x70, 0x90, 0x91, 0xA0] : List Nat).contains c

/-- R528, R529, R622: a write of ERR_INJECT's 16 bytes; refused unless injection is enabled and the lock is not set. -/
def State.errInject (s : State) (b : List Byte) : Bool × State :=
  if !s.errs.injEn || s.errs.prodLock then (false, s)
  else
    let cause := fld b 2 2
    let addr := fld b 8 8
    if (fld b 5 1).testBit 0 = false then (true, s.onErrs (fun e => { e with injReg := b, inj := none }))
    else if !causes.contains cause || fld b 4 1 = 0 || (addr != 0 && !causeHasAddr cause) then (false, s)
    else (true, s.onErrs (fun e => { e with
      injReg := b, inj := some ⟨BitVec.ofNat 16 (fld b 0 2), BitVec.ofNat 16 cause, fld b 4 1, BitVec.ofNat 64 addr⟩ }))

/-! ### ICEBOUND (R524 to R526) -/

/-- R524 step 2: every tile stops and every program ends without a COMPLETE (R167). -/
def State.stopPrograms (s : State) : State :=
  let s := s.sched.progs.foldl (fun s p => p.scratch.foldl (fun s k => s.dropSlice p.tag true k) (s.freeTiles p)) s
  let s := s.onSched (fun x => { x with progs := [] })
  s.onMem (fun m => { m with priv2 := none, priv3 := none })

/-- R524 step 2: memory engines, collective units, check-value units and host DMA engines issue nothing more. -/
def State.stopEngines (s : State) : State :=
  let s := s.onMem (fun m => { m with
    reqs := [], flagged := []
    hdma := m.hdma.map (fun h => { h with runs := [], stopped := true })
    coll := m.coll.map (fun u => { u with runs := [], held := [] }) })
  { s with cvu := s.cvu.map Cvu.halt }

/-- R197: the contents of the Firn dies are lost without write-back, and what is under way there ends. -/
def State.loseFirn (s : State) : State :=
  { s with
    firn := { s.firn with
      lines := [], plru := [], scratch := [], scratchPoison := [], windows := [], fills := [], toScratch := [], zeroing := [],
      walks := [], maint := RF.all 2 none, upsets := [], wbWait := [], flushDue := 0 }
    sched := { s.sched with walkSlots := [] } }

/-- R280, R285: pending steers, and those of peers that this device had accepted, are dropped. -/
def State.dropSteers (s : State) : State := s.onFloe (fun x => { x.abandoned x with steers := [], bound := [] })

/-- R285, R376: pending steers and a pending frequency change are dropped. -/
def State.dropPending (s : State) : State :=
  let s := s.dropSteers
  { s with clk := { s.clk with pending := none } }

/-- R266, R270: every launch gate is closed, no port stays UP, and no PROBE is sent. -/
def State.closeGates (s : State) : State :=
  let s := s.shutAll.onFab (fun f => { f with waiting := [] })
  let quiet := fun (f : Fibre) => { f with probing := false, heard := false }
  s.onFloe (fun x => { x with ports := x.ports.map (fun p => { p with a := quiet p.a, b := quiet p.b }) })

/-- R518: ERR_FATAL towards the host while the PCIe link is up. -/
def State.sendFatal (s : State) : State := if s.pins.pcieUp then s.emit .errFatal else s

/-- ICEBOUND_ENTRY: steps 2 to 4 of R524, once the record of an FE has been written, from THAW, FLOW or DRIFT (R3). -/
def execIceboundEntry (s : State) : Res :=
  let live := s.pkg.dev = .thaw || s.pkg.dev = .flow || s.pkg.dev = .drift
  if !s.errs.entryDue || !live then .next s
  else
    let s := s.onErrs (fun e => { e with entryDue := false })
    let s := s.stopPrograms.stopEngines.loseFirn.dropPending.thaw
    .next (s.setDev .icebound).sendFatal.closeGates

/-- R547: the NEW records of the bank, by slot. -/
def Errs.newRecs (e : Errs) : SMap (Option ErrRec) :=
  e.slots.filterMap (fun p => match p.2 with
    | some x => if x.acked then none else some (p.1, some x.r)
    | none => none)

/-- R547: SEQ of the FE record that began FE handling. -/
def Errs.feSeq (e : Errs) : W32 :=
  (e.slots.findSome? (fun p => match p.2 with
    | some x => if x.r.cls = .fe && !x.r.duringFe then some x.r.seq else none
    | none => none)).getD 0

/-- LAST_FATAL_WRITE: N5, or N4 if N5 is down, writes a snapshot and the last-fatal area over its older copy, and FE
handling ends (R524 step 5, R526, R547). -/
def execLastFatalWrite (s : State) : Res :=
  if !s.errs.handling || s.pkg.dev != .icebound || !(s.coreUp 5 || s.coreUp 4) then .next s
  else
    let e := s.errs
    let s := s.onErrs (fun e => { e with handling := false })
    if s.mor.store != 1 then .next s
    else
      let s := s.onMor (fun m => { m with
        snapDue := false, lfOld := m.lfNew, lfNew := some ⟨e.feSeq, m.cycles, m.optime, e.newRecs⟩ })
      .next (s.snapWritten ⟨s.mor.nextSlot, s.mor.d, s.mor.cycles, s.mor.optime⟩)

end Sys2Proof.Machine
end

