-- ==== Sys2Proof/Machine/Firn.lean ====
section
/-! DEFINITION. The Firn dies: tile-port requests, fills, maintenance and vertical bundles (R186 to R219, R621). -/

namespace Sys2Proof.Machine

/-! ### Tile-port requests (R191 to R206) -/

/-- A piece of an operation or a run-ahead request at the Firn. -/
structure Piece where
  tile : Nat
  id : Nat
  runAhead : Bool
  ga : Nat
  n : Nat
  /-- Byte in the operation, and place in the tile SRAM. -/
  at' : Nat
  sram : Nat
  fc : Bool
  early : Bool
deriving DecidableEq, Repr

def Piece.stack (p : Piece) : Nat := p.tile / 256
def Piece.line (p : Piece) : Nat := lineOf p.ga
def Piece.off (p : Piece) : Nat := p.ga % 256
def Piece.owner (p : Piece) : ReqOwner := if p.runAhead then .runAhead p.tile p.id else .tileOp p.tile p.id p.sram
/-- R327: the memory engine of a tile. -/
def tileEngine (n : Nat) : Nat := 8 * (n / 256) + n % 8
def Piece.eng (p : Piece) : Nat := tileEngine p.tile

/-- The piece has left its queue. -/
def Piece.take (p : Piece) (s : State) : State :=
  s.onTile p.tile (fun t =>
    if p.runAhead then { t with ra := { t.ra with out := t.ra.out.map (fun q => if q.id = p.id then { q with sent := true } else q) } }
    else { t with memQ := t.memQ.map (fun o => if o.id = p.id then { o with sent := o.sent + p.n } else o) })

/-- The slot and tag of the program that holds a tile. -/
def State.slotOf (s : State) (n : Nat) : Nat := ((s.tileProg n).bind (·.slot)).getD 0

/-- R191: the piece may be served by the cache of its stack. -/
def State.cacheable (s : State) (p : Piece) : Bool := p.fc && gRegion p.ga = 0 && s.cacheMode p.stack p.line

/-- R202: the piece lies in scratch of the stack's own Firn. -/
def State.ownScratch (s : State) (p : Piece) : Bool := s.portScratch p.tile p.ga

/-- Data for a load's piece. -/
def State.serve (s : State) (p : Piece) (st : Byte) (data : List Byte) (poison : NSet) : State :=
  s.tell p.owner opLd p.ga p.n 0 ⟨st, data, poison, true, true⟩

/-- R188: the array access of a line of own scratch. -/
def State.scratchEcc (s : State) (p : Piece) (ecc : FirnEcc) : State :=
  let off := gOff p.ga / 256 * 256
  if s.memMapped p.ga p.n = false then s
  else match ecc with
    | .clean | .elsewhere .. => s
    | .single => s.scratchFix off false
    | .double i => if s.firn.scratchPoison.contains (off / 32 + i.toNat) then s else s.scratchSpoil (off + 32 * i.toNat) false

/-- R192: a load or store misses and needs the line: it joins the fill under way, or starts one. -/
def State.fillFor (s : State) (p : Piece) (w : FillWait) : State :=
  let t := p.stack
  let l := p.line
  if s.filling t l then
    (p.take s).onFirn (fun f => { f with fills := f.fills.map (fun x =>
      if x.stack = t && x.line = l then { x with waits := x.waits ++ [w] } else x) })
  else if s.canIssue p.eng (gDev p.ga) opLd then
    let s := (p.take s).onFirn (fun f => { f with fills := f.fills ++ [⟨t, l, [w], none⟩] })
    s.issue (s.reqPkt opLd p.eng (gDev p.ga) (256 * l) 256) (.fill t l) none
  else s

/-- The waiter of a piece. -/
def Piece.waiter (p : Piece) (store : Bool) (slot : Nat) (data : List Byte) (poison : NSet) : FillWait :=
  { tile := p.tile, opId := p.id, runAhead := p.runAhead, store := store, off := p.off, len := p.n, at' := p.sram,
    slot := slot, data := data, poison := poison }

/-- A load that misses opens or joins the window of its line and waits for the fill. -/
def State.loadMiss (s : State) (p : Piece) : State :=
  if s.filling p.stack p.line || s.canIssue p.eng (gDev p.ga) opLd then
    (s.windowRead p.stack p.line false).fillFor p (p.waiter false 0 [] [])
  else s

/-- A load's piece is forwarded to memory. -/
def State.forwardLoad (s : State) (p : Piece) : State :=
  if s.canIssue p.eng (gDev p.ga) opLd then
    let pkt := s.reqPkt opLd p.eng (gDev p.ga) p.ga p.n
    (p.take s).issue { pkt with tag := if p.early then 0x8000 else 0 } p.owner none
  else s

/-- FRD, GLD and run-ahead loads at the Firn (R192, R202, R205). -/
def State.firnLoad (s : State) (p : Piece) (ecc : FirnEcc) : State :=
  let t := p.stack
  if s.cacheable p then
    match s.firn.find t p.line with
    | some (k, x) =>
      match s.lineEcc t k x p.off p.n ecc with
      | (s, some x) =>
        let bad := (touched p.off p.n).filter (fun i => x.poison.getLsbD i)
        (((p.take s).touchWay k).windowRead t p.line true).serve p (if bad.isEmpty then scOk else scPoisoned)
          (x.bytes p.off p.n) (bad.map (fun i => 8 * p.line + i))
      | (s, none) => s.loadMiss p
    | none => s.loadMiss p
  else if s.ownScratch p then
    let (s, r) := (s.scratchEcc p ecc).memReadRaw p.ga p.n
    ((p.take s).windowRead t p.line true).serve p r.status r.data r.poison
  else s.forwardLoad p

/-- A store's piece is forwarded to memory. -/
def State.forwardStore (s : State) (p : Piece) (bs : List Byte) (bad : NSet) : State :=
  let pkt := (s.reqPkt (storeOp false p.n) p.eng (gDev p.ga) p.ga p.n).withData bs
  (p.take s).issue { pkt with poison := !bad.isEmpty } p.owner (s.tile p.tile).prog

/-- A store's piece is answered by the Firn. -/
def State.absorbed (s : State) (p : Piece) (x : FLine) : State :=
  (p.take s).onTile p.tile (fun t => t.opAnswer p.id p.n (if x.bad p.off p.n then scPoisoned else scOk))

/-- R188: write bytes of scratch, each sector with its own poison. -/
def State.scratchStore (s : State) (ga : Nat) (bs : List Byte) (bad : NSet) : State × Byte :=
  let r := (pieces 32 (bs.length / 32 + 2) ga bs.length).foldl (fun (p : (State × Byte) × List Byte) q =>
    let (s, st) := p.1.1.memWrite q.1 (p.2.take q.2) (bad.contains (q.1 / 32))
    ((s, if p.1.2 = scOk then st else p.1.2), p.2.drop q.2)) ((s, scOk), bs)
  r.1

/-- FWR and GST at the Firn (R192, R206, R621). -/
def State.firnStore (s : State) (p : Piece) (ecc : FirnEcc) : State :=
  let t := p.stack
  let l := p.line
  let slot := s.slotOf p.tile
  let rel := fun (bad : NSet) => bad.map (fun w => w - 8 * l)
  let room := s.canIssue p.eng (gDev p.ga) opSt
  if s.cacheable p then
    match s.firn.find t l with
    | some (k, x) =>
      if gDev p.ga = s.devid then
        match s.lineEcc t k x p.off p.n ecc with
        | (s, some x) =>
          let (bs, bad, s) := s.portRead p.tile p.sram p.n p.ga
          let y := x.store p.off bs (rel bad) slot
          (((s.setLine k (some y)).touchWay k).windowShut t l).absorbed p y
        | (s, none) => s
      else if room then
        let (bs, bad, s) := s.portRead p.tile p.sram p.n p.ga
        ((s.setLine k (some (x.merge p.off bs (rel bad)))).windowShut t l).forwardStore p bs bad
      else s
    | none =>
      if gDev p.ga != s.devid then
        if room && !s.filling t l then
          let (bs, bad, s) := s.portRead p.tile p.sram p.n p.ga
          s.forwardStore p bs bad
        else s
      else if s.filling t l then
        let (bs, bad, s) := s.portRead p.tile p.sram p.n p.ga
        (s.windowShut t l).fillFor p (p.waiter true slot bs (rel bad))
      else if p.n = 256 then
        match s.freeFrame t l with
        | (s, some k) =>
          let (bs, bad, s) := s.portRead p.tile p.sram p.n p.ga
          let y := (FLine.mk l 0 0 0 0).store 0 bs (rel bad) slot
          ((s.allocate k y).windowShut t l).absorbed p y
        | (s, none) => s
      else if s.canIssue p.eng (gDev p.ga) opLd then
        let (bs, bad, s) := s.portRead p.tile p.sram p.n p.ga
        (s.windowShut t l).fillFor p (p.waiter true slot bs (rel bad))
      else s
  else if s.ownScratch p then
    let (bs, bad, s) := (s.scratchEcc p ecc).portRead p.tile p.sram p.n p.ga
    let (s, st) := s.scratchStore p.ga bs bad
    (p.take s).onTile p.tile (fun t => t.opAnswer p.id p.n st)
  else if room then
    let (bs, bad, s) := s.portRead p.tile p.sram p.n p.ga
    s.forwardStore p bs bad
  else s

/-- R192, R206: before a GAT or GSTF is forwarded, a present line has been written back and is invalidated; none while the
write-back, or a fill of the line, is under way. -/
def State.purge (s : State) (p : Piece) (ecc : FirnEcc) : Option State × State :=
  match (if s.cacheable p then s.firn.find p.stack p.line else none) with
  | none => if s.cacheable p && (s.writingBack p.stack p.line || s.filling p.stack p.line) then (none, s) else (some s, s)
  | some (k, x) =>
    if x.dirty != 0 then (none, s.writeBack k none ecc)
    else if s.writingBack p.stack p.line then (none, s)
    else (some (s.setLine k none), s)

/-- GAT at the Firn: forwarded with its operands (R192, R333). -/
def State.firnAtomic (s : State) (p : Piece) (atop : BitVec 4) (ecc : FirnEcc) : State :=
  if s.canIssue p.eng (gDev p.ga) opAt = false then s
  else match s.purge p ecc with
  | (none, s) => s
  | (some s, _) =>
    let k := if atop = 4 then 2 * p.n else p.n
    let (bs, bad, s) := s.portRead p.tile p.sram k p.ga
    let pkt := s.reqPkt opAt p.eng (gDev p.ga) p.ga p.n
    let pkt := { pkt.withData bs with
      atop := atop, len8 := if p.n = 4 then 0 else if p.n = 8 then 1 else 3, poison := !bad.isEmpty }
    ((p.take s).windowShut p.stack p.line).issue pkt p.owner (s.tile p.tile).prog

/-- GSTF at the Firn: issued on the program's channel (R192, R340). -/
def State.firnFlagged (s : State) (p : Piece) (ecc : FirnEcc) : State :=
  if s.canIssue p.eng (gDev p.ga) opStf = false then s
  else match s.purge p ecc with
  | (none, s) => s
  | (some s, _) =>
    let (bs, bad, s) := s.portRead p.tile p.sram p.n p.ga
    let pkt := (s.reqPkt (storeOp true p.n) p.eng (gDev p.ga) p.ga p.n).withData bs
    ((p.take s).windowShut p.stack p.line).issueFlagged (((s.tileProg p.tile).bind (·.privCh)).getD 0)
      { pkt with poison := !bad.isEmpty } p.owner (s.tile p.tile).prog

/-- FFL of one line, after what reached the line before it (R198, R199, R206). -/
def State.firnFlushLine (s : State) (p : Piece) (ecc : FirnEcc) : State :=
  if s.filling p.stack p.line then s
  else
    let s := p.take s
    (match s.firn.find p.stack p.line with
      | some (k, _) => s.writeBack k (some (p.tile, p.id)) ecc
      | none => s).fflCheck p.tile p.id

/-- A piece of an operation is answered by the Firn. -/
def Piece.answer (p : Piece) (s : State) (st : Byte) : State := (p.take s).onTile p.tile (fun t => t.opAnswer p.id p.n st)

/-- FIV of one line, after what reached the line before it (R198, R199, R206). -/
def State.firnInvalidateLine (s : State) (p : Piece) : State :=
  if s.filling p.stack p.line then s
  else
    p.answer (match s.firn.find p.stack p.line with
      | some (k, _) => (s.setLine k none).windowShut p.stack p.line
      | none => s) scOk

/-- The next piece of a tile's memory queue, in issue order, with the kind and ATOP of its operation. -/
def State.nextPiece (s : State) (n : Nat) : Option (MemKind × BitVec 4 × Piece) :=
  ((s.tile n).memQ.find? (fun o => o.sent < o.bytes)).map (fun o =>
    let a := o.ga + o.sent
    let rest := o.bytes - o.sent
    let len := match o.kind with
      | .frd => 256 | .fwr => 256 | .ffl => 256 | .fiv => 256
      | .gat => rest | .gstf => rest
      | _ => if (o.fc && gRegion a = 0) || s.portScratch n a then min rest (256 - a % 256) else rest
    (o.kind, o.atop, { tile := n, id := o.id, runAhead := false, ga := a, n := len, at' := o.sent,
                       sram := (o.addr.toNat + o.sent) % 2 ^ 20, fc := o.fc, early := false }))

/-- The oldest run-ahead request of a tile that has not reached the Firn. -/
def State.nextRunAhead (s : State) (n : Nat) : Option Piece :=
  ((s.tile n).ra.out.find? (fun q => !q.sent)).map (fun q =>
    { tile := n, id := q.id, runAhead := true, ga := q.ga, n := q.len, at' := 0, sram := 0, fc := q.fc, early := q.early })

/-- R326: a Firn operation on the dictionary window. -/
def MemKind.refused (k : MemKind) (p : Piece) : Bool := gRegion p.ga = 2 && (k = .frd || k = .fwr || k = .ffl || k = .fiv)

/-- R188: an error arises in a line of a stack that is not the one accessed. -/
def State.upsetAt (s : State) (ecc : FirnEcc) : State :=
  match ecc with
  | .elsewhere t l x => s.onFirn (fun f => { f with upsets := f.upsets ++ [⟨t, l, x⟩] })
  | _ => s

def vbKey (t : BitVec 2) (n : Nat) : Nat := 384 * t.toNat + n
def State.vb (s : State) (t : BitVec 2) (n : Nat) : Vb := SMap.get Vb.reset s.firn.vb (vbKey t n)

/-- R211, R216: some bundle of a stack is being remapped. -/
def State.remapping (s : State) (t : Nat) : Bool := s.firn.vb.any (fun p => p.1 / 384 == t && p.2.remap)

/-- R208, R211: a stack's traffic below its Firn waits: no Floe–Firn bundle takes a beat. -/
def State.floeWaits (s : State) (t : BitVec 2) : Bool :=
  (List.range 128).all (fun i => (s.vb t (256 + i)).remap || (s.vb t (256 + i)).st = .retired)

/-- R211: what a tile sends waits while its bundle is remapped, and while every bundle below its Firn is. -/
def State.portWaits (s : State) (n : Nat) : Bool :=
  let t := BitVec.ofNat 2 (n / 256)
  (s.vb t (n % 256)).remap || s.floeWaits t

/-- FIRN_REQUEST: the next piece of a tile's memory queue, or its next run-ahead request where the queue has none
waiting (R69), reaches the Firn and is applied (R192, R206). -/
def execFirnRequest (n : Nat) (ra : Bool) (ecc : FirnEcc) (s : State) : Res :=
  let s := s.upsetAt ecc
  if s.portWaits n then .next s
  else match s.nextPiece n with
  | some (kind, atop, p) =>
    if ra then .next s
    else if kind.refused p then .next (p.answer s scDenied)
    else .next (match kind with
      | .frd => s.firnLoad p ecc
      | .gld => s.firnLoad p ecc
      | .fwr => s.firnStore p ecc
      | .gst => s.firnStore p ecc
      | .gat => s.firnAtomic p atop ecc
      | .gstf => s.firnFlagged p ecc
      | .ffl => s.firnFlushLine p ecc
      | .fiv => s.firnInvalidateLine p)
  | none =>
    if ra then
      match s.nextRunAhead n with
      | some p => .next (s.firnLoad p ecc)
      | none => .next s
    else .next s

/-- FIRN_MERGE_WINDOW_CLOSE: fifteen Firn cycles have passed, and the fill is in (R205). -/
def execFirnMergeWindowClose (t l : Nat) (s : State) : Res :=
  .next (s.onFirn (fun f => { f with
    windows := f.windows.filter (fun w => !(w.stack = t && w.line = l && w.filled)) }))

/-! ### Fills (R621) -/

/-- One waiter of a fill meets the line as the waiters before it left it. -/
def State.serveWaiter (s : State) (x : FLine) (w : FillWait) : State × FLine :=
  if w.store then
    let y := x.store w.off w.data w.poison w.slot
    (s.onTile w.tile (fun t => t.opAnswer w.opId w.len (if y.bad w.off w.len then scPoisoned else scOk)), y)
  else
    let bad := (touched w.off w.len).filter (fun i => x.poison.getLsbD i)
    let owner := if w.runAhead then ReqOwner.runAhead w.tile w.opId else .tileOp w.tile w.opId w.at'
    (s.tell owner opLd (256 * x.line + w.off) w.len 0
      ⟨if bad.isEmpty then scOk else scPoisoned, x.bytes w.off w.len, bad.map (fun i => 8 * x.line + i), true, true⟩, x)

/-- Serve the waiters of a fill in arrival order. -/
def State.serveWaiters (s : State) (x : FLine) (ws : List FillWait) : State × FLine :=
  ws.foldl (fun p w => p.1.serveWaiter p.2 w) (s, x)

/-- R621: a fill that ended with another status: every waiter completes with it. -/
def State.failWaiters (s : State) (l : Nat) (st : Byte) (ws : List FillWait) : State :=
  ws.foldl (fun s w =>
    if w.store then s.onTile w.tile (fun t => t.opAnswer w.opId w.len st)
    else
      let owner := if w.runAhead then ReqOwner.runAhead w.tile w.opId else .tileOp w.tile w.opId w.at'
      s.tell owner opLd (256 * l + w.off) w.len 0 (Answer.plain st)) s

/-- A waiter that needs no fill: a store of the whole line (R192). -/
def FillWait.whole (w : FillWait) : Bool := w.store && w.len == 256

/-- The fill of a line is over, and a window that it held open knows. -/
def State.fillOver (s : State) (t l : Nat) : State :=
  s.onFirn (fun x => { x with
    fills := x.fills.filter (fun g => !(g.stack = t && g.line = l))
    windows := x.windows.map (fun w => if w.stack = t && w.line = l then { w with filled := true } else w) })

/-- A line with its waiters served enters a frame, once there is one. -/
def State.fillIn (s : State) (t : Nat) (x : FLine) (fail ws : List FillWait) (st : Byte) : State :=
  match s.freeFrame t x.line with
  | (s, none) => s
  | (s, some k) =>
    let r := ((s.fillOver t x.line).failWaiters x.line st fail).serveWaiters x ws
    r.1.allocate k r.2

/-- FIRN_FILL_COMPLETE: the fill of a line has ended (R192, R205, R621). A line of another device that may not be cached is
served and dropped. After a fill that failed, the waiters up to the first store of the whole line fail with it. -/
def execFirnFillComplete (t l : Nat) (s : State) : Res :=
  match s.firn.fills.find? (fun f => f.stack = t && f.line = l) with
  | none => .next s
  | some f =>
    match f.res with
    | none => .next s
    | some r =>
      let own := l / 2 ^ 34 == s.devid
      if r.status = scOk || r.status = scPoisoned then
        let x : FLine := { line := l, data := BitVec.ofNat 2048 (leNat r.data), dirty := 0,
                           poison := byteBits r.poison, owner := 0 }
        if own || (r.fc && s.cacheMode t l) then .next (s.fillIn t x [] f.waits r.status)
        else .next ((s.fillOver t l).serveWaiters x f.waits).1
      else
        let fail := f.waits.takeWhile (fun w => !w.whole)
        match f.waits.dropWhile (fun w => !w.whole) with
        | [] => .next ((s.fillOver t l).failWaiters l r.status fail)
        | rest => .next (s.fillIn t ⟨l, 0, 0, 0, 0⟩ fail rest r.status)

/-! ### Slices and maintenance -/

/-- FIRN_SLICE_ZERO_COMPLETE: a scratch slice has been written as zero (R203). -/
def execFirnSliceZeroComplete (slice : BitVec 5) (s : State) : Res :=
  let k := slice.toNat
  if s.firn.zeroing.contains k && !s.remapping (k / 8) then
    .next (s.onFirn (fun f => { f with
      windows := f.windows.filter (fun w => !(gRegion (256 * w.line) = 1 && gOff (256 * w.line) / 2 ^ 28 = k))
      zeroing := NSet.del k f.zeroing
      scratch := Mem.zero f.scratch (k * 2 ^ 28) (2 ^ 28)
      scratchPoison := f.scratchPoison.filter (fun w => w / 2 ^ 23 != k) }))
  else .next s

/-- A slice named by a mask and in cache mode. -/
def State.maskSlice (s : State) (mask : Nat) (x : Nat) : Bool := mask.testBit x && !s.firn.scratchMode.getLsbD x

/-- FIRN_FLUSH: the scheduler cycle start after writes of FIRN_FLUSH writes back the slices that they named (R217, R487). -/
def execFirnFlush (s : State) : Res :=
  let due := s.firn.flushDue.toNat
  .next ((s.onFirn (fun f => { f with flushDue := 0 })).flushSlices (s.maskSlice due))

/-- R218: MAINT_BUSY of a die. -/
def State.maintBusy (s : State) (t : BitVec 2) : Bool :=
  (RF.at s.firn.maint t).isSome || s.firn.toScratch.any (fun x => x / 8 == t.toNat)

/-- R219: a maintenance operation starts on a die that is not busy. -/
def State.maintStart (s : State) (t : BitVec 2) (mask : Byte) (op : Nat) : State :=
  if s.maintBusy t then s
  else
    let reg := BitVec.ofNat 32 (mask.toNat * 16 + op)
    let s := s.onFirn (fun f => { f with maint := RF.put f.maint t (some ⟨op, mask⟩), maintReg := RF.put f.maintReg t reg })
    s.flushSlices (s.maskSlice (mask.toNat * 2 ^ (8 * t.toNat)))

/-- FRN_MAINT_FLUSH: OP 1 writes back the dirty sectors of the named slices (R219). -/
def execFrnMaintFlush (t : BitVec 2) (mask : Byte) (s : State) : Res := .next (s.maintStart t mask 1)

/-- FRN_MAINT_FLUSH_INVALIDATE: OP 2 writes back and invalidates the named slices (R219). -/
def execFrnMaintFlushInvalidate (t : BitVec 2) (mask : Byte) (s : State) : Res := .next (s.maintStart t mask 2)

/-- R189: the tree of a set of some slices that no line is left in returns to way 0. -/
def State.freshTrees (s : State) (slices : Nat → Bool) : State :=
  s.onFirn (fun f => { f with
    plru := f.plru.filter (fun p => !slices (p.1 / 49152) || f.lines.any (fun x => x.1 / 16 == p.1)) })

/-- FRN_MAINT_END: the operation ends once its write-backs have, and OP reads 0; a line written meanwhile stays
dirty (R218, R219). -/
def execFrnMaintEnd (t : BitVec 2) (s : State) : Res :=
  match RF.at s.firn.maint t with
  | none => .next s
  | some m =>
    if s.stackWritingBack t.toNat || s.remapping t.toNat then .next s
    else
      let inMask := s.maskSlice (m.mask.toNat * 2 ^ (8 * t.toNat))
      let s := if m.op = 2 then s.onFirn (fun f => { f with
          lines := f.lines.filter (fun p => !(inMask (p.1 / 16 / 49152) &&
            (match p.2 with | some x => x.dirty == 0 | none => true))) })
        |>.freshTrees inMask else s
      .next (s.onFirn (fun f => { f with
        maint := RF.put f.maint t none
        maintReg := RF.put f.maintReg t (RF.at f.maintReg t &&& 0xFFFFFFFC) }))

/-- FIRN_MODE_CHANGE_END: every line of a slice that changes to scratch has been written back and invalidated, and the
slice enters scratch mode (R204); a bundle that is remapped delays it (R216). -/
def execFirnModeChangeEnd (slice : BitVec 5) (s : State) : Res :=
  let k := slice.toNat
  if s.firn.toScratch.contains k = false then .next s
  else if (s.firn.framesOf (fun x => x == k)).any (fun p => p.2.dirty != 0) then .next (s.flushSlices (fun x => x == k))
  else if s.stackWritingBack (k / 8) || s.remapping (k / 8) || s.firn.fills.any (fun f => homeOn f.stack f.line == k) then .next s
  else .next ((s.clearSlice k).onFirn (fun f => { f with
    toScratch := NSet.del k f.toScratch, scratchMode := f.scratchMode ||| (1#32 <<< k) }))

/-- R200: the lines that the walk of a slot treats. -/
def Firn.walked (f : Firn) (slot : Nat) : List (Nat × FLine) :=
  (f.framesOf (fun _ => true)).filter (fun p => p.2.dirty != 0 && p.2.owner == slot)

/-- R200: a walk is over, and its slot is free. -/
def State.walkOver (s : State) (slot : Nat) : State :=
  (s.onFirn (fun f => { f with walks := f.walks.filter (fun w => w.slot != slot) })).onSched (fun x =>
    { x with walkSlots := NSet.del slot x.walkSlots })

/-- FIRN_DRAIN_WALK_END: the walk of R200 for a program's slot: after COMPLETED, once the COMPLETE has been sent, its dirty lines are
written back and counted, and the walk ends when they are in HBM; after another status they are invalidated. A bundle that is
remapped delays it (R216). -/
def execFirnDrainWalkEnd (slot : Nat) (s : State) : Res :=
  match s.firn.walks.find? (fun w => w.slot == slot) with
  | none => .next s
  | some w =>
    let mine := s.firn.walked slot
    let dies : List Nat := [0, 1, 2, 3]
    if !s.walkBegun w || dies.any s.remapping then .next s
    else if w.discard then .next ((mine.foldl (fun s p => s.setLine p.1 none) s).walkOver slot)
    else if !mine.isEmpty then
      .next ((mine.foldl (fun s p => s.writeBack p.1 none) s).onFirn (fun f => { f with drainLines := satAdd f.drainLines mine.length }))
    else if dies.any s.stackWritingBack then .next s
    else .next (s.walkOver slot)

/-! ### Vertical bundles (R208 to R216) -/

def State.onVb (s : State) (t : BitVec 2) (n : Nat) (f : Vb → Vb) : State :=
  s.onFirn (fun x => { x with vb := SMap.upd Vb.reset x.vb (vbKey t n) f })
def vbUnit (t : BitVec 2) (n : Nat) : W16 := unitCode 3 t.toNat n

/-- The bundle is one of the die's and carries traffic. -/
def State.vbLive (s : State) (t : BitVec 2) (n : Nat) : Bool :=
  n < 384 && (s.vb t n).st != .retired && (s.vb t n).st != .untrained

/-- VB_BEAT_REPLAY: a beat's check fails on a channel and the beat is replayed; more than 8 within 1 ms make the
channel failing (R209, R210). -/
def execVbBeatReplay (t : BitVec 2) (n : Nat) (pos : BitVec 6) (s : State) : Res :=
  if s.vbLive t n then
    let now := s.now
    .next (s.onVb t n (fun v =>
      let rs := (pos.toNat, now) :: v.replays.filter (fun r => (now - r.2).toNat < msU 1)
      { v with replays := rs,
               due := if 8 < (rs.filter (fun r => r.1 == pos.toNat)).length then NSet.add pos.toNat v.due else v.due }))
  else .next s

/-- R210, R517: the cause that the record of a failing channel has now: 0x12 a spare, 0x13 HALF, 0x14 the bundle is retired; none
where the channel carries nothing. -/
def Vb.failCause (v : Vb) (pos : Nat) : Option Nat :=
  match v.st with
  | .full =>
    if ([0, 1, 2, 3] : List (BitVec 2)).any (fun i => (RF.at v.spares i).isNone) then some 0x12
    else
      let failed := NSet.add pos v.failed
      some (if failed.any (fun x => x < 32) && failed.any (fun x => 32 ≤ x) then 0x14 else 0x13)
  | st => if (if st = .halfHi then 32 ≤ pos else pos < 32) then some 0x14 else none

/-- VB_EYE_MEASURE: the eye margin of a channel in % of the unit interval; below 30 the channel is failing (R210), and where an
injection of what follows is armed (R529). -/
def execVbEyeMeasure (t : BitVec 2) (n : Nat) (pos : BitVec 6) (eye : Nat) (s : State) : Res :=
  let found := eye < 30 || ((s.vb t n).failCause pos.toNat).any (s.armed (vbUnit t n))
  if s.vbLive t n && found then .next (s.onVb t n (fun v => { v with due := NSet.add pos.toNat v.due })) else .next s

/-- R77, R79, R214: change the map entry of a tile in TILE_MAP_NEXT, and in the map in force where `both` says so. -/
def State.mapEntry (s : State) (n : Nat) (both : Bool) (f : MapEnt → MapEnt) : State :=
  s.onSerac (fun x => { x with
    map := if both then { x.map with ents := SMap.upd MapEnt.full x.map.ents n f } else x.map
    mapNext := { x.mapNext with ents := SMap.upd MapEnt.full x.mapNext.ents n f } })

/-- R79, R80: a tile is retired while the device runs. -/
def State.retireTile (s : State) (n : Nat) : State :=
  (s.mapEntry n false (fun _ => ⟨.none, .retired⟩)).onSerac (fun x => { x with
    mapNext := { x.mapNext with conform := false }
    retiredList := NSet.add n x.retiredList
    retirePending := NSet.add n x.retirePending })

/-- R212, R213: a bundle retires, and its tile or its traffic with it. -/
def State.vbRetire (s : State) (t : BitVec 2) (n : Nat) : State :=
  let half := (s.vb t n).st = .halfLo || (s.vb t n).st = .halfHi
  let s := (s.onVb t n (fun v => { v with st := .retired, remap := 256 ≤ n })).onFirn (fun f => { f with
    retiredBundles := f.retiredBundles + 1
    halfBundles := if half then f.halfBundles - 1 else f.halfBundles })
  let r : Raise := { unit := vbUnit t n, cause := 0x14, cls := .ce }
  if n < 256 then
    let k := 256 * t.toNat + n
    let s := s.retireTile k
    let s := match (s.tile k).prog with
      | some tag =>
        let s := s.raise' { r with cls := .uc, tag := tag }
        if (s.tile k).st = TileSt.free then s else s.tileFault k faultTileRetired
      | none => s.raise' r
    s.dieStatus (8 + t.toNat) dieDegraded
  else
    let left := (List.range 128).any (fun i => (s.vb t (256 + i)).st != .retired)
    (s.raise' { r with cls := if left then .ce else .fe }).dieStatus (4 + t.toNat) dieDegraded

/-- R210, R214: a bundle changes to HALF on the positions of `hi`. -/
def State.vbHalf (s : State) (t : BitVec 2) (n : Nat) (hi : Bool) : State :=
  let s := (s.onVb t n (fun v => { v with st := if hi then .halfHi else .halfLo, remap := true })).onFirn (fun f =>
    { f with halfBundles := f.halfBundles + 1 })
  let s := s.raise' { unit := vbUnit t n, cause := 0x13, cls := .ce, detail := if hi then 1 else 0 }
  if n < 256 then
    (s.mapEntry (256 * t.toNat + n) true (fun e => if e.bw = .full then { e with bw := .half } else e)).dieStatus
      (8 + t.toNat) dieDegraded
  else s.dieStatus (4 + t.toNat) dieDegraded

/-- VB_CHANNEL_FAILING: a channel has become failing: a spare takes its position, or the bundle goes HALF, or it is
retired (R210 to R214). -/
def execVbChannelFailing (t : BitVec 2) (n : Nat) (pos : BitVec 6) (s : State) : Res :=
  let v := s.vb t n
  if s.vbLive t n = false || v.due.contains pos.toNat = false then .next s
  else
    let s := s.onVb t n (fun v => { v with due := NSet.del pos.toNat v.due, replays := v.replays.filter (fun r => r.1 != pos.toNat) })
    let failed := NSet.add pos.toNat v.failed
    match v.st with
    | .full =>
      match ([0, 1, 2, 3] : List (BitVec 2)).find? (fun i => (RF.at v.spares i).isNone) with
      | some i =>
        let s := (s.onVb t n (fun v => { v with spares := RF.put v.spares i (some pos), remap := true })).onFirn
          (fun f => { f with spareSwaps := satInc f.spareSwaps })
        .next (s.raise' { unit := vbUnit t n, cause := 0x12, cls := .ce,
                          detail := BitVec.ofNat 64 (pos.toNat + 256 * i.toNat) })
      | none =>
        let s := s.onVb t n (fun v => { v with failed := failed })
        let lo := failed.any (fun x => x < 32)
        let hi := failed.any (fun x => 32 ≤ x)
        .next (if lo && hi then s.vbRetire t n else s.vbHalf t n lo)
    | st =>
      let s := s.onVb t n (fun v => { v with failed := failed })
      let active := if st = .halfHi then 32 ≤ pos.toNat else pos.toNat < 32
      .next (if active then s.vbRetire t n else s)

/-- VB_REMAP_COMPLETE: the bundle resumes (R211). -/
def execVbRemapComplete (t : BitVec 2) (n : Nat) (s : State) : Res :=
  if (s.vb t n).remap then .next (s.onVb t n (fun v => { v with remap := false })) else .next s

/-- RETIRED_LIST_STORE_WRITE: N5 sets the bits of newly retired tiles in the Moraine store; without a good store the
list is volatile only (R80). -/
def execRetiredListStoreWrite (s : State) : Res :=
  if s.coreUp 5 && s.mor.store = 1 then
    .next (s.onSerac (fun x => { x with
      retiredStore := x.retirePending.foldl (fun l n => NSet.add n l) x.retiredStore, retirePending := [] }))
  else .next s

end Sys2Proof.Machine
end

