-- ==== Sys2Proof/Machine/Hbm.lean ====
section
/-! DEFINITION. The HBM controllers: accesses, temperature, refresh, scrub and stack failure (R220 to R242). -/

namespace Sys2Proof.Machine

/-- R220: bytes of a stack. -/
def stackBytes : Nat := 24 * 2 ^ 30

/-- The controller of a stack in service acts; a stack that is not in service does nothing (log entry 2). -/
def State.inService (s : State) (h : Nat) : Bool := h < 24 && (s.hbm.stack h).st = .inService

/-- R20: the Floe tile that a stack attaches to runs: the device is powered and has discovered its dies. -/
def State.stackReached (s : State) : Bool := s.pkg.dev != .cold && s.pkg.discovered

/-- R234, R237: a stack fails with an event of R234; before HBM is placed it is RETIRED instead. -/
def State.stackFail (s : State) (h ev : Nat) (inj : Bool := false) : State :=
  if s.inService h then
    if s.hbm.placed then
      ((s.onStack h (fun k => { k with st := .failed, parity := [], ucTimes := [], failDue := none })).dieStatus (17 + h) dieFailed).raise'
        { unit := hbmUnit h, cause := 0x22, cls := .uc, detail := BitVec.ofNat 64 ev, injected := inj }
    else (s.onStack h (fun k => { k with st := .retired })).dieStatus (17 + h) dieRetired
  else s

/-- R221: symbols of a word in error: a dead lane costs two. -/
def badSymbols (deadLanes symbols : Nat) : Nat := 2 * deadLanes + symbols

/-- R221: more symbols in error than the code detects for sure: whether it sees the word as good, as corrected to other data, or
as uncorrectable is a free value (log entry 144). -/
def State.hbmBeyond (s : State) (h a : Nat) : State :=
  let (k, s) := s.drawFree 2
  if k = 0 then s
  else if k = 1 then
    let (bs, s) := s.drawBytes 64
    (s.onHbm (fun x => { x with mem := Mem.wrBytes x.mem (stackKey h (a / 64 * 64)) bs })).hbmCorrected h a false
  else s.hbmUncorrectable h a false

/-- R221, R223, R228: what a read of a word that is not poisoned leads to: the code corrects three symbols and detects five. -/
def State.hbmFound (s : State) (h a : Nat) (found : HbmFind) : State :=
  if s.hbm.poisoned h a then s
  else match found with
  | .word d n =>
    let k := badSymbols d n
    if k = 0 then s.hbmCheck h a
    else if k ≤ 3 then s.hbmCorrected h a false
    else if k ≤ 5 then s.hbmUncorrectable h a false
    else s.hbmBeyond h a
  | .onDie => s.onHbm (fun x => { x with ondieCe := satInc x.ondieCe })
  | .onDieBad => s.hbmUncorrectable h a false
  | .parity => s.hbmCheck h a

/-- R223, R234: a command of the controller on a pseudo-channel: a parity failure counts, and the fourth in a row is due to fail the
stack; a command without one ends the run. -/
def State.hbmCommand (s : State) (h a : Nat) (failed : Bool) : State :=
  s.onStack h (fun k =>
    let c := pseudoChannel a
    if failed then
      { k with parity := SMap.upd 0 k.parity c (· + 1)
               failDue := if 3 ≤ SMap.get 0 k.parity c && k.failDue.isNone then some 1 else k.failDue }
    else { k with parity := SMap.set 0 k.parity c 0 })

/-- HBM_ACCESS: the controller applies a read or a write within one ECC word of a stack that its Floe tile reaches (R20, R222,
R223, R228, R229). -/
def execHbmAccess (h a : Nat) (op : HbmOp) (found : HbmFind) (s : State) : Res :=
  if s.stackReached = false then .next s
  else if h < 24 && (s.hbm.stack h).st = .failed then
    .next (s.onHbm (fun x => { x with failedAccesses := satInc x.failedAccesses }))
  else if s.inService h = false || stackBytes ≤ a then .next s
  else if found = .parity then .next (s.hbmCommand h a true)
  else
    let s := s.hbmCommand h a false
    match op with
    | .read => .next (s.hbmFound h a found)
    | .write bs poison =>
      if bs.length = 0 || 64 < a % 64 + bs.length then .next s
      else if bs.length = 64 then .next (s.hbmPut h a bs poison)
      else .next ((s.hbmFound h a found).hbmPut h a bs poison)

/-- R231: 85 °C and 82 °C in 1/16 °C. -/
def hotOn : Int := 1360
def hotOff : Int := 1312

/-- HBM_TEMP_READ: the 100 µs temperature read and health evaluation of a stack (R231, R622). -/
def execHbmTempRead (h : Nat) (temp : Option W16) (s : State) : Res :=
  if 24 ≤ h || (s.hbm.stack h).st = .notFound || (s.hbm.stack h).st = .retired || s.pkg.dev = .cold then .next s
  else
    let s := s.onStack h (fun k => match temp with
      | some v => { k with temp := v, age := 0,
                           hot := if hotOn < v.toInt then true else if v.toInt < hotOff then false else k.hot }
      | none => { k with age := k.age + 1 })
    if s.inService h && s.injects (hbmUnit h) 0x22 0 1 then
      .next ((s.stackFail h 4 true).onErrs (fun e => { e with inj := none }))
    else .next s

/-- R231: a stack is refreshed at the doubled rate. -/
def State.refresh2x (s : State) (h : Nat) : Bool :=
  (s.hbm.stack h).hot || 10 ≤ (s.hbm.stack h).age || RF.at s.hbm.refreshDouble (BitVec.ofNat 2 (h / 6))

/-- HBM_REFRESH: the refresh of a bank of a stack falls due (R227, R231), in every state but COLD; a failed stack is not refreshed
(R235). -/
def execHbmRefresh (h bank : Nat) (s : State) : Res :=
  if s.inService h && bank < 64 && s.pkg.dev != .cold then
    .next (s.onStack h (fun k => { k with refreshes := SMap.upd 0 k.refreshes bank (· + 1) }))
  else .next s

/-- R232, R242: the end of a scrub pass: every stack in service has finished, and no tile is paused. -/
def State.scrubEnd (s : State) : State :=
  let live := (List.range 24).filter (fun h => (s.hbm.stack h).st = .inService)
  if live.all (fun h => (s.hbm.stack h).scrubDone) && s.hbm.pause.toList.all (fun p => !p) then
    let s := live.foldl (fun s h => s.onStack h (fun k => { k with scrubAt := 0, scrubDone := false })) s
    (s.onHbm (fun x => { x with scrubPasses := satInc x.scrubPasses })).land (dk 0x2200 5)
  else s

/-- HBM_SCRUB_READ: the patrol scrub reads the next word of a stack (R232); a command that fails its parity check is retried, so the
scrub keeps its place (R223). -/
def execHbmScrubRead (h : Nat) (found : HbmFind) (s : State) : Res :=
  if s.inService h && s.hbm.placed && !(RF.at s.hbm.pause (BitVec.ofNat 2 (h / 6))) then
    let k := s.hbm.stack h
    if k.scrubDone then .next s.scrubEnd
    else if found = .parity then .next (s.hbmCommand h k.scrubAt true)
    else
      let a := k.scrubAt + 64
      .next (((s.hbmCommand h k.scrubAt false).hbmFound h k.scrubAt found).onStack h (fun k =>
        { k with scrubAt := if a < stackBytes then a else 0, scrubDone := stackBytes ≤ a })).scrubEnd
  else .next s

/-- R234: the event that makes a stack fail on what its controller has counted. -/
def HbmStack.failEvent (k : HbmStack) : Option Nat := k.failDue

/-- HBM_STACK_FAIL: a stack whose parity failures or uncorrectable words reach the bound fails (R234). -/
def execHbmStackFail (h : Nat) (s : State) : Res :=
  match (s.hbm.stack h).failEvent with
  | some ev => .next (s.stackFail h ev)
  | none => .next s

/-- HBM_PORT_SILENT_TIMEOUT: no response on the IEEE 1500 port for 10 ms (R234). -/
def execHbmPortSilentTimeout (h : Nat) (s : State) : Res := .next (s.stackFail h 4)

/-- HBM_PHY_LOSS_OF_LOCK: the PHY of a stack loses lock and retrains (R234). -/
def execHbmPhyLossOfLock (h : Nat) (s : State) : Res :=
  if s.inService h then .next (s.onStack h (fun k => { k with phyLost := true })) else .next s

/-- HBM_PHY_RETRAINED: retraining recovers the lock within 1 ms (R234). -/
def execHbmPhyRetrained (h : Nat) (s : State) : Res := .next (s.onStack h (fun k => { k with phyLost := false }))

/-- HBM_PHY_RELOCK_TIMEOUT: a loss of lock has not been recovered within 1 ms (R234). -/
def execHbmPhyRelockTimeout (h : Nat) (s : State) : Res :=
  if (s.hbm.stack h).phyLost then .next (s.stackFail h 2) else .next s

/-- HBM_ZERO_COMPLETE: every ECC word has been written as zero, and BAR4 accesses are served (R233, R352). -/
def execHbmZeroComplete (s : State) : Res :=
  if s.hbm.placed && !s.hbm.zeroed then .next (s.onHbm (fun x => { x with mem := [], poison := [], zeroed := true }))
  else .next s

end Sys2Proof.Machine
end

