-- ==== Sys2Proof/Machine/Photonics.lean ====
section
/-! DEFINITION. The photonics: emitters, service slots, loss of light, probing and training (R249 to R274). -/

namespace Sys2Proof.Machine

/-! ### Emitters (R251 to R256) -/

/-- R252, R253, R255: a rise to SWAP asks for the spare: a wavelength whose spare is FAILED is retired. -/
def State.wantSpare (s : State) (bank e : Nat) : State :=
  if e < 32 && (s.emitter bank (e ^^^ 1)).st = .failed then s.retireWl bank (e / 2) else s

/-- R254: a channel that is out is switched to the spare of its emitter. -/
def State.switchOver (s : State) (k : Nat) : State :=
  (s.onOwner (chanOwner k) (fun w => { w with swaps := w.swaps.filter (fun x => x != k) })).onChan k (fun c => { c with selB := !c.selB })

/-- R254: at URGENT every channel of the emitter below 0.5 dB is taken out at once, and stays out until the spare is hot; where it is
hot already, the channel is switched. -/
def State.drainUrgent (s : State) (bank e : Nat) : State :=
  let hot := (s.emitter bank (e ^^^ 1)).st = .spareHot
  (s.fedBy bank e).foldl (fun s k =>
    if !(s.chanOk k && (s.chan k).margin < 5) then s
    else
      let s := s.immediate k
      if !(s.owner (chanOwner k)).running.any (fun x => x.chan == k && x.kind == .immediate) then s
      else if hot then s.switchOver k
      else s.onFloe (fun f => { f with drained := NSet.add k f.drained })) s

/-- EMITTER_SAMPLE: bias and slope efficiency every 1 s, or the margin every 10 ms, are measured, with the margins of
channels as the device's own receivers measured them; the fade state of an active emitter rises (R251, R252, R254). -/
def execEmitterSample (bank : BitVec 2) (em : BitVec 6) (meas : Option (Nat × Nat)) (margins : List (Nat × Int))
    (s : State) : Res :=
  let b := bank.toNat
  let e := em.toNat
  if 34 ≤ e then .next s
  else
    let s := (margins.filter (fun m => 512 ≤ m.1 && m.1 < 3584)).foldl (fun s m => s.onChan m.1 (fun c => { c with margin := m.2 })) s
    let s := s.onEmitter b e (fun x => match meas with
      | some (bias, slope) => { x with bias := bias, slope := slope, known := true, margin := s.emitMargin b e }
      | none => { x with margin := s.emitMargin b e })
    let x := s.emitter b e
    let up : Fade := if x.st = .active && x.fade.code < x.condition.code then x.condition else x.fade
    let s := s.onEmitter b e (fun x => { x with fade := up })
    let s := if meas.isSome then s.onFloe (fun f => { f with emitPub := SMap.set 0 f.emitPub (emKey b e) (s.emitWord b e) }) else s
    if x.st != .active then .next s
    else
      let s := if (x.fade = .none && x.advised) || s.armed (emitUnit b e) 0x30 then
          s.raise' { unit := emitUnit b e, cause := 0x30, cls := .ce, detail := (s.emitWord b e).setWidth 64 }
        else s
      let s := if x.fade.code < 2 && 2 ≤ up.code then s.wantSpare b e else s
      .next (if up = .urgent then s.drainUrgent b e else s)

/-- EMITTER_SPARE_LOCKED: the spare of an emitter at SWAP or URGENT is hot and locked: channels held out return on it, and
the others wait for swap slots (R253, R254). -/
def execEmitterSpareLocked (bank : BitVec 2) (spare : BitVec 6) (s : State) : Res :=
  let b := bank.toNat
  let e := spare.toNat ^^^ 1
  if 34 ≤ e || (s.emitter b spare.toNat).st != .spare || (s.emitter b e).st != .active || (s.emitter b e).fade.code < 2 then .next s
  else
    let s := s.onEmitter b spare.toNat (fun x => { x with st := .spareHot })
    if 32 ≤ e then .next s
    else
      let held := fun (k : Nat) => s.floe.drained.contains k
      let back := (s.fedBy b e).filter held
      let rest := (s.fedBy b e).filter (fun k => !held k)
      let s := s.onFloe (fun f => { f with drained := f.drained.filter (fun k => !back.contains k) })
      let s := back.foldl (fun s k =>
        ((s.onOwner (chanOwner k) (fun w => { w with running := w.running.filter (fun x => x.chan != k) })).switchOver k).settle k) s
      .next (rest.foldl (fun s k => s.onOwner (chanOwner k) (fun w => { w with swaps := w.swaps ++ [k] })) s)

/-- R272 step 1: the notice that a slot of an owner needs has been sent: one on a port that is UP needs it. -/
def State.hasNotice (s : State) (o : Nat) (k : SlotKind) : Bool := 16 ≤ o || !s.portUp o || (s.owner o).noticed == some k

/-- SWAP_SLOT: an owner with channels to move starts the swap slot of the next one, of which the far end of a port has had notice: it
is drained, its selector ring changes to the spare, and its modulator relocks (R253, R272). -/
def execSwapSlot (owner : BitVec 5) (s : State) : Res :=
  let o := owner.toNat
  match (s.owner o).swaps with
  | [] => .next s
  | k :: rest =>
    if (s.owner o).running.any Slot.single || !s.hasNotice o .swap then .next s
    else if (s.owner o).running.any (fun x => x.chan == k) then .next s
    else
      let s := s.onOwner o (fun w => { w with swaps := rest, noticed := none, running := w.running ++ [⟨.swap, k, s.now⟩] })
      .next ((s.onChan k (fun c => { c with active := false, selB := !c.selB })).laneCheck k)

/-- EMITTER_SWAP_COMPLETE: every channel of an emitter has moved: it is FAILED, and its spare is active at the bias of the swap (R253,
R593). -/
def execEmitterSwapComplete (bank : BitVec 2) (em : BitVec 6) (s : State) : Res :=
  let b := bank.toNat
  let e := em.toNat
  let moving := fun (k : Nat) =>
    (s.owner (chanOwner k)).running.any (fun x => x.chan == k && x.kind == .swap) || (s.owner (chanOwner k)).swaps.contains k
  if 34 ≤ e || (s.emitter b e).st != .active || (s.emitter b (e ^^^ 1)).st != .spareHot || (s.emitter b e).fade.code < 2 then .next s
  else if e < 32 && (!(s.fedBy b e).isEmpty || (s.bankChans b (e / 2)).any moving) then .next s
  else
    let s := s.onEmitter b e (fun x => { x with st := .failed, margin := 0xFF })
    let s := s.onEmitter b (e ^^^ 1) (fun x => { x with st := .active, target := x.bias })
    let s := s.onEmitter b (e ^^^ 1) (fun x => { x with margin := s.emitMargin b (e ^^^ 1) })
    let s := s.onFloe (fun x => { x with swaps := satInc x.swaps })
    .next (s.raise' { unit := emitUnit b (e ^^^ 1), cause := 0x31, cls := .ce, detail := (s.emitWord b e).setWidth 64 })

/-- SERVICE_EMITTER_FAIL: the active λS emitter of a bank fails: its hot spare takes over, or every port of the tile goes
DOWN and stays so until the next THAW (R256). -/
def execServiceEmitterFail (bank : BitVec 2) (s : State) : Res :=
  let b := bank.toNat
  let act := if (s.emitter b 32).st = .active then 32 else 33
  let spare := act ^^^ 1
  if (s.emitter b act).st != .active then .next s
  else
    let s := s.onEmitter b act (fun x => { x with st := .failed })
    if (s.emitter b spare).st = .failed then
      let s := ([0, 1, 2, 3] : List Nat).foldl (fun s q =>
        let s := if s.portDisabled (4 * b + q) then s else s.portDown (BitVec.ofNat 4 (4 * b + q)) .down
        s.onPho (4 * b + q) (fun p => { p with
          wired := false, a := { p.a with probing := false, heard := false }, b := { p.b with probing := false, heard := false } })) s
      .next (s.raise' { unit := emitUnit b act, cause := 0x33, cls := .uc })
    else .next (s.onEmitter b spare (fun x => { x with st := .active, target := x.bias }))

/-! ### Slots (R249, R271 to R274, R587) -/

/-- RING_TRACKING_ERROR: a ring is off its channel by more than 4 GHz: the transmitting end takes the channel out; a
receiving end of a port asks the far end to (R249, R273). `rx` names a receive filter of a port. -/
def execRingTrackingError (chan : Nat) (rx : Bool) (s : State) : Res :=
  let s := s.onFloe (fun x => { x with trackEvents := satInc x.trackEvents })
  if rx && chan < 512 then .next (s.phoSend (chan / 32) (s.svcB (chan / 32)) 0x21 (.request (BitVec.ofNat 5 chan) true))
  else .next (s.immediate chan)

/-- The channels of an owner in the order of its next slots: those to be recalibrated, then its sweep (R271, R272). -/
def State.slotOrder (s : State) (o : Nat) : List Nat :=
  let n := ownerSize o
  let sweep := (List.range n).map (fun i => chanAt o (((s.owner o).next + i) % n))
  (sweep.filter (fun k => (s.chan k).retry) ++ sweep).filter (fun k => !s.gateShut k)

/-- R253, R271, R274: an owner may start a scheduled slot. -/
def State.slotFree (s : State) (o : Nat) : Bool :=
  !(RF.at s.floe.pause (BitVec.ofNat 2 (ownerTile o))) && !(s.owner o).running.any Slot.single && (s.owner o).swaps.isEmpty &&
  s.floe.en && o < 28

/-- SERVICE_SLOT_START: an owner starts a scheduled slot on its next channel, of which the far end of a port has had
notice (R271, R272). -/
def execServiceSlotStart (owner : BitVec 5) (s : State) : Res :=
  let o := owner.toNat
  if !s.slotFree o || !s.hasNotice o .scheduled then .next s
  else match s.slotOrder o with
  | [] => .next s
  | k :: _ =>
    if (s.owner o).running.any (fun x => x.chan == k) then .next s
    else
      let s := (s.land (dk 0x3000 4)).onOwner o (fun w => { w with
        noticed := none, running := w.running ++ [⟨.scheduled, k, s.now⟩]
        next := if (s.chan k).retry then w.next else chanPlace k })
      .next ((s.onChan k (fun c => { c with active := false, retry := false })).laneCheck k)

/-- R272, R253: the slot of which an owner gives notice next: the swap slots go ahead of the sweep. -/
def State.nextSlot (s : State) (o : Nat) : Option (SlotKind × Nat) :=
  match (s.owner o).swaps with
  | k :: _ => some (.swap, k)
  | [] => if s.slotFree o then (s.slotOrder o).head?.map (fun k => (.scheduled, k)) else none

/-- SLOT_NOTICE: the transmitting end of a port gives notice of its next slot, to start at `start`; or the receiving end
learns of one (R272). -/
def execSlotNotice (ev : NoticeEv) (s : State) : Res :=
  match ev with
  | .sent q start =>
    let o := q.toNat
    if !s.portUp o then .next s
    else match s.nextSlot o with
    | none => .next s
    | some (kind, k) =>
      .next ((s.onOwner o (fun w => { w with noticed := some kind })).phoSend o (s.svcB o) 0x20 (.notice (BitVec.ofNat 5 k) kind start))
  | .heard h chan kind start =>
    s.onSvc h 0x20 [] (fun s => s.onFloe (fun x => { x with
      peerSlots := x.peerSlots.filter (fun y => y.chan / 32 != h.port.toNat) ++ [⟨kind, 32 * h.port.toNat + chan.toNat, start⟩] }))

/-- The running slot of a channel. -/
def State.chanSlot (s : State) (k : Nat) : Option Slot := (s.owner (chanOwner k)).running.find? (fun x => x.chan == k)

/-- R272, R587: the new values of the rings of a slot, by calibration item and element, are compared with those in use; what the
elements held is kept in case the slot is abandoned. Whether one is rejected. -/
def State.judgeSlot (s : State) (chan : Nat) (vals : List (Nat × Nat × CalRun)) : State × Bool :=
  let vals := vals.filter (fun v => v.1 = 6 || v.1 = 7)
  let old := vals.map (fun v => (elemKey v.1 v.2.1, s.calElem (elemKey v.1 v.2.1)))
  vals.foldl (fun (a : State × Bool) v =>
    let (s, r) := a.1.judgeValue v.1 (elemKey v.1 v.2.1) v.2.2
    (s, a.2 || r)) (s.onCal (fun c => { c with slotOld := c.slotOld.filter (fun p => p.1 != chan) ++ [(chan, old)] }), false)

/-- SERVICE_SLOT_JUDGE: at S + 180 µs the new values of a slot are judged; a rejected one is calibrated again in the channel's next
slot, and a pending move of the selector ring has been made (R272, R587). The receiving end of a port judges its own values in the
slot of which it had notice (`rx`). -/
def execServiceSlotJudge (chan : Nat) (rx : Bool) (vals : List (Nat × Nat × CalRun)) (margin : Int) (s : State) : Res :=
  if rx then
    match s.floe.peerSlots.find? (fun x => x.chan == chan) with
    | none => .next s
    | some x => .next (if x.kind = .swap then s else (s.judgeSlot (4096 + chan) vals).1)
  else match s.chanSlot chan with
  | none => .next s
  | some x =>
    if x.kind = .swap then .next s
    else
      let (s, again) := s.judgeSlot chan vals
      let s := if (s.owner (chanOwner chan)).swaps.contains chan then s.switchOver chan else s
      .next (s.onChan chan (fun c => { c with retry := again, margin := margin }))

/-- SERVICE_SLOT_END: at S + 200 µs the channel's ACTIVE bit is set again, and the sweep goes on; the values that it settled stay
(R272, R274). A channel that was drained stays out (R254). At the receiving end (`rx`) the slot is over. -/
def execServiceSlotEnd (chan : Nat) (rx : Bool) (s : State) : Res :=
  if rx then
    .next ((s.onCal (fun c => { c with slotOld := c.slotOld.filter (fun p => p.1 != 4096 + chan) })).onFloe (fun x => { x with
      peerSlots := x.peerSlots.filter (fun y => y.chan != chan) }))
  else match s.chanSlot chan with
  | none => .next s
  | some x =>
    if x.kind = .immediate && s.floe.drained.contains chan then .next s
    else
      let o := chanOwner chan
      let s := (s.onCal (fun c => { c with slotOld := c.slotOld.filter (fun p => p.1 != chan) })).onOwner o (fun w => { w with
        running := w.running.filter (fun y => y != x)
        next := if x.kind = .scheduled && chanPlace chan = w.next then (w.next + 1) % ownerSize o else w.next })
      .next (s.settle chan)

/-- SLOT_REQUEST: the far end of a port asks for an immediate slot on a channel (R273). -/
def execSlotRequest (h : SvcHdr) (chan : BitVec 5) (s : State) : Res :=
  s.onSvc h 0x21 [] (fun s => s.immediate (32 * h.port.toNat + chan.toNat))

/-- MARGIN_REPORT: the far end reports the margins of channels that this device transmits, of which one below 0.5 dB is
taken out; or this device reports those that it receives on a fibre, in step 5 of training too, and on a port that is UP asks for a
slot where one is below 0.5 dB (R251, R264, R273). -/
def execMarginReport (ev : MarginEv) (s : State) : Res :=
  match ev with
  | .heard h ms =>
    s.onSvc h 0x22 [] (fun s => ms.foldl (fun s m =>
      let k := 32 * h.port.toNat + m.1.toNat
      let s := s.onChan k (fun c => { c with margin := m.2 })
      if m.2 < 5 && s.portUp h.port.toNat && s.chanOk k && (s.chan k).active then s.immediate k else s) s)
  | .sent q ms =>
    let o := q.toNat
    if !(s.portUp o || (s.portSt o = .training && (s.phoPort o).wired)) then .next s
    else
      let s := s.phoSend o (s.svcB o) 0x22 (.margins ms)
      .next (if !s.portUp o then s else (ms.filter (fun m => m.2 < 5)).foldl (fun s m => s.phoSend o (s.svcB o) 0x21 (.request m.1 false)) s)

/-! ### Probing, identity and training (R264, R265, R269) -/

/-- R269, R270: an end answers PROBE, except one whose gates LSR_INTLK_N, ICEBOUND or PORT_DISABLE holds closed, or that is in COLD. -/
def State.mayHear (s : State) (q : Nat) : Bool :=
  !s.floe.intlk && s.pkg.dev != .icebound && s.pkg.dev != .cold && !s.portDisabled q && !s.lambdaLost (q / 4)

def State.sendProbe (s : State) (q : Nat) (b heard : Bool) : State :=
  s.phoSend q b 0x01 (.probe s.fab.devid (BitVec.ofNat 4 q) b heard (!((s.phoPort q).fibre b).gate))

/-- PROBE_BURST: a fibre that probes sends its burst (R267, R269, R270). -/
def execProbeBurst (port : BitVec 4) (fibreB : Bool) (s : State) : Res :=
  let q := port.toNat
  if ((s.phoPort q).fibre fibreB).probing && s.pkg.dev != .icebound && s.pkg.dev != .cold then .next (s.sendProbe q fibreB false)
  else .next s

/-- R264, R266: both fibres of a port have heard HEARD: training starts, and a port that is UP on one fibre trains anew on both. -/
def State.startTraining (s : State) (q : Nat) : State :=
  let quiet := fun (f : Fibre) => { f with probing := false, heard := false, ident := none }
  let s := if s.portUp q then s.portDown (BitVec.ofNat 4 q) .down else s
  (s.onPho q (fun p => { p with st := .training, wired := false, a := quiet p.a, b := quiet p.b })).sendIdent q

/-- PROBE: a burst that is heard is answered with HEARD; an end that has received HEARD on both fibres starts training
(R264, R269). -/
def execProbe (h : SvcHdr) (heard : Bool) (s : State) : Res :=
  s.onSvc h 0x01 [] (fun s =>
    let q := h.port.toNat
    let s := if s.mayHear q then s.sendProbe q h.fibreB true else s
    if heard && ((s.phoPort q).fibre h.fibreB).probing && s.mayHear q then
      let s := s.onPho q (fun p => p.onFibre h.fibreB (fun f => { f with heard := true }))
      if (s.phoPort q).a.heard && (s.phoPort q).b.heard then s.startTraining q else s
    else s)

/-- R265, R292, R318: what an IDENT shows of the wiring of its port: UP to here, MISWIRED or CROSSED. -/
def State.wiringOf (s : State) (q : Nat) (rxB : Bool) (dev : BitVec 6) (port : BitVec 4) (fibreB : Bool) (dom : Byte) : PortSt :=
  let right := match wiring s.shape s.devid q with
    | some (d, p) => inShape s.shape s.devid && d == dev.toNat && p == port.toNat
    | none => dom != s.fab.domain
  if !right then .miswired else if rxB != fibreB then .crossed else .training

/-- R265: what the IDENTs of both fibres show: MISWIRED before CROSSED before right; none while one is missing. -/
def Port.verdict (p : Port) : Option PortSt :=
  let bad := fun (x : PortSt) => p.a.ident = some x || p.b.ident = some x
  if bad .miswired then some .miswired else if bad .crossed then some .crossed
  else if p.a.ident.isSome && p.b.ident.isSome then some .training else none

/-- IDENT: at step 2 the peer's identity on each fibre is checked against the wiring tables; a port that passes on both opens its
launch gates, and one that fails is MISWIRED or CROSSED, with one CE record, and what waits for it chooses again (R264, R265, R301,
R318). -/
def execIdent (h : SvcHdr) (dev : BitVec 6) (port : BitVec 4) (fibreB : Bool) (dom : Byte) (s : State) : Res :=
  s.onSvc h 0x02 [] (fun s =>
    let q := h.port.toNat
    let was := s.portSt q
    if was = .training || was = .miswired || was = .crossed then
      let st := s.wiringOf q h.fibreB dev port fibreB dom
      let s := s.onPho q (fun p => { p with peerDev := dev, peerPort := port, peerDom := dom }.onFibre h.fibreB
        (fun f => { f with ident := some st }))
      match (s.phoPort q).verdict with
      | none => s
      | some st =>
        let s := s.onPho q (fun p => { p with st := st, wired := st = .training })
        let u := unitCode 6 (q / 4) (q % 4)
        let report := fun (s : State) => s.raise' { unit := u, cause := 0x34, cls := .ce, detail := (s.portWord q).setWidth 64 }
        let new := (st != .training && st != was) || s.armed u 0x34
        let s := if st = .training then (s.setGate q false false).setGate q true false
          else ((s.setGate q false true).setGate q true true).retryWaiting
        if new then report s else s
    else s)

/-- WIRING_RECHECK: every 10 s, while λS is heard, a MISWIRED or CROSSED port exchanges IDENT again (R265). -/
def execWiringRecheck (port : BitVec 4) (s : State) : Res :=
  let q := port.toNat
  let st := s.portSt q
  let p := s.phoPort q
  if (st = .miswired || st = .crossed) && !(p.a.lost && p.b.lost) then
    .next ((s.onPho q (fun p => { p with a := { p.a with ident := none }, b := { p.b with ident := none } })).sendIdent q)
  else .next s

/-- R307: after training, at both ends every occupancy is 0 and S is the first FLIT_SEQ, which is 0 (log entry 157); packets received
before stay to be served. -/
def FabPort.fresh (f : FabPort) : FabPort :=
  { f with
    tx := TxCredit.reset, frm := TxFrames.reset, creditIn := [], s := 0, occ := RF.all 2 0, reported := RF.all 2 0
    before := Vector.ofFn (fun i : Fin (2 ^ 2) => (RF.at f.inq (BitVec.ofNat 2 i.val)).length) }

/-- LINK_TRAINING_COMPLETE: channels at 0.5 dB or more are active, the others stay out, and the port is UP (R264). `sites`
are the receive sites that found no candidate, by channel. -/
def execLinkTrainingComplete (port : BitVec 4) (margins : List (BitVec 5 × Int)) (sites : List (BitVec 5)) (s : State) : Res :=
  let q := port.toNat
  if s.portSt q != .training || !(s.phoPort q).wired || s.floe.intlk then .next s
  else
    let s := (List.range 32).foldl (fun s i =>
      let k := 32 * q + i
      let m := (margins.find? (fun x => x.1.toNat == i)).map (·.2)
      let ok := !(s.calElem (elemKey 6 k)).degraded && (match m with | some v => 5 ≤ v | none => false)
      (s.onChan k (fun c => { c with ok := ok, retry := false, margin := m.getD c.margin })).settle k) s
    let s := (List.range 32).foldl (fun s i =>
      s.onElem (elemKey 6 (4096 + 32 * q + i)) (fun e => { e with degraded := sites.any (fun x => x.toNat == i) })) s
    let up := fun (f : Fibre) => { f with gate := false, closing := false, lost := false, los := false, probing := false, heard := false, ident := none }
    let s := s.onPho q (fun p => { p with st := .up, a := up p.a, b := up p.b })
    let s := (s.onPort port FabPort.fresh).onRx port (fun _ => { RxStream.reset with synced := true })
    let s := s.onFloe (fun x => { x with
      rxActive := x.rxActive.filter (fun p => p.1 / 4 != q), rxReleased := x.rxReleased.filter (fun k => k / 4 != q)
      bound := x.bound.filter (fun b => b.port != port) })
    let s := s.setOuter q (s.phoPort q).peerDom ((s.phoPort q).peerDev.setWidth 8)
    let s := match wiring s.shape s.devid q with
      | some (d, _) => s.onFab (fun f => { f with silent := NSet.del d f.silent, silentDown := NSet.del d f.silentDown })
      | none => s
    let s := s.onFloe (fun x => { x with lostMoves := x.lostMoves.filter (fun m => m.1 / 2 != q) })
    .next s.retryWaiting

end Sys2Proof.Machine
end

