-- ==== Sys2Proof/Machine/Steer.lean ====
section
/-! DEFINITION. Steering of groups between ports, and loss of light on a fibre (R267, R268, R278 to R285). -/

namespace Sys2Proof.Machine

/-! ### Steer sets (R278 to R280) -/

def setByte (a : RF 5 Byte) (g : Nat) : Byte := RF.at a (BitVec.ofNat 5 g)
def litIn (a : RF 5 Byte) (g : Nat) : Bool := (setByte a g).getLsbD 7

/-- R279, first and second bullets: reserved bits are 0, no slot is named twice, and no port has more than 4 groups. -/
def setWellFormed (a : RF 5 Byte) : Bool :=
  let lit := (List.range 32).filter (litIn a)
  (List.range 32).all (fun g => !(setByte a g).getLsbD 5 && !(setByte a g).getLsbD 6) &&
  lit.all (fun g => lit.all (fun h => g == h || g % 2 != h % 2 || setByte a g != setByte a h)) &&
  (List.range 16).all (fun p => (lit.filter (fun g => (setByte a g).toNat % 16 == p)).length ≤ 4)

/-- R279, third bullet: the FAB passages of every pair of tiles suffice. -/
def State.setFits (s : State) (a : RF 5 Byte) : Bool :=
  directions.all (fun d =>
    let out := groupsVia a d.1 d.2
    let f := s.fabCountOf d.1 d.2
    (out.filter (fun g => g % 2 == 0)).length ≤ f && (out.filter (fun g => g % 2 == 1)).length ≤ f &&
    out.length + (groupsVia a d.2 d.1).length ≤ 2 * f)

/-- What a steer leaves in force, as far as is known now: its decision, or its set. -/
def Steer.after (t : Steer) : RF 5 Byte := t.decided.getD t.set

/-- R280: the assignment that will be in force just before a fabric time. -/
def State.assignBefore (s : State) (t : W64) : RF 5 Byte :=
  ((s.floe.steers.filter (fun x => serBefore x.time t)).getLast?.map Steer.after).getD s.floe.inForce

/-- The ports whose groups differ between two assignments. -/
def changedPorts (a b : RF 5 Byte) : List Nat :=
  (List.range 16).filter (fun p => (List.range 32).any (fun g =>
    let on := fun (x : RF 5 Byte) => litIn x g && (setByte x g).toNat % 16 == p
    (on a || on b) && setByte a g != setByte b g))

/-- The group-to-slot list of a port under an assignment. -/
def portList (a : RF 5 Byte) (p : Nat) : List (BitVec 5 × Byte) :=
  ((List.range 32).filter (fun g => litIn a g && (setByte a g).toNat % 16 == p)).map (fun g => (BitVec.ofNat 5 g, setByte a g))

/-- The next generation to propose under. -/
def State.newSteerGen (s : State) : W32 :=
  (s.floe.steers.foldl (fun g t => if serBefore g t.gen then t.gen else g) s.floe.steerGen) + 1

/-- R281: queue a steer in the order of T, and propose it to the peers of the ports whose groups change. -/
def State.proposeSteer (s : State) (set : RF 5 Byte) (t : W64) (src : SteerSrc) (internal : Bool) (num : BitVec 3 := 0) : State :=
  let gen := s.newSteerGen
  let asked := (changedPorts (s.assignBefore t) set).filter s.portUp
  let x : Steer := { set := set, time := t, gen := gen, src := src, num := num, asked := asked, answers := [], decided := none,
                     outcome := [], internal := internal, fallen := [] }
  let s := s.onFloe (fun f => { f with
    steers := f.steers.filter (fun y => serBefore y.time t) ++ x :: f.steers.filter (fun y => !serBefore y.time t) })
  asked.foldl (fun s p => s.phoSend p (s.svcB p) 0x10 (.propose gen t (portList set p))) s

/-- R280, R386: the result code of a request. -/
def State.steerCode (s : State) (set : RF 5 Byte) (t : W64) : Byte :=
  let own := s.floe.steers.filter (fun x => !x.internal)
  if !setWellFormed set then 1
  else if !s.setFits set then 2
  else if s.clk.ftState = .unset || serBefore t (s.ftime + BitVec.ofNat 64 (usU 50)) then 3
  else if 4 ≤ own.length || own.any (fun x => serBefore t (x.time + BitVec.ofNat 64 (usU 2))) then 4
  else 0

/-- R280: the result of a request, as PHO_STEER_RESULT and PHO_STEER_CMD show it. -/
def State.steerResult (s : State) (src : SteerSrc) (code : Byte) (ports : SMap Nat) : State :=
  s.onFloe (fun f => { f with
    steerRes := code, steerPorts := ports, cmdResult := if src = .register then code else f.cmdResult })

/-- R287: after another request from PHO_STEER_CMD, RESULT no longer follows an earlier one. -/
def State.ageSteers (s : State) (src : SteerSrc) : State :=
  if src != .register then s
  else s.onFloe (fun f => { f with steers := f.steers.map (fun x => if x.src = .register then { x with src := .registerOld } else x) })

/-- R280: a request for a steer of set `n` at `t`; whether it was taken. -/
def State.requestSteer (s : State) (n : BitVec 3) (t : W64) (src : SteerSrc) : Bool × State :=
  let s := s.ageSteers src
  let set := if n = 0 then defaultSet else RF.at s.floe.sets n
  let code := s.steerCode set t
  if code = 0 then (true, s.proposeSteer set t src false n) else (false, s.steerResult src code [])

/-- A write of PHO_STEER_GO: a value of 8 or more is refused (R286). -/
def State.steerGo (s : State) (v : Nat) : Bool × State :=
  if 8 ≤ v then (false, s)
  else
    let s := s.land (dk 0x3000 6)
    (true, (s.requestSteer (BitVec.ofNat 3 v) s.floe.steerTime .dictionary).2)

/-! ### Agreement and movement (R281, R282, R285) -/

/-- R281: a receive site that a proposal names has failed. -/
def State.siteFailed (s : State) (q : Nat) (groups : List (BitVec 5 × Byte)) : Bool :=
  groups.any (fun g => (slotChans g.1.toNat g.2).any (fun k => (s.calElem (elemKey 6 (4096 + 32 * q + k % 32))).degraded))

/-- R281: a receive fibre that a proposal names is down. -/
def State.rxDown (s : State) (q : Nat) (groups : List (BitVec 5 × Byte)) : Bool :=
  groups.any (fun g => ((s.phoPort q).fibre (g.2.getLsbD 4)).los)

/-- STEER_PROPOSE: a peer answers ACCEPT, which binds it to act at T, or REFUSE with a cause: 1 late, 2 a failed receive site, 3 a
receive fibre that is down (R281, log entry 39). -/
def execSteerPropose (h : SvcHdr) (gen : W32) (t : W64) (groups : List (BitVec 5 × Byte)) (s : State) : Res :=
  s.onSvc h 0x10 [] (fun s =>
    let q := h.port.toNat
    let cause : Byte :=
      if s.clk.ftState = .unset || serBefore (t - BitVec.ofNat 64 (usU 30)) s.ftime then 1
      else if s.siteFailed q groups then 2
      else if s.rxDown q groups then 3
      else 0
    let s := if cause = 0 then s.onFloe (fun f => { f with
        bound := f.bound.filter (fun b => b.port != h.port || b.gen != gen) ++ [⟨h.port, gen, t, groups⟩] }) else s
    s.phoSend q (s.svcB q) 0x11 (.answer gen (cause = 0) cause))

/-- STEER_ANSWER: the answer of a peer is held with its steer (R281). -/
def execSteerAnswer (h : SvcHdr) (gen : W32) (accept : Bool) (s : State) : Res :=
  s.onSvc h 0x11 [] (fun s => s.onFloe (fun f => { f with
    steers := f.steers.map (fun x =>
      if x.gen = gen && x.decided.isNone && x.asked.contains h.port.toNat then
        { x with answers := SMap.set none x.answers h.port.toNat (some accept) }
      else x) }))

/-- R281: what will hold after T: where each group goes, from where it was. -/
def Steer.decide (t : Steer) (before : RF 5 Byte) : RF 5 Byte :=
  let changed := changedPorts before t.set
  let yes := fun (p : Nat) => !changed.contains p || SMap.get none t.answers p == some true
  Vector.ofFn (fun g : Fin (2 ^ 5) =>
    let old := setByte before g.val
    let new := setByte t.set g.val
    if old = new then old
    else if old.getLsbD 7 && !yes (old.toNat % 16) then old
    else if new.getLsbD 7 && !yes (new.toNat % 16) then 0
    else new)

/-- R281: a port's outcome: 0 UNCHANGED, 1 STEERED, 2 PEER_REFUSED, 3 PEER_SILENT, 4 PORT_DOWN. -/
def State.portOutcome (s : State) (t : Steer) (before : RF 5 Byte) (p : Nat) : Nat :=
  if !(changedPorts before t.set).contains p then 0
  else if !s.portUp p then 4
  else match SMap.get none t.answers p with
    | some true => 1
    | some false => 2
    | none => 3

/-- STEER_DECIDE: at T - 20 µs the outcome of the earliest undecided steer is decided from the answers held (R281). -/
def execSteerDecide (s : State) : Res :=
  match s.floe.steers.find? (fun x => x.decided.isNone) with
  | none => .next s
  | some t =>
    let before := s.assignBefore t.time
    let out := (List.range 16).foldl (fun m p => SMap.set 0 m p (s.portOutcome t before p)) []
    let s := s.onFloe (fun f => { f with
      steers := f.steers.map (fun x =>
        if x.gen = t.gen then { x with decided := some (t.decide before), outcome := out } else x) })
    .next (if t.internal then s else s.steerResult t.src 0 out)

/-- R250: whether a bank's active emitter of a wavelength is B. -/
def State.activeSel (s : State) (bank n : Nat) : Bool := (s.emitter bank (2 * n + 1)).st = .active && (s.emitter bank (2 * n)).st != .active

/-- R253: a channel waits for a swap slot: its emitter is to be replaced, and the spare is hot. -/
def State.needsSwap (s : State) (k : Nat) : Bool :=
  let b := s.chanBank k
  let e := s.chanEmitter k
  (s.emitter b e).st = .active && 2 ≤ (s.emitter b e).fade.code && (s.emitter b (e ^^^ 1)).st = .spareHot

/-- R250, R253, R285: after a steer a channel position is fed by the tile that its group, or a dark position, takes it from; a group
keeps its selectors, and a channel whose emitter is being swapped waits for a swap slot of its new owner. -/
def State.reselect (s : State) (k : Nat) (sel : Option Bool) : State :=
  let s := s.onChan k (fun c => { c with selB := sel.getD (s.activeSel (s.chanBank k) (chanWl k)) })
  let s := s.onOwner (chanOwner k) (fun w => { w with
    swaps := w.swaps.filter (fun x => x != k) ++ (if s.needsSwap k then [k] else []) })
  s.settle k

/-- The earliest proposal of a peer that this device is bound to. -/
def Floe.nextBound (f : Floe) : Option Bound :=
  f.bound.foldl (fun (b : Option Bound) x => match b with
    | none => some x
    | some y => if serBefore x.time y.time then some x else some y) none

/-- R281: this device acts at T on a proposal of a peer that it accepted: the groups of the link are received in their new slots, and
slots of the peer on the channels that change are over. -/
def State.applyBound (s : State) (b : Bound) : State :=
  let q := b.port.toNat
  let old := SMap.get [] s.floe.rxGroups q
  let moved := (old.filter (fun g => !b.groups.contains g)) ++ (b.groups.filter (fun g => !old.contains g))
  let chans := moved.flatMap (fun g => slotChans g.1.toNat g.2)
  s.onFloe (fun f => { f with
    bound := f.bound.filter (fun x => x != b), rxGroups := SMap.set [] f.rxGroups q b.groups
    peerSlots := f.peerSlots.filter (fun y => !chans.contains y.chan) })

/-- R281, R282, R285: at T a decided steer takes effect: slots on the channels of moving groups are abandoned, groups for a port that
is DOWN or went DOWN after the agreement are unlit, END leaves on the old slots, the groups retune and send TRAIN in the new ones, and
the steer generation increments. -/
def State.applySteer (s : State) (t : Steer) (rest : List Steer) (d : RF 5 Byte) : State :=
  let old := s.floe.inForce
  let moved := (List.range 32).filter (fun g => setByte old g != setByte d g)
  let goal := fun (g : Nat) =>
    let b := setByte d g
    let p := b.toNat % 16
    if moved.contains g && b.getLsbD 7 && (!s.portUp p || t.fallen.contains p) then (0 : Byte) else b
  let left := moved.filter (litIn old)
  let lit := moved.filter (fun g => (goal g).getLsbD 7)
  let chans := left.flatMap (fun g => slotChans g (setByte old g))
  let s := s.abandonOn (fun k => chans.contains k)
  let s := left.foldl (fun s g => if s.portUp ((setByte old g).toNat % 16) then s.groupFrame g (setByte old g) 1 else s) s
  let sels := lit.flatMap (fun g =>
    (slotChans g (goal g)).zip ((slotChans g (setByte old g)).map (fun k => if litIn old g then some (s.chan k).selB else none)))
  let dark := chans.filter (fun k => !(sels.map (·.1)).contains k)
  let s := s.onFloe (fun f => { f with
    steers := rest, inForce := Vector.ofFn (fun g : Fin (2 ^ 5) => goal g.val), steerGen := f.steerGen + 1
    starting := lit.foldl (fun n g => NSet.add g n) f.starting })
  let s := (sels ++ dark.map (fun k => (k, none))).foldl (fun (s : State) (p : Nat × Option Bool) => s.reselect p.1 p.2) s
  lit.foldl (fun s g => s.groupFrame g (goal g) 4) s

/-- STEER_APPLY: at T the steer, of this device or accepted from a peer, that comes first takes effect (R281, R282, R285). -/
def execSteerApply (s : State) : Res :=
  match s.floe.steers, s.floe.nextBound with
  | [], none => .next s
  | [], some b => .next (s.applyBound b)
  | t :: rest, b =>
    match b.filter (fun b => serBefore b.time t.time) with
    | some b => .next (s.applyBound b)
    | none =>
      match t.decided with
      | none => .next s
      | some d => .next (s.applySteer t rest d)

/-- GROUP_START: at T + 1.8 µs a moved group sends START on its new port; a slot that waited for it runs (R282, R285). -/
def execGroupStart (group : BitVec 5) (s : State) : Res :=
  let g := group.toNat
  if !s.floe.starting.contains g then .next s
  else
    let ks := (slotChans g (s.groupByte g)).filter (fun k => s.floe.deferred.contains k)
    let s := s.onFloe (fun f => { f with starting := NSet.del g f.starting, deferred := f.deferred.filter (fun k => !ks.contains k) })
    let s := if s.groupLit g && s.portUp ((s.groupByte g).toNat % 16) then s.groupFrame g (s.groupByte g) 2 else s
    .next (ks.foldl (fun s k => s.immediate k) s)

/-! ### Loss of light (R266 to R268, R314) -/

/-- Light is lost on every fibre of every port to a device. -/
def State.silentOn (s : State) (d : Nat) : Bool :=
  (s.portsTo d).all (fun q => (s.phoPort q).a.lost && (s.phoPort q).b.lost)

/-- LIGHT_LOSS: a receive fibre has lost light for 1 µs and its channels have lost lock; where no fibre from a neighbour has
light, its silence begins (R267, R314). -/
def execLightLoss (port : BitVec 4) (fibreB : Bool) (s : State) : Res :=
  let q := port.toNat
  let s := s.onPho q (fun p => p.onFibre fibreB (fun f => { f with lost := true }))
  match wiring s.shape s.devid q with
  | some (d, _) =>
    .next (if s.silentOn d && !s.locallyLost d then s.onFab (fun f => { f with silent := NSet.add d f.silent }) else s)
  | none => .next s

/-- The groups of an assignment on one fibre of a port. -/
def onFibre (a : RF 5 Byte) (q : Nat) (b : Bool) : List Nat :=
  (List.range 32).filter (fun g => litIn a g && (setByte a g).toNat % 16 == q && (setByte a g).getLsbD 4 == b)

/-- R268: each group of a dead fibre moves to the free slot of its band on the live one, or is unlit. -/
def fibreMoves (a : RF 5 Byte) (q : Nat) (b : Bool) : RF 5 Byte :=
  (onFibre a q b).foldl (fun x g =>
    let dest : Byte := setByte a g ^^^ 0x10
    let taken := (onFibre x q (!b)).any (fun h => h % 2 == g % 2)
    RF.put x (BitVec.ofNat 5 g) (if taken then 0 else dest)) a

/-- FIBRE_DOWN: 10 µs into a loss of light the fibre is down: its groups move to the live fibre of the port at a time agreed
50 µs later, or with both fibres down the port is DOWN (R267, R268). -/
def execFibreDown (port : BitVec 4) (fibreB : Bool) (s : State) : Res :=
  let q := port.toNat
  if !((s.phoPort q).fibre fibreB).lost || ((s.phoPort q).fibre fibreB).los then .next s
  else
    let s := s.onPho q (fun p => p.onFibre fibreB (fun f => { f with los := true }))
    if !s.portUp q then .next s
    else if ((s.phoPort q).fibre (!fibreB)).los then
      .next (s.portDown port .down)
    else
      let t := s.ftime + BitVec.ofNat 64 (usU 50)
      let a := s.assignBefore t
      let gone := onFibre a q fibreB
      if gone.isEmpty then .next s
      else
        let s := s.onFloe (fun f => { f with
          lostMoves := f.lostMoves ++ gone.map (fun g => (2 * q + (if fibreB then 1 else 0), g, setByte a g)) })
        .next (s.proposeSteer (fibreMoves a q fibreB) t .dictionary true)

/-- LAUNCH_GATE_CLOSE: light has been lost, or no valid service message has come (`silent`), for 100 µs: the same-letter launch gate is
ordered to close, and slots on the fibre are abandoned (R266, R267, R274). -/
def execLaunchGateClose (port : BitVec 4) (fibreB silent : Bool) (s : State) : Res :=
  let q := port.toNat
  let f := (s.phoPort q).fibre fibreB
  if !(f.lost || silent) || f.gate then .next s
  else
    let s := s.onPho q (fun p => p.onFibre fibreB (fun f => { f with closing := true }))
    .next (s.abandonOn (fun k => k / 32 == q && k < 512 && (16 ≤ k % 32) == fibreB))

/-- LAUNCH_GATE_CLOSED: the gate is closed: PHO_EYE_REDUCED shows it, PHO_EYE_EVENTS counts, and the port probes until it has heard
HEARD on both fibres (R267, R269). -/
def execLaunchGateClosed (port : BitVec 4) (fibreB : Bool) (s : State) : Res :=
  let q := port.toNat
  if !((s.phoPort q).fibre fibreB).closing then .next s
  else
    let s := ((s.setGate q fibreB true).onFloe (fun f => { f with eyeEvents := satInc f.eyeEvents })).startProbing q
    .next (if s.portUp q && !((s.phoPort q).fibre (!fibreB)).gate then s else s.onPho q (fun p => { p with wired := false }))

/-- R268: the groups that left a fibre go back to their slots, where those are free. -/
def State.comeBack (s : State) (q : Nat) (b : Bool) : State :=
  let key := 2 * q + (if b then 1 else 0)
  let mine := s.floe.lostMoves.filter (fun m => m.1 == key)
  let s := s.onFloe (fun f => { f with lostMoves := f.lostMoves.filter (fun m => m.1 != key) })
  let t := s.ftime + BitVec.ofNat 64 (usU 50)
  let a := s.assignBefore t
  let back := mine.foldl (fun x m =>
    let (_, g, old) := m
    let here := setByte x g = old ^^^ 0x10 || !litIn x g
    let taken := (onFibre x q b).any (fun h => h % 2 == g % 2 && h != g)
    if here && !taken then RF.put x (BitVec.ofNat 5 g) old else x) a
  if mine.isEmpty || back = a then s else s.proposeSteer back t .dictionary true

/-- LIGHT_RETURN: light returns before the gate was ordered to close: the channels retrain, and the groups come back (R267). -/
def execLightReturn (port : BitVec 4) (fibreB : Bool) (s : State) : Res :=
  let q := port.toNat
  let f := (s.phoPort q).fibre fibreB
  if !f.lost || f.closing || f.gate then .next s
  else
    let s := s.onPho q (fun p => p.onFibre fibreB (fun f => { f with lost := false, los := false }))
    let s := match wiring s.shape s.devid q with
      | some (d, _) => s.onFab (fun f => { f with silent := NSet.del d f.silent, silentDown := NSet.del d f.silentDown })
      | none => s
    let s := if s.portSt q = .down && (s.phoPort q).wired then (s.onPho q (fun p => { p with st := .up })).retryWaiting else s
    .next (s.comeBack q fibreB)

end Sys2Proof.Machine
end

