-- ==== Sys2Proof/Machine/Clocks.lean ====
section
/-! DEFINITION. Clock domains, replica paths, frequency changes and fabric time (R368 to R393). -/

namespace Sys2Proof.Machine

def State.onClk (s : State) (f : Clk → Clk) : State := { s with clk := f s.clk }
def State.onPow (s : State) (f : Power → Power) : State := { s with pow := f s.pow }

/-! ### PLLs (R368, R371, R605) -/

def pxDomain : Nat := 21
def tbDomain : Nat := 23
def clkUnit (d : Nat) : W16 := unitCode 12 0 d

def State.pll (s : State) (d : Nat) : PllSt := SMap.get .off s.clk.plls d
def State.setPll (s : State) (d : Nat) (st : PllSt) : State :=
  s.onClk (fun c => { c with plls := SMap.set .off c.plls d st })

/-- R371, R612: the PCIe link goes down; the device keeps its state. -/
def State.linkDown (s : State) : State := { s with pins := { s.pins with pcieUp := false } }

/-- PLL_LOSS_OF_LOCK: a PLL loses lock and gates its clock; PX takes the PCIe link down; the retuning of a frequency change is no
loss (R371). -/
def execPllLossOfLock (d : BitVec 5) (s : State) : Res :=
  if 25 ≤ d.toNat || s.pll d.toNat != .locked || (d.toNat < 8 && s.clk.changing) then .next s
  else
    let s := s.setPll d.toNat .locking
    .next (if d.toNat = pxDomain then s.linkDown else s)

/-- PLL_RELOCK: a PLL regains lock after `ns`, a CE; it locks for the first time without one (R371). -/
def execPllRelock (d : BitVec 5) (ns : Nat) (s : State) : Res :=
  if 25 ≤ d.toNat then .next s
  else match s.pll d.toNat with
  | .off => .next (s.setPll d.toNat .locked)
  | .locking =>
    let s := s.setPll d.toNat .locked
    .next (if d.toNat = pxDomain then s
      else s.raise' { unit := clkUnit d.toNat, cause := 0x40, cls := .ce, detail := BitVec.ofNat 64 ns })
  | _ => .next s

/-- R371: a PLL that does not regain lock: an FE, but for PX. -/
def State.pllFailed (s : State) (d : Nat) : State :=
  let s := s.setPll d .failed
  if d = pxDomain then s.linkDown else s.raise' { unit := clkUnit d, cause := 0x41, cls := .fe }

/-- PLL_LOCK_TIMEOUT: 10 µs after its loss a PLL has not regained lock (R371). -/
def execPllLockTimeout (d : BitVec 5) (s : State) : Res :=
  if d.toNat < 25 && s.pll d.toNat = .locking then .next (s.pllFailed d.toNat) else .next s

/-- REFCLK_LOSS: a loss of REFCLK_SYS leads to the FE of R371, named for the first PLL that it feeds; a loss of REFCLK_PCIE
takes the PCIe link down (R605). -/
def execRefclkLoss (pcie : Bool) (s : State) : Res :=
  if pcie then .next (s.setPll pxDomain .locking).linkDown
  else if s.pkg.dev = .thaw || s.pkg.dev = .flow || s.pkg.dev = .drift then .next (s.pllFailed 0)
  else .next s

/-- R392: FREQ_MHZ of a domain. -/
def State.freqMhz (s : State) (d : Nat) : Nat :=
  let sc := 600 + 25 * s.clk.jobStep
  if d < 4 then sc else if d < 8 then sc / 2 else if d < 12 then 2000 else if d < 16 then 1200
  else if d < 21 then 2500 else if d < 23 then 1000 else if d = 23 then 4000 else 100

def PllSt.code : PllSt → Nat
  | .off => 0 | .locking => 1 | .locked => 2 | .failed => 3

/-- R392: CLK_PLL. -/
def State.pllWord (s : State) (d : Nat) : W32 :=
  let t := BitVec.ofNat 2 d
  BitVec.ofNat 32 ((s.pll d).code * 2 ^ 30 + bitN (d < 4 && RF.at s.clk.warn t) 29 + bitN (d < 4 && RF.at s.clk.alarm t) 28 +
    (if s.pll d = .locked then s.freqMhz d else 0))

/-! ### Replica paths (R377) -/

/-- REPLICA_WARN: slack below 8% on a stack, counted at most once per 1 ms (R377). -/
def execReplicaWarn (t : BitVec 2) (s : State) : Res :=
  let now := s.now
  let count : Bool := match RF.at s.clk.warnMs t with | some w => decide (msU 1 ≤ (now - w).toNat) | none => true
  .next (s.onClk (fun c => { c with
    warn := RF.put c.warn t true
    warnMs := if count then RF.put c.warnMs t (some now) else c.warnMs
    marginWarn := if count then satInc c.marginWarn else c.marginWarn }))

/-- REPLICA_WARN_END: every tile of the stack shows 8% or more again (R377). -/
def execReplicaWarnEnd (t : BitVec 2) (s : State) : Res := .next (s.onClk (fun c => { c with warn := RF.put c.warn t false }))

/-- REPLICA_ALARM: slack below 3% lengthens every cycle of the stack; each onset counts (R377). -/
def execReplicaAlarm (t : BitVec 2) (s : State) : Res :=
  if RF.at s.clk.alarm t then .next s
  else
    let now := s.now
    .next (s.onClk (fun c => { c with
      alarm := RF.put c.alarm t true, alarmAt := RF.put c.alarmAt t now, marginAlarm := satInc c.marginAlarm }))

/-- REPLICA_ALARM_END: every tile has shown 8% for 1 µs (R377). -/
def execReplicaAlarmEnd (t : BitVec 2) (s : State) : Res :=
  if !RF.at s.clk.alarm t then .next s
  else
    let now := s.now
    .next (s.onClk (fun c => { c with
      alarm := RF.put c.alarm t false
      alarmPast := RF.put c.alarmPast t (((RF.at c.alarmPast t).filter (fun x => (now - x.2).toNat < msU 10)) ++ [(RF.at c.alarmAt t, now)]) }))

/-- R377: how long, of the last 10 ms, an alarm has lengthened the cycles of a stack. -/
def State.alarmTime (s : State) (t : BitVec 2) : Nat :=
  let win := msU 10
  ((RF.at s.clk.alarmPast t).map (fun x => min (s.since x.1) win - min (s.since x.2) win)).sum +
    (if RF.at s.clk.alarm t then min (s.since (RF.at s.clk.alarmAt t)) win else 0)

/-- R377: a margin alarm is sustained: more than 5 ms of 10 ms on some stack. -/
def State.sustainedAlarm (s : State) : Bool := ([0, 1, 2, 3] : List (BitVec 2)).any (fun t => msU 5 < s.alarmTime t)

/-- R378: a trim moves towards a value by at most 0.1 ppm. -/
def trimStep (old new : Int) : Int := if old + 429 < new then old + 429 else if new < old - 429 then old - 429 else new

/-- CAL_TRIM_UPDATE: CAL updates the TB rate trim and the trims of the PLLs (R378). -/
def execCalTrimUpdate (tb : Int) (plls : List (Nat × Int)) (s : State) : Res :=
  .next (s.onClk (fun c => { c with
    trim := trimStep c.trim tb
    pllTrims := (plls.filter (fun p => p.1 < 25)).foldl (fun m p => SMap.upd 0 m p.1 (fun v => trimStep v p.2)) c.pllTrims }))

/-! ### Supply and change of the job step (R372 to R376, R591, R604) -/

/-- R591, R604: command the VDD_SRC set point of a stack for a step, with its guardband. -/
def State.setVdd (s : State) (t : BitVec 2) (step : Nat) : State :=
  let mv := Config.stepVoltage step + RF.at s.cal.planV t
  (s.onClk (fun c => { c with vddSrc := RF.put c.vddSrc t mv })).emit (.avs t.toNat mv)

def State.setVddAll (s : State) (step : Nat) : State :=
  ([0, 1, 2, 3] : List (BitVec 2)).foldl (fun s t => s.setVdd t step) s

/-- The time on which a change's Tf is taken. -/
def State.changeTime (s : State) (f : FreqChange) : W64 := if f.isLocal then s.now else s.ftime

/-- FREQ_SUPPLY_COMMAND: for a raise, the new set point is sent (R374 step 3, R604). -/
def execFreqSupplyCommand (s : State) : Res :=
  match s.clk.pending with
  | none => .next s
  | some f =>
    if f.supplied || f.step ≤ s.clk.jobStep then .next s
    else .next ((s.setVddAll f.step).onClk (fun c => { c with pending := some { f with supplied := true } }))

/-- FREQ_CHANGE_START: at Tf the generators of all four stacks begin the change; a raise waits for its supply (R374). -/
def execFreqChangeStart (s : State) : Res :=
  match s.clk.pending with
  | none => .next s
  | some f =>
    if s.clk.changing || (s.clk.jobStep < f.step && !f.supplied) then .next s
    else .next (s.onClk (fun c => { c with changing := true, toStep := f.step }))

/-- FREQ_CHANGE_END: at Tf + 2 µs the new step runs; LOW_RUN restarts on every member; a pending limit lands; a lowered supply moves
(R374 steps 6 and 7, R423, R592). -/
def execFreqChangeEnd (s : State) : Res :=
  if !s.clk.changing then .next s
  else
    let n := s.clk.toStep
    let lower := n < s.clk.jobStep
    let s := s.onClk (fun c => { c with changing := false, pending := none, jobStep := n, freqChanges := satInc c.freqChanges })
    let s := s.onPow (fun p => { p with
      lowRun := 0, reports := p.reports.map (fun r => (r.1, r.2.map (fun m => { m with lowRun := 0 }))) })
    let s := match s.cal.pendingLimit with
      | some l => if n ≤ l then { s with clk := { s.clk with stepLimit := l }, cal := { s.cal with pendingLimit := none } } else s
      | none => s
    .next (if lower then s.setVddAll n else s)

/-! ### BUDGET packets (R373) -/

def opBudget : Nat := 0x32

/-- Send a BUDGET packet from N3 to a member. -/
def State.sendBudget (s : State) (dst : Nat) (b : List Byte) : State :=
  let b := padTo 32 b
  if dst = s.devid then s.onPow (fun p => { p with own := p.own ++ [b] })
  else s.inject { Packet.blank with
    opcode := BitVec.ofNat 8 opBudget, dst := BitVec.ofNat 6 dst, dstDom := s.fab.domain, srcDom := s.fab.domain
    srcEng := 39, len8 := 3, ext := b } 1

/-- Take the BUDGET packet of a type at the front of its source: who sent it, and its payload. -/
def State.takeBudget (s : State) (src : BudgetFrom) (type : Byte) : Option (Nat × List Byte) × State :=
  match src with
  | .own =>
    match s.pow.own with
    | b :: rest => if b.head? = some type then (some (s.devid, b), s.onPow (fun p => { p with own := rest })) else (none, s)
    | [] => (none, s)
  | .port q ch =>
    match s.headOf q ch with
    | some p =>
      if p.opcode.toNat = opBudget && p.dst = s.fab.devid && p.ext.head? = some type then (some (p.src.toNat, p.ext), s.pop q ch)
      else (none, s)
    | none => (none, s)

/-- R420: the programs that have started. -/
def Prog.hasStarted (p : Prog) : Bool :=
  match p.st with
  | .running | .atBarrier | .saving | .preempted | .ending => true
  | _ => false

/-- R420: the frequency job: JOB_ID and members; none for a device that is its own job. -/
def State.freqJob (s : State) : Option (W32 × W64) :=
  (((s.sched.progs.filter (fun p => p.img.span && p.hasStarted)).foldl (fun (b : Option Prog) p => match b with
    | none => some p
    | some q => if serBefore p.startTime q.startTime then some p else some q) none)).map (fun p => (p.jobId, p.jobMembers))

def State.jobId (s : State) : W32 := (s.freqJob.map (·.1)).getD 0

/-- The members of the frequency job, in ascending order. -/
def State.members (s : State) : List Nat :=
  match s.freqJob with
  | some (_, m) => (List.range 64).filter m.getLsbD
  | none => [s.devid]

/-- R420, R425: the leader: the lowest member whose route entry is not LOST. -/
def State.leader (s : State) : Option Nat := s.members.find? (fun d => d == s.devid || s.mode d != modeLost)

/-- R375, R421: what a member makes of an announcement: result, the step that will run, and its state. -/
def State.announced (s : State) (b : List Byte) : Nat × Nat × State :=
  let want := fld b 1 1
  let seq := BitVec.ofNat 16 (fld b 2 2)
  let job := BitVec.ofNat 32 (fld b 4 4)
  let tf := BitVec.ofNat 64 (fld b 8 8)
  let isLocal := s.clk.ftState = .unset
  let now := if isLocal then s.now else s.ftime
  let keep := (s.clk.pending.map (·.step)).getD s.clk.jobStep
  if job != s.jobId then (2, keep, s)
  else if s.clk.changing || s.clk.pending.any (fun f => serBefore (f.tf - BitVec.ofNat 64 (usU 100)) (s.changeTime f)) then (2, keep, s)
  else
    let step := min want s.clk.stepLimit
    let replaced := s.clk.pending.isSome
    let lower := step < s.clk.jobStep
    let up := s.clk.jobStep < step
    let soon := serBefore tf (now + BitVec.ofNat 64 (usU 160))
    let late := (lower && serBefore tf now) || (up && soon)
    let tf := if late then (if up then now + BitVec.ofNat 64 (usU 160) else now) else tf
    let s := if late && up then s.setVddAll step else s
    let s := s.onClk (fun c => { c with
      pending := some ⟨step, seq, job, tf, isLocal, late && up⟩
      lateChanges := if late then satInc c.lateChanges else c.lateChanges })
    (if late then 3 else if replaced then 1 else if step < want then 4 else 0, step, s)

/-- FREQ_ANNOUNCE: a member handles an announcement and answers FREQ_ACK (R373, R375, R421). -/
def execFreqAnnounce (src : BudgetFrom) (s : State) : Res :=
  if s.coreUp 3 = false || !(s.pkg.dev = .flow || s.pkg.dev = .drift) then .next s
  else match s.takeBudget src 0x01 with
  | (none, s) => .next s
  | (some (dst, b), s) =>
    let (result, step, s) := s.announced b
    .next (s.sendBudget dst ([0x02] ++ natLE 1 step ++ (b.drop 2).take 14 ++ natLE 1 result))

/-- FREQ_ACK: the leader records a member's answer to its announcement (R373). -/
def execFreqAck (src : BudgetFrom) (s : State) : Res :=
  if s.coreUp 3 = false then .next s
  else match s.takeBudget src 0x02 with
  | (none, s) => .next s
  | (some (d, b), s) =>
    if BitVec.ofNat 16 (fld b 2 2) = s.pow.freqSeq then .next (s.onPow (fun p => { p with acks := SMap.set 0 p.acks d (fld b 16 1 + 1) }))
    else .next s

/-! ### Fabric time (R379 to R390) -/

/-- R381: a timestamp on the device's own time; before it has fabric time, on its local count. -/
def State.stamp0 (s : State) : W64 := if s.clk.ftState = .unset then s.clk.ftLocal else s.clk.ft

/-- TIME_EXCHANGE_SEND: every 100 µs an UP port sends TIME_REQ on each fibre (R381). -/
def execTimeExchangeSend (port : BitVec 4) (s : State) : Res :=
  if !s.portUp port.toNat then .next s
  else
    let t1 := some s.stamp0
    let s := s.onClk (fun c => { c with ports := RF.put c.ports port { RF.at c.ports port with t1A := t1, t1B := t1 } })
    .next ((s.phoSend port.toNat false 0x40 .timeReq).phoSend port.toNat true 0x40 .timeReq)

/-- TIME_REQ: answered on its fibre with the times of arrival and, `turn` units later, of the answer (R381). -/
def execTimeReq (h : SvcHdr) (turn : Nat) (s : State) : Res :=
  s.onSvc h 0x40 [] (fun s =>
    let t2 := s.ftime
    s.phoSend h.port.toNat h.fibreB 0x41 (.timeResp t2 (t2 + BitVec.ofNat 64 turn) s.clk.ftState.code s.clk.hops))

def FtState.ofCode (n : Nat) : FtState :=
  match n with
  | 1 => .acquiring | 2 => .locked | 3 => .holdover | 4 => .grandmaster | _ => .unset

/-- R381: offset and delay of an exchange. -/
def timeExchange (t1 t2 t3 t4 : W64) (a : Int) : Int × Int :=
  let x := (t2 - t1).toInt
  let y := (t4 - t3).toInt
  ((x - y + a) / 2, (x + y - a) / 2)

/-- R382: the mean offset of the fibres. -/
def PortTime.off (p : PortTime) : Option Int :=
  match p.a, p.b with
  | some x, some y => some ((x.1 + y.1) / 2)
  | some x, none => some x.1
  | none, some y => some y.1
  | none, none => none

/-- R387: a change pending on the local count takes its Tf to fabric time. -/
def FreqChange.rebase (f : FreqChange) (off : W64) : FreqChange := if f.isLocal then { f with tf := f.tf + off, isLocal := false } else f

def clampRate (n v : Int) : Int := if v < -n then -n else if n < v then n else v

/-- R382, R384: an offset of the upstream acts on the servo and on FT_STATE. -/
def Clk.follow (c : Clk) (off : Int) : Clk :=
  if c.ftState = .unset then
    { c with ft := c.ftLocal + BitVec.ofInt 64 off, frac := 0, ftState := .acquiring, inRow := 0, outRow := 0
             pending := c.pending.map (fun f => f.rebase (BitVec.ofInt 64 off)) }
  else if 64000 < off then
    { c with ft := c.ft + BitVec.ofInt 64 off, ftState := .acquiring, inRow := 0, outRow := 0 }
  else
    let f := Config.ftFilter c.offset.toInt off
    let near := f.natAbs * 15625 ≤ 25000
    let far := 35000 < f.natAbs * 15625
    let inRow := if near then c.inRow + 1 else 0
    let outRow := if far then c.outRow + 1 else 0
    let st := match c.ftState with
      | .acquiring => if 16 ≤ inRow then FtState.locked else FtState.acquiring
      | .locked => if 2 ≤ outRow then FtState.acquiring else FtState.locked
      | x => x
    let drop := decide (c.ftState = .locked ∧ st = .acquiring)
    { c with offset := BitVec.ofInt 32 f, ftState := st, outRow := outRow
             inRow := if drop then 0 else min inRow 16, servo := clampRate 42949 (Config.servoRate f) }

/-- TIME_RESP: offset and delay of the exchange; the upstream, the servo and FT_STATE follow (R381, R382, R384, R387). A device that the
routes say is LOST takes no time before its readmission (R386). -/
def execTimeResp (h : SvcHdr) (t2 t3 : W64) (ftState hops : Nat) (s : State) : Res :=
  s.onSvc h 0x41 [] (fun s =>
    let q := h.port
    let p := RF.at s.clk.ports q
    match (if h.fibreB then p.t1B else p.t1A) with
    | none => s
    | some t1 =>
      let s := s.land (dk 0x4000 7)
      let x := timeExchange t1 t2 t3 s.stamp0 (RF.at s.clk.asym q).toInt
      let p := { p with state := FtState.ofCode ftState, hops := hops }
      let p := if h.fibreB then { p with b := some x, t1B := none } else { p with a := some x, t1A := none }
      let unset := s.clk.ftState = .unset
      let s := (s.onClk (fun c => { c with ports := RF.put c.ports q p })).pickUpstream
      if s.clk.upstream = some q && !(unset && s.fab.selfLost) then
        match p.off with
        | some off =>
          let s := s.onClk (fun c => c.follow off)
          if unset then s.onClk (fun c => { c with ports := c.ports.map (fun x => { x with a := none, b := none, t1A := none, t1B := none }) })
          else s
        | none => s
      else s)

/-- FABRIC_TIME_WRAP: fabric time passes 0 (R389). -/
def execFabricTimeWrap (s : State) : Res :=
  if s.clk.ftState = .unset then .next s else .next (s.onClk (fun c => { c with wrapEpoch := c.wrapEpoch + 1 }))

/-- R390: a write of FT_WRAP_TEST; whether it is accepted. -/
def State.wrapTest (s : State) (n : Nat) : Bool × State :=
  let preset := BitVec.ofNat 64 (2 ^ 64 - n * 64 * 10 ^ 9)
  if s.firm.dm.role != .holder || n < 1 || 10 < n || s.errs.prodLock || !serLe s.ftime preset then (false, s)
  else (true, s.onClk (fun c => { c with wrapTest := some n }))

/-- R379: the TAI time of fabric time, in 1/64 ns since 1970-01-01 00:00:00 TAI. -/
def Clk.tai (c : Clk) : Nat := (c.taiEpoch.toNat + c.wrapEpoch.toNat * 2 ^ 58) * 64 + c.ft.toNat

/-- R388: how far fabric time is from the nearest whole TAI second, in units. -/
def Clk.taiPhase (c : Clk) : Int :=
  let x := c.tai % 64000000000
  if 32000000000 < x then Int.ofNat x - 64000000000 else Int.ofNat x

/-- R388: a PPS edge steers the rate of the domain manager, by its distance from a whole TAI second, by at most 1 ppm. -/
def State.ppsSteer (s : State) : State :=
  if s.clk.ppsEn && s.clk.ftState = .grandmaster then
    s.onClk (fun c => { c with servo := clampRate 4294 (Config.ppsRate c.taiPhase) })
  else s

end Sys2Proof.Machine
end

