-- ==== Sys2Proof/Machine/PowerOps.lean ====
section
/-! DEFINITION. Power, throttling, thermal control and the job frequency (R394 to R435). -/

namespace Sys2Proof.Machine

def State.stk (s : State) (t : BitVec 2) : StackPow := RF.at s.pow.stks t
def State.onStk (s : State) (t : BitVec 2) (f : StackPow → StackPow) : State :=
  s.onPow (fun p => { p with stks := RF.put p.stks t (f (RF.at p.stks t)) })

def fourStacks : List (BitVec 2) := [0, 1, 2, 3]

/-- H of an HBM stack, in %. -/
def State.hGate (s : State) (h : Nat) : Nat := SMap.get 100 s.pow.h h
def State.setH (s : State) (h v : Nat) : State := s.onPow (fun p => { p with h := SMap.set 100 p.h h v })

/-! ### ALERT_N (R431) -/

/-- R431: ALERT_N is asserted. -/
def State.alert (s : State) : Bool :=
  fourStacks.any (fun t => (s.stk t).l < 100 || (s.stk t).g < 100 || (s.stk t).slope != .off || (s.stk t).firnSuspect) ||
  !s.pow.h.isEmpty || s.pow.brk || s.pow.fallback || s.pow.capUnreach

/-- A meaning of power control, with ALERT_N following its result: pin 13, asserted where the level is true. -/
def State.withAlert (s : State) (f : State → State) : Res :=
  let s' := f s
  .next (if s'.alert = s.alert then s' else s'.emit (.pin 13 s'.alert))

/-! ### Budgets (R402 to R408) -/

/-- R402: the cap in effect, in W. -/
def State.capE (s : State) : Nat :=
  let cap := max 900 (min s.pow.cap 2400)
  if s.pow.brk then min cap s.pow.brkCap else cap

/-- R402: the pool in mW, from the powers outside the stacks in mW; the guard is 2% of the cap. -/
def State.poolOf (s : State) (fixed : Nat) : Nat := 980 * s.capE - fixed

/-- R408: a phase's share of 260 W by its tiles on a stack, in mW. -/
def tileShare (p : Prog) (t : BitVec 2) : Nat :=
  260000 * (p.img.place.filter (fun e => e.tile / 256 == t.toNat)).length / 240

/-- The phase that a program runs, or goes on to from its barrier. -/
def Prog.nextPhase (p : Prog) : Option PhaseEnt :=
  if p.st = .atBarrier then p.img.phases[p.phase + 1]? else p.img.phases[p.phase]?

/-- R403, R407 to R409: what the governor holds for a program's phase on a stack. -/
def State.phaseNeed (s : State) (p : Prog) (t : BitVec 2) : Nat :=
  match p.nextPhase with
  | none => 0
  | some e =>
    match (if s.pow.govEnable then s.pow.gov.find? (fun g => g.key = e.key) else none) with
    | some g => RF.at g.p t
    | none => tileShare p t

/-- R403: the programs whose phases run, or wait at their barrier. -/
def Prog.isActive (p : Prog) : Bool := p.st = .running || p.st = .atBarrier || p.st = .saving

/-- R403: a stack's need, in mW: 20 W where no program holds tiles. -/
def State.needOf (s : State) (t : BitVec 2) : Nat :=
  let on := s.sched.progs.filter (fun p => p.isActive && p.img.place.any (fun e => e.tile / 256 == t.toNat))
  if on.isEmpty then 20000 else (on.map (fun p => s.phaseNeed p t)).sum

/-- R403: divide a pool among stacks by their needs, 260 W at most each; what a stack cannot take goes to the others.
Each share is rounded down to 1 mW (log entry 44). `fuel` is the number of stacks. -/
def sharePool : Nat → Nat → List (BitVec 2 × Nat) → List (BitVec 2 × Nat)
  | 0, _, l => l.map (fun x => (x.1, 0))
  | n + 1, pool, l =>
    let total := (l.map (·.2)).sum
    let share := fun (x : BitVec 2 × Nat) => if total = 0 then pool / l.length else pool * x.2 / total
    let full := l.filter (fun x => 260000 ≤ share x)
    if full.isEmpty then l.map (fun x => (x.1, share x))
    else
      full.map (fun x => (x.1, 260000)) ++
      sharePool n (pool - 260000 * full.length) (l.filter (fun x => share x < 260000))

/-- R403: the budgets of the four stacks. -/
def State.budgets (s : State) (pool : Nat) : List (BitVec 2 × Nat) :=
  if 4 * 260000 ≤ pool then fourStacks.map (fun t => (t, 260000)) else sharePool 4 pool (fourStacks.map (fun t => (t, s.needOf t)))

/-- R404: N3 runs on Floe 1: a budget or a return reaches the tile of a stack over a CTL waveguide of the pair, or on chip. -/
def n3Tile : Nat := 1
def State.ctlReaches (s : State) (t u : Nat) : Bool := t = u || (s.carrier (dirNum t u) 1).isSome

/-- R404: N3 sends a stack its share of the pool. -/
def State.sendBudget1 (s : State) (t : BitVec 2) (mw : Nat) : State :=
  if s.ctlReaches n3Tile t.toNat then (s.onStk t (fun k => { k with sent := some (mw, s.pow.pool) })).carry n3Tile t.toNat 1 1 else s

/-- R404: send the budgets of the pool in force. -/
def State.sendBudgets (s : State) : State := (s.budgets s.pow.pool).foldl (fun s b => s.sendBudget1 b.1 b.2) s

/-- R404: a Floe tile returns its stack's power, k, L, G and flags to N3. -/
def State.returnStack (s : State) (t : BitVec 2) : State :=
  if s.ctlReaches t.toNat n3Tile then
    let k := s.stk t
    (s.onPow (fun p => { p with told := RF.put p.told t { RF.at p.told t with
      power := k.power, k := k.k, l := k.l, g := k.g, flags := [k.slope != .off, k.firnSuspect, k.halfClamp] } })).carry t.toNat n3Tile 1 1
  else s

/-- BUDGET_CYCLE: N3 computes the pool from the measured powers outside the stacks, in mW, divides it and sends the budgets;
`power` is the package's, in W; both are 1 ms averages (R402 to R404). -/
def execBudgetCycle (fixed power : Nat) (s : State) : Res :=
  if s.coreUp 3 = false || s.pkg.dev = .icebound then .next s
  else
    let s := s.onPow (fun p => { p with pwrNow := power })
    .next (s.onPow (fun p => { p with pool := s.poolOf fixed })).sendBudgets

/-- STACK_BUDGET_RECEIVE: a stack takes up the budget that reaches it, and its Floe tile returns what it measures (R404). Budgets are
frozen while the N3 fallback holds (R429). -/
def execStackBudgetReceive (t : BitVec 2) (s : State) : Res :=
  match (s.stk t).sent with
  | none => .next s
  | some (mw, pool) =>
    if s.pow.fallback then .next s
    else .next ((s.onStk t (fun k => { k with budget := mw, lastPool := pool, sent := none })).returnStack t)

/-- STACK_BUDGET_TIMEOUT: without a budget for 1 ms a stack takes a quarter of the last pool that it received (R404); the N3 fallback
freezes it (R429). -/
def execStackBudgetTimeout (t : BitVec 2) (s : State) : Res :=
  if s.pow.fallback then .next s else .next (s.onStk t (fun k => { k with budget := k.lastPool / 4 }))

/-- R407: the power that a phase would have drawn without the limiter, in mW, from energy in pJ, time in ns and the mean of
k in hundredths. -/
def runPower (energy time kMean : Nat) : Nat := min 260000 (energy * 6400 / (max 1 time * max 800 kMean))

/-- R407, R422: the mean of k, times `scale`, over the steps of the loop since its sums stood at `sum` and `steps`; before a step, k itself. -/
def meanK (scale : Nat) (k : StackPow) (sum steps : Nat) : Nat :=
  if k.kSteps ≤ steps then scale * k.k else scale * (k.kSum - sum) / (k.kSteps - steps)

/-- R407: a phase has ended: its entry learns; a full table loses the entry used least recently. -/
def Power.learn (p : Power) (key : W32) (runs : List (BitVec 2 × Nat)) : Power :=
  let clock := p.govClock + 1
  let old := p.gov.find? (fun g => g.key = key)
  let vals := runs.foldl (fun (v : RF 2 Nat) r =>
    let new := match old with
      | some g => let a := RF.at g.p r.1; (Int.ofNat a + (Int.ofNat r.2 - Int.ofNat a) / 8).toNat
      | none => r.2
    RF.put v r.1 new) ((old.map (·.p)).getD (RF.all 2 0))
  let rest := p.gov.filter (fun g => g.key != key)
  let kept := if rest.length < 4096 then rest
    else match rest.foldl (fun (b : Option GovEnt) g => match b with
        | none => some g
        | some h => if g.used < h.used then some g else some h) none with
      | some l => rest.filter (fun g => g.key != l.key)
      | none => rest
  { p with gov := kept ++ [⟨key, vals, clock⟩], govClock := clock }

/-! ### The limiter loop (R397 to R401) -/

/-- R400, R416, R418: the ceiling on L. -/
def StackPow.lCap (k : StackPow) : Nat := min (if k.halfClamp then 50 else 100) (if k.firnSuspect then 80 else 100)
/-- R418: the ceiling on G. -/
def StackPow.gCap (k : StackPow) : Nat := if k.firnSuspect then 75 else 100

/-- R400: the effective limit of a stack, in mW. -/
def StackPow.limit (k : StackPow) : Nat := min k.budget (min k.l k.lCap * 2600)

/-- R401: the lowest clamp in force on k. -/
def State.kClamp (s : State) : Nat :=
  if s.pow.trip then 0 else min (if s.pow.brk then min s.pow.brkK 48 else 64) (if s.pow.fallback then 32 else 64)

/-- R398, R400, R401: the next k. -/
def StackPow.nextK (k : StackPow) (clamp power : Nat) : Nat :=
  if clamp < k.k then max clamp (k.k - 4)
  else match k.slope with
  | .fast => k.k - 4
  | .slow => k.k - 1
  | .off =>
    if k.limit < power then k.k - 1
    else if 100 * power < 97 * k.limit then min (k.k + 1) clamp
    else k.k

/-- LIMITER_LOOP_STEP: every 256 Serac cycles k of a stack moves, by its power over the last 1 µs, in mW (R398, R400, R401). -/
def execLimiterLoopStep (t : BitVec 2) (power : Nat) (s : State) : Res :=
  .next (s.onStk t (fun k =>
    let n := k.nextK s.kClamp power
    { k with power := power, k := n, kSum := k.kSum + n, kSteps := k.kSteps + 1 }))

/-! ### Sensors and the stack rule (R410, R413 to R418) -/

def maxOf (l : List Int) : Option Int := match l with | [] => none | x :: r => some (r.foldl max x)

/-- Readings of the trusted sensors, in order, with their index. -/
def trusted (l : List Int) (susp : NSet) : List (Nat × Int) :=
  ((List.range l.length).filter (fun i => !susp.contains i)).map (fun i => (i, l.getD i 0))

/-- R410: the region of a Serac sensor: 8 × 8 sensors on 4 × 4 regions. -/
def seracRegion (i : Nat) : Nat := 4 * (i / 16) + i % 8 / 2

/-- R417: r_fs and r_lf of a Firn region: as calibrated, or factory values. -/
def State.firnCoef (s : State) (t : BitVec 2) (j : Nat) : Int × Int :=
  match (s.calElem (elemKey 8 (16 * t.toNat + j))).value with
  | some v => (v.trims.getD 0 0, v.trims.getD 1 0)
  | none => (Config.factoryRfs t.toNat j, Config.factoryRlf t.toNat j)

/-- R417: the inferred value of a Firn region, in 1/16 °C. -/
def State.inferred (s : State) (t : BitVec 2) (x : Samples) (j : Nat) : Int :=
  let k := s.stk t
  let (rfs, rlf) := s.firnCoef t j
  let ser := (maxOf ((trusted x.serac k.suspSerac).filterMap (fun p => if seracRegion p.1 = j then some p.2 else none))).getD 0
  let flo := (maxOf ((trusted x.floe k.suspFloe).filterMap (fun p => if p.1 = j then some p.2 else none))).getD 0
  let pf := x.pFloe.getD j 0
  let pn := x.pFirn.getD j 0
  ((ser + flo) * 1000000 + 16 * (rfs * (pf + pn) - rlf * pf)) / 2000000

/-- R413: the least-squares sum of a region over its last 11 samples, newest first; the slope is 100/1760 of it in K/ms. -/
def slopeSum (h : List Int) : Int :=
  ((List.range 11).map (fun i => (5 - Int.ofNat i) * h.getD i 0)).foldl (· + ·) 0

/-- R413, R416: the highest sum over the regions whose sensor is trusted. -/
def StackPow.slopeMax (k : StackPow) : Option Int :=
  if k.floeHist.length < 11 then none
  else maxOf (((List.range 16).filter (fun j => !k.suspFloe.contains j)).map (fun j => slopeSum (k.floeHist.map (fun r => r.getD j 0))))

/-- R413: the action for the highest sum. -/
def slopeAct (limit : Nat) (sum : Option Int) : Slope :=
  match sum with
  | none => .off
  | some v =>
    if Int.ofNat ((limit + 2) * 1760) < 100 * v then .fast else if Int.ofNat (limit * 1760) < 100 * v then .slow else .off

/-- STACK_RULE_EVAL: the 10 µs sampling of a stack: governing values of its dies, inferred values of its Firn, and the
slope of its Floe with the action of the stack rule (R410, R413, R416 to R418). -/
def execStackRuleEval (t : BitVec 2) (smp : Samples) (s : State) : Res :=
  s.withAlert (fun s =>
    let k := s.stk t
    let inf := (List.range 16).map (s.inferred t smp)
    let leak := smp.leak
    let firn := if k.firnSuspect then maxOf ((List.zip inf leak).map (fun p => max p.1 p.2)) else maxOf ((trusted smp.firn k.suspFirn).map (·.2))
    s.onStk t (fun k =>
      let k := { k with last := smp, floeHist := (smp.floe :: k.floeHist).take 11 }
      let sum := k.slopeMax
      { k with
        tSerac := (maxOf ((trusted smp.serac k.suspSerac).map (·.2))).getD k.tSerac
        tFirn := firn.getD k.tFirn
        tFloe := (maxOf ((trusted smp.floe k.suspFloe).map (·.2))).getD k.tFloe
        tLb := (maxOf ((trusted smp.lb k.suspLb).map (·.2))).getD k.tLb
        tInf := (maxOf inf).getD k.tInf, tLeak := (maxOf leak).getD k.tLeak
        slopeVal := (sum.map (fun v => v * 10000 / 1760)).getD 0, slope := slopeAct (max 8 (min k.slopeLimit 13)) sum }))

def sensorUnit (t : BitVec 2) (i : Nat) : W16 := unitCode 11 t.toNat i

/-- R516: the suspect set that holds a sensor, by its instance: 0 to 63 Serac, 64 to 79 Firn, 80 to 95 Floe, 96 and 97 case. -/
def StackPow.mark (k : StackPow) (i : Nat) : StackPow :=
  if i < 64 then { k with suspSerac := NSet.add i k.suspSerac }
  else if i < 80 then { k with suspFirn := NSet.add (i - 64) k.suspFirn }
  else if i < 96 then { k with suspFloe := NSet.add (i - 80) k.suspFloe }
  else { k with suspLb := NSet.add (i - 96) k.suspLb }

def StackPow.suspects (k : StackPow) (i : Nat) : Bool :=
  if i < 64 then k.suspSerac.contains i else if i < 80 then k.suspFirn.contains (i - 64)
  else if i < 96 then k.suspFloe.contains (i - 80) else k.suspLb.contains (i - 96)

/-- THM_SUSPECT_SENSORS: how many sensors are suspect. -/
def State.suspectCount (s : State) : Nat :=
  (fourStacks.map (fun t => (s.stk t).suspSerac.length + (s.stk t).suspFirn.length + (s.stk t).suspFloe.length + (s.stk t).suspLb.length)).sum

/-- R416: a Serac or Floe die with fewer than half of its sensors trusted clamps L to 50%, with one CE for the die. -/
def State.sensorsLow (s : State) (t : BitVec 2) (die trustedNow total : Nat) (was : Nat) : State :=
  if (trustedNow * 2 < total && total ≤ was * 2) || s.armed (unitCode 0 0 (die + t.toNat)) 0x51 then
    (s.onStk t (fun k => { k with halfClamp := true, l := min k.l 50 })).raise'
      { unit := unitCode 0 0 (die + t.toNat), cause := 0x51, cls := .ce, detail := BitVec.ofNat 64 trustedNow }
  else s

/-- R516: the reading of a sensor in a sampling, by its instance. -/
def sampleOf (x : Samples) (i : Nat) : Int :=
  if i < 64 then x.serac.getD i 0 else if i < 80 then x.firn.getD (i - 64) 0
  else if i < 96 then x.floe.getD (i - 80) 0 else x.lb.getD (i - 96) 0

/-- The cells next to a cell of a grid `w` wide and high. -/
def gridNext (w i : Nat) : List Nat :=
  let near := fun (a b : Nat) => a ≤ b + 1 && b ≤ a + 1
  (List.range (w * w)).filter (fun j => j != i && near (i / w) (j / w) && near (i % w) (j % w))

/-- R415: the neighbours of a sensor: those of its kind around it on its die, and those of the dies above and below it. The Serac lies
over the Firn, the Firn over the Floe; the case sensors of a bank have no neighbours (log entry 158). -/
def sensorNext (i : Nat) : List Nat :=
  if i < 64 then gridNext 8 i ++ [64 + seracRegion i]
  else if i < 80 then (gridNext 4 (i - 64)).map (64 + ·) ++ (List.range 64).filter (fun j => seracRegion j = i - 64) ++ [i + 16]
  else if i < 96 then (gridNext 4 (i - 80)).map (80 + ·) ++ [i - 16]
  else []

def insertInt (x : Int) : List Int → List Int
  | [] => [x]
  | y :: l => if x ≤ y then x :: y :: l else y :: insertInt x l

/-- R415: the median; of an even number, half the sum of the middle two, rounded down. -/
def medianOf (l : List Int) : Int :=
  let m := l.foldr insertInt []
  let n := m.length
  if n % 2 = 1 then m.getD (n / 2) 0 else (m.getD (n / 2 - 1) 0 + m.getD (n / 2) 0) / 2

/-- R415: the median of the trusted neighbours of a sensor; none where fewer than 3 are trusted. -/
def StackPow.median (k : StackPow) (i : Nat) : Option Int :=
  let l := (sensorNext i).filter (fun j => !k.suspects j)
  if l.length < 3 then none else some (medianOf (l.map (sampleOf k.last)))

/-- SENSOR_SUSPECT: a sensor has differed by more than 6 °C from the median of its neighbours for 1 ms (R415, R416). -/
def execSensorSuspect (t : BitVec 2) (sensor : Nat) (s : State) : Res :=
  let k := s.stk t
  let reading := sampleOf k.last sensor
  match k.median sensor with
  | none => .next s
  | some median =>
  if 98 ≤ sensor || ((reading - median).natAbs ≤ 96 && !s.armed (sensorUnit t sensor) 0x50) || k.suspects sensor || (k.firnSuspect && 64 ≤ sensor && sensor < 80) then .next s
  else s.withAlert (fun s =>
    let s := s.onStk t (fun k => k.mark sensor)
    let s := s.raise' { unit := sensorUnit t sensor, cause := 0x50, cls := .ce,
                        detail := BitVec.ofInt 32 median ++ BitVec.ofInt 32 reading }
    let n := s.stk t
    if sensor < 64 then s.sensorsLow t 8 (64 - n.suspSerac.length) 64 (64 - k.suspSerac.length)
    else if 80 ≤ sensor && sensor < 96 then s.sensorsLow t 0 (16 - n.suspFloe.length) 16 (16 - k.suspFloe.length)
    else s)

/-- FIRN_SENSORS_SUSPECT: an inferred value has exceeded its region's reading by more than 8 °C for 2 ms: every Firn sensor of
the die is suspect, and its clamps apply. How DETAIL packs its three values is not stated: it is a free value (R418). -/
def execFirnSensorsSuspect (t : BitVec 2) (s : State) : Res :=
  let k := s.stk t
  let above := (List.range 16).any (fun j => 128 < s.inferred t k.last j - k.last.firn.getD j 0)
  if k.firnSuspect || !(above || s.armed (unitCode 0 0 (4 + t.toNat)) 0x52) then .next s
  else s.withAlert (fun s =>
    let (d, s) := s.drawFree 64
    let s := s.onStk t (fun k => { k with suspFirn := List.range 16, firnSuspect := true, l := min k.l 80, g := min k.g 75 })
    s.raise' { unit := unitCode 0 0 (4 + t.toNat), cause := 0x52, cls := .ce, detail := d })

/-! ### Thermal stepping and the trip (R394, R411, R430) -/

/-- R411: one step of a limit, from the governing values of its set and their throttle starts, in 1/16 °C. -/
def stepLimit (v floor cap : Nat) (set : List (Int × Int)) : Nat :=
  if set.any (fun x => x.2 ≤ x.1) then max floor (v - 2)
  else if set.all (fun x => x.1 + 48 ≤ x.2) then max v (min (v + 2) cap)
  else v

/-- R433: every 100 µs N3 shows the limits and the temperatures. -/
def State.tellLimits (s : State) : State :=
  s.onPow (fun p => { p with
    hTold := p.h
    told := Vector.ofFn (fun t : Fin (2 ^ 2) =>
      let k := RF.at p.stks (BitVec.ofNat 2 t.val)
      { RF.at p.told (BitVec.ofNat 2 t.val) with
        l := k.l, g := k.g, temps := intLE 2 k.tSerac ++ intLE 2 k.tFirn ++ intLE 2 k.tFloe ++ intLE 2 k.slopeVal ++ intLE 2 k.tLb }) })

/-- THERMAL_STEPPING: every 100 µs L, G and H move by 2 points; each start of a fall from 100% counts (R411). -/
def execThermalStepping (s : State) : Res :=
  s.withAlert (fun s =>
    let count := fun (s : State) (old new : Nat) =>
      if old = 100 && new < 100 then s.onPow (fun p => { p with throttleEvents := satInc p.throttleEvents }) else s
    let s := fourStacks.foldl (fun s t =>
      let k := s.stk t
      let l := stepLimit k.l 0 k.lCap [(k.tSerac, 1600), (k.tFirn, 1440), (k.tFloe, 1280), (k.tLb, 1120)]
      let g := if s.pow.trip then k.g else stepLimit k.g 25 k.gCap [(k.tFirn, 1440), (k.tFloe, 1280)]
      count (count (s.onStk t (fun k => { k with l := l, g := g })) k.l l) k.g g) s
    ((List.range 24).foldl (fun s h =>
      if s.pow.trip || (s.hbm.stack h).st != .inService then s
      else
        let v := s.hGate h
        let n := stepLimit v 25 100 [((s.hbm.stack h).temp.toInt, 1440)]
        count (s.setH h n) v n) s).tellLimits)

/-- R394: the trip limit of a sensor's die, in 1/16 °C. -/
def tripLimit (sensor : Nat) : Int :=
  if sensor < 64 then 1840 else if sensor < 80 then 1680 else if sensor < 96 then 1520 else if sensor < 98 then 1360 else 1680

/-- R430: what may trip at a sensor: its reading, while it is trusted, and the governing value of its die; of an HBM stack its own
sensor. -/
def State.tripValue (s : State) (t : BitVec 2) (sensor : Nat) : Int :=
  let k := s.stk t
  if 98 ≤ sensor then (s.hbm.stack (6 * t.toNat + (sensor - 98))).temp.toInt
  else
    let die := if sensor < 64 then k.tSerac else if sensor < 80 then k.tFirn else if sensor < 96 then k.tFloe else k.tLb
    if k.suspects sensor then die else max die (sampleOf k.last sensor)

/-- THERMAL_TRIP: a trusted sensor, or the governing value of its die, has reached its trip limit (R430), of a device that is powered
(R2). -/
def execThermalTrip (t : BitVec 2) (sensor : Nat) (s : State) : Res :=
  let value := s.tripValue t sensor
  if 104 ≤ sensor || (value < tripLimit sensor && !s.armed (sensorUnit t sensor) 0x53) || s.pow.trip || s.pkg.dev = .cold then .next s
  else s.withAlert (fun s =>
    let s := fourStacks.foldl (fun s t => s.onStk t (fun k => { k with g := 25 })) s
    let s := (List.range 24).foldl (fun s h => s.setH h 25) s
    let s := { s with pins := { s.pins with trip := true }, pow := { s.pow with trip := true } }
    (s.emit (.pin 12 true)).raise' { unit := sensorUnit t sensor, cause := 0x53, cls := .fe, detail := BitVec.ofInt 64 value })

/-- CAP_UNREACHABLE_SET: power has exceeded the cap in effect by more than 2% for 10 ms with k = 0 everywhere (R406). -/
def execCapUnreachableSet (s : State) : Res :=
  if fourStacks.all (fun t => (s.stk t).k = 0) && 102 * s.capE < 100 * s.pow.pwrNow then
    s.withAlert (fun s => s.onPow (fun p => { p with capUnreach := true }))
  else .next s

/-- CAP_UNREACHABLE_CLEAR: power has fallen to the cap in effect or below (R406). -/
def execCapUnreachableClear (s : State) : Res :=
  if s.pow.pwrNow ≤ s.capE then s.withAlert (fun s => s.onPow (fun p => { p with capUnreach := false })) else .next s

/-! ### Job frequency (R420 to R425) -/

/-- R422: the LIMIT_REPORT of this device; a pending step limit is reported in place of the one in force (R592). -/
def State.limitReport (s : State) (kMean : Nat) (sustained : Bool) : List Byte :=
  let thermal := fourStacks.any (fun t => (s.stk t).l < 100)
  padTo 32 ([0x03] ++ natLE 1 kMean ++ natLE 2 s.pow.lowRun ++ natLE 4 s.jobId.toNat ++
    natLE 1 (s.cal.pendingLimit.getD s.clk.stepLimit) ++ natLE 1 s.pow.targetStep ++
    natLE 1 (bitN thermal 0 + bitN s.pow.brk 1 + bitN s.pow.fallback 2 + bitN sustained 3))

/-- R423: whether an interval is low, and LOW_RUN after it. -/
def Power.nextLowRun (p : Power) (low : Bool) : Nat :=
  if p.brk || p.fallback then p.lowRun else if low then min (p.lowRun + 1) 65535 else 0

/-- R424: the report of a member as the leader keeps it. -/
def MemberRep.ofPayload (b : List Byte) (old : Option MemberRep) (now : W64) : MemberRep :=
  let k := fld b 1 1
  { kMean := k, lowRun := fld b 2 2, stepLimit := fld b 8 1, target := fld b 9 1, flags := b.getD 10 0
    good := if 62 ≤ k then ((old.map (·.good)).getD 0) + 1 else 0, at' := now }

/-- R424: the reports of every member, if none is missing for 1 ms. -/
def State.allReports (s : State) : Option (List MemberRep) :=
  let now := s.now
  s.members.foldr (fun d acc => match acc, SMap.get none s.pow.reports d with
    | some l, some r => if (now - r.at').toNat < msU 1 then some (r :: l) else none
    | _, _ => none) (some [])

def minOf (d : Nat) (l : List Nat) : Nat := l.foldl min d

/-- R424: the step that the leader announces, if it announces one. -/
def State.wantStep (s : State) (reps : List MemberRep) : Option Nat :=
  let run := s.clk.jobStep
  let limit := minOf 36 (reps.map (·.stepLimit))
  let top := minOf limit (reps.map (·.target))
  if s.pow.ledJob != some s.jobId then (if top = run then none else some top)
  else if limit < run then some limit
  else if reps.any (fun r => 100 < r.lowRun) && 0 < run then some (run - 1)
  else if reps.all (fun r => 1000 ≤ r.good && !r.flags.getLsbD 0) && run + 1 ≤ top then some (run + 1)
  else none

/-- R424: the leader announces a change to its members, with Tf 250 µs ahead. -/
def State.announce (s : State) (step : Nat) : State :=
  let now := if s.clk.ftState = .unset then s.now else s.ftime
  let tf := now + BitVec.ofNat 64 (usU 250)
  let seq := s.pow.freqSeq + 1
  let b := [0x01#8] ++ natLE 1 step ++ natLE 2 seq.toNat ++ natLE 4 s.jobId.toNat ++ natLE 8 tf.toNat
  let s := s.onPow (fun p => { p with
    freqSeq := seq, announced := some (tf, step), acks := []
    lowerings := if step < s.clk.jobStep then satInc p.lowerings else p.lowerings })
  s.members.foldl (fun s d => s.sendBudget d b) s

/-- R373, R387, R424: the leader may announce: none of its changes is pending, and with other members it has fabric time. -/
def State.mayAnnounce (s : State) : Bool :=
  let now := if s.clk.ftState = .unset then s.now else s.ftime
  s.leader == some s.devid && (s.pkg.dev = .flow || s.pkg.dev = .drift) && s.clk.pending.isNone &&
  (s.clk.ftState != .unset || s.members == [s.devid]) && !s.pow.announced.any (fun a => serBefore now a.1)

/-- LIMIT_REPORT: the leader takes a report and evaluates those of all members (R424, R592). -/
def execLimitReport (src : BudgetFrom) (s : State) : Res :=
  if s.coreUp 3 = false then .next s
  else match s.takeBudget src 0x03 with
  | (none, s) => .next s
  | (some (d, b), s) =>
    if BitVec.ofNat 32 (fld b 4 4) != s.jobId || !s.members.contains d then .next s
    else
      let now := s.now
      let s := s.onPow (fun p => { p with reports := SMap.set none p.reports d (some (MemberRep.ofPayload b (SMap.get none p.reports d) now)) })
      if !s.mayAnnounce then .next s
      else match s.allReports with
      | none => .next s
      | some reps =>
        let want := s.wantStep reps
        let s := s.onPow (fun p => { p with ledJob := some s.jobId })
        .next (match want with | some n => s.announce n | none => s)

/-! ### PWRBRK_N (R428) -/

def State.brkOn (s : State) : State :=
  ((s.land (dk 0x4100 3)).land (dk 0x4100 4)).onPow (fun p => { p with brk := true })
def State.brkOff (s : State) : State := s.onPow (fun p => { p with brk := false })

end Sys2Proof.Machine
end

