-- ==== Sys2Proof/Machine/Security.lean ====
section
/-! DEFINITION. Secure boot, fuses, measurements and SPDM (R437, R438, R440, R555 to R572). -/

namespace Sys2Proof.Machine

def State.onSec (s : State) (f : Sec → Sec) : State := { s with sec := f s.sec }

/-! ### Measurements (R562 to R564) -/

/-- R562: an extension of a measurement register. -/
def State.extend (s : State) (i : Nat) (v : List Byte) : State :=
  s.onSec (fun x =>
    let k := BitVec.ofNat 4 i
    { x with meas := RF.put x.meas k (sha3 (RF.at x.meas k ++ padTo 32 v)) })

/-- R13: KIND, STACK and POS of a die, which follow from its index. -/
def dieKind (i : Nat) : Nat := if i < 4 then 0 else if i < 8 then 1 else if i < 12 then 2 else if i < 16 then 3 else if i = 16 then 4 else 5
def dieStack (i : Nat) : Nat := if i < 16 then i % 4 else if i = 16 then 0 else (i - 17) / 6
def diePos (i : Nat) : Nat := if i < 17 then 0 else (i - 17) % 6

/-- R32: a package die record as a number; 0 before it is written. -/
def State.dieWord (s : State) (i : Nat) : Nat :=
  match SMap.get none s.pkg.dies i with
  | none => 0
  | some r => r.serialLo.toNat * 2 ^ 32 + r.rev.toNat * 2 ^ 24 + r.status * 2 ^ 20 + diePos i * 2 ^ 16 +
      dieStack i * 2 ^ 12 + dieKind i * 2 ^ 8 + i

/-- The section of a firmware image for a target: offset, SIZE and CODE_SIZE. -/
def fwSect (img : List Byte) (target : Nat) : Option (Nat × Nat × Nat) :=
  ((List.range (fld img 6 2)).map (fun k => 64 + 16 * k)).findSome? (fun o =>
    if fld img o 2 = target then some (fld img (o + 4) 4, fld img (o + 8) 4, fld img (o + 12) 4) else none)

/-- R456, R563: the digest of a core's code as recorded at load. -/
def State.codeDigest (s : State) (n : Nat) : List Byte :=
  match fwSect s.firm.load.image (n + 1) with
  | some (off, _, code) => sha3 ((s.firm.load.image.drop off).take code)
  | none => sha3 []

/-- R563: N4 extends M7 at each restart of a core. -/
def State.measureCore (s : State) (n : Nat) : State := s.extend 7 (sha3 (natLE 1 n ++ s.codeDigest n))

/-! ### Verifying the image (R437, R438, R440, R557, R558) -/

/-- R438: the largest SIZE of a target; none where it is reserved. -/
def targetMax (t : Nat) : Option Nat :=
  if 1 ≤ t && t ≤ 6 then some (512 * 1024)
  else if 0x10 ≤ t && t ≤ 0x13 then some (1024 * 1024)
  else if 0x20 ≤ t && t ≤ 0x23 then some (256 * 1024)
  else none

/-- R437, R557: where the signature and the key block begin. -/
def sigAt (n : Nat) : Nat := n - 2420
def keyAt (n : Nat) : Nat := n - 3732

/-- R438, R557: the ranges overlap, each as its first byte and the byte after its last. -/
def rangesMeet (a b : Nat × Nat) : Bool := a.1 < b.2 && b.1 < a.2 && a.1 < a.2 && b.1 < b.2

/-- R438: one entry of the section table is good. -/
def sectOk (img : List Byte) (k : Nat) : Bool :=
  let o := 64 + 16 * k
  match targetMax (fld img o 2) with
  | none => false
  | some m => fld img (o + 2) 2 = 0 && fld img (o + 8) 4 ≤ m && fld img (o + 12) 4 ≤ fld img (o + 8) 4 &&
      fld img (o + 4) 4 + fld img (o + 8) 4 ≤ img.length

/-- R438: the section table is good: targets appear once, each core's is there, and no section overlaps another, the
header with the table, the key block or the signature. -/
def sectsOk (img : List Byte) : Bool :=
  let n := fld img 6 2
  let ks := List.range n
  let tgt := fun k => fld img (64 + 16 * k) 2
  let rng := fun k => (fld img (68 + 16 * k) 4, fld img (68 + 16 * k) 4 + fld img (72 + 16 * k) 4)
  ks.all (sectOk img) &&
  ks.all (fun i => ks.all (fun j => i = j || (tgt i != tgt j && !rangesMeet (rng i) (rng j)))) &&
  ([1, 2, 3, 4, 5, 6] : List Nat).all (fun t => ks.any (fun k => tgt k = t)) &&
  ks.all (fun k => !rangesMeet (rng k) (0, 64 + 16 * n) && !rangesMeet (rng k) (keyAt img.length, img.length))

/-- R440, R558: the LOAD_STATUS cause with which an image is refused; none where it is accepted. `sigOk` is the outcome
of ML-DSA.Verify. -/
def State.imageCause (s : State) (img : List Byte) (sigOk : Bool) : Option Byte :=
  let n := img.length
  let key := (img.drop (keyAt n)).take 1312
  let slot := BitVec.ofNat 2 (fld img 0x0E 1)
  if n < 64 then some 3
  else if fld img 0 4 != 0x544B4E4E || fld img 4 2 != 1 || 4 ≤ fld img 0x0E 1 || fld img 0x0F 1 != 0 ||
      !((img.drop 0x1C).take 36).all (· == 0) then some 1
  else if fld img 6 2 = 0 || 32 < fld img 6 2 then some 2
  else if fld img 0x18 4 != n || 16 * 2 ^ 20 < n || n < 64 + 16 * fld img 6 2 + 3732 then some 3
  else if !sectsOk img then some 2
  else if (RF.at s.sec.keyHash slot).all (· == 0) || s.sec.keyRevoked.getLsbD slot.toNat then some 5
  else if sha3 key != RF.at s.sec.keyHash slot then some 4
  else if 64 < fld img 0x10 8 then some 1
  else if fld img 0x10 8 < s.sec.svnFused then some 6
  else if !sigOk then some 4
  else none

/-- R548: in THAW the Moraine loads the newest valid snapshot, or starts from zero, and its EN is set (R553); with a store that is
not GOOD it records to volatile memory only, from zero (R27). -/
def Moraine.load (m : Moraine) : Moraine :=
  { m with d := (if m.store = 1 then (m.stored.map Snap.d).getD MorData.reset else MorData.reset), shadow := MorData.reset, frozen := none, en := true }

/-- R439 step 4, R562, R563, R573 steps 3 and 4: an image is accepted: it is measured, N0 to N5 are released, and the
configuration hold begins with the snapshot loaded. -/
def State.acceptImage (s : State) (img : List Byte) : State :=
  let digest := sha3 (img.take (sigAt img.length))
  let ki := fld img 0x0E 1
  let svn := fld img 0x10 8
  let now := s.now
  let s := s.onSec (fun x => { x with digest := digest, keyIndex := BitVec.ofNat 8 ki, svn := BitVec.ofNat 64 svn })
  let b1 := fun (b : Bool) => natLE 1 (if b then 1 else 0)
  let s := s.extend 0 s.part.romDigest
  let s := s.extend 1 digest
  let s := s.extend 2 (RF.at s.sec.keyHash (BitVec.ofNat 2 ki))
  let s := s.extend 3 (sha3 (natLE 8 svn ++ natLE 8 s.sec.svnFused))
  let s := s.extend 4 (sha3 (natLE 1 s.sec.keyRevoked.toNat ++ b1 s.errs.prodLock ++ b1 s.errs.injEn))
  let s := s.extend 5 (sha3 ((List.range 41).flatMap (fun i => natLE 8 (s.dieWord i))))
  let s := s.extend 6 (sha3 (s.serac.map.bytes s.part.gradeB))
  let s := s.onCores (fun c => ([0, 1, 2, 3, 4, 5] : List (BitVec 3)).foldl (fun c n =>
    RF.put c n { RF.at c n with st := .running }) c)
  let s := { s with
    firm := { s.firm with
      release := BitVec.ofNat 32 (fld img 0x08 4), msgMajor := BitVec.ofNat 8 (fld img 0x0C 1),
      msgMinor := BitVec.ofNat 8 (fld img 0x0D 1) }
    cal := { s.cal with accepted := some now, stage := 4 }
    mor := s.mor.load }
  (((s.onLoad (fun l => { l with st := .done, queue := [] })).onLease (fun l => { l with renewed := now, syncSince := now }))).mbxChanged

/-- IMAGE_VERIFY: after the last chunk N4 checks the image; it accepts it, or refuses it and writes its bytes as zero
(R439, R440, R558, R559). -/
def execImageVerify (sigOk : Bool) (s : State) : Res :=
  let l := s.firm.load
  if !l.lastTaken || l.st != .loading || s.coreUp 4 = false && (s.core 4).st != .boot then .next s
  else
    match s.imageCause l.image sigOk with
    | some c => .next (s.loadRefused c)
    | none => .next (s.acceptImage l.image)

/-! ### Identity (R565 to R567) -/

/-- The length of the first certificate of a chain, by its DER header (PRESUMED: X.690). -/
def derLen (b : List Byte) : Nat :=
  if fld b 1 1 < 128 then 2 + fld b 1 1
  else if fld b 1 1 = 0x81 then 3 + fld b 2 1
  else 4 + 256 * fld b 2 1 + fld b 3 1

/-- R568, R571: the chain of slot 0: its length, the digest of the root and the certificates (PRESUMED: DSP0274). -/
def State.slotChain (s : State) (cert : List Byte) : List Byte :=
  let certs := s.part.chain ++ cert
  natLE 2 (36 + certs.length) ++ [0, 0] ++ sha3 (certs.take (derLen certs)) ++ certs

/-- R567: an alias copy is written over the older one, where the key differs from both. -/
def Sec.keepAlias (x : Sec) (pub cert : List Byte) : Sec :=
  if x.copyA.any (fun c => c.pub == pub) || x.copyB.any (fun c => c.pub == pub) then x
  else if x.bOlder then { x with copyB := some ⟨pub, cert⟩, bOlder := false }
  else { x with copyA := some ⟨pub, cert⟩, bOlder := true }

/-- R565: an ASCII label without a terminator. -/
def asciiBytes (l : String) : List Byte := l.toList.map (fun c => BitVec.ofNat 8 c.toNat)

/-- R565: the seed of the device key. -/
def State.deviceSeed (s : State) : List Byte := sha3 (asciiBytes "TIRANTIDE-DEVID" ++ s.sec.uds)

/-- R565: the public key of a seed. -/
def pubOf (seed : List Byte) : List Byte := padTo 1312 (Config.keyGenPub seed)

/-- R565: the seed of the alias key. -/
def State.aliasSeed (s : State) : List Byte :=
  let m := fun (i : Nat) => RF.at s.sec.meas (BitVec.ofNat 4 i)
  sha3 (asciiBytes "TIRANTIDE-ALIAS" ++ s.sec.uds ++ m 0 ++ m 1 ++ m 2 ++ m 3)

/-- R566: the alias certificate that N4 issues now. -/
def State.issueCert (s : State) (pub : List Byte) : List Byte :=
  Config.aliasCert s.free s.deviceSeed pub s.sec.digest s.sec.svn.toNat s.sec.keyIndex.toNat s.firm.release.toNat

/-- ALIAS_KEY_READY: N4 has derived the alias key and issued its certificate (R565 to R567). -/
def execAliasKeyReady (s : State) : Res :=
  if s.firm.load.st != .done || s.coreUp 4 = false || !s.sec.aliasPub.isEmpty then .next s
  else
    let pub := pubOf s.aliasSeed
    let cert := s.issueCert pub
    let chain := s.slotChain cert
    let s := { s with free := s.free + 1 }.onSec (fun x => { x with aliasPub := pub, certChain := chain })
    .next (if s.mor.store = 1 then s.onSec (fun x => x.keepAlias pub cert) else s)

/-- R571 SEC_ATTEST_STATE: 0 NO_ALIAS, 1 READY, 2 UNAVAILABLE, 3 BUSY (R570). -/
def State.attest (s : State) : Nat :=
  if s.mor.store != 1 then 2
  else if (s.core 4).st = .restarting then 3
  else if s.sec.aliasPub.isEmpty then 0 else 1

/-! ### Fuses (R530, R556, R560, R561) -/

/-- R556: a second fuse write is refused BUSY. -/
def State.beginFuse (s : State) (f : FuseWrite) : Nat × State :=
  if s.sec.fuse.isSome then (7, s) else (0, s.onSec (fun x => { x with fuse := some f }))

/-- R530: ERR_PROD_LOCK_SET. -/
def State.prodLockSet (s : State) (v : Nat) : Nat × State := if v != 0xA5 then (5, s) else s.beginFuse .prodLock

/-- R555: the slots that are provisioned, as a mask. -/
def State.provisioned (s : State) : BitVec 4 :=
  BitVec.ofNat 4 ((((List.range 4).filter (fun i =>
    !(RF.at s.sec.keyHash (BitVec.ofNat 2 i)).all (· == 0))).map (2 ^ ·)).sum)

/-- R560: SEC_KEY_REVOKE. -/
def State.keyRevoke (s : State) (mask : Nat) : Nat × State :=
  let m := BitVec.ofNat 4 mask
  if mask = 0 || 16 ≤ mask || (s.sec.keyIndex.toNat < 4 && m.getLsbD s.sec.keyIndex.toNat) ||
      s.provisioned &&& ~~~(s.sec.keyRevoked ||| m) = 0 then (5, s)
  else s.beginFuse (.revoke m)

/-- R561: SEC_SVN_COMMIT. -/
def State.svnCommit (s : State) (v : Nat) : Nat × State :=
  if v != 1 || s.sec.svn.toNat ≤ s.sec.svnFused then (5, s) else s.beginFuse (.svn s.sec.svn.toNat)

/-- The fuses as a write leaves them; the production lock disarms an injection and disables it (R530). -/
def State.fuseDone (s : State) (f : FuseWrite) : State :=
  match f with
  | .prodLock => s.onErrs (fun e => { e with prodLock := true, inj := none, injEn := false })
  | .revoke m => s.onSec (fun x => { x with keyRevoked := x.keyRevoked ||| m })
  | .svn n => s.onSec (fun x => { x with svnFused := max x.svnFused n })

/-- FUSE_WRITE_COMPLETE: the fuse write has ended with its read-back (R556). -/
def execFuseWriteComplete (s : State) : Res :=
  match s.sec.fuse with
  | none => .next s
  | some f => .next ((s.onSec (fun x => { x with fuse := none })).fuseDone f)

/-- R556: VDD_AUX is lost during a fuse write: each bit is left at its old or its new value, which one is free. -/
def State.fuseCut (s : State) : State :=
  match s.sec.fuse with
  | none => s
  | some f =>
    let s := s.onSec (fun x => { x with fuse := none })
    match f with
    | .prodLock =>
      let (b, s) := s.drawFree 1
      if b = 1 then s.fuseDone f else s
    | .revoke m =>
      let (b, s) := s.drawFree 4
      s.fuseDone (.revoke (m &&& b))
    | .svn n =>
      let (b, s) := s.drawFree 7
      s.fuseDone (.svn (s.sec.svnFused + b.toNat % (n - s.sec.svnFused + 1)))

/-- R564: SEC_MEAS_EXTEND: the register in byte 0, the value in bytes 1 to 32. -/
def State.measExtend (s : State) (b : List Byte) : Nat × State :=
  if !s.sec.hostEn then (2, s)
  else if fld b 0 1 < 8 || 15 < fld b 0 1 then (5, s)
  else (0, s.extend (fld b 0 1) (b.drop 1))

/-! ### SPDM (R568 to R570) -/

def errInvalid : Byte := 0x01
def errBusy : Byte := 0x03
def errUnexpected : Byte := 0x04
def errUnspecified : Byte := 0x05
def errUnsupported : Byte := 0x07
def errLarge : Byte := 0x0F
def errVersion : Byte := 0x41

def State.conn (s : State) (c : Nat) : SpdmConn := SMap.get SpdmConn.reset s.sec.conns c
def State.onConn (s : State) (c : Nat) (f : SpdmConn → SpdmConn) : State :=
  s.onSec (fun x => { x with conns := SMap.upd SpdmConn.reset x.conns c f })

/-- R568: DataTransferSize of a connection; connection 0 is DOE, the others are MCTP endpoints. -/
def transferSize (c : Nat) : Nat := if c = 0 then 4096 else 242

/-- Bytes of a response (PRESUMED: the layouts of DSP0274). -/
def SpdmReply.size : SpdmReply → Nat
  | .version l => 6 + 2 * l.length
  | .capabilities _ => 20
  | .algorithms _ _ _ => 44
  | .digests _ d => 4 + d.length
  | .certificate p _ => 8 + p.length
  | .challengeAuth _ d n m g => 6 + d.length + n.length + m.length + g.length
  | .measurements _ l g => 8 + (l.map (fun p => 7 + p.2.length)).sum + 32 + 2 + g.length
  | .error _ _ => 4

/-- R568: a response goes out, or, where it is larger than the transfer size, ERROR LargeResponse with its handle. -/
def State.answer (s : State) (c : Nat) (r : SpdmReply) : State :=
  if r.size ≤ transferSize c then (s.onConn c (fun x => { x with large := none })).emit (.spdm c r)
  else
    let h := (s.conn c).handle + 1
    (s.onConn c (fun x => { x with large := some r, handle := h, nextChunk := 0 })).emit (.spdm c (.error errLarge h))

def State.spdmError (s : State) (c : Nat) (code : Byte) : State := s.emit (.spdm c (.error code 0))

/-- R571: every SPDM request is counted. -/
def State.spdmCount (s : State) : State := s.onSec (fun x => { x with requests := satInc x.requests })

/-- R16, R568, R571: a request reaches N4 of a device that is not COLD, over DOE while the PCIe link is up, and is counted. -/
def State.spdmIn (s : State) (c : Nat) (f : State → State) : Res :=
  if s.pkg.dev = .cold || s.pins.perst || (c = 0 && !s.pins.pcieUp) then .next s else .next (f s.spdmCount)

/-- R457, R570: the ERROR with which N4 answers, if it does; `early` is GET_VERSION and GET_CAPABILITIES. -/
def State.spdmRefusal (s : State) (early : Bool) : Option Byte :=
  if early then none
  else if s.sec.aliasPub.isEmpty then some errBusy
  else if s.mor.store != 1 then some errUnspecified
  else if s.coreUp 4 = false then some errBusy
  else none

/-- A request that needs a connection at a point of its set-up (PRESUMED: the order of DSP0274) and a version. -/
def State.onSpdm (s : State) (c : Nat) (ver : Byte) (needAlgs : Bool) (f : State → State) : Res :=
  s.spdmIn c (fun s =>
    match s.spdmRefusal false with
    | some e => s.spdmError c e
    | none =>
      let x := s.conn c
      if x.version = 0 || (needAlgs && !x.algs) then s.spdmError c errUnexpected
      else if ver != x.version then s.spdmError c errVersion
      else f s)

/-- R568: the versions. -/
def spdmVersions : List Byte := [0x12, 0x13, 0x14]

/-- GET_VERSION: the connection begins anew (R568). -/
def execGetVersion (c : Nat) (s : State) : Res :=
  s.spdmIn c (fun s =>
    (s.onConn c (fun x => { SpdmConn.reset with started := true, handle := x.handle })).emit (.spdm c (.version spdmVersions)))

/-- GET_CAPABILITIES: fixes the version of the connection (R568). -/
def execGetCapabilities (c : Nat) (ver : Byte) (s : State) : Res :=
  s.spdmIn c (fun s =>
    if !(s.conn c).started then s.spdmError c errUnexpected
    else if !spdmVersions.contains ver then s.spdmError c errVersion
    else (s.onConn c (fun x => { x with version := ver, algs := false })).answer c (.capabilities (transferSize c)))

/-- NEGOTIATE_ALGORITHMS: what the requester offers of the supported set (R568). -/
def execNegotiateAlgorithms (c : Nat) (ver : Byte) (mlDsa44 sha3 dmtf : Bool) (s : State) : Res :=
  s.onSpdm c ver false (fun s =>
    if mlDsa44 && sha3 then (s.onConn c (fun x => { x with algs := true })).answer c (.algorithms true true dmtf)
    else s.spdmError c errInvalid)

/-- GET_DIGESTS: slot 0 alone is there (R568). -/
def execGetDigests (c : Nat) (ver : Byte) (s : State) : Res :=
  s.onSpdm c ver true (fun s => s.answer c (.digests 1 (sha3 s.sec.certChain)))

/-- GET_CERTIFICATE: a portion of the slot 0 chain (R568). -/
def execGetCertificate (c : Nat) (ver : Byte) (slot off len : Nat) (s : State) : Res :=
  s.onSpdm c ver true (fun s =>
    let chain := s.sec.certChain
    if slot != 0 || chain.length ≤ off then s.spdmError c errInvalid
    else
      let p := (chain.drop off).take len
      s.answer c (.certificate p (chain.length - off - p.length)))

/-- The digest of all measurements, for a challenge that asks for their summary (PRESUMED: DSP0274). -/
def State.measSummary (s : State) : List Byte := sha3 (s.sec.meas.toList.flatten)

/-- CHALLENGE: the response is signed by the alias key; the signature comes with the command (R568). -/
def execChallenge (c : Nat) (ver : Byte) (slot : Nat) (nonce : List Byte) (summary : Bool) (signature : List Byte)
    (s : State) : Res :=
  s.onSpdm c ver true (fun s =>
    if slot != 0 then s.spdmError c errInvalid
    else s.answer c (.challengeAuth 1 (sha3 s.sec.certChain) nonce (if summary then s.measSummary else []) signature))

/-- GET_MEASUREMENTS: the registers as they stand when the request is taken; index 0 asks for their number, 255 for all
(R568, R569). -/
def execGetMeasurements (c : Nat) (ver : Byte) (index : Byte) (signature : List Byte) (s : State) : Res :=
  s.onSpdm c ver true (fun s =>
    let i := index.toNat
    let block := fun (k : Nat) => (k, RF.at s.sec.meas (BitVec.ofNat 4 (k - 1)))
    if i = 0 then s.answer c (.measurements 16 [] signature)
    else if i ≤ 16 then s.answer c (.measurements 1 [block i] signature)
    else if i = 255 then s.answer c (.measurements 16 ((List.range 16).map (fun k => block (k + 1))) signature)
    else s.spdmError c errInvalid)

/-- CHUNK_GET: the next chunk of a large response (R568). The header of a chunk takes 12 bytes, 16 in the first
(PRESUMED: DSP0274). -/
def execChunkGet (c : Nat) (ver : Byte) (handle : Byte) (num : Nat) (s : State) : Res :=
  s.onSpdm c ver false (fun s =>
    let x := s.conn c
    match x.large with
    | none => s.spdmError c errUnexpected
    | some r =>
      if handle != x.handle || num != x.nextChunk then s.spdmError c errInvalid
      else
        let first := transferSize c - 16
        let off := if num = 0 then 0 else first + (num - 1) * (transferSize c - 12)
        let len := min (if num = 0 then first else transferSize c - 12) (r.size - off)
        let last : Bool := off + len = r.size
        (s.onConn c (fun x => { x with nextChunk := num + 1, large := if last then none else x.large })).emit
          (.spdmChunk c handle num last r off len))

/-- SPDM_UNSUPPORTED_REQUEST: answered ERROR UnsupportedRequest (R568), or as R570 says. -/
def execSpdmUnsupportedRequest (c : Nat) (s : State) : Res :=
  s.spdmIn c (fun s => s.spdmError c ((s.spdmRefusal false).getD errUnsupported))

end Sys2Proof.Machine
end

