-- ==== Sys2Proof/Machine/DictVals.lean ====
section
/-! DEFINITION. The values of the dictionary's entries: what a read returns (R9, R486). -/

namespace Sys2Proof.Machine

/-! ### Layouts -/

/-- R328: a window as the number of its 256 bits; `fenced` is its FENCED bit. -/
def Window.num (w : Window) (fenced : Bool) : Nat :=
  w.srcMask.toNat * 2 ^ 192 + w.xdom.toNat * 2 ^ 184 + w.region.toNat * 2 ^ 168 + w.size.toNat * 2 ^ 140 + w.base.toNat * 2 ^ 112 +
    bitN fenced 9 + bitN w.v 8 + bitN w.f 5 + bitN w.fc 4 + bitN w.pf 3 + bitN w.at' 2 + bitN w.w 1 + bitN w.rd 0

/-- R328: the window that 32 bytes describe. -/
def Window.of (b : List Byte) : Window :=
  let n := leNat (b.take 32)
  { srcMask := BitVec.ofNat 64 (n / 2 ^ 192), xdom := BitVec.ofNat 8 (n / 2 ^ 184), region := BitVec.ofNat 2 (n / 2 ^ 168),
    size := BitVec.ofNat 28 (n / 2 ^ 140), base := BitVec.ofNat 28 (n / 2 ^ 112), v := n.testBit 8, f := n.testBit 5,
    fc := n.testBit 4, pf := n.testBit 3, at' := n.testBit 2, w := n.testBit 1, rd := n.testBit 0 }

/-- R330: the windows are fenced. -/
def State.fenced (s : State) : Bool := s.mem.memFence || s.mem.ctrlFence || s.mem.driftFence || s.pkg.dev = .icebound

def State.window (s : State) (i : Nat) : Window := RF.at s.mem.windows (BitVec.ofNat 5 i)

/-- R328: the descriptor of a window. -/
def State.windowBytes (s : State) (i : Nat) : List Byte := natLE 32 ((s.window i).num s.fenced)

/-- R550: a CVU_UNIT value. -/
def Cvu.ctrlWord (u : Cvu) : Nat :=
  bitN u.aliveFirst 15 + bitN u.autoInc 14 + u.mode.toNat * 2 ^ 8 + u.algo.toNat * 2 ^ 4 + bitN u.en 0

/-- R554: CVU_STATUS. -/
def Cvu.statusWord (u : Cvu) : Nat := bitN u.cfgIgnored 31 + bitN u.en 30 + u.result.toNat

def Cvu.bytes (u : Cvu) : List Byte :=
  natLE 8 u.start.toNat ++ natLE 8 u.len.toNat ++ natLE 4 u.stride.toNat ++ natLE 4 u.block.toNat ++ natLE 8 u.run.toNat ++
    natLE 8 u.expect.toNat ++ natLE 2 u.value.toNat ++ natLE 2 u.last.toNat ++ natLE 4 u.ctrlWord ++ natLE 4 u.statusWord ++
    natLE 4 0 ++ natLE 8 u.raddr.toNat

/-- R541: an extreme. -/
def Extreme.bytes (x : Extreme) : List Byte :=
  intLE 4 x.min ++ intLE 4 x.max ++ natLE 4 x.minOp.toNat ++ natLE 4 x.maxOp.toNat ++ natLE 4 x.minCyc.toNat ++
    natLE 4 x.maxCyc.toNat ++ zeros 8

/-- R518, R549: the code of a slot of the bank. -/
def Errs.slotCode (e : Errs) (i : Nat) : Nat :=
  match e.slot i with
  | none => 0
  | some x => if x.acked then 2 else 1

def Errs.slotBytes (e : Errs) (i : Nat) : List Byte :=
  match e.slot i with
  | none => zeros 64
  | some x => x.r.bytes

/-- The codes of four slots in a byte. -/
def Errs.codeByte (e : Errs) (i : Nat) : Byte :=
  BitVec.ofNat 8 (e.slotCode (4 * i) + 4 * e.slotCode (4 * i + 1) + 16 * e.slotCode (4 * i + 2) + 64 * e.slotCode (4 * i + 3))

/-- R547: a copy of the last-fatal area. -/
def LastFatal.bytes (x : LastFatal) : List Byte :=
  let n := (x.recs.filter (fun p => p.2.isSome)).length
  (List.range 64).map (Config.fatalHeader x.seq.toNat n x.optime.toNat x.cycles.toNat) ++
    (List.range 64).flatMap (fun i => match SMap.get none x.recs i with | some r => r.bytes | none => zeros 64)

/-- A set of numbers below `8 n` as `n` bytes. -/
def setBytes (n : Nat) (l : NSet) : List Byte :=
  (List.range n).map (fun i => BitVec.ofNat 8 ((((List.range 8).filter (fun j => l.contains (8 * i + j))).map (2 ^ ·)).sum))

/-- R595 CAL_ITEMS: one item. -/
def CalItem.bytes (x : CalItem) (code : Nat) : List Byte :=
  natLE 1 code ++ natLE 1 x.status ++ zeros 2 ++ natLE 4 x.count.toNat ++ natLE 4 x.thirdRuns.toNat ++ natLE 4 x.suspect.toNat ++
    natLE 8 x.lastFt.toNat ++ natLE 4 x.lastOp.toNat ++ zeros 4

/-- R595 MARGIN_PLAN; all 0 before the first plan. -/
def State.planBytes (s : State) : List Byte :=
  let c := s.cal
  if c.planGen = 0 then zeros 32
  else
    c.planV.toList.flatMap (natLE 1) ++ c.planS.toList.flatMap (natLE 1) ++ natLE 1 s.clk.stepLimit ++
      natLE 1 (c.exhausted.toNat + bitN c.pendingLimit.isSome 4) ++ natLE 1 (c.pendingLimit.getD 0) ++ zeros 1 ++
      natLE 4 c.planNext.toNat ++ natLE 4 c.planOp.toNat ++ zeros 4 ++ natLE 8 c.planFt.toNat

def Cal.ageBytes (c : Cal) : List Byte :=
  c.ageD.toList.flatMap (natLE 2) ++ c.ageSlack.toList.flatMap (natLE 2) ++ c.ageSlope.toList.flatMap (natLE 1) ++
    c.ageEye.toList.flatMap (natLE 1) ++ zeros 8

def Roles.bytes (r : Roles) : List Byte := natLE 1 r.mem ++ natLE 1 r.firn ++ natLE 1 r.fab ++ natLE 1 r.ctl

/-! ### Single values -/

/-- R225: what HBM_REGION_MAP reads. -/
def State.mapRead (s : State) : List Byte :=
  if s.hbm.placed then s.hbm.map
  else match s.hbm.mapWritten with
    | some m => m
    | none => defaultMap ((List.range 24).filter (fun h => (s.hbm.stack h).st != .notFound && !s.maskNext.testBit h)).length

/-- R449: HOST_HEARTBEAT_AGE: timed from the entry into FLOW on. -/
def State.heartbeatAge (s : State) : Nat :=
  if s.pkg.dev = .flow || s.pkg.dev = .drift then min (s.since s.firm.mbx.lastMsg / msU 1) (2 ^ 32 - 1) else 0

/-- R476: FW_CORE. -/
def State.coreWord (s : State) (n : Nat) : W32 :=
  let c := RF.at s.firm.cores (BitVec.ofNat 3 n)
  BitVec.ofNat 32 (c.st.code * 2 ^ 29 + min c.restarts.toNat 255 * 256 + c.lastCause.toNat)

/-- R392 CLK_PENDING. -/
def State.pendingBytes (s : State) : List Byte :=
  match s.clk.pending with
  | none => zeros 16
  | some f => natLE 1 f.step ++ zeros 1 ++ natLE 2 f.seq.toNat ++ natLE 4 f.job.toNat ++ natLE 8 f.tf.toNat

/-- R286: PHO_STEER_SETS. -/
def State.steerSets (s : State) : List Byte :=
  defaultSet.toList ++ (List.range 7).flatMap (fun i => (RF.at s.floe.sets (BitVec.ofNat 3 (i + 1))).toList)

/-- R407: PWR_GOV_TABLE. -/
def State.govBytes (s : State) : List Byte :=
  padTo 98304 (s.pow.gov.flatMap (fun g => natLE 4 g.key.toNat ++ g.p.toList.flatMap (natLE 4) ++ zeros 4))

/-- R164: programs accepted, and those started. -/
def State.accepted (s : State) : Nat := s.sched.progs.length
def State.started (s : State) : Nat := (s.sched.progs.filter Prog.hasStarted).length

/-- R85: enabled tiles of the map in force. -/
def State.tilesEnabled (s : State) : Nat := ((List.range 1024).filter (fun n => (s.mapShown.ent n).st = .enabled)).length

def boolB (b : Bool) : List Byte := if b then [1] else [0]

/-! ### The values by index -/

def State.valIdent (s : State) (sub : Nat) : List Byte :=
  match sub with
  | 1 => padTo 16 [0x57, 0x61, 0x6C, 0x6F, 0x75, 0x78]
  | 2 => padTo 16 [0x54, 0x69, 0x72, 0x61, 0x6E, 0x74, 0x69, 0x64, 0x65, 0x20, 0x54, 0x32, 0x34]
  | 3 => padTo 8 [0x54, 0x54, 0x32, 0x34, 0x2D, if s.part.gradeB then 0x42 else 0x41]
  | 4 => natLE 8 s.idSerial.toNat
  | 5 => natLE 4 s.part.iana.toNat
  | 6 => natLE 2 0x0100
  | 0x10 => boolB s.dict.lock
  | _ => natLE 4 s.dict.gen.toNat

def State.valDevice (s : State) (sub : Nat) : List Byte :=
  let m := s.firm.mbx
  match sub with
  | 1 => natLE 1 s.pkg.dev.code
  | 2 => boolB m.attached
  | 3 => natLE 4 m.driftPeriod
  | 4 => natLE 4 s.heartbeatAge
  | 5 => boolB m.driftExpired
  | 6 => natLE 4 m.driftEntries.toNat
  | _ => [0]

def State.valTiles (s : State) (sub : Nat) : List Byte :=
  match sub with
  | 1 => boolB s.part.gradeB
  | 2 => natLE 2 s.tilesEnabled
  | 3 => boolB s.mapShown.conform
  | 4 => natLE 4 s.mapShown.digest.toNat
  | 5 => s.mapShown.bytes s.part.gradeB
  | 6 => s.serac.mapNext.bytes s.part.gradeB
  | 7 => boolB (RF.at s.serac.raEn 0)
  | 8 => natLE 4 s.serac.faultCount.toNat
  | _ => setBytes 128 s.serac.retiredList

def State.valFirn (s : State) (sub : Nat) : List Byte :=
  let f := s.firn
  match sub with
  | 1 => natLE 4 f.scratchDefault.toNat
  | 2 => natLE 4 f.scratchMode.toNat
  | 3 => zeros 4
  | 4 => natLE 4 f.drainLines.toNat
  | 5 => natLE 8 f.mergedReads.toNat
  | 6 => natLE 8 f.arrayReads.toNat
  | 7 => natLE 4 f.spareSwaps.toNat
  | 8 => natLE 2 f.halfBundles.toNat
  | 9 => natLE 2 f.retiredBundles.toNat
  | _ => natLE 4 f.eccCe.toNat

def State.valHbm (s : State) (sub : Nat) : List Byte :=
  let h := s.hbm
  match sub with
  | 1 => s.mapRead
  | 2 => natLE 4 h.retireMask.toNat
  | 3 => boolB h.defaulted
  | 4 => natLE 2 h.capacity.toNat
  | 5 => natLE 2 h.scrubPeriod.toNat
  | 6 => natLE 8 h.ecce.toNat
  | 7 => natLE 4 h.eccUc.toNat
  | 8 => natLE 8 h.ondieCe.toNat
  | 9 => natLE 4 h.scrubPasses.toNat
  | 0x0A => natLE 8 h.failedAccesses.toNat
  | _ => (List.range 24).flatMap (fun i => natLE 2 (h.stack i).temp.toNat)

def State.valPho (s : State) (sub : Nat) : List Byte :=
  let f := s.floe
  match sub with
  | 1 => f.roles.flatMap Roles.bytes
  | 2 => f.rolesInForce.flatMap Roles.bytes
  | 3 => natLE 2 f.disable.toNat
  | 4 => natLE 2 f.svcPeriod.toNat
  | 5 => s.steerSets
  | 6 => natLE 8 f.steerTime.toNat
  | 7 => zeros 1
  | 8 => [f.steerRes] ++ zeros 3 ++ (List.range 16).flatMap (fun p => natLE 1 (SMap.get 0 f.steerPorts p))
  | 9 => f.inForce.toList
  | 0x0A => (List.range 4).flatMap (fun b => (List.range 34).flatMap (fun e => natLE 4 (SMap.get 0 f.emitPub (emKey b e)).toNat))
  | 0x0B => natLE 4 f.eyeReduced.toNat
  | 0x0C => (List.range 16).flatMap (fun q => natLE 8 (RF.at f.fecPub (BitVec.ofNat 4 q)).1.toNat ++
      natLE 8 (RF.at f.fecPub (BitVec.ofNat 4 q)).2.toNat)
  | 0x0D => natLE 4 f.swaps.toNat
  | 0x0E => natLE 4 f.trackEvents.toNat
  | 0x0F => natLE 4 f.eyeEvents.toNat
  | _ => natLE 8 f.retiredWl.toNat

def State.valFab (s : State) (sub : Nat) : List Byte :=
  let f := s.fab
  match sub with
  | 1 => natLE 1 f.shape
  | 2 => natLE 1 f.devid.toNat
  | 3 => natLE 1 f.domain.toNat
  | 4 => natLE 1 (RF.at f.seed 0).toNat
  | 5 => f.routes.toList.flatMap (fun r => natLE 2 r.toNat)
  | 6 => natLE 4 f.routeGen.toNat
  | 7 => natLE 8 f.lostPeers.toNat
  | 8 => (List.range 176).flatMap (fun i => natLE 8 (SMap.get 0 f.cntPub i).toNat)
  | _ => f.outerPeers.toList

def State.valMem (s : State) (sub : Nat) : List Byte :=
  let m := s.mem
  match sub with
  | 1 => (List.range 32).flatMap s.windowBytes
  | 2 => boolB m.memFence
  | 3 => natLE 4 m.timeout.toNat
  | 4 => natLE 4 m.retention.toNat
  | 5 => boolB m.privSw
  | 6 => natLE 8 m.retries.toNat
  | 7 => natLE 4 m.resyncs.toNat
  | 8 => natLE 8 m.busyNacks.toNat
  | 9 => natLE 8 m.ageDiscards.toNat
  | 0x0A => natLE 4 m.atomicUnknown.toNat
  | 0x0B => natLE 8 m.seqDiscards.toNat
  | 0x0C => natLE 8 m.bar4Base.toNat
  | 0x0D => natLE 4 m.bar4Ur.toNat
  | 0x14 => natLE 8 m.hdmaDone.toNat
  | 0x15 => natLE 4 m.hdmaFailed.toNat
  | e => natLE 8 (RF.at m.hdma (BitVec.ofNat 2 (e - 0x10))).ringBase

def State.valColl (s : State) (sub : Nat) : List Byte :=
  let m := s.mem
  match sub with
  | 5 => natLE 4 m.collTimeout.toNat
  | 6 => natLE 8 m.collDone.toNat
  | 7 => natLE 4 m.collFailed.toNat
  | t => natLE 8 (RF.at m.coll (BitVec.ofNat 2 (t - 1))).ringBase

def State.valClk (s : State) (sub : Nat) : List Byte :=
  let c := s.clk
  match sub with
  | 1 => natLE 8 s.ftime.toNat
  | 2 => natLE 1 c.ftState.code
  | 3 => natLE 8 c.taiEpoch.toNat
  | 4 => natLE 2 c.wrapEpoch.toNat
  | 5 => natLE 4 c.offset.toNat
  | 6 => match c.upstream with | some q => natLE 1 q.toNat | none => [0xFF]
  | 7 => c.asym.toList.flatMap (fun x => natLE 4 x.toNat)
  | 8 => boolB c.ppsEn
  | 9 => zeros 1
  | 0x0A => natLE 1 c.jobStep
  | 0x0B => natLE 1 c.stepLimit
  | 0x0C => s.pendingBytes
  | 0x0D => natLE 4 c.freqChanges.toNat
  | 0x0E => natLE 4 c.lateChanges.toNat
  | 0x0F => natLE 4 c.marginWarn.toNat
  | 0x10 => natLE 4 c.marginAlarm.toNat
  | _ => natLE 8 c.ftLocal.toNat

def State.valPow (s : State) (sub : Nat) : List Byte :=
  let p := s.pow
  match sub with
  | 1 => natLE 2 p.cap
  | 2 => natLE 2 p.pwrNow
  | 3 => natLE 1 p.brkK
  | 4 => natLE 2 p.brkCap
  | 5 => natLE 1 p.targetStep
  | 6 => natLE 4 s.jobId.toNat
  | 7 => boolB p.govEnable
  | 8 => s.govBytes
  | 9 => p.stks.toList.flatMap (fun k => natLE 2 (k.budget / 1000))
  | 0x0A => p.told.toList.flatMap (fun k => natLE 1 k.l) ++ p.told.toList.flatMap (fun k => natLE 1 k.g) ++
      (List.range 24).flatMap (fun h => natLE 1 (SMap.get 100 p.hTold h))
  | 0x0B => p.told.toList.flatMap Told.temps
  | 0x0C => natLE 4 p.throttleEvents.toNat
  | 0x0D => natLE 2 s.suspectCount
  | 0x0E => natLE 4 p.lowerings.toNat
  | 0x0F => boolB p.capUnreach
  | _ => natLE 4 p.fallbackEvents.toNat

def State.valFirm (s : State) (idx sub : Nat) : List Byte :=
  let f := s.firm
  match idx, sub with
  | 0x5000, 1 => natLE 4 f.release.toNat
  | 0x5000, 2 => [f.msgMinor, f.msgMajor]
  | 0x5000, 3 => padTo 8 ((List.range 6).flatMap (fun n => natLE 1 ((s.coreWord n).toNat / 2 ^ 24)))
  | 0x5000, 4 => (List.range 6).flatMap (fun n => natLE 4 (RF.at f.cores (BitVec.ofNat 3 n)).restarts.toNat)
  | 0x5000, _ => natLE 4 f.mbx.eventsDropped.toNat
  | 0x5010, 1 => natLE 4 f.lease.gen.toNat
  | 0x5010, 2 => boolB f.lease.primaryN1
  | 0x5010, 3 => natLE 1 f.lease.health.code
  | 0x5010, 4 => zeros 1
  | 0x5010, _ => natLE 4 f.lease.mismatches.toNat
  | 0x5020, 1 => match SMap.get none s.dict.vals (dk 0x5020 1) with | some v => v | none => [10]
  | 0x5020, 2 => natLE 4 s.sched.sliceTimeout
  | 0x5020, 3 => boolB s.sched.preemptEn
  | 0x5020, 4 => natLE 1 s.accepted
  | 0x5020, 5 => natLE 1 s.started
  | 0x5020, 6 => natLE 4 s.sched.preemptions.toNat
  | 0x5020, 7 => natLE 4 s.sched.sliceAbandons.toNat
  | 0x5020, _ => natLE 4 s.sched.trapsDropped.toNat
  | 0x5030, 1 => padTo 4 f.dm.order
  | 0x5030, 2 => [f.dm.holder]
  | 0x5030, 3 => natLE 4 f.dm.gen.toNat
  | 0x5030, 4 => natLE 1 f.dm.role.code
  | 0x5030, 5 => padTo 3 f.dm.health
  | 0x5030, 6 => natLE 1 f.dm.swapPeriod
  | 0x5030, 7 => zeros 1
  | 0x5030, 8 => natLE 8 f.dm.lastSwap.toNat
  | 0x5030, _ => natLE 8 f.dm.mgmtSilent.toNat
  | _, 1 => natLE 1 f.log.minSev
  | _, 2 => natLE 512 f.log.trace
  | _, 3 => natLE 4 f.log.lost.toNat
  | _, _ => natLE 4 f.log.suppressed.toNat

def State.valErrs (s : State) (sub : Nat) : List Byte :=
  let e := s.errs
  match sub with
  | 1 => (List.range 64).flatMap e.slotBytes
  | 2 => (List.range 16).map e.codeByte
  | 3 => natLE 4 e.ackVal.toNat
  | 4 => natLE 4 e.nextSeq.toNat
  | 5 => natLE 4 e.lost.toNat
  | 6 => e.counts.toList.flatMap (fun c => natLE 4 c.toNat)
  | 7 => boolB (e.injEn && !e.prodLock)
  | 8 => padTo 16 e.injReg
  | 9 => natLE 4 e.injected.toNat
  | 0x0A => boolB e.prodLock
  | _ => zeros 1

def State.valCvu (s : State) (sub : Nat) : List Byte :=
  match sub with
  | 0x11 => natLE 4 s.errs.mismatches.toNat
  | 0x12 => natLE 8 s.errs.scans.toNat
  | c => (RF.at s.cvu (BitVec.ofNat 4 (c - 1))).bytes

def State.valMor (s : State) (sub : Nat) : List Byte :=
  let m := s.mor
  match sub with
  | 1 => (List.range 1536).flatMap (fun i => natLE 4 (SMap.get 0 m.d.hist i).toNat)
  | 2 => (List.range 49).flatMap (fun i => natLE 4 (SMap.get 0 m.d.gens i).toNat)
  | 3 => (List.range 64).flatMap (fun i => (m.d.extreme i).bytes)
  | 4 => boolB m.frozen.isSome
  | 5 => zeros 1
  | 6 => natLE 4 m.cycles.toNat
  | 7 => natLE 4 m.optime.toNat
  | 8 => match m.lfNew with | some x => x.bytes | none => zeros 4160
  | 9 => natLE 1 m.store
  | _ => natLE 4 m.snapshots.toNat

def State.valCal (s : State) (sub : Nat) : List Byte :=
  let c := s.cal
  match sub with
  | 1 => natLE 1 c.stage
  | 2 => zeros 1
  | 3 => match SMap.get none s.dict.vals (dk 0x6300 3) with | some v => v | none => zeros 262144
  | 4 => [c.result]
  | 5 => zeros 1
  | 6 => padTo 262144 c.exported
  | 7 => (List.range 9).flatMap (fun i => (SMap.get CalItem.reset c.items i).bytes i)
  | 8 => natLE 4 c.svcDisagree.toNat
  | 9 => boolB c.replanEn
  | 0x0A => natLE 4 c.planGen.toNat
  | 0x0B => s.planBytes
  | _ => c.ageBytes

def State.valSec (s : State) (sub : Nat) : List Byte :=
  let x := s.sec
  match sub with
  | 1 => x.keyHash.toList.flatMap (padTo 32)
  | 2 => natLE 1 x.keyRevoked.toNat
  | 3 => zeros 1
  | 4 => natLE 1 x.svnFused
  | 5 => zeros 1
  | 6 => padTo 32 x.digest
  | 7 => [x.keyIndex]
  | 8 => natLE 8 x.svn.toNat
  | 9 => x.meas.toList.flatMap (padTo 32)
  | 0x0A => zeros 33
  | 0x0B => boolB x.hostEn
  | 0x0C => pubOf s.deviceSeed
  | 0x0D => padTo 1312 x.aliasPub
  | 0x0E => padTo 16384 x.certChain
  | 0x0F => natLE 1 s.attest
  | _ => natLE 4 x.requests.toNat

/-- R9, R486: the value in force of an entry other than those of subindex 0. -/
def State.entryVal (s : State) (idx sub : Nat) : List Byte :=
  match idx with
  | 0x1000 => s.valIdent sub
  | 0x1100 => if sub = 1 then natLE 4 s.pkg.mapGen.toNat else if sub = 2 then [41] else [s.pkg.cause]
  | 0x1101 => natLE 8 (s.dieWord (sub - 1))
  | 0x1200 => s.valDevice sub
  | 0x2000 => s.valTiles sub
  | 0x2100 => s.valFirn sub
  | 0x2200 => s.valHbm sub
  | 0x3000 => s.valPho sub
  | 0x3100 => s.valFab sub
  | 0x3200 => s.valMem sub
  | 0x3300 => s.valColl sub
  | 0x4000 => s.valClk sub
  | 0x4100 => s.valPow sub
  | 0x6000 => s.valErrs sub
  | 0x6100 => s.valCvu sub
  | 0x6200 => s.valMor sub
  | 0x6300 => s.valCal sub
  | 0x7000 => s.valSec sub
  | _ => s.valFirm idx sub

end Sys2Proof.Machine
end

