-- ==== Sys2Proof/Machine/ThawOps.lean ====
section
/-! DEFINITION. The proceed point, and the export and restore of calibration (R573 to R575, R583 to R586). -/

namespace Sys2Proof.Machine

/-! ### The proceed point (R574, R575) -/

/-- R573 step 5: the settings are fixed, and an accepted restore is applied; its elements wait for their repeat runs. -/
def State.proceed (s : State) : State :=
  let s := s.fixSettings
  let v := s.staged (dk 0x6300 3)
  let s := match v with
    | some b => (((s.unstage (dk 0x6300 3)).applyEntry (dk 0x6300 3) b).lookDom (dk 0x6300 3) b true).onCal (fun c =>
        { c with restored := true, restore := some b, result := 2 })
    | none => s
  s.onCal (fun c => { c with proceeded := true, stage := 5 })

/-- The configuration hold: the image is accepted, and the proceed point is still to come. -/
def State.inHold (s : State) : Bool := s.pkg.dev = .thaw && s.cal.accepted.isSome && !s.cal.proceeded

/-- R574: a write of THAW_PROCEED: its result code. -/
def State.thawProceed (s : State) (v : Nat) : Nat × State := if v != 1 || !s.inHold then (5, s) else (0, s.proceed)

/-! ### Restore (R585) -/

/-- R584 DIE_CHECK: CRC-32C over DIE_SERIAL_LO of die indices 0 to 15. -/
def State.dieCheck (s : State) : W32 := crc32c ((List.range 16).flatMap (fun i => natLE 4 (s.dieWord i / 2 ^ 32)))

/-- R584: OFFSET, SIZE and CRC of the section of an item. -/
def calSect (b : List Byte) (i : Nat) : Nat × Nat × Nat := (fld b (64 + 16 * i + 4) 4, fld b (64 + 16 * i + 8) 4, fld b (64 + 16 * i + 12) 4)

def calSectBytes (b : List Byte) (i : Nat) : List Byte := (b.drop (calSect b i).1).take (calSect b i).2.1

/-- R584: the CRC of a blob and of each of its sections holds. -/
def calCrcOk (b : List Byte) : Bool :=
  crc32c (b.take 60 ++ zeros 4 ++ b.drop 64) == BitVec.ofNat 32 (fld b 60 4) &&
  (List.range 9).all (fun i => crc32c (calSectBytes b i) == BitVec.ofNat 32 (calSect b i).2.2)

/-- R585: why a blob is refused, as CAL_RESTORE_RESULT shows it; 1 where it is staged. -/
def State.restoreCause (s : State) (b : List Byte) : Byte :=
  if fld b 0 4 != 0x4C414354 then 7
  else if !calCrcOk b then 4
  else if fld b 8 8 != s.idSerial.toNat || fld b 16 4 != s.dieCheck.toNat then 5
  else if fld b 4 2 != (Config.calFormat s.firm.release.toNat).1.toNat then 6
  else 1

/-- R585, R595: a write of CAL_RESTORE at its closing segment; after the proceed point it is refused. -/
def State.calRestore (s : State) (b : List Byte) : Nat × State :=
  if !s.inHold then (5, s)
  else
    let c := s.restoreCause b
    let s := s.onCal (fun x => { x with result := c })
    if c = 1 then (0, s.stage (dk 0x6300 3) b) else (5, s)

/-! ### Export (R583, R584) -/

/-- The values and suspect marks in force of an item: element, choice and trims, marks. -/
def State.calValues (s : State) (i : Nat) : List (Nat × List Int × List Nat) :=
  s.cal.elems.filterMap (fun p =>
    if p.1 / 2 ^ 24 = i then
      p.2.value.map (fun v => (p.1 % 2 ^ 24, Int.ofNat v.choice :: v.trims, p.2.suspects))
    else none)

/-- R584: the directory of the sections, which follow one another from byte 208 on (log entry 43). -/
def calDirectory (sects : List (List Byte)) : List Byte :=
  ((sects.zipIdx).foldl (fun (acc : List Byte × Nat) p =>
    (acc.1 ++ natLE 1 p.2 ++ zeros 3 ++ natLE 4 acc.2 ++ natLE 4 p.1.length ++ natLE 4 (crc32c p.1).toNat, acc.2 + p.1.length)) ([], 208)).1

/-- R584: the blob of a take. -/
def State.calBlob (s : State) : List Byte :=
  let sects := (List.range 9).map (fun i => Config.calSection i (s.calValues i))
  let f := Config.calFormat s.firm.release.toNat
  let head := natLE 4 0x4C414354 ++ natLE 2 f.1.toNat ++ natLE 2 f.2.toNat ++ natLE 8 s.idSerial.toNat ++ natLE 4 s.dieCheck.toNat ++
    natLE 4 s.serac.map.digest.toNat ++ natLE 8 s.ftime.toNat ++ natLE 4 s.mor.optime.toNat ++ natLE 4 s.mor.cycles.toNat ++
    natLE 4 s.cal.planGen.toNat ++ natLE 2 9 ++ zeros 14
  let rest := (padTo 262080 (calDirectory sects ++ sects.flatten))
  head ++ natLE 4 (crc32c (head ++ zeros 4 ++ rest)).toNat ++ rest

/-- R583: a write of CAL_EXPORT_TAKE. -/
def State.calTake (s : State) (v : Nat) : Nat × State :=
  if v != 1 || !(s.pkg.dev = .flow || s.pkg.dev = .drift) then (5, s)
  else
    let b := s.calBlob
    (0, (s.onCal (fun c => { c with exported := b })).lookDom (dk 0x6300 6) b true)

end Sys2Proof.Machine
end

