-- ==== Sys2Proof/Machine/Dict.lean ====
section
/-! DEFINITION. The dictionary server: checks, writes, sessions and replies (R478 to R495). -/

namespace Sys2Proof.Machine

/-! ### What an accepted value does (R485 RANGE, R487) -/

/-- A value that waits for its moment. -/
def State.stageIf (s : State) (ok : Bool) (k : Nat) (v : List Byte) : Nat × State := if ok then (0, s.stage k v) else (5, s)

/-- A value that takes effect at once. -/
def State.applyIf (s : State) (ok : Bool) (k : Nat) (v : List Byte) : Nat × State := if ok then (0, s.applyEntry k v) else (5, s)

/-- An action that is taken or refused. -/
def took (r : Bool × State) : Nat × State := if r.1 then (0, r.2) else (5, r.2)

/-- R484: DICT_LOCK locks every RWL entry and sets the LOCK bit of every block. -/
def State.lockAll (s : State) : State :=
  lockBlocks.foldl (fun s b => s.onBlock b (fun x => { x with lock := true })) (s.onDict (fun d => { d with lock := true }))

/-- R611: a write of SOFT_RESET: the reset begins after a Moraine snapshot. -/
def State.askReset (s : State) (v : Nat) : Nat × State :=
  if v != 0x5A then (5, s) else (0, { s.dueSnap with pkg := { s.dueSnap.pkg with softReset := true } })

/-- R80: a write of TILE_RETIRED_LIST: bits may only be added; before the proceed point they act in this THAW's map. -/
def State.putRetired (s : State) (v : List Byte) : Nat × State :=
  let l := (List.range 1024).filter (fun i => (v.getD (i / 8) 0).getLsbD (i % 8))
  if s.serac.retiredList.any (fun n => !l.contains n) then (5, s)
  else
    let new := l.filter (fun n => !s.serac.retiredList.contains n)
    let both := s.pkg.dev = .thaw && !s.cal.proceeded
    let s := new.foldl (fun s n => (s.mapEntry n both (fun _ => ⟨.none, .retired⟩)).onSerac (fun x => { x with
      map := if both then { x.map with conform := false } else x.map
      mapNext := { x.mapNext with conform := false }
      retiredList := NSet.add n x.retiredList
      retirePending := NSet.add n x.retirePending })) s
    (0, s)

/-- R224, R225: HBM_REGION_MAP and HBM_RETIRE_MASK are refused once HBM is placed. -/
def State.putPlacement (s : State) (k : Nat) (v : List Byte) : Nat × State :=
  if s.hbm.placed || (k = dk 0x2200 2 && 2 ^ 24 ≤ leNat v) then (5, s)
  else if k = dk 0x2200 1 then (0, (s.applyEntry k v).stage k v)
  else (0, s.stage k v)

/-- R275: the counts of each pair sum to 16, with at least one CTL and one MEM. -/
def rolesOk (v : List Byte) : Bool := (rolesOf v).all (fun r => r.mem + r.firn + r.fab + r.ctl == 16 && r.ctl != 0 && r.mem != 0)

/-- R286: PHO_STEER_SETS: set 0 is not written, and a set that a pending steer names may not change. -/
def State.putSets (s : State) (v : List Byte) : Nat × State :=
  let set := fun (i : Nat) => (Vector.ofFn (fun g : Fin (2 ^ 5) => v.getD (32 * i + g.val) 0) : RF 5 Byte)
  let bad := s.floe.steers.any (fun x => x.num != 0 && RF.at s.floe.sets x.num != set x.num.toNat)
  if bad then (5, s)
  else
    let s := s.onFloe (fun f => { f with
      sets := Vector.ofFn (fun i : Fin (2 ^ 3) => if i.val = 0 then defaultSet else set i.val) })
    (0, s.lookDom (dk 0x3000 5) s.steerSets true)

/-- R328, R364: MEM_WINDOWS: a REGION of 0b11 is refused. -/
def State.putWindows (s : State) (v : List Byte) : Nat × State :=
  let w := fun (i : Nat) => Window.of ((v.drop (32 * i)).take 32)
  if (List.range 32).any (fun i => (w i).region = 3) then (5, s)
  else
    let s := s.onMem (fun m => { m with windows := Vector.ofFn (fun i : Fin (2 ^ 5) => w i.val) })
    (0, s.lookDom (dk 0x3200 1) (s.entryVal 0x3200 1) true)

/-- R351: BAR4 is 16 GiB, or a larger power of two. -/
def State.bar4Size (s : State) : Nat := 2 ^ (34 + s.mem.bar4Log)

/-- R351: a base names the own device and region 0b00 or 0b01, at a multiple of the BAR4 size. -/
def State.bar4Ok (s : State) (n : Nat) : Bool :=
  n < 2 ^ 48 && gDev n = s.devid && gRegion n < 2 && gOff n % s.bar4Size = 0

/-- R353, R356: a ring base is 0, or 4 KiB of own HBM at a multiple of 4 KiB. -/
def State.ringOk (s : State) (n : Nat) : Bool := n = 0 || s.inOwnHbm n 4096

/-- R346: the timeout and the retention as last accepted on this device. -/
def State.putDomainTime (s : State) (k : Nat) (v : List Byte) : Nat × State :=
  let n := leNat v
  if k = dk 0x3200 3 then
    if n < 5 || 10000 < n || s.mem.retentionOwn.toNat < 6 * n then (5, s)
    else (0, (s.stage k v).onMem (fun m => { m with timeoutOwn := BitVec.ofNat 32 n }))
  else if n < 1000 || 60000 < n || n < 6 * s.mem.timeout.toNat || n < 6 * s.mem.timeoutOwn.toNat then (5, s)
  else (0, (s.stage k v).onMem (fun m => { m with retentionOwn := BitVec.ofNat 32 n }))

/-- R528, R530: ERR_INJECT_EN is refused once the production lock is set. -/
def State.putInjEn (s : State) (on : Bool) : Nat × State :=
  if s.errs.prodLock then (5, s) else (0, s.onErrs (fun e => { e with injEn := on }))

/-- R506, R508, R554: a write that a block ignores is counted. -/
def State.ignored (s : State) (b : Nat) : State := s.onBlock b (fun x => { x with ignored := satInc x.ignored })

/-- R509, R550, R554: CVU_UNIT takes effect at once; a unit reserved for the firmware ignores it, and counts. -/
def State.putCvu (s : State) (c : BitVec 4) (v : List Byte) : Nat × State :=
  if s.cvuFwOnly c then (0, s.ignored (blockKey (c.toNat / 4 + 1) 8))
  else
    let w := BitVec.ofNat 32 (fld v 44 4)
    let s := s.onCvu c.toNat (fun u => { u with
      start := BitVec.ofNat 64 (fld v 0 8), len := BitVec.ofNat 64 (fld v 8 8), stride := BitVec.ofNat 32 (fld v 16 4)
      block := BitVec.ofNat 32 (fld v 20 4), run := BitVec.ofNat 64 (fld v 24 8), expect := BitVec.ofNat 64 (fld v 32 8)
      value := BitVec.ofNat 16 (fld v 40 2), last := BitVec.ofNat 16 (fld v 42 2), raddr := BitVec.ofNat 64 (fld v 56 8)
      aliveFirst := w.getLsbD 15, autoInc := w.getLsbD 14, mode := w.extractLsb' 8 2, algo := w.extractLsb' 4 2 })
    (0, s.cvuCtrl c w)

/-- R463: SCHED_SWAP; R467: DM_SWAP, refused except on the holder. -/
def State.putSchedSwap (s : State) (n : Nat) : Nat × State := if n != 1 then (5, s) else took s.askSwap
def State.putDmSwap (s : State) (n : Nat) : Nat × State :=
  if !s.isHolder then (5, s) else if n = 1 then (0, s.giveRole) else (0, s)

/-- R543, R546: MOR_FREEZE and MOR_FLUSH. -/
def State.putFlush (s : State) (n : Nat) : Nat × State := if n != 1 then (5, s) else (0, s.dueSnap)

/-- Entries of the device, the tiles, the Firn and the HBM. -/
def State.putSys (s : State) (k : Nat) (v : List Byte) : Nat × State :=
  let n := leNat v
  if k = dk 0x1000 0x10 then (0, if n = 1 then s.lockAll else s)
  else if k = dk 0x1200 3 then s.stageIf (n = 0 || (10 ≤ n && n ≤ 86400)) k v
  else if k = dk 0x1200 7 then s.askReset n
  else if k = dk 0x2000 7 then (0, s.putRaEnable v)
  else if k = dk 0x2000 9 then s.putRetired v
  else if k = dk 0x2100 3 then (0, s.onFirn (fun f => { f with flushDue := f.flushDue ||| BitVec.ofNat 32 n }))
  else if k = dk 0x2200 1 || k = dk 0x2200 2 then s.putPlacement k v
  else if k = dk 0x2200 5 then s.stageIf (6 ≤ n && n ≤ 168) k v
  else s.stageIf true k v

/-- Entries of the photonics and the fabric. -/
def State.putPho (s : State) (k : Nat) (v : List Byte) : Nat × State :=
  let n := leNat v
  if k = dk 0x3000 1 then s.stageIf (rolesOk v) k v
  else if k = dk 0x3000 4 then s.stageIf (10 ≤ n && n ≤ 1000) k v
  else if k = dk 0x3000 5 then s.putSets v
  else if k = dk 0x3000 7 then took (s.steerGo n)
  else if k = dk 0x3100 1 then s.stageIf (n < 6) k v
  else if k = dk 0x3100 3 then s.stageIf (n < 254) k v
  else if k = dk 0x3100 4 && !s.fab.en then s.applyIf true k v
  else s.stageIf true k v

/-- Entries of the memory semantics and the collectives. -/
def State.putMemory (s : State) (k : Nat) (v : List Byte) : Nat × State :=
  let n := leNat v
  if k = dk 0x3200 1 then s.putWindows v
  else if k = dk 0x3200 2 then (0, s.onMem (fun m => { m with memFence := n != 0 }))
  else if k = dk 0x3200 3 || k = dk 0x3200 4 then s.putDomainTime k v
  else if k = dk 0x3200 5 then s.applyIf true k v
  else if k = dk 0x3200 0x0C then s.applyIf (s.bar4Ok n) k v
  else if k = dk 0x3300 5 then s.applyIf (1 ≤ n && n ≤ 10000) k v
  else s.stageIf (s.ringOk n) k v

/-- Entries of the clocks and of power. -/
def State.putClkPow (s : State) (k : Nat) (v : List Byte) : Nat × State :=
  let n := leNat v
  if k = dk 0x4000 3 then s.stageIf (s.firm.dm.role = .holder) k v
  else if k = dk 0x4000 9 then took (s.wrapTest n)
  else if k = dk 0x4100 1 then s.stageIf (900 ≤ n && n ≤ 2400) k v
  else if k = dk 0x4100 3 then s.stageIf (n ≤ 48) k v
  else if k = dk 0x4100 4 then s.stageIf (900 ≤ n && n ≤ 2400) k v
  else if k = dk 0x4100 5 then s.stageIf (n ≤ 36) k v
  else s.stageIf true k v

/-- Entries of the firmware. -/
def State.putFirm (s : State) (k : Nat) (v : List Byte) : Nat × State :=
  let n := leNat v
  if k = dk 0x5010 4 then s.putSchedSwap n
  else if k = dk 0x5020 1 then s.applyIf (n != 0) k v
  else if k = dk 0x5020 2 then s.stageIf (100 ≤ n && n ≤ 10000) k v
  else if k = dk 0x5030 6 then s.stageIf (1 ≤ n && n ≤ 24) k v
  else if k = dk 0x5030 7 then s.putDmSwap n
  else if k = dk 0x5040 1 then s.applyIf (n ≤ 5) k v
  else if k = dk 0x5040 2 then s.applyIf true k v
  else s.stageIf true k v

/-- Entries of errors, check values, the Moraine, calibration and security. -/
def State.putRas (s : State) (k : Nat) (v : List Byte) : Nat × State :=
  let n := leNat v
  if k = dk 0x6000 3 then took (s.errAck (BitVec.ofNat 32 n))
  else if k = dk 0x6000 7 then s.putInjEn (n = 1)
  else if k = dk 0x6000 8 then took (s.errInject v)
  else if k = dk 0x6000 0x0B then s.prodLockSet n
  else if dk 0x6100 1 ≤ k && k ≤ dk 0x6100 0x10 then s.putCvu (BitVec.ofNat 4 (k - dk 0x6100 1)) v
  else if k = dk 0x6200 4 then took (s.morFreeze (n = 1))
  else if k = dk 0x6200 5 then s.putFlush n
  else if k = dk 0x6300 2 then s.thawProceed n
  else if k = dk 0x6300 3 then s.calRestore v
  else if k = dk 0x6300 5 then s.calTake n
  else if k = dk 0x7000 3 then s.keyRevoke n
  else if k = dk 0x7000 5 then s.svnCommit n
  else if k = dk 0x7000 0x0A then s.measExtend v
  else if k = dk 0x7000 0x0B then s.applyIf true k v
  else s.stageIf true k v

/-- What a whole value does that has passed the checks up to LENGTH: its result code, RANGE, BUSY or OK. -/
def State.putEntry (s : State) (ty : EType) (k : Nat) (v : List Byte) : Nat × State :=
  if ty = .bool && 2 ≤ leNat v then (5, s)
  else
    match k / 2 ^ 20 with
    | 1 | 2 => s.putSys k v
    | 3 => if k < dk 0x3200 0 then s.putPho k v else s.putMemory k v
    | 4 => s.putClkPow k v
    | 5 => s.putFirm k v
    | _ => s.putRas k v

/-! ### Requests and replies -/

/-- A request as its transport carries it (R492, R494): TOTAL is absent from MGMT packets. -/
structure DictReq where
  write : Bool
  idx : Nat
  sub : Nat
  last : Bool
  staged : Bool
  off : Nat
  len : Nat
  total : Option Nat
  data : List Byte
deriving DecidableEq, Repr

structure DictRep where
  result : Nat
  pending : Bool
  ty : Nat
  total : Nat
  gen : Nat
  data : List Byte
deriving DecidableEq, Repr

def DictRep.plain (code : Nat) : DictRep := ⟨code, false, 0, 0, 0, []⟩

/-- Who asks: the class, the path, and the DevID of a peer. -/
structure Asker where
  cls : Cls
  path : Nat
  dev : Nat
deriving DecidableEq, Repr

/-- R483, R564, R364: the access code of an entry refuses a write of a class. -/
def State.writeDenied (s : State) (e : Entry) (who : Asker) : Bool :=
  let k := dk e.idx e.lo
  e.access who.cls = .ro ||
  (k = dk 0x7000 0x0A && !s.sec.hostEn) ||
  (k = dk 0x3200 1 && who.cls = .p && s.firm.dm.holder.toNat != who.dev)

/-- R484, R528, ERR_CTRL.LOCK: the write is refused LOCKED. -/
def State.writeLocked (s : State) (k : Nat) (data : List Byte) : Bool :=
  s.entryLocked k || (k = dk 0x6000 7 && (s.block (blockKey 0 7)).lock && leNat data = 1)

/-- R480, R485: the segment lies outside the entry's length, or the value has another length; one of a STR may be shorter. -/
def lengthBad (e : Entry) (r : DictReq) : Bool :=
  let whole := if e.ty = .str then min r.len e.len else e.len
  let tot := match r.total with | some t => t != whole | none => false
  r.data.length != r.len || tot || (if e.ty = .domain then e.len < r.off + r.len || (r.last && r.off + r.len != e.len)
    else r.off != 0 || r.len != whole)

/-- R439, R491: the dictionary is not served yet, but for the few reads that N4 answers to class B. -/
def State.early (s : State) : Bool := s.firm.load.st != .done

/-- R491: the device state refuses the request. -/
def State.stateRefuses (s : State) (who : Asker) (r : DictReq) : Bool :=
  if s.early then !(who.cls = .b && !r.write && (r.idx = 0x1000 || (r.idx = 0x1200 && r.sub = 1)))
  else r.write && s.pkg.dev = .icebound

/-- R488: an accepted write counts. -/
def State.genUp (s : State) (code : Nat) : State := if code = 0 then s.onDict (fun d => { d with gen := d.gen + 1 }) else s

/-- A whole value that has passed LENGTH: RANGE, then STATE, then what the entry does; a refused value changes nothing but
CAL_RESTORE_RESULT (R585). -/
def State.commit (s : State) (who : Asker) (r : DictReq) (e : Entry) (v : List Byte) : Nat × State :=
  let (c, s') := s.putEntry e.ty (dk r.idx r.sub) v
  if c = 5 then (5, if s.stateRefuses who r then s else s')
  else if s.stateRefuses who r then (6, s)
  else (c, s'.genUp c)

/-- R489: a write session. -/
def State.session (s : State) (k : Nat) : Option DictSession := s.dict.sessions.find? (fun x => x.key == k)
def State.endSession (s : State) (k : Nat) : State :=
  s.onDict (fun d => { d with sessions := d.sessions.filter (fun x => x.key != k) })

/-- R489: a segment of a DOMAIN entry; one at offset 0 is another write, whoever sends it (log entry 73). -/
def State.segment (s : State) (who : Asker) (r : DictReq) (e : Entry) : Nat × State :=
  let k := dk r.idx r.sub
  let now := s.now
  match s.session k with
  | some x =>
    if s.stateRefuses who r then (6, s)
    else if x.path != who.path || r.off = 0 then (7, s)
    else if r.off != x.data.length then (9, s)
    else if r.last then (s.endSession k).commit who r e (x.data ++ r.data)
    else (0, s.onDict (fun d => { d with
      sessions := d.sessions.map (fun y => if y.key = k then { y with data := y.data ++ r.data, at' := now } else y) }))
  | none =>
    if r.off = 0 && r.last then s.commit who r e r.data
    else if s.stateRefuses who r then (6, s)
    else if r.off != 0 then (9, s)
    else (0, s.onDict (fun d => { d with sessions := d.sessions ++ [⟨k, who.path, e.len, r.data, now⟩] }))

/-- R485: a write, checked in the order of the result codes. -/
def State.dictWrite (s : State) (who : Asker) (r : DictReq) : Nat × State :=
  if 0x8000 ≤ r.idx && r.idx < 0x9000 then (2, s)
  else
    match entryAt r.idx r.sub with
    | none => (1, s)
    | some e =>
      if s.writeDenied e who then (2, s)
      else if s.writeLocked (dk r.idx r.sub) r.data then (3, s)
      else if lengthBad e r then (4, s)
      else if e.ty = .domain then s.segment who r e
      else s.commit who r e (padTo e.len r.data)

/-- R478, R483, R486: the value that a read returns before it is cut to the segment asked for, and whether a write of it is
pending. -/
def State.readVal (s : State) (e : Entry) (k : Nat) (cls : Cls) (staged : Bool) : List Byte × Bool :=
  let wait := match s.staged k with | some v => some v | none => SMap.get none s.dict.fixed k
  if k % 256 = 0 then ([BitVec.ofNat 8 ((highestSub e.idx).getD 0)], false)
  else if e.access cls = .wo then (zeros e.len, wait.isSome)
  else ((if staged then wait else none).getD (s.entryVal e.idx (k % 256)), wait.isSome)

/-- R490, R492: the GEN of a reply: the generation of a DOMAIN entry, 0 otherwise. -/
def State.genOf (s : State) (e : Entry) (k : Nat) : Nat := if e.ty = .domain then SMap.get 0 s.dict.domGen k else 0

/-- R492: a reply without data about an entry. -/
def State.bare (s : State) (e : Entry) (k code : Nat) (pending : Bool) : DictRep := ⟨code, pending, e.ty.code, e.len, s.genOf e k, []⟩

/-- R485, R486, R490: a read. One of 0x8000 to 0x8FFF is answered with zeros in every device state, before N5 is released too
(log entry 152). -/
def State.dictRead (s : State) (who : Asker) (r : DictReq) : DictRep × State :=
  if 0x8000 ≤ r.idx && r.idx < 0x9000 then (⟨0, false, 4, 8, 0, zeros (min 8 r.len)⟩, s)
  else
    match entryAt r.idx r.sub with
    | none => (.plain 1, s)
    | some e =>
      let k := dk r.idx r.sub
      let wide := e.ty = .domain || e.ty = .str
      if (if wide then e.len < r.off else r.off != 0) then (s.bare e k 4 false, s)
      else if s.stateRefuses who r then (s.bare e k 6 false, s)
      else
        let (v, pend) := s.readVal e k who.cls r.staged
        let s := if e.ty = .domain then s.lookDom k (s.entryVal e.idx r.sub) false else s
        (⟨0, pend, e.ty.code, e.len, s.genOf e k, (v.drop r.off).take r.len⟩, s)

/-- R488: one request. -/
def State.dictServe (s : State) (who : Asker) (r : DictReq) : DictRep × State :=
  if r.write then
    let (c, s) := s.dictWrite who r
    let k := dk r.idx r.sub
    match entryAt r.idx r.sub with
    | some e => (s.bare e k c (c = 0 && (s.staged k).isSome), s)
    | none => (.plain c, s)
  else s.dictRead who r

/-! ### Transports (R492 to R494) -/

/-- R492: the request in bytes 16 to 255 of a message. -/
def reqOfMsg (write : Bool) (p : List Byte) : DictReq :=
  let len := fld p 12 2
  { write := write, idx := fld p 4 2, sub := fld p 6 1, last := (p.getD 7 0).getLsbD 0, staged := (p.getD 7 0).getLsbD 2,
    off := fld p 8 4, len := if write then len else min len 216, total := some (fld p 16 4),
    data := if write then (p.drop 24).take (min len 216) else [] }

/-- R492: the payload of DICT_REPLY. -/
def repOfMsg (p : List Byte) (x : DictRep) : List Byte :=
  natLE 4 (fld p 0 4) ++ natLE 2 (fld p 4 2) ++ natLE 1 (fld p 6 1) ++ natLE 1 (bitN x.pending 1) ++ natLE 4 (fld p 8 4) ++
    natLE 2 x.data.length ++ natLE 1 x.result ++ natLE 1 x.ty ++ natLE 4 x.total ++ natLE 4 x.gen ++ x.data

/-- R494: the request in the 32 bytes of an MGMT packet. -/
def reqOfMgmt (write : Bool) (p : List Byte) : DictReq :=
  let len := fld p 8 1
  { write := write, idx := fld p 0 2, sub := fld p 2 1, last := (p.getD 3 0).getLsbD 0, staged := (p.getD 3 0).getLsbD 2,
    off := fld p 4 4, len := if write then len else min len 16, total := none,
    data := if write then (p.drop 16).take (min len 16) else [] }

/-- R494: the payload of MGMT_RSP. -/
def repOfMgmt (p : List Byte) (x : DictRep) : List Byte :=
  natLE 2 (fld p 0 2) ++ natLE 1 (fld p 2 1) ++ natLE 1 (bitN x.pending 1) ++ natLE 4 (fld p 4 4) ++ natLE 1 x.data.length ++
    natLE 1 x.result ++ natLE 1 x.ty ++ zeros 1 ++ natLE 4 x.gen ++ padTo 16 x.data

/-- The number of a path: the mailbox, an endpoint of MCTP, a peer. -/
def pathMbx : Nat := 0
def pathMctp (ep : Nat) : Nat := 2 * ep + 1
def pathFab (dev : Nat) : Nat := 2 * dev + 2

def askMbx : Asker := ⟨.h, pathMbx, 0⟩
def askMctp (ep : Nat) : Asker := ⟨.b, pathMctp ep, 0⟩
def askPeer (dev : Nat) : Asker := ⟨.p, pathFab dev, dev⟩

/-- R474: N5 is down after it has been released, so that requests are held. -/
def State.n5Down (s : State) : Bool := !s.early && !s.coreUp 5

/-- R457: a request is held, up to 64 of them; a further one gets no answer. -/
def State.holdReq (s : State) (path cls : Nat) (body : List Byte) : State :=
  if 64 ≤ s.dict.heldReqs.length then s else s.onDict (fun d => { d with heldReqs := d.heldReqs ++ [⟨path, cls, body⟩] })

/-- R443, R492: a dictionary message of the mailbox is served, and answered. -/
def State.serveMbx (s : State) (write : Bool) (p : List Byte) : State :=
  let (x, s) := s.dictServe askMbx (reqOfMsg write p)
  s.d2h 0x0203 (repOfMsg p x)

/-- R493: the message type 0x7F and the vendor header with ID_MCTP_IANA, most significant byte first (log entry 159). -/
def State.mctpHdr (s : State) : List Byte := 0x7F :: (natLE 4 s.part.iana.toNat).reverse

/-- R493: the Svaog type and bytes 16 to 255 in an MCTP message; none where it is no Svaog message. -/
def State.mctpBody (s : State) (msg : List Byte) : Option (List Byte) :=
  if msg.take 5 = s.mctpHdr then some (msg.drop 5) else none

/-- R493: a Svaog message over MCTP is served, and answered on its endpoint. -/
def State.serveMctp (s : State) (ep : Nat) (write : Bool) (p : List Byte) : State :=
  let (x, s) := s.dictServe (askMctp ep) (reqOfMsg write p)
  s.emit (.dictReply (pathMctp ep) (s.mctpHdr ++ natLE 2 0x0203 ++ repOfMsg p x))

end Sys2Proof.Machine
end

