-- ==== Sys2Proof/Machine/RegView.lean ====
section
/-! DEFINITION. The registers of BAR0: what each holds (R499 to R504, and the register tables of every chapter). -/

namespace Sys2Proof.Machine

/-- Half of a 64-bit quantity. -/
def half (v : Nat) (hi : Bool) : Nat := if hi then v / 2 ^ 32 else v % 2 ^ 32

/-- Four bytes of a string as one register. -/
def wordOf (b : List Byte) (w : Nat) : Nat := fld b (4 * w) 4

/-- A set of small numbers as bits. -/
def maskOf (n : Nat) (p : Nat → Bool) : Nat := ((List.range n).filter p).foldl (fun m i => m + 2 ^ i) 0

/-- A signed number in 16 bits. -/
def s16 (v : Int) : Nat := (v % 65536).toNat

/-- `off` is register `i` of an array of `n`, `stride` bytes apart from `base` on. -/
def arrIdx (off base stride n : Nat) : Option Nat :=
  if base ≤ off && off < base + stride * n then some ((off - base) / stride) else none

/-! ### Registers by block -/

/-- R504. -/
def State.regGlb (s : State) (off : Nat) : Nat :=
  if off = 0 then 2 ^ 24 + bitN s.part.gradeB 2 + bitN s.dict.lock 1 + bitN (lockBlocks.all (fun b => (s.block b).lock)) 0 else 0

/-- R31. -/
def State.regPkg (s : State) (off : Nat) : Nat :=
  if off = 0 then s.pkg.mapGen.toNat
  else match arrIdx off 0x100 8 41 with
    | some i => half (s.dieWord i) (off % 8 = 4)
    | none => 0

/-- R184. -/
def State.regSched (s : State) (off : Nat) : Nat :=
  if off = 0 then bitN (s.block (blockKey 0 2)).lock 31 + s.sched.sliceTimeout % 65536 * 16 + bitN s.sched.preemptEn 1 + bitN s.sched.en 0
  else if off = 4 then bitN s.sched.cfgIgnored 31 + s.started * 65536 + s.accepted * 256
  else match arrIdx off 0x100 8 16 with
    | none => 0
    | some n =>
      match s.sched.progs.find? (fun p => p.slot == some n) with
      | none => 0
      | some p =>
        if off % 8 = 4 then p.tag.toNat
        else p.stateCode * 2 ^ 28 + p.prio * 2 ^ 26 + bitN p.img.span 25 + bitN p.privCh.isSome 24 + p.phase % 4096 * 4096

/-- R357, R366: the stage that COLL_STATUS shows: that of the oldest collective taken. -/
def CollUnit.statusWord (u : CollUnit) : Nat :=
  ((u.runs.head?.map CollRun.phase).getD 0) * 2 ^ 30 + u.runs.length * 65536 + u.last.toNat

/-- R366: HDMA_STATUS. -/
def Hdma.statusWord (h : Hdma) : Nat :=
  (if h.runs.any (fun r => !r.complete) then 2 else if h.ringBase = 0 then 0 else 1) * 2 ^ 30 + (h.runs.filter (fun r => !r.complete)).length * 65536 + h.last.toNat

/-- R366. -/
def State.regMem (s : State) (off : Nat) : Nat :=
  let m := s.mem
  if off = 0 then bitN (s.block (blockKey 0 3)).lock 31 + bitN m.privSw 2 + bitN m.ctrlFence 1 + bitN m.en 0
  else if off = 4 then bitN m.cfgIgnored 31 + bitN s.fenced 30 + min 127 (m.pairs.filter (fun p => p.2.resync)).length * 2 ^ 17 +
    min 65536 m.cache.length
  else if off = 0x10 then half m.bar4Base.toNat false
  else if off = 0x14 then half m.bar4Base.toNat true
  else match arrIdx off 0x100 32 32 with
    | some i => wordOf (s.windowBytes i) (off % 32 / 4)
    | none =>
      match arrIdx off 0x1000 4 4 with
      | some t => (RF.at m.coll (BitVec.ofNat 2 t)).statusWord
      | none =>
        match arrIdx off 0x1100 4 4 with
        | some e => (RF.at m.hdma (BitVec.ofNat 2 e)).statusWord
        | none => 0

/-- R392. -/
def State.regClk (s : State) (off : Nat) : Nat :=
  let c := s.clk
  if off = 0 then bitN (s.block (blockKey 0 4)).lock 31 + bitN c.ppsEn 8 + bitN c.en 0
  else if off = 4 then bitN c.cfgIgnored 31 + c.ftState.code * 2 ^ 28 + c.jobStep * 2 ^ 22 + bitN c.pending.isSome 21 + bitN c.changing 20 +
    c.wrapEpoch.toNat
  else if off = 8 || off = 0xC then half s.ftime.toNat (off = 0xC)
  else match arrIdx off 0x100 4 25 with
    | some d => (s.pllWord d).toNat
    | none => 0

/-- R434: PWR. -/
def State.regPwr (s : State) (off : Nat) : Nat :=
  let p := s.pow
  if off = 0 then bitN (s.block (blockKey 0 5)).lock 31 + p.brkK % 64 * 256 + bitN p.en 0
  else if off = 4 then bitN p.cfgIgnored 31 + bitN p.capUnreach 30 + bitN p.brk 29 + bitN p.fallback 28 + bitN s.alert 27 +
    bitN p.trip 26 + p.pwrNow % 4096
  else if off = 8 then p.cap
  else 0

/-- R476. -/
def State.regFw (s : State) (off : Nat) : Nat :=
  let f := s.firm
  if off = 0 then bitN (s.block (blockKey 0 6)).lock 31 + f.log.minSev * 2 + bitN f.en 0
  else if off = 4 then bitN f.cfgIgnored 31 + bitN f.lease.primaryN1 30 + f.lease.health.code * 2 ^ 28 + f.dm.role.code * 2 ^ 26 +
    bitN f.mbx.attached 25 + bitN f.mbx.driftExpired 24 + f.dm.holder.toNat % 64 * 65536
  else match arrIdx off 0x100 4 6 with
    | some n => (s.coreWord n).toNat
    | none => 0

/-- R552. -/
def State.regErr (s : State) (off : Nat) : Nat :=
  let e := s.errs
  if off = 0 then bitN (s.block (blockKey 0 7)).lock 31 + bitN e.en 0
  else if off = 4 then bitN e.fatal 30 + bitN ((List.range 63).all (fun i => e.slotCode i == 1)) 29 + bitN e.prodLock 28 +
    bitN e.inj.isSome 27 + ((List.range 64).filter (fun i => e.slotCode i == 1)).length * 65536 + e.last.toNat * 256
  else if off = 8 then e.ackVal.toNat
  else if off = 0xC then e.nextSeq.toNat
  else if off = 0x10 then e.lost.toNat
  else match arrIdx off 0x100 4 4 with
    | some i => leNat ((List.range 4).map (fun j => e.codeByte (4 * i + j)))
    | none =>
      match arrIdx off 0x1000 64 64 with
      | some i => wordOf (e.slotBytes i) (off % 64 / 4)
      | none => 0

/-- R553. -/
def State.regMor (s : State) (off : Nat) : Nat :=
  let m := s.mor
  if off = 0 then bitN (s.block (blockKey 0 8)).lock 31 + bitN m.frozen.isSome 1 + bitN m.en 0
  else if off = 4 then bitN m.frozen.isSome 30 + bitN (m.store != 1) 29 + bitN m.writing.isSome 28 +
    (match m.frozen with | some t => 1000 - s.since t / msU 1 | none => 0)
  else match arrIdx off 0x200 4 49 with
    | some g => (SMap.get 0 m.d.gens g).toNat
    | none =>
      match arrIdx off 0x1000 4 1536 with
      | some i => (SMap.get 0 m.d.hist i).toNat
      | none =>
        match arrIdx off 0x2800 32 64 with
        | some e => wordOf (m.d.extreme e).bytes (off % 32 / 4)
        | none => 0

/-- R572. -/
def State.regSec (s : State) (off : Nat) : Nat :=
  let x := s.sec
  if off = 0 then bitN (s.block (blockKey 0 9)).lock 31 + bitN x.hostEn 1 + bitN x.en 0
  else if off = 4 then bitN x.cfgIgnored 31 + bitN s.errs.prodLock 30 + x.keyRevoked.toNat * 2 ^ 26 +
    (if x.keyIndex.toNat < 4 then x.keyIndex.toNat else 0) * 2 ^ 24 + x.svnFused * 65536 + s.attest * 2 ^ 14 + bitN x.fuse.isSome 13
  else match arrIdx off 0x40 4 8 with
    | some w => wordOf x.digest w
    | none =>
      match arrIdx off 0x100 32 16 with
      | some i => wordOf (RF.at x.meas (BitVec.ofNat 4 i)) (off % 32 / 4)
      | none => 0

/-- R596. -/
def State.regCal (s : State) (off : Nat) : Nat :=
  let c := s.cal
  if off = 0 then bitN (s.block (blockKey 0 10)).lock 31 + bitN c.replanEn 1 + bitN c.en 0
  else if off = 4 then bitN c.cfgIgnored 31 + bitN c.restored 30 + c.stage * 65536 + c.planGen.toNat % 65536
  else match arrIdx off 0x100 4 9 with
    | some i =>
      let x := SMap.get CalItem.reset c.items i
      x.status * 2 ^ 28 + min 255 x.suspect.toNat * 65536 + min 65535 x.count.toNat
    | none => 0

/-- R77, R86: SRC_MAP holds its reset value until THAW has put a map in force. -/
def State.regSrc (s : State) (t off : Nat) : Nat :=
  let k := BitVec.ofNat 2 t
  let c := s.serac
  if off = 0 then bitN (s.block (blockKey (t + 1) 2)).lock 31 + RF.at c.raMax k * 32 + bitN (RF.at c.raEn k) 4 + bitN (s.srcEn t) 0
  else if off = 4 then bitN (RF.at c.cfgIgnored k) 31 +
    (c.tiles.filter (fun p => p.1 / 256 == t && p.2.prog.isSome)).length * 65536 + (RF.at c.lastFault k).toNat
  else match arrIdx off 0x1000 4 256 with
    | some n => if c.mapOn then c.map.word (256 * t + n) true else 0
    | none => 0

/-- R218: FRN_VB. -/
def Vb.word (b : Vb) : Nat :=
  let code := match b.st with | .full => 0 | .halfLo => 1 | .halfHi => 2 | .retired => 3 | .untrained => 4
  let sp := fun (i : BitVec 2) => match RF.at b.spares i with | some p => 64 + p.toNat | none => 0
  code * 2 ^ 29 + sp 3 * 2 ^ 21 + sp 2 * 2 ^ 14 + sp 1 * 2 ^ 7 + sp 0

/-- R218. -/
def State.regFrn (s : State) (t off : Nat) : Nat :=
  let k := BitVec.ofNat 2 t
  let f := s.firn
  if off = 0 then bitN (s.block (blockKey (t + 1) 3)).lock 31 + f.scratchDefault.toNat / 2 ^ (8 * t) % 256 * 256 + bitN (s.frnEn t) 0
  else if off = 4 then bitN (RF.at f.cfgIgnored k) 31 + bitN (f.walks.any s.walkBegun) 30 + bitN (s.maintBusy k) 29 +
    f.scratchMode.toNat / 2 ^ (8 * t) % 256 * 65536 + maskOf 8 (fun i => !(SMap.get [] f.held (8 * t + i)).isEmpty) * 256
  else if off = 8 then (RF.at f.maintReg k).toNat
  else match arrIdx off 0x1000 4 384 with
    | some n => (SMap.get Vb.reset f.vb (384 * t + n)).word
    | none => 0

/-- R241: STATE of a stack. -/
def HbmSt.code : HbmSt → Nat
  | .inService => 0 | .failed => 1 | .retired => 2 | .notFound => 3

/-- R241: the rank of a region: how many before it have its code. -/
def rankOf (map : List Byte) (r : Nat) : Nat := (map.take r).count (map.getD r 0xFF)

/-- R241. -/
def State.regHbm (s : State) (t off : Nat) : Nat :=
  let k := BitVec.ofNat 2 t
  let h := s.hbm
  let st := fun (i : Nat) => (h.stack (6 * t + i)).st
  if off = 0 then bitN (s.block (blockKey (t + 1) 4)).lock 31 + bitN (RF.at h.refreshDouble k) 4 + bitN h.placed 0
  else if off = 4 then bitN (RF.at h.cfgIgnored k) 31 +
    bitN (h.placed && !(RF.at h.pause k) && (List.range 6).any (fun i => st i == .inService && !(h.stack (6 * t + i)).scrubDone)) 30 +
    maskOf 6 (fun i => st i == .failed) * 65536 + maskOf 6 (fun i => st i == .retired) * 256 +
    maskOf 6 (fun i => s.pkg.discovered && st i == .inService)
  else if off = 8 then bitN (RF.at h.pause k) 0
  else match arrIdx off 0x100 4 6 with
    | some i => (st i).code * 2 ^ 28 + bitN (st i == .inService && s.refresh2x (6 * t + i)) 27 + (h.stack (6 * t + i)).temp.toNat
    | none =>
      match arrIdx off 0x1000 4 576 with
      | some r => rankOf h.map r * 65536 + (h.map.getD r 0xFF).toNat
      | none => 0

/-- R287. -/
def State.regPho (s : State) (t off : Nat) : Nat :=
  let k := BitVec.ofNat 2 t
  let f := s.floe
  if off = 0 then bitN (s.block (blockKey (t + 1) 5)).lock 31 + f.disable.toNat / 2 ^ (4 * t) % 16 * 256 + bitN f.en 0
  else if off = 4 then bitN (RF.at f.cfgIgnored k) 31 + bitN f.intlk 30 +
    bitN (f.owners.any (fun p => ownerTile p.1 == t && !p.2.running.isEmpty)) 29 + bitN (!f.steers.isEmpty) 28 +
    f.retiredWl.toNat / 2 ^ (16 * t) % 65536 * 256 + bitN ((s.emitter t 32).st = .failed || (s.emitter t 33).st = .failed) 7
  else if off = 8 then (if t = 0 then f.cmdResult.toNat * 256 + f.cmdSet.toNat else 0)
  else if off = 0xC then bitN (RF.at f.pause k) 0
  else if off = 0x10 || off = 0x14 then (if t = 0 then half f.cmdT.toNat (off = 0x14) else 0)
  else match arrIdx off 0x100 4 34 with
    | some e => (s.emitWord t e).toNat
    | none =>
      match arrIdx off 0x200 4 4 with
      | some q => (s.portWord (4 * t + q)).toNat
      | none =>
        match arrIdx off 0x300 4 8 with
        | some i => (s.groupWord (8 * t + i)).toNat
        | none =>
          match arrIdx off 0x500 4 4 with
          | some u => (s.roleWord t u).toNat
          | none => 0

/-- R323. -/
def State.regFab (s : State) (t off : Nat) : Nat :=
  let k := BitVec.ofNat 2 t
  let f := s.fab
  if off = 0 then bitN (s.block (blockKey (t + 1) 6)).lock 31 + (RF.at f.seed k).toNat * 256 + bitN f.en 0
  else if off = 4 then bitN (RF.at f.cfgIgnored k) 31 + f.shape % 8 * 2 ^ 24 + f.domain.toNat * 65536 + f.devid.toNat * 1024
  else match arrIdx off 0x100 4 64 with
    | some d => (RF.at f.routes (BitVec.ofNat 6 d)).toNat
    | none =>
      match arrIdx off 0x1000 0x80 4 with
      | some q => if off % 0x80 < 88 then half (SMap.get 0 f.counters (11 * (4 * t + q) + off % 0x80 / 8)).toNat (off % 8 = 4) else 0
      | none => 0

/-- R434: THM. -/
def State.regThm (s : State) (t off : Nat) : Nat :=
  let k := s.stk (BitVec.ofNat 2 t)
  if off = 0 then bitN (s.block (blockKey (t + 1) 7)).lock 31 + k.slopeLimit % 16
  else if off = 4 then bitN k.cfgIgnored 31 + bitN k.firnSuspect 30 + bitN (k.slope != .off) 29 + bitN (decide (1600 ≤ k.tSerac)) 28 +
    bitN (decide (1440 ≤ k.tFirn)) 27 + bitN (decide (1280 ≤ k.tFloe)) 26 + bitN (decide (1120 ≤ k.tLb)) 25 + k.l * 2 ^ 14 +
    k.g * 2 ^ 7 + k.k
  else if off = 8 then s16 k.tSerac * 65536 + s16 k.tFirn
  else if off = 0xC then s16 k.tFloe * 65536 + s16 k.slopeVal
  else if off = 0x10 then s16 k.tInf * 65536 + s16 k.tLeak
  else if off = 0x100 then maskOf 32 (fun i => k.suspSerac.contains i)
  else if off = 0x104 then maskOf 32 (fun i => k.suspSerac.contains (32 + i))
  else if off = 0x108 then maskOf 16 (fun i => k.suspFirn.contains i) + maskOf 16 (fun i => k.suspFloe.contains i) * 65536
  else match arrIdx off 0x200 4 6 with
    | some i => bitN (decide (1440 ≤ (s.hbm.stack (6 * t + i)).temp.toInt)) 7 + s.hGate (6 * t + i)
    | none => 0

/-- R554: one unit. -/
def Cvu.reg (u : Cvu) (o : Nat) : Nat :=
  if o = 0 then u.ctrlWord
  else if o = 4 then u.statusWord
  else if o = 8 || o = 0xC then half u.start.toNat (o = 0xC)
  else if o = 0x10 || o = 0x14 then half u.len.toNat (o = 0x14)
  else if o = 0x18 then u.stride.toNat
  else if o = 0x1C then u.block.toNat
  else if o = 0x20 || o = 0x24 then half u.run.toNat (o = 0x24)
  else if o = 0x28 || o = 0x2C then half u.expect.toNat (o = 0x2C)
  else if o = 0x30 then u.last.toNat * 65536 + u.value.toNat
  else if o = 0x38 || o = 0x3C then half u.pos.toNat (o = 0x3C)
  else if o = 0x40 || o = 0x44 then half u.raddr.toNat (o = 0x44)
  else 0

/-- R554. -/
def State.regCvu (s : State) (t off : Nat) : Nat :=
  if off = 0xF00 then bitN (s.block (blockKey (t + 1) 8)).lock 31 + (RF.at s.errs.fwOnly (BitVec.ofNat 2 t)).toNat
  else if off < 0x400 then (s.cvuAt (BitVec.ofNat 4 (4 * t + off / 256))).reg (off % 256)
  else 0

/-- R503: the trailer of a block. -/
def State.regTrailer (s : State) (g n off : Nat) : Nat :=
  let b := s.block (blockKey g n)
  if off = 0x3FF0 then n * 2 ^ 24 + g * 2 ^ 20 + 1
  else if off = 0x3FF4 then b.votes.toNat
  else if off = 0x3FF8 then b.ignored.toNat
  else 0

/-- R499: a block exists. -/
def blockExists (g n : Nat) : Bool := (g = 0 && n ≤ 10) || (1 ≤ g && g ≤ 4 && 2 ≤ n && n ≤ 8)

/-- R498: the BAR0 offset of a register. -/
def regAddr (g n off : Nat) : Nat := g * 2 ^ 24 + n * 2 ^ 16 + off

/-- R499 to R504: the fields of the register at an offset of a block. -/
def State.regFields (s : State) (g n off : Nat) : W32 :=
  BitVec.ofNat 32 (
    if !blockExists g n then 0
    else if 0x3FF0 ≤ off then s.regTrailer g n off
    else match g, n with
      | 0, 0 => s.regGlb off | 0, 1 => s.regPkg off | 0, 2 => s.regSched off | 0, 3 => s.regMem off | 0, 4 => s.regClk off
      | 0, 5 => s.regPwr off | 0, 6 => s.regFw off | 0, 7 => s.regErr off | 0, 8 => s.regMor off | 0, 9 => s.regSec off
      | 0, _ => s.regCal off
      | t + 1, 2 => s.regSrc t off | t + 1, 3 => s.regFrn t off | t + 1, 4 => s.regHbm t off | t + 1, 5 => s.regPho t off
      | t + 1, 6 => s.regFab t off | t + 1, 7 => s.regThm t off | t + 1, _ => s.regCvu t off)

/-- R506: the register with its reserved bits, which are 0 until a plain write changes them. -/
def State.reg (s : State) (g n off : Nat) : W32 :=
  s.regFields g n off ||| SMap.get 0 s.regs.test (regAddr g n off)

/-! ### A read (R500 to R502) -/

/-- R501: the register is the LO half of a pair. -/
def isLo (g n off : Nat) : Bool :=
  match g, n with
  | 0, 1 => 0x100 ≤ off && off < 0x100 + 8 * 41 && off % 8 = 0
  | 0, 2 => 0x100 ≤ off && off < 0x180 && off % 8 = 0
  | 0, 3 => off = 0x10
  | 0, 4 => off = 8
  | 1, 5 => off = 0x10
  | _ + 1, 6 => 0x1000 ≤ off && off < 0x1200 && off % 0x80 < 88 && off % 8 = 0
  | _ + 1, 8 => off < 0x400 && (off % 256 = 8 || off % 256 = 0x10 || off % 256 = 0x20 || off % 256 = 0x28 || off % 256 = 0x38 || off % 256 = 0x40)
  | _, _ => false

/-- R500 to R502: the register at an aligned BAR0 offset as the host reads it: LO latches HI unless it is read through an alias; HI
gives the value last latched, or the live one where none is. -/
def State.readReg (s : State) (addr : Nat) : W32 × State :=
  let g := addr / 2 ^ 24
  let n := addr / 2 ^ 16 % 2 ^ 8
  let off := addr % 2 ^ 14
  let live := s.reg g n off
  if !blockExists g n then (0, s)
  else if isLo g n off then
    (live, if addr / 2 ^ 14 % 4 = 0 then
        { s with regs := { s.regs with hiLatch := SMap.set none s.regs.hiLatch (regAddr g n off) (some (s.reg g n (off + 4))) } } else s)
  else if 4 ≤ off && isLo g n (off - 4) then ((SMap.get none s.regs.hiLatch (regAddr g n (off - 4))).getD live, s)
  else (live, s)

/-- Bytes `o` to `o + n` of a word. -/
def wordBytes (v : W32) (o n : Nat) : List Byte := (List.range n).map (fun i => v.extractLsb' (8 * (o + i)) 8)

/-- R500: a read of 1 to 8 bytes at a BAR0 offset: 64 bits as two reads of 32 bits, the lower first, and the bytes addressed of a
narrower one. An unaligned read gives data that the spec does not state (log entry 48). -/
def State.bar0Read (s : State) (addr size : Nat) : List Byte × State :=
  if addr % size != 0 then s.drawBytes size
  else if size = 8 then
    let lo := s.readReg addr
    let hi := lo.2.readReg (addr + 4)
    (wordBytes lo.1 0 4 ++ wordBytes hi.1 0 4, hi.2)
  else
    let r := s.readReg (addr / 4 * 4)
    (wordBytes r.1 (addr % 4) size, r.2)

end Sys2Proof.Machine
end

