-- ==== Sys2Proof/Machine/Bar0.lean ====
section
/-! DEFINITION. Writes of BAR0 (R500 to R510, and the register tables of every chapter). -/

namespace Sys2Proof.Machine

/-! ### Which bits a register takes -/

/-- The bits of a register of 32 bits from `lo` to `hi`. -/
def bits (hi lo : Nat) : Nat := 2 ^ (hi + 1) - 2 ^ lo

def wordBits : Nat := 2 ^ 32 - 1

/-- R554: the RW bits of a register of a unit. -/
def cvuMask (o : Nat) : Nat :=
  if o = 0 then 0xC331
  else if 8 ≤ o && o ≤ 0x30 || 0x38 ≤ o && o ≤ 0x44 then wordBits
  else 0

/-- The RW bits of each register, reserved bits left out; 0 for a register that is read-only or not listed. -/
def regMask (g n off : Nat) : Nat :=
  match g, n with
  | 0, 2 => if off = 0 then 2 ^ 31 + bits 19 4 + 3 else 0
  | 0, 3 => if off = 0 then 2 ^ 31 + 6 else if off = 0x10 then wordBits else if off = 0x14 then bits 15 0 else 0
  | 0, 4 => if off = 0 then 2 ^ 31 + 2 ^ 8 else 0
  | 0, 5 => if off = 0 then 2 ^ 31 + bits 13 8 else if off = 8 then bits 11 0 else 0
  | 0, 6 => if off = 0 then 2 ^ 31 + bits 3 1 else 0
  | 0, 7 => if off = 0 then 2 ^ 31 else if off = 8 then wordBits else 0
  | 0, 8 => if off = 0 then 2 ^ 31 + 6 else 0
  | 0, 9 => if off = 0 then 2 ^ 31 + 2 else 0
  | 0, 10 => if off = 0 then 2 ^ 31 + 2 else 0
  | 0, _ => 0
  | _ + 1, 2 => if off = 0 then 2 ^ 31 + bits 7 4 else 0
  | _ + 1, 3 => if off = 0 then 2 ^ 31 + bits 15 8 else if off = 8 then bits 11 4 + 3 else 0
  | _ + 1, 4 => if off = 0 then 2 ^ 31 + 2 ^ 4 else if off = 8 then 1 else 0
  | t + 1, 5 =>
    if off = 0 then 2 ^ 31 + bits 11 8 else if off = 0xC then 1
    else if t != 0 then 0
    else if off = 8 then 2 ^ 7 + 7 else if off = 0x10 || off = 0x14 then wordBits else 0
  | _ + 1, 6 => if off = 0 then 2 ^ 31 + bits 15 8 else 0
  | _ + 1, 7 => if off = 0 then 2 ^ 31 + bits 3 0 else 0
  | _ + 1, 8 => if off = 0xF00 then 2 ^ 31 + 15 else if off < 0x400 then cvuMask (off % 256) else 0
  | _ + 1, _ => 0

/-- The RO fields of a register that has RW bits: its EN where the firmware sets it, and the results it shows. -/
def roMask (g n off : Nat) : Nat :=
  if off = 8 && g = 1 && n = 5 then bits 15 8
  else if off = 0 && n != 2 && !(n = 7 && 0 < g) && !(n = 8 && 0 < g) then 1
  else if off = 0 && n = 2 && 0 < g then 1
  else 0

/-- R502: the bits of a register that are reserved and RW. -/
def rsvMask (g n off : Nat) : Nat := wordBits - (regMask g n off ||| roMask g n off)

/-- R502: the value that a write through an alias gives: 0 the register, 1 SET, 2 CLEAR, 3 TOGGLE. -/
def aliasVal (al : Nat) (cur v mask : W32) : W32 :=
  let on := v &&& mask
  match al with
  | 0 => v
  | 1 => cur ||| on
  | 2 => cur &&& ~~~on
  | _ => cur ^^^ on

/-! ### The rules of LOCK, EN and configuration fields (R508, R509) -/

/-- R508: LOCK is only ever set. -/
def State.putLock (s : State) (b : Nat) (v : W32) : State := if v.getLsbD 31 then s.onBlock b (fun x => { x with lock := true }) else s

/-- A field that the block's LOCK names and that acts at any EN. -/
def State.lockField (s : State) (b : Nat) (changed : Bool) (apply : State → State) : State :=
  if !changed then s else if (s.block b).lock then s.ignored b else apply s

/-- R509: configuration fields that the block's LOCK names; `mark` sets CFG_IGNORED. -/
def State.cfgField (s : State) (b : Nat) (en changed : Bool) (mark apply : State → State) : State :=
  s.lockField b changed (fun s => if en then mark (s.ignored b) else apply s)

/-! ### What a register does with its new value -/

/-- R185: SCHED_CTRL. -/
def State.putSchedCtrl (s : State) (v : W32) : State :=
  let b := blockKey 0 2
  let us := (v.extractLsb' 4 16).toNat
  let pre := v.getLsbD 1
  let s := s.cfgField b s.sched.en (us != s.sched.sliceTimeout % 65536 || pre != s.sched.preemptEn)
    (fun s => s.onSched (fun x => { x with cfgIgnored := true })) (fun s => s.onSched (fun x => { x with sliceTimeout := us, preemptEn := pre }))
  let s := s.onSched (fun x => { x with en := v.getLsbD 0, cfgIgnored := x.cfgIgnored && v.getLsbD 0 })
  s.putLock b v

/-- R366: MEM_CTRL; HOST_BAR4_BASE takes effect at the write of HI, or is refused whole. -/
def State.putMemReg (s : State) (off : Nat) (v : W32) : State :=
  let b := blockKey 0 3
  if off = 0 then
    let s := s.cfgField b s.mem.en (v.getLsbD 2 != s.mem.privSw)
      (fun s => s.onMem (fun m => { m with cfgIgnored := true })) (fun s => s.onMem (fun m => { m with privSw := v.getLsbD 2 }))
    (s.onMem (fun m => { m with ctrlFence := v.getLsbD 1 })).putLock b v
  else if off = 0x10 then s.onRegs (fun r => { r with loHeld := SMap.set 0 r.loHeld (regAddr 0 3 0x10) v })
  else
    let n := v.toNat % 2 ^ 16 * 2 ^ 32 + (SMap.get 0 s.regs.loHeld (regAddr 0 3 0x10)).toNat
    if s.bar4Ok n then s.onMem (fun m => { m with bar4Base := BitVec.ofNat 48 n }) else s.ignored b

/-- R434: PWR_CTRL and PWR_CAP_REG. -/
def State.putPwrReg (s : State) (off : Nat) (v : W32) : State :=
  if off = 8 then s.onPow (fun p => { p with capReg := some (v.toNat % 4096) })
  else
    let b := blockKey 0 5
    let k := (v.extractLsb' 8 6).toNat
    (s.cfgField b s.pow.en (k != s.pow.brkK % 64)
      (fun s => s.onPow (fun p => { p with cfgIgnored := true })) (fun s => s.onPow (fun p => { p with brkK := k }))).putLock b v

/-- R553: MOR_CTRL. -/
def State.putMorReg (s : State) (v : W32) : State :=
  let b := blockKey 0 8
  let s := s.lockField b (v.getLsbD 1 != s.mor.frozen.isSome) (fun s => (s.morFreeze (v.getLsbD 1)).2)
  (if v.getLsbD 2 then s.dueSnap else s).putLock b v

/-- Registers of the global blocks. -/
def State.putGlobal (s : State) (n off : Nat) (v : W32) : State :=
  let b := blockKey 0 n
  match n with
  | 2 => s.putSchedCtrl v
  | 3 => s.putMemReg off v
  | 4 =>
    (s.cfgField b s.clk.en (v.getLsbD 8 != s.clk.ppsEn)
      (fun s => s.onClk (fun c => { c with cfgIgnored := true })) (fun s => s.onClk (fun c => { c with ppsEn := v.getLsbD 8 }))).putLock b v
  | 5 => s.putPwrReg off v
  | 6 =>
    let sev := (v.extractLsb' 1 3).toNat
    (s.cfgField b s.firm.en (sev != s.firm.log.minSev)
      (fun s => { s with firm := { s.firm with cfgIgnored := true } }) (fun s => s.onLog (fun l => { l with minSev := sev }))).putLock b v
  | 7 => if off = 8 then (s.errAck v).2 else s.putLock b v
  | 8 => s.putMorReg v
  | 9 =>
    (s.lockField b (v.getLsbD 1 != s.sec.hostEn) (fun s => { s with sec := { s.sec with hostEn := v.getLsbD 1 } })).putLock b v
  | 10 =>
    (s.cfgField b s.cal.en (v.getLsbD 1 != s.cal.replanEn)
      (fun s => s.onCal (fun c => { c with cfgIgnored := true })) (fun s => s.onCal (fun c => { c with replanEn := v.getLsbD 1 }))).putLock b v
  | _ => s

/-- R218, R219: FRN_CTRL sets the default modes of the die's slices, which they enter at the end of THAW and at each later return
to the default (R173, R187). FRN_MAINT starts an operation, or has no effect while one runs. -/
def State.putFrnReg (s : State) (t off : Nat) (v : W32) : State :=
  let b := blockKey (t + 1) 3
  let k := BitVec.ofNat 2 t
  if off = 8 then
    if s.maintBusy k then s
    else
      let op := v.toNat % 4
      if op = 1 || op = 2 then s.maintStart k (v.extractLsb' 4 8) op else s.onFirn (fun f => { f with maintReg := RF.put f.maintReg k v })
  else
    let new := (v.extractLsb' 8 8).toNat
    let old := s.firn.scratchDefault.toNat / 2 ^ (8 * t) % 256
    (s.cfgField b (s.frnEn t) (new != old)
      (fun s => s.onFirn (fun f => { f with cfgIgnored := RF.put f.cfgIgnored k true }))
      (fun s => s.onFirn (fun f => { f with
        scratchDefault := BitVec.ofNat 32 (f.scratchDefault.toNat - old * 2 ^ (8 * t) + new * 2 ^ (8 * t)) }))).putLock b v

/-- R280, R287: the photonics registers; GO requests a steer of SET at PHO_STEER_T. -/
def State.putPhoReg (s : State) (t off : Nat) (v : W32) : State :=
  let b := blockKey (t + 1) 5
  let k := BitVec.ofNat 2 t
  let lo := regAddr 1 5 0x10
  if off = 0 then
    let new := (v.extractLsb' 8 4).toNat
    let old := s.floe.disable.toNat / 2 ^ (4 * t) % 16
    (s.cfgField b s.floe.en (new != old)
      (fun s => s.onFloe (fun f => { f with cfgIgnored := RF.put f.cfgIgnored k true }))
      (fun s => s.onFloe (fun f => { f with
        disable := BitVec.ofNat 16 (f.disable.toNat - old * 2 ^ (4 * t) + new * 2 ^ (4 * t)) }))).putLock b v
  else if off = 8 then
    let s := s.onFloe (fun f => { f with cmdSet := v.extractLsb' 0 3 })
    if v.getLsbD 7 then (s.requestSteer (v.extractLsb' 0 3) s.floe.cmdT .register).2 else s
  else if off = 0xC then s.onFloe (fun f => { f with pause := RF.put f.pause k (v.getLsbD 0) })
  else if off = 0x10 then s.onRegs (fun r => { r with loHeld := SMap.set 0 r.loHeld lo v })
  else s.onFloe (fun f => { f with cmdT := BitVec.ofNat 64 (v.toNat * 2 ^ 32 + (SMap.get 0 s.regs.loHeld lo).toNat) })

/-- R554: a configuration register of a unit, by its offset; `full` is a 64-bit value that a HI write completes. -/
def Cvu.putReg (u : Cvu) (o : Nat) (v : W32) (full : W64) : Cvu :=
  if o = 0xC then { u with start := full }
  else if o = 0x14 then { u with len := full }
  else if o = 0x18 then { u with stride := v }
  else if o = 0x1C then { u with block := v }
  else if o = 0x24 then { u with run := full }
  else if o = 0x2C then { u with expect := full }
  else if o = 0x30 then { u with last := v.extractLsb' 16 16, value := v.extractLsb' 0 16 }
  else if o = 0x3C then { u with pos := full }
  else if o = 0x44 then { u with raddr := full }
  else u

/-- The LO registers of a unit. -/
def cvuLo (o : Nat) : Bool := o = 8 || o = 0x10 || o = 0x20 || o = 0x28 || o = 0x38 || o = 0x40

/-- R537, R554: the registers of the check-value units; EN of CVU_CTRL starts and stops a scan, and governs the unit's other
fields. -/
def State.putCvuReg (s : State) (t off : Nat) (v : W32) : State :=
  let b := blockKey (t + 1) 8
  if off = 0xF00 then
    let k := BitVec.ofNat 2 t
    (s.lockField b (v.extractLsb' 0 4 != RF.at s.errs.fwOnly k)
      (fun s => s.onErrs (fun e => { e with fwOnly := RF.put e.fwOnly k (v.extractLsb' 0 4) }))).putLock b v
  else
    let c := BitVec.ofNat 4 (4 * t + off / 256)
    let o := off % 256
    let u := s.cvuAt c
    let mark := fun (s : State) => (s.ignored b).onCvu c.toNat (fun u => { u with cfgIgnored := true })
    if s.cvuFwOnly c then s.ignored b
    else if o = 0 then
      let s := if u.en && (v.toNat ^^^ u.ctrlWord) % 2 ^ 16 / 2 != 0 then s.ignored b else s
      s.cvuCtrl c v
    else if cvuLo o then s.onRegs (fun r => { r with loHeld := SMap.set 0 r.loHeld (regAddr (t + 1) 8 off) v })
    else
      let full := BitVec.ofNat 64 (v.toNat * 2 ^ 32 + (SMap.get 0 s.regs.loHeld (regAddr (t + 1) 8 (off - 4))).toNat)
      let new := u.putReg o v full
      if new = u then s else if u.en then mark s else s.onCvu c.toNat (fun u => u.putReg o v full)

/-- Registers of the blocks of a Floe tile. -/
def State.putTile (s : State) (t n off : Nat) (v : W32) : State :=
  let b := blockKey (t + 1) n
  let k := BitVec.ofNat 2 t
  match n with
  | 2 =>
    let d := (v.extractLsb' 5 3).toNat
    let en := v.getLsbD 4
    (s.cfgField b (s.srcEn t) (d != RF.at s.serac.raMax k || en != RF.at s.serac.raEn k)
      (fun s => s.onSerac (fun x => { x with cfgIgnored := RF.put x.cfgIgnored k true }))
      (fun s => s.onSerac (fun x => { x with raMax := RF.put x.raMax k d, raEn := RF.put x.raEn k en }))).putLock b v
  | 3 => s.putFrnReg t off v
  | 4 =>
    if off = 8 then s.onHbm (fun h => { h with pause := RF.put h.pause k (v.getLsbD 0) })
    else
      (s.cfgField b s.hbm.placed (v.getLsbD 4 != RF.at s.hbm.refreshDouble k)
        (fun s => s.onHbm (fun h => { h with cfgIgnored := RF.put h.cfgIgnored k true }))
        (fun s => s.onHbm (fun h => { h with refreshDouble := RF.put h.refreshDouble k (v.getLsbD 4) }))).putLock b v
  | 5 => s.putPhoReg t off v
  | 6 =>
    (s.cfgField b s.fab.en (v.extractLsb' 8 8 != RF.at s.fab.seed k)
      (fun s => s.onFab (fun f => { f with cfgIgnored := RF.put f.cfgIgnored k true }))
      (fun s => s.onFab (fun f => { f with seed := RF.put f.seed k (v.extractLsb' 8 8) }))).putLock b v
  | 7 =>
    let l := v.toNat % 16
    (s.cfgField b s.pow.en (l != (s.stk k).slopeLimit % 16)
      (fun s => s.onStk k (fun x => { x with cfgIgnored := true })) (fun s => s.onStk k (fun x => { x with slopeLimit := l }))).putLock b v
  | 8 => s.putCvuReg t off v
  | _ => s

/-! ### A write -/

/-- The host reaches BAR0: the link is up, and the device is neither in reset nor without power. -/
def State.hostReaches (s : State) : Bool := s.pins.pcieUp && !s.pins.perst && !s.pins.por && s.pkg.dev != .cold

/-- R506: a plain write changes reserved bits of a register: what they hold afterwards is not stated (log entry 84). -/
def State.putReserved (s : State) (g n off : Nat) : State :=
  let d := s.drawFree 32
  d.2.onRegs (fun r => { r with test := SMap.set 0 r.test (regAddr g n off) (d.1 &&& BitVec.ofNat 32 (rsvMask g n off)) })

/-- R500 to R508: an aligned 32-bit write at a BAR0 offset. A write that changes a reserved bit is ignored whole where the block is
locked; elsewhere its other fields act. -/
def State.writeReg (s : State) (addr : Nat) (v : W32) : State :=
  let g := addr / 2 ^ 24
  let n := addr / 2 ^ 16 % 2 ^ 8
  let al := addr / 2 ^ 14 % 4
  let off := addr % 2 ^ 14
  if !blockExists g n then s
  else if s.pkg.dev = .icebound then s.ignored (blockKey g n)
  else
    let mask := regMask g n off
    if 0x3FF0 ≤ off || mask = 0 then s
    else
      let cur := s.reg g n off
      let new := aliasVal al cur v (BitVec.ofNat 32 mask)
      let rsv := BitVec.ofNat 32 (rsvMask g n off)
      let changed := (new ^^^ cur) &&& rsv != 0
      if changed && (s.block (blockKey g n)).lock then s.ignored (blockKey g n)
      else
        let s := if changed then s.putReserved g n off else s
        match g with
        | 0 => s.putGlobal n off (new &&& ~~~rsv)
        | t + 1 => s.putTile t n off (new &&& ~~~rsv)

/-- R500: a write of 1 to 8 bytes at a BAR0 offset. -/
def State.bar0Write (s : State) (addr size : Nat) (v : W64) : State :=
  let g := addr / 2 ^ 24
  let n := addr / 2 ^ 16 % 2 ^ 8
  if !s.hostReaches || 2 ^ 27 ≤ addr then s
  else if size = 4 && addr % 4 = 0 then s.writeReg addr (v.setWidth 32)
  else if size = 8 && addr % 8 = 0 then (s.writeReg addr (v.setWidth 32)).writeReg (addr + 4) (v.extractLsb' 32 32)
  else if blockExists g n then s.ignored (blockKey g n)
  else s

/-- BAR0_REGISTER_WRITE: an access of `size` bytes at a BAR0 offset (R498 to R510). -/
def execBar0RegisterWrite (addr : BitVec 27) (size : Nat) (acc : Bar0Access) (s : State) : Res :=
  match acc with
  | .write v => .next (s.bar0Write addr.toNat size v)
  | .read =>
    if !s.hostReaches then .next s
    else
      let r := s.bar0Read addr.toNat size
      .next (r.2.emit (.bar0Data r.1))

/-- HOST_BAR4_BASE_HI_WRITE: the HI half is written, by itself or through an alias (R366). -/
def execHostBar4BaseHiWrite (al : BitVec 2) (v : W32) (s : State) : Res :=
  .next (s.bar0Write (regAddr 0 3 (0x4000 * al.toNat + 0x14)) 4 (v.setWidth 64))

/-- PHO_STEER_CMD_GO: a write of PHO_STEER_CMD, by itself or through an alias (R280, R287). -/
def execPhoSteerCmdGo (al : BitVec 2) (v : W32) (s : State) : Res :=
  .next (s.bar0Write (regAddr 1 5 (0x4000 * al.toNat + 8)) 4 (v.setWidth 64))

/-! ### Votes (R507) -/

/-- R516: the unit of a register block. -/
def blockUnit (g n : Nat) : W16 := if g = 0 then unitCode 13 0 (512 + n) else unitCode 13 (g - 1) n

/-- R507: a block has corrected fields at these BAR0 offsets: they count, and are reported at most once per 1 s. -/
def State.voted (s : State) (g n : Nat) (offs : List Nat) : State :=
  match offs with
  | [] => s
  | a :: _ =>
    let b := blockKey g n
    let now := s.now
    let s := s.onBlock b (fun x => { x with votes := satAdd x.votes offs.length })
    let due : Bool := match (s.block b).voteAt with | some t => decide (msU 1000 ≤ s.since t) | none => true
    if !due then s
    else (s.onBlock b (fun x => { x with voteAt := some now })).raise'
      { unit := blockUnit g n, cause := 0x70, cls := .ce, addr := BitVec.ofNat 64 a, detail := (s.block b).votes.setWidth 64 }

/-- R529, R622: the register that an armed VOTE_CORRECTED injection names in a block. -/
def State.voteInj (s : State) (g n : Nat) : List Nat :=
  match s.errs.inj with
  | some i =>
    if i.unit = blockUnit g n && i.cause = 0x70 then
      if i.addr = 0 then [regAddr g n 0]
      else if i.addr.toNat / 2 ^ 16 = regAddr g n 0 / 2 ^ 16 then [i.addr.toNat / 4 * 4] else []
    else []
  | none => []

/-- VOTE_SCRUB: every 1 ms each block compares its triplicated copies; `found` holds the BAR0 offset of the register of each
field that was found to differ and is rewritten (R507). -/
def execVoteScrub (found : List (BitVec 27)) (s : State) : Res :=
  let blocks := ((List.range 11).map (fun n => (0, n))) ++
    ((List.range 4).flatMap (fun t => (List.range 7).map (fun i => (t + 1, i + 2))))
  .next (blocks.foldl (fun s p =>
    let mine := (found.map (fun a => a.toNat)).filter (fun a => a / 2 ^ 16 == regAddr p.1 p.2 0 / 2 ^ 16)
    s.voted p.1 p.2 (mine ++ s.voteInj p.1 p.2)) s)

end Sys2Proof.Machine
end

