-- ==== Sys2Proof/Machine/Bar2.lean ====
section
/-! DEFINITION. What the host reads in BAR2: the mailbox and load registers, the message slots, the load buffers and the log window
(R442, R443, R454). -/

namespace Sys2Proof.Machine

/-- R442 MBX_STATE. -/
def State.mbxState (s : State) : Nat :=
  s.pkg.dev.code + bitN s.firm.mbx.attached 3 + bitN (s.firm.load.st = .done) 4

/-- R442 LOAD_STATUS. -/
def Load.status (l : Load) : Nat :=
  l.st.code * 2 ^ 30 + bitN (l.busy true) 29 + bitN (l.busy false) 28 + l.cause.toNat

/-- R442: the registers of BAR2, by offset. -/
def State.bar2Reg (s : State) (off : Nat) : Nat :=
  let m := s.firm.mbx
  match off with
  | 0x8000 => m.h2dHead.toNat
  | 0x8004 => m.h2dTail.toNat
  | 0x8008 => m.d2hHead.toNat
  | 0x800C => m.d2hTail.toNat
  | 0x8010 => s.firm.log.nextSeq.toNat
  | 0x8014 => s.mbxState
  | 0x9000 => s.firm.load.ctrl.toNat
  | 0x9004 => s.firm.load.status
  | _ => 0

/-- R454: the 64 bytes of a log entry. -/
def LogEnt.bytes (e : LogEnt) : List Byte :=
  natLE 8 e.ftime.toNat ++ natLE 4 e.seq.toNat ++ natLE 4 e.bootUs.toNat ++ natLE 1 e.core ++ natLE 1 e.sev ++ natLE 2 e.point ++ e.payload

/-- R454: the log window: entry n stands at n mod 16,384. -/
def Log.window (l : Log) (i : Nat) : List Byte :=
  match l.ents.find? (fun e => e.seq.toNat % 16384 == i) with
  | some e => e.bytes
  | none => []

/-- R442: the byte at an offset of BAR2; offsets that its layout does not list read as 0. -/
def State.bar2Byte (s : State) (off : Nat) : Byte :=
  if off < 0x4000 then (SMap.get [] s.firm.mbx.h2d (off / 256)).getD (off % 256) 0
  else if off < 0x8000 then (SMap.get [] s.firm.mbx.d2h ((off - 0x4000) / 256)).getD (off % 256) 0
  else if off < 0x10000 then (natLE 4 (s.bar2Reg (off / 4 * 4))).getD (off % 4) 0
  else if off < 0x30000 then (SMap.get [] s.firm.load.bufs ((off - 0x10000) / 65536)).getD (off % 65536) 0
  else if 0x100000 ≤ off && off < 0x200000 then (s.firm.log.window ((off - 0x100000) / 64)).getD (off % 64) 0
  else 0

end Sys2Proof.Machine
end

