-- ==== Sys2Proof/Machine/Calibration.lean ====
section
/-! DEFINITION. Calibration in THAW, restored values, margin plans and ageing (R573 to R594). -/

namespace Sys2Proof.Machine

/-! ### Stages and items (R573, R577) -/

/-- R573: the step of an item. -/
def itemStep (item : Nat) : Nat :=
  match item with
  | 2 => 13 | 3 => 7 | 4 => 8 | 5 => 9 | 6 => 10 | 7 => 10 | 8 => 12 | _ => 6

/-- R595: THAW_STAGE follows the steps as they begin; steps run alongside one another, and the number never falls
(log entry 50). -/
def State.reachStage (s : State) (n : Nat) : State := s.onCal (fun c => { c with stage := max c.stage n })

/-- Calibration runs: THAW is past the proceed point (R573). -/
def State.calibrates (s : State) : Bool := s.pkg.dev = .thaw && s.cal.proceeded

def CalItem.ended (i : CalItem) : Bool := 2 ≤ i.status
def State.itemsEnded (s : State) : Bool := (List.range 9).all (fun i => (s.calItem i).ended)

/-- R579, R577: an element has ended: accepted, or given its outcome with no alternate left. -/
def CalElem.ended (e : CalElem) : Bool := e.value.isSome || e.degraded

/-- The first run of an item (R595). -/
def State.startItem (s : State) (item : Nat) : State :=
  (s.onItem item (fun i => if i.status = 0 then { i with status := 1 } else i)).reachStage (itemStep item)

/-! ### Placement of HBM (R224 to R227, R573 step 8) -/

/-- R225, R237: after training, HBM is placed over the stacks in service that the mask does not name. -/
def State.placeHbm (s : State) : State :=
  let s := (s.unstage (dk 0x2200 1)).land (dk 0x2200 2)
  let s := (List.range 24).foldl (fun s h =>
    if s.hbm.retireMask.getLsbD h && (s.hbm.stack h).st = .inService then
      (s.onStack h (fun k => { k with st := .retired })).dieStatus (17 + h) dieRetired
    else s) s
  let live := (List.range 24).filter (fun h => (s.hbm.stack h).st = .inService)
  let map := match s.hbm.mapWritten with
    | some m => if mapValid live m then m else defaultMap live.length
    | none => defaultMap live.length
  let bad : Bool := match s.hbm.mapWritten with | some m => !mapValid live m | none => false
  s.onHbm (fun h => { h with
    map := map, defaulted := bad, placed := true, zeroed := false, capacity := BitVec.ofNat 16 (24 * live.length) })

/-- R19, R225, R238: the elements that calibration has: not the tile-port bundle of a fused tile, nor the lanes of a stack that is
not in service or that HBM_RETIRE_MASK names. -/
def State.elemLive (s : State) (item n : Nat) : Bool :=
  match item with
  | 3 => (s.vb (BitVec.ofNat 2 (n / 68 / 384)) (n / 68 % 384)).st != .untrained
  | 4 => s.inService (n / 65536) && !s.maskNext.testBit (n / 65536)
  | _ => true

/-! ### The end of items -/

/-- R573 step 11, R576, R292: EN of the photonics and the fabric is set, and every port that is not disabled begins probing; those of
the domain read MISWIRED on a device whose DevID lies outside FAB_SHAPE. -/
def State.startPorts (s : State) : State :=
  let s := (s.landFixed (dk 0x3000 3)).landFixed (dk 0x3100 1) |>.landFixed (dk 0x3100 3)
  let s := (s.onFloe (fun f => { f with en := true })).onFab (fun f => { f with en := true })
  let outside := !inShape s.shape s.devid
  (List.range 16).foldl (fun s q =>
    if s.floe.disable.getLsbD q then s.onPho q (fun p => { p with st := .disabled })
    else if outside && q < 14 then s.onPho q (fun p => { p with st := .miswired })
    else if s.floe.intlk then s else s.startProbing q) (s.reachStage 11)

/-- R275, R573: once items 6 and 7 have ended, roles are assigned and the ports begin to train. -/
def State.endRings (s : State) : State :=
  if (s.calItem 6).ended && (s.calItem 7).ended then ((s.landFixed (dk 0x3000 1)).assignRoles).startPorts else s

/-- R594, R578: at the end of item 3, channels that run on their own position with an eye below 40% UI get the free spares of
their bundle, marked channels first. -/
def State.spareWeak (s : State) : State :=
  let weak := s.cal.elems.filterMap (fun p =>
    let n := p.1 % 2 ^ 24
    if p.1 / 2 ^ 24 = 3 && n % 68 < 64 then
      p.2.value.bind (fun v => if v.choice = 0 && v.trims.getD 1 0 < 40 then some n else none)
    else none)
  let order := weak.filter (fun n => s.cal.marks.contains n) ++ weak.filter (fun n => !s.cal.marks.contains n)
  let s := order.foldl (fun s n =>
    let t := BitVec.ofNat 2 (n / 68 / 384)
    let b := n / 68 % 384
    match ([0, 1, 2, 3] : List (BitVec 2)).find? (fun i => (RF.at (s.vb t b).spares i).isNone) with
    | some i => s.onVb t b (fun v => { v with spares := RF.put v.spares i (some (BitVec.ofNat 6 (n % 68))) })
    | none => s) s
  s.onCal (fun c => { c with marks := [] })

/-- R577, R595: every element of an item has ended. -/
def State.endItem (s : State) (item : Nat) : State :=
  let s := s.onItem item (fun i => { i with status := if i.degraded then 4 else if i.fresh || !s.cal.restored then 2 else 3 })
  match item with
  | 3 => s.spareWeak
  | 4 => s.placeHbm
  | 6 => s.endRings
  | 7 => s.endRings
  | _ => s

/-! ### Outcomes of an element (R578) -/

/-- The channel of an element of items 6 and 7 that is not accepted: a receive site of a port is the element itself. -/
def State.ringLost (s : State) (n : Nat) : State :=
  let k := n % 4096
  if n / 4096 = 1 && k < 512 then s else (s.onChan k (fun c => { c with ok := false, active := false })).laneCheck k

/-- R578: the outcome with no alternate left. -/
def State.noAlternate (s : State) (item n : Nat) : State :=
  let s := (s.onElem (elemKey item n) (fun e => { e with degraded := true, runs := [] })).onItem item (fun i => { i with degraded := true })
  match item with
  | 3 => if n % 68 < 64 then s.onVb (BitVec.ofNat 2 (n / 68 / 384)) (n / 68 % 384) (fun v => { v with due := NSet.add (n % 68) v.due }) else s
  | 4 => s.stackFail (n / 65536) 0
  | 5 =>
    let b := n / 17
    if n % 17 < 16 then s.retireWl b (n % 17)
    else ((s.onEmitter b 32 (fun x => { x with st := .failed })).onEmitter b 33 (fun x => { x with st := .failed })).raise'
      { unit := emitUnit b 32, cause := 0x33, cls := .uc }
  | 6 => s.ringLost n
  | 7 => s.ringLost n
  | _ => s

/-- R250, R578: what an accepted value sets: the spare that serves a position, or the emitter of a pair, its bias and the selectors of
the channels that it feeds. -/
def State.useValue (s : State) (item n : Nat) (v : CalRun) : State :=
  match item with
  | 3 =>
    if n % 68 < 64 && 1 ≤ v.choice && v.choice ≤ 4 then
      s.onVb (BitVec.ofNat 2 (n / 68 / 384)) (n / 68 % 384) (fun b =>
        { b with spares := RF.put b.spares (BitVec.ofNat 2 (v.choice - 1)) (some (BitVec.ofNat 6 (n % 68))) })
    else s
  | 5 =>
    let b := n / 17
    let on := 2 * (n % 17) + v.choice % 2
    let bias := (v.trims.getD 0 0).toNat
    let s := (s.onEmitter b on (fun x => { x with st := .active, bias := bias, target := bias })).onEmitter b (on ^^^ 1)
      (fun x => { x with st := if n % 17 = 16 then .spareHot else .spare })
    if n % 17 = 16 then s
    else (s.bankChans b (n % 17)).foldl (fun s k => s.onChan k (fun c => { c with selB := on % 2 == 1 })) s
  | _ => s

/-- R579: an element accepts a value. -/
def State.settleElem (s : State) (item n : Nat) (v : CalRun) (fresh : Bool) : State :=
  let s := (s.acceptElem item (elemKey item n) v).useValue item n v
  if fresh then s.onItem item (fun i => { i with fresh := true }) else s

/-- R580: a discarded run: after three on a stack, the regions of item 8 take their factory values there. -/
def State.discardRun (s : State) (n : Nat) : State :=
  let s := s.onElem (elemKey 8 n) (fun e => { e with discards := e.discards + 1 })
  let rs := (List.range 16).map (fun j => n / 16 * 16 + j)
  if ((rs.map (fun r => (s.calElem (elemKey 8 r)).discards)).sum) < 3 then s
  else rs.foldl (fun s r => if (s.calElem (elemKey 8 r)).ended then s else s.noAlternate 8 r) s

/-- R579: one run of an element. -/
def State.runElem (s : State) (item n : Nat) (run : CalRun) (order : List Nat) : State :=
  let k := elemKey item n
  let e := s.calElem k
  let sus := match s.cal.restore with
    | some b => if s.cal.restored then (Config.calMarks item (calSectBytes b item) n).foldl (fun l c => NSet.add c l) e.suspects else e.suspects
    | none => e.suspects
  let cands := order.filter (fun c => c < candidates item)
  let first := if e.runs.isEmpty && !(e.restored && !sus.contains e.cand) then nextCand cands sus else some e.cand
  match first with
  | none => s.noAlternate item n
  | some c =>
    let s := s.onElem k (fun e => { e with cand := c, suspects := sus })
    match e.runs with
    | [] => s.onElem k (fun e => { e with runs := [run] })
    | [r1] => if agree item r1 run then s.settleElem item n ⟨c, (meanRun r1 run).trims⟩ true else s.onElem k (fun e => { e with runs := [r1, run] })
    | r1 :: r2 :: _ =>
      let s := s.countThird item
      if agree item run r1 then s.settleElem item n ⟨c, (meanRun r1 run).trims⟩ true
      else if agree item run r2 then s.settleElem item n ⟨c, (meanRun r2 run).trims⟩ true
      else
        let s := (s.onElem k (fun e => { e with suspects := NSet.add c sus, runs := [], restored := false })).countSuspect item
        match nextCand cands (NSet.add c sus) with
        | some c2 => s.onElem k (fun e => { e with cand := c2 })
        | none => s.noAlternate item n

/-- R580: what now rules out a run of item 8 on a stack: a limit or a gate below 100%, the stack rule, or a margin alarm. -/
def State.runSpoiled (s : State) (t : BitVec 2) : Bool :=
  let k := s.stk t
  k.l < 100 || k.g < 100 || (List.range 6).any (fun j => s.hGate (6 * t.toNat + j) < 100) || k.slope != .off || RF.at s.clk.alarm t

/-- An item ends with an element, where the command says that this was its last. -/
def State.maybeEnd (s : State) (item n : Nat) (ends : Bool) : State :=
  if ends && (s.calElem (elemKey item n)).ended && !(s.calItem item).ended then s.endItem item else s

/-- CAL_RUN_COMPLETE: a run of an element ends, with the order in which its candidates rank (R579); `discard` says that the run
does not count (R580, R582), and `ends` that no other element of the item is left (log entry 51). -/
def execCalRunComplete (item elem : Nat) (run : CalRun) (order : List Nat) (discard ends : Bool) (s : State) : Res :=
  if !s.calibrates || 9 ≤ item || !s.elemLive item elem || (s.calElem (elemKey item elem)).ended then .next s
  else
    let s := s.startItem item
    if discard || (item = 8 && s.runSpoiled (BitVec.ofNat 2 (elem / 16))) then .next ((if item = 8 then s.discardRun elem else s).maybeEnd item elem ends)
    else .next ((s.runElem item elem run order).maybeEnd item elem ends)

/-- RESTORE_CHECK_RUN: the repeat run of a restored element: the value stays, or the element is calibrated in full from the
restored choice, with the result PARTIAL (R586). -/
def execRestoreCheckRun (item elem : Nat) (run : CalRun) (ends : Bool) (s : State) : Res :=
  let k := elemKey item elem
  let e := s.calElem k
  match s.cal.restore with
  | none => .next s
  | some b =>
    if !s.calibrates || !s.cal.restored || 9 ≤ item || !s.elemLive item elem || e.ended || e.restored || !e.runs.isEmpty then .next s
    else
      match Config.calValue item (calSectBytes b item) elem with
      | [] => .next s
      | c :: trims =>
        let v : CalRun := ⟨c.toNat, trims⟩
        let marks := (Config.calMarks item (calSectBytes b item) elem).foldl (fun l x => NSet.add x l) e.suspects
        let s := (s.startItem item).onElem k (fun e => { e with suspects := marks, cand := v.choice })
        if agree item v run then .next ((s.settleElem item elem v false).maybeEnd item elem ends)
        else .next ((s.onElem k (fun e => { e with restored := true })).onCal (fun c => { c with result := 3 }))

/-! ### The proceed point by itself (R574) -/

/-- THAW_PROCEED_TIMEOUT: 10 s after the image was accepted (R574). -/
def execThawProceedTimeout (s : State) : Res := if s.inHold then .next s.proceed else .next s

/-! ### Margin plans (R590 to R594) -/

/-- R591: the guardband of a stack, from V0 in mV and D in 0.01%. -/
def guardband (v0 d : Nat) : Nat := min 50 (v0 + 5 * ((d + 49) / 50))

/-- R592: the top step of a stack. -/
def sweepTop (x : Sweep) : Nat := match x with | .top n => max 24 (min n 36) | _ => 24

def onFour (f : BitVec 2 → Nat) : RF 2 Nat := Vector.ofFn (fun i : Fin (2 ^ 2) => f (BitVec.ofNat 2 i.val))

/-- R590, R592: a plan is made and published; the next falls at the next whole multiple of 720 h. -/
def State.publishPlan (s : State) : State :=
  let warn := s.clk.marginWarn
  let alarm := s.clk.marginAlarm
  let op := s.mor.optime
  let ft := s.ftime
  s.onCal (fun c => { c with
    planGen := c.planGen + 1, planNext := BitVec.ofNat 32 ((op.toNat / 737280 + 1) * 737280), planOp := op, planFt := ft
    warnAt := warn, alarmAt := alarm, planDue := false })

/-- R591, R592: the plan of THAW: guardbands may fall, and the limit may rise. -/
def State.thawPlan (s : State) (d : RF 2 Nat) (sweep : RF 2 Sweep) : State :=
  let v := onFour (fun t => guardband (RF.at s.part.v0 t) (RF.at d t))
  let tops := onFour (fun t => sweepTop (RF.at sweep t))
  let low := tops.toList.foldl min 36
  let ex := fourStacks.foldl (fun (b : BitVec 4) t => if RF.at sweep t = .short && RF.at v t = 50 then b ||| (1#4 <<< t.toNat) else b) 0
  let s := s.onCal (fun c => { c with planV := v, planS := tops, exhausted := ex, pendingLimit := none, ageD := d })
  ((s.onClk (fun c => { c with stepLimit := low })).setVddAll s.clk.jobStep).publishPlan.reachStage 14

/-- R592: the limit after a plan in service, from the limit that the last plan set. -/
def State.lowerLimit (s : State) : State :=
  let base := s.cal.pendingLimit.getD s.clk.stepLimit
  let worse := s.cal.warnAt.toNat < s.clk.marginWarn.toNat || s.cal.alarmAt.toNat < s.clk.marginAlarm.toNat
  if !worse then s
  else
    let l := max 24 (base - 1)
    if l < s.clk.jobStep then s.onCal (fun c => { c with pendingLimit := some l })
    else (s.onClk (fun c => { c with stepLimit := l })).onCal (fun c => { c with pendingLimit := none })

/-- R591 to R594: a plan in service: guardbands only rise, at the next scheduler cycle; bias targets rise where a margin is
below 2.5 dB; weak vertical channels are marked. -/
def State.servicePlan (s : State) (d : RF 2 Nat) (targets : List (Nat × Nat × Nat)) (eyes : List Nat) : State :=
  let v := onFour (fun t => max (RF.at s.cal.planV t) (guardband (RF.at s.part.v0 t) (RF.at d t)))
  let s := (s.onCal (fun c => { c with
    planV := v, planApply := true, ageD := d, marks := eyes.foldl (fun l e => NSet.add e l) c.marks })).lowerLimit
  let s := targets.foldl (fun s x =>
    s.onEmitter x.1 x.2.1 (fun m => if m.st = .active && m.margin < 25 then { m with target := max m.target (min x.2.2 1000) } else m)) s
  s.publishPlan

/-- MARGIN_PLAN: the plan of step 14, or one that falls due in service. `ageD` is D of each stack in 0.01%; `sweep` is what the
step sweep showed; `targets` holds bank, emitter and the bias that restores 3.0 dB, in 0.1%; `eyes` holds the vertical
channels, as elements of item 3, with an eye below 40% UI (R590 to R594). -/
def execMarginPlan (ageD : RF 2 Nat) (sweep : RF 2 Sweep) (targets : List (Nat × Nat × Nat)) (eyes : List Nat) (s : State) : Res :=
  if s.calibrates && s.itemsEnded && s.cal.stage < 14 then .next (s.thawPlan ageD sweep)
  else if (s.pkg.dev = .flow || s.pkg.dev = .drift) && s.cal.planDue then .next (s.servicePlan ageD targets eyes)
  else .next s

/-! ### Ageing (R589, R593) -/

/-- R540: where a trained bundle is counted in histograms 24 to 27. -/
def Vb.histBin (b : Vb) : Nat :=
  match b.st with
  | .full => (b.spares.toList.filter (fun x => x.isSome)).length
  | .halfLo => 5 | .halfHi => 5
  | _ => 6

/-- OPERATING_HOUR: the monitors are read: D in 0.01%, slack in 0.1%, slope efficiency and vertical eye in %; bundles are
counted, and a plan falls due at each whole multiple of 720 h (R540, R589, R590). -/
def execOperatingHour (ageD slack slope eye : RF 2 Nat) (s : State) : Res :=
  if !(s.pkg.dev = .flow || s.pkg.dev = .drift) then .next s
  else
    let s := s.onCal (fun c => { c with
      ageD := ageD, ageSlack := slack, ageSlope := slope, ageEye := eye
      planDue := c.planDue || (c.replanEn && c.planNext.toNat ≤ s.mor.optime.toNat) })
    .next (fourStacks.foldl (fun s t =>
      (List.range 384).foldl (fun s n =>
        let b := s.vb t n
        if b.st = .untrained then s else s.onMor (fun m => m.count (24 + t.toNat) (Int.ofNat b.histBin))) s) s)

/-- EMITTER_BIAS_STEP: each 1 s the bias of each active emitter moves 0.1% towards its target (R593). -/
def execEmitterBiasStep (s : State) : Res :=
  .next (s.floe.emitters.foldl (fun s p =>
    s.onEmitter (p.1 / 64) (p.1 % 64) (fun x =>
      if x.st != .active then x
      else if x.bias < x.target then { x with bias := x.bias + 1 }
      else if x.target < x.bias then { x with bias := x.bias - 1 } else x)) s)

end Sys2Proof.Machine
end

