-- ==== Sys2Proof/Machine/DictCmds.lean ====
section
/-! DEFINITION. Dictionary requests as they arrive, and the writes that have a command of their own (R478 to R495). -/

namespace Sys2Proof.Machine

/-! ### Requests of the mailbox and of MCTP -/

/-- Type and bytes 16 to 255 of a message, as a request is held. -/
def mbxBody (m : List Byte) : List Byte := natLE 2 (fld m 2 2) ++ m.drop 16

/-- R492, R493: a body of a type and bytes 16 to 255 is served on its path: path 0 is the mailbox. -/
def State.serveSvaog (s : State) (path : Nat) (body : List Byte) : State :=
  let w := fld body 0 2 = 0x0202
  let p := padTo 240 (body.drop 2)
  if fld body 0 2 != 0x0201 && fld body 0 2 != 0x0202 then s
  else if path = 0 then s.serveMbx w p
  else s.serveMctp (path / 2) w p

/-- R457: served, or held while N5 is down. -/
def State.askSvaog (s : State) (path : Nat) (body : List Byte) : State :=
  if s.n5Down then s.holdReq path 0 body else s.serveSvaog path body

/-- DICT_READ: the oldest mailbox message is a read (R486, R492). -/
def execDictRead (s : State) : Res := s.onTaken 0x0201 (fun m s => s.askSvaog pathMbx (mbxBody m))

/-- DICT_WRITE: the oldest mailbox message is a write (R487, R492). -/
def execDictWrite (s : State) : Res := s.onTaken 0x0202 (fun m s => s.askSvaog pathMbx (mbxBody m))

/-- MCTP_SVAOG_MESSAGE: a Svaog message of class B on an endpoint; a message with another header is none (R493). -/
def execMctpSvaogMessage (ep : Nat) (msg : List Byte) (s : State) : Res :=
  if s.pins.perst || s.pkg.dev = .cold then .next s
  else
    match s.mctpBody msg with
    | some body => .next (s.askSvaog (pathMctp ep) body)
    | none => .next s

/-- DICT_SESSION_ABANDON: an open session has had no segment for 1 s (R489). -/
def execDictSessionAbandon (key : Nat) (s : State) : Res :=
  match s.session key with
  | some x => if msU 1000 ≤ s.since x.at' then .next (s.endSession key) else .next s
  | none => .next s

/-! ### Writes with a command of their own -/

/-- What a write must be: its entry, and what it holds. -/
structure OwnWrite where
  key : Nat
  /-- What the segment and the value that it makes whole must be. -/
  ok : DictReq → List Byte → Bool
  /-- The BAR0 offset of its register, if it has one, and what the value must be, present value first. -/
  reg : Option Nat
  okReg : W32 → W32 → Bool

/-- The value so far, with a segment: what a session holds comes before it (R489). -/
def State.valueWith (s : State) (r : DictReq) : List Byte :=
  match s.session (dk r.idx r.sub) with
  | some x => if r.off = x.data.length then x.data ++ r.data else r.data
  | none => r.data

def State.takesOwn (s : State) (o : OwnWrite) (r : DictReq) : Bool := dk r.idx r.sub = o.key && o.ok r (s.valueWith r)

/-- A write of an entry with a command of its own, by the way it takes; a message or a register that is not that write is no
such command (log entry 2). -/
def State.ownWrite (s : State) (o : OwnWrite) (src : WriteSrc) : Res :=
  match src with
  | .mailbox =>
    match s.firm.mbx.taken with
    | m :: _ => if fld m 2 2 = 0x0202 && s.takesOwn o (reqOfMsg true ((padTo 256 m).drop 16)) then execDictWrite s else .next s
    | [] => .next s
  | .mctp ep msg =>
    let own := fun (body : List Byte) => fld body 0 2 = 0x0202 && s.takesOwn o (reqOfMsg true (padTo 240 (body.drop 2)))
    if (s.mctpBody msg).any own then execMctpSvaogMessage ep msg s else .next s
  | .bar0 al v =>
    match o.reg with
    | none => .next s
    | some a =>
      let cur := s.reg (a / 2 ^ 24) (a / 2 ^ 16 % 2 ^ 8) (a % 2 ^ 14)
      let mask := BitVec.ofNat 32 (regMask (a / 2 ^ 24) (a / 2 ^ 16 % 2 ^ 8) (a % 2 ^ 14))
      if o.okReg cur (aliasVal al.toNat cur v mask) then .next (s.bar0Write (a + 0x4000 * al.toNat) 4 (v.setWidth 64)) else .next s

/-- A write of an entry that has no register. -/
def entryOnly (key : Nat) : OwnWrite := ⟨key, fun _ _ => true, none, fun _ _ => false⟩

/-- THAW_PROCEED: a write of the entry; the first write of 1 in the configuration hold is the proceed point (R574). -/
def execThawProceed (src : WriteSrc) (s : State) : Res := s.ownWrite (entryOnly (dk 0x6300 2)) src

/-- CAL_RESTORE: the closing segment of a restore (R585). -/
def execCalRestore (src : WriteSrc) (s : State) : Res :=
  s.ownWrite { entryOnly (dk 0x6300 3) with ok := fun r _ => r.last } src

/-- SOFT_RESET: a write of the entry (R611). -/
def execSoftReset (src : WriteSrc) (s : State) : Res := s.ownWrite (entryOnly (dk 0x1200 7)) src

/-- SCHED_SWAP: the primary hands over at the end of the next scheduler cycle (R463). -/
def execSchedSwap (src : WriteSrc) (s : State) : Res := s.ownWrite (entryOnly (dk 0x5010 4)) src

/-- DICT_LOCK: a write of 1 locks every RWL entry and sets every LOCK bit (R484). -/
def execDictLock (src : WriteSrc) (s : State) : Res :=
  s.ownWrite { entryOnly (dk 0x1000 0x10) with ok := fun r _ => r.data = [1] } src

/-- TILE_RETIRED_LIST_WRITE: a write of the list (R80). -/
def execTileRetiredListWrite (src : WriteSrc) (s : State) : Res := s.ownWrite (entryOnly (dk 0x2000 9)) src

/-- PHO_STEER_GO: a steer of a set at PHO_STEER_TIME is requested (R280). -/
def execPhoSteerGo (src : WriteSrc) (s : State) : Res := s.ownWrite (entryOnly (dk 0x3000 7)) src

/-- DM_SWAP: the holder hands over; refused on any other device (R467). -/
def execDmSwap (src : WriteSrc) (s : State) : Res := s.ownWrite (entryOnly (dk 0x5030 7)) src

/-- FT_WRAP_TEST: a preset of fabric time (R390). -/
def execFtWrapTest (src : WriteSrc) (s : State) : Res := s.ownWrite (entryOnly (dk 0x4000 9)) src

/-- MEM_WINDOWS_WRITE: the inbound windows (R364). -/
def execMemWindowsWrite (src : WriteSrc) (s : State) : Res := s.ownWrite (entryOnly (dk 0x3200 1)) src

/-- MEM_FENCE: the entry, or MEM_CTRL where FENCE changes (R330, R367). -/
def execMemFence (src : WriteSrc) (s : State) : Res :=
  s.ownWrite { entryOnly (dk 0x3200 2) with reg := some (regAddr 0 3 0), okReg := fun old new => old.getLsbD 1 != new.getLsbD 1 } src

/-- HOST_BAR4_BASE: the entry (R351); its register pair has a command of its own. -/
def execHostBar4Base (src : WriteSrc) (s : State) : Res := s.ownWrite (entryOnly (dk 0x3200 0x0C)) src

/-- ERR_ACK: records up to a SEQ become ACKED (R521, R552). -/
def execErrAck (src : WriteSrc) (s : State) : Res :=
  s.ownWrite { entryOnly (dk 0x6000 3) with reg := some (regAddr 0 7 8), okReg := fun _ _ => true } src

/-- ERR_INJECT: an injection is armed or disarmed (R529). -/
def execErrInject (src : WriteSrc) (s : State) : Res := s.ownWrite (entryOnly (dk 0x6000 8)) src

/-- ERR_PROD_LOCK_SET (R530). -/
def execErrProdLockSet (src : WriteSrc) (s : State) : Res := s.ownWrite (entryOnly (dk 0x6000 0x0B)) src

/-- SEC_KEY_REVOKE (R560). -/
def execSecKeyRevoke (src : WriteSrc) (s : State) : Res := s.ownWrite (entryOnly (dk 0x7000 3)) src

/-- SEC_SVN_COMMIT (R561). -/
def execSecSvnCommit (src : WriteSrc) (s : State) : Res := s.ownWrite (entryOnly (dk 0x7000 5)) src

/-- SEC_MEAS_EXTEND (R564). -/
def execSecMeasExtend (src : WriteSrc) (s : State) : Res := s.ownWrite (entryOnly (dk 0x7000 0x0A)) src

/-- R554: the CVU_CTRL of a unit. -/
def cvuCtrlAddr (c : BitVec 4) : Nat := regAddr (c.toNat / 4 + 1) 8 (256 * (c.toNat % 4))

/-- CVU_START: CVU_CTRL.EN of a unit is written 1 (R537). -/
def execCvuStart (unit : BitVec 4) (src : WriteSrc) (s : State) : Res :=
  s.ownWrite ⟨dk 0x6100 (unit.toNat + 1), fun r v => r.last && fld v 44 4 % 2 = 1, some (cvuCtrlAddr unit), fun _ new => new.getLsbD 0⟩ src

/-- CVU_STOP: CVU_CTRL.EN of a unit is written 0 (R537). -/
def execCvuStop (unit : BitVec 4) (src : WriteSrc) (s : State) : Res :=
  s.ownWrite ⟨dk 0x6100 (unit.toNat + 1), fun r v => r.last && fld v 44 4 % 2 = 0, some (cvuCtrlAddr unit), fun _ new => !new.getLsbD 0⟩ src

/-- MOR_FREEZE: the entry, or MOR_CTRL where FREEZE changes (R543, R553). -/
def execMorFreeze (src : WriteSrc) (s : State) : Res :=
  s.ownWrite { entryOnly (dk 0x6200 4) with reg := some (regAddr 0 8 0), okReg := fun old new => old.getLsbD 1 != new.getLsbD 1 } src

/-- MOR_FLUSH: the entry, or MOR_CTRL with FLUSH = 1 (R546, R553). -/
def execMorFlush (src : WriteSrc) (s : State) : Res :=
  s.ownWrite { entryOnly (dk 0x6200 5) with reg := some (regAddr 0 8 0), okReg := fun _ new => new.getLsbD 2 } src

/-- CAL_EXPORT_TAKE (R583). -/
def execCalExportTake (src : WriteSrc) (s : State) : Res := s.ownWrite (entryOnly (dk 0x6300 5)) src

end Sys2Proof.Machine
end

