-- ==== Sys2Proof/Machine/Retry.lean ====
section
/-! DEFINITION. Retry, resync and flagged stores at the source (R340, R341, R343, R345, R346). -/

namespace Sys2Proof.Machine

/-- R346: MEM_TIMEOUT in force, in µs: for 10 ms after a change, the larger of the old and new values. -/
def State.memT (s : State) : Nat :=
  match s.mem.timeoutOld with
  | some (old, at') => if s.since at' < msU 10 then max old.toNat s.mem.timeout.toNat else s.mem.timeout.toNat
  | none => s.mem.timeout.toNat

/-- R343: another attempt of a request may be injected. -/
def State.mayRetry (s : State) (r : Req) : Bool :=
  0 < r.attempts && r.attempts < 4 && s.since r.firstInj ≤ usU (3 * s.memT)

/-- R299, R343: a request that is under way to a destination which has become UNREACHABLE or OUTSIDE: nothing is injected, and one
that is not sequenced ends; a sequenced one stays for the resync of its pair (log entry 156). -/
def State.cutOff (s : State) (r : Req) (f : State → State) : State :=
  match s.destFails r.dest with
  | none => f s
  | some st => if r.sequenced then s else s.complete r (Answer.plain st)

/-- R343: inject a request again as a further attempt. -/
def State.retry (s : State) (r : Req) : State :=
  s.cutOff r (fun s =>
  let r := { r with attempts := r.attempts + 1, pkt := { r.pkt with retry := BitVec.ofNat 2 r.attempts } }
  (((s.onReq r.id (fun _ => r)).onMem (fun m => { m with retries := satInc m.retries }))).sendReq r)

/-- The injected sequenced requests of a pair that have no answer, from one on, in SEQ order. -/
def State.fromOn (s : State) (r : Req) : List Req :=
  (s.mem.reqs.dropWhile (fun q => q.id != r.id)).filter (fun q =>
    q.eng == r.eng && q.dest == r.dest && q.sequenced && q.attempts != 0 && !q.dup)

/-- R343: the oldest unresolved sequenced request of its pair. -/
def State.oldestOf (s : State) (eng dest : Nat) : Option Req :=
  s.mem.reqs.find? (fun q => q.eng == eng && q.dest == dest && q.sequenced && q.attempts != 0 && !q.dup)

/-- A request that is under the attempts of R343. -/
def State.trying (s : State) (id : Nat) : Option Req :=
  (s.req? id).bind (fun r =>
    if r.attempts != 0 && !r.dup && !(s.pair r.eng r.dest).resync && !s.isLocal r then some r else none)

/-- REQUEST_TIMEOUT: an attempt times out: a load, or an outer request, is sent again alone; the oldest sequenced
request of a pair is sent again with every later one (R343). -/
def execRequestTimeout (id : Nat) (s : State) : Res :=
  match s.trying id with
  | none => .next s
  | some r =>
    if r.sequenced = false then .next (if s.mayRetry r then s.retry r else s)
    else if (s.oldestOf r.eng r.dest).map (·.id) = some id then
      .next ((s.fromOn r).foldl (fun s q => if s.mayRetry q then s.retry q else s) s)
    else .next s

/-- REQUEST_LAST_CHANCE: at 4T a load or an outer request completes PEER_TIMEOUT; a sequenced request puts its pair into
resync (R343, R345). -/
def execRequestLastChance (id : Nat) (s : State) : Res :=
  match s.req? id with
  | none => .next s
  | some r =>
    if r.attempts = 0 || r.dup || s.isLocal r then .next s
    else if r.sequenced = false then .next (s.complete r (Answer.plain scTimeout))
    else if (s.pair r.eng r.dest).resync then .next s
    else .next ((s.onPair r.eng r.dest (fun p => { p with resync := true, queried := false, exp := none })).onMem
      (fun m => { m with resyncs := satInc m.resyncs }))

/-- BUSY_RESEND: 2 µs after a BUSY reply, a load is sent again alone, and a sequenced request with the later ones of its
pair, with the same RETRY (R343). -/
def execBusyResend (id : Nat) (s : State) : Res :=
  match s.trying id with
  | none => .next s
  | some r =>
    if r.busy = false then .next s
    else
      let again := if r.sequenced then s.fromOn r else [r]
      .next (again.foldl (fun s q =>
        let q := { q with busy := false }
        s.cutOff q (fun s => (s.onReq q.id (fun _ => q)).sendReq q)) s)

/-- The tag of a SYNC query, which no request has (log entry 32). -/
def syncTag : W16 := 0xFFFF

/-- R345: the SYNC query of a pair, with the oldest unresolved sequence number. -/
def State.syncPkt (s : State) (eng dest : Nat) : Packet :=
  { s.reqPkt opAt eng dest 0 16 with
    atop := 15, len8 := 1, tag := syncTag
    seq := ((s.oldestOf eng dest).map (fun r => r.pkt.seq)).getD (s.pair eng dest).next }

/-- RESYNC_QUERY_SEND: T after the last injection of a pair in resync, and every 1 ms while it has no answer, a SYNC
query is sent (R345 steps 2 and 3). -/
def execResyncQuerySend (eng dest : Nat) (s : State) : Res :=
  let p := s.pair eng dest
  if p.resync = false then .next s
  else if !p.queried && s.since p.lastInj < usU s.memT then .next s
  else
    .next ((s.onPair eng dest (fun p => { p with queried := true })).inject (s.syncPkt eng dest) (engTile eng))

/-- R345 steps 5 to 7: the query is answered with EXP. -/
def State.resyncAnswer (s : State) (eng dest : Nat) (exp : BitVec 20) : State :=
  let open' := s.mem.reqs.filter (fun q => q.eng == eng && q.dest == dest && q.sequenced && q.attempts != 0 && !q.dup)
  let s := s.onPair eng dest (fun p => { p with resync := false, queried := false, exp := some exp, next := exp })
  let s := open'.foldl (fun s r =>
    if serBefore r.pkt.seq exp then
      let r := { r with dup := true }
      ((s.onReq r.id (fun _ => r)).onMem (fun m => { m with retries := satInc m.retries })).sendReq r
    else s) s
  let s := open'.foldl (fun s r => if serBefore r.pkt.seq exp then s else s.complete r (Answer.plain scTimeout)) s
  s.release

/-- RESYNC_DUPLICATE_RESEND: a duplicate without an answer T after it was sent is sent again (R345 step 5). -/
def execResyncDuplicateResend (id : Nat) (s : State) : Res :=
  match s.req? id with
  | none => .next s
  | some r =>
    if r.dup then .next ((s.onMem (fun m => { m with retries := satInc m.retries })).sendReq r) else .next s

/-- FLAGGED_STORE_SEND: every request of the snapshot has completed: the flagged store is sent as a sequenced request,
or completes with the failure of its issuer (R340, R341). -/
def execFlaggedStoreSend (id : Nat) (s : State) : Res :=
  match s.mem.flagged.find? (fun f => f.req.id == id) with
  | none => .next s
  | some f =>
    if f.waits.isEmpty = false then .next s
    else
      let s := s.onMem (fun m => { m with flagged := m.flagged.filter (fun g => g.req.id != id) })
      match f.fail.map (·.2) <|> s.destFails f.req.dest with
      | some st => .next (s.complete f.req (Answer.plain st))
      | none => .next ((s.onMem (fun m => { m with
          reqs := m.reqs.filter (fun q => q.id < id) ++ f.req :: m.reqs.filter (fun q => id < q.id) })).release)

end Sys2Proof.Machine
end

