-- ==== Sys2Proof/Machine/Serve.lean ====
section
/-! DEFINITION. Memory requests as their destination serves them, and replies at their source (R325 to R348, R494). -/

namespace Sys2Proof.Machine

/-! ### Inbound windows (R328, R329) -/

/-- R329: a window contains every byte of an access of its region. -/
def Window.covers (w : Window) (a n : Nat) : Bool :=
  w.v && w.region.toNat = gRegion a && 4096 * w.base.toNat ≤ gOff a && gOff a + n ≤ 4096 * (w.base.toNat + w.size.toNat + 1)

/-- R329: a window names the source of a packet; an outer request comes from another domain. -/
def Window.names (w : Window) (p : Packet) (outer : Bool) : Bool :=
  if outer then w.xdom = 0xFE || (w.xdom != 0xFF && w.xdom = p.srcDom) else w.srcMask.getLsbD p.src.toNat

/-- What an access needs of its window. -/
structure Rights where
  rd : Bool := false
  w : Bool := false
  at' : Bool := false
  f : Bool := false
  pf : Bool := false

def Window.grants (w : Window) (r : Rights) : Bool :=
  (!r.rd || w.rd) && (!r.w || w.w) && (!r.at' || w.at') && (!r.f || w.f) && (!r.pf || w.pf)

/-- Who asks for an access: this device itself, or a peer, with the packet and whether it comes from another domain. -/
inductive From where
  | own
  | peer (p : Packet) (outer : Bool)

/-- R329 steps 1 and 2: the window under which a peer's access of several ranges runs; none where it is refused. -/
def State.windowFor (s : State) (p : Packet) (outer : Bool) (ranges : List (Nat × Nat)) (need : Rights) : Option Window :=
  match s.mem.windows.toList.find? (fun w => ranges.all (fun r => w.covers r.1 r.2) && w.names p outer) with
  | some w => if !s.fenced && w.grants need then some w else none
  | none => none

/-- R327, R329: the access may run; the marks FC and PF that a load reply carries. -/
def State.admits (s : State) (who : From) (ranges : List (Nat × Nat)) (need : Rights) : Option (Bool × Bool) :=
  match who with
  | .own => some (true, true)
  | .peer p outer => (s.windowFor p outer ranges need).map (fun w => (w.fc, w.pf))

/-! ### The dictionary window (R326, R494) -/

def From.asker : From → Asker
  | .own => ⟨.h, pathMbx, 0⟩
  | .peer p outer => ⟨.p, pathFab p.src.toNat, if outer then 64 else p.src.toNat⟩

def EType.signed (t : EType) : Bool := t = .i32 || t = .i64

/-- R326: the upper bytes that an entry's low bytes ask for. -/
def extended (t : EType) (b : List Byte) : List Byte :=
  let neg := t.signed && (b.getLast?.getD 0).getLsbD 7
  b ++ List.replicate (8 - b.length) (if neg then 0xFF else 0)

/-- R326: the scalar entry at an offset, with its index and subindex. -/
def scalarAt (off : Nat) : Option (Entry × Nat × Nat) :=
  let idx := off / 2 ^ 11
  let sub := off % 2 ^ 11 / 8
  if 2 ^ 27 ≤ off then none
  else match entryAt idx sub with
    | some e => if e.ty = .domain || e.ty = .str then none else some (e, idx, sub)
    | none => none

/-- R11, R326: a load of 8 B of the dictionary window. -/
def State.dictLoad (s : State) (who : From) (off : Nat) : State × Byte × List Byte :=
  let idx := off / 2 ^ 11
  if 2 ^ 27 ≤ off then (s, scDenied, [])
  else if 0x8000 ≤ idx && idx < 0x9000 then (s, scOk, zeros 8)
  else match scalarAt off with
    | none => (s, scDenied, [])
    | some (e, idx, sub) =>
      let (x, s) := s.dictServe who.asker ⟨false, idx, sub, true, false, 0, 8, none, []⟩
      if x.result = 0 then (s, scOk, extended e.ty x.data) else (s, scDenied, [])

/-- R326: a store of 8 B into the dictionary window. -/
def State.dictStore (s : State) (who : From) (off : Nat) (bs : List Byte) : State × Byte :=
  match scalarAt off with
  | none => (s, scDenied)
  | some (e, idx, sub) =>
    let v := bs.take e.len
    if extended e.ty v != bs then (s, scDenied)
    else
      let (x, s) := s.dictServe who.asker ⟨true, idx, sub, true, false, 0, e.len, none, v⟩
      (s, if x.result = 0 then scOk else scDenied)

/-! ### Serving one access (R326, R329, R331 to R335) -/

/-- R331: an access that is not 8-byte aligned. -/
def unaligned (a : Nat) : Bool := a % 8 != 0

/-- R329, R331: a load. -/
def State.serveLoad (s : State) (who : From) (a n : Nat) (need : Rights) : State × Answer :=
  if unaligned a then (s, Answer.plain scMisaligned)
  else match s.admits who [(a, n)] need with
  | none => (s, Answer.plain scDenied)
  | some (fc, pf) =>
    if gRegion a = 2 then
      if n != 8 then (s, Answer.plain scMisaligned)
      else
        let (s, st, d) := s.dictLoad who (gOff a)
        (s, ⟨st, d, [], fc, pf⟩)
    else
      let (s, r) := s.memRead a n
      (s, ⟨r.status, r.data, r.poison, fc, pf⟩)

/-- R329, R331, R335: a store. -/
def State.serveStore (s : State) (who : From) (a : Nat) (bs : List Byte) (poison flagged : Bool) (need : Rights) : State × Byte :=
  if unaligned a then (s, scMisaligned)
  else match s.admits who [(a, bs.length)] need with
  | none => (s, scDenied)
  | some _ =>
    if gRegion a = 2 then
      if flagged then (s, scDenied) else if bs.length != 8 then (s, scMisaligned) else s.dictStore who (gOff a) bs
    else s.memWrite a bs poison

/-- R332 to R335: an atomic: its status and what it returns. -/
def State.serveAtomic (s : State) (who : From) (p : Packet) : State × Byte × List Byte :=
  let a := p.addr.toNat
  match atomSize p.atop.toNat p.len8.toNat with
  | none => (s, scMisaligned, [])
  | some n =>
    if a % n != 0 then (s, scMisaligned, [])
    else match s.admits who [(a, n)] { at' := true } with
    | none => (s, scDenied, [])
    | some _ =>
      if gRegion a = 2 then (s, scDenied, [])
      else
        let (s, st, m) := s.memAtomic a p.atop.toNat n (fld p.ext 0 n) (fld p.ext n n) p.poison
        (s, st, if st = scOk && p.atop != 0 then natLE n m else [])

/-- R331: a message: its payload is written, and then its counter incremented. -/
def State.serveMsg (s : State) (who : From) (a ctr : Nat) (bs : List Byte) (poison : Bool) : State × Byte :=
  if unaligned a || unaligned ctr then (s, scMisaligned)
  else match s.admits who [(a, bs.length), (ctr, 8)] { w := true, at' := true } with
  | none => (s, scDenied)
  | some _ =>
    if gRegion a = 2 || gDev ctr != s.devid then (s, scDenied)
    else if !(s.memMapped a bs.length && s.memMapped ctr 8) then (s, scDenied)
    else
      let (s, st) := s.memWrite a bs poison
      let (s, st2, _) := s.memAtomic ctr 0 8 1 0
      (s, if st = scOk then st2 else st)

/-- R276: what an access of a unit on a tile, or at a port of it, moved between tiles. -/
def State.moved (s : State) (tile a n : Nat) (toMem : Bool) (st : Byte) : State :=
  if st = scDenied || st = scMisaligned then s else s.carryMem tile a n toMem

/-! ### Replies (R296) -/

/-- R296: a reply to a packet, without its data. -/
def State.replyTo (s : State) (p : Packet) (op : Nat) (st : Byte) : Packet :=
  { Packet.blank with
    opcode := BitVec.ofNat 8 op, status := st, dst := p.src, dstDom := p.srcDom, src := s.fab.devid, srcDom := s.fab.domain
    srcEng := p.srcEng, tag := p.tag, seq := p.seq, flow := p.flow, len8 := p.len8 }

/-- R296, R320: a reply leaves: within the domain by its route, to another domain by the port on which the request came. -/
def State.answer' (s : State) (q : BitVec 4) (r : Packet) : State :=
  if 14 ≤ q.toNat then s.enqueue q.toNat ⟨s.stamp r, r.dst.toNat, none⟩ else s.inject r (q.toNat / 4)

/-- R331: the reply to a load: a refused one carries no data that the spec states (log entry 57). -/
def State.answerLoad (s : State) (q : BitVec 4) (p : Packet) (n : Nat) (a : Answer) : State :=
  let outer := p.opcode.toNat = opXget
  let op := if outer then opXgetRsp else if n ≤ 32 then opLdRspS else opLdRsp
  let (d, s) := if a.st = scOk || a.st = scPoisoned then (a.data, s) else s.drawBytes n
  let r := s.replyTo p op a.st
  let marks := [BitVec.ofNat 8 (bitN a.fc 0 + bitN a.pf 1)]
  let r := if outer then { r with len8 := if n ≤ 32 then 3 else p.len8, ext := padTo 32 (natLE 2 n) }
    else if op = opLdRsp then { r with ext := padTo 32 marks } else r
  s.answer' q { r.withData d with poison := !a.poison.isEmpty }

/-! ### Age and sequence at the destination (R342, R344) -/

/-- R344: the age of a request, in ns. -/
def State.ageOf (s : State) (p : Packet) : Nat := (BitVec.ofNat 32 (s.clk.ft.toNat / 64) - p.injTime).toNat

/-- R344: the request is older than the timeout. -/
def State.tooOld (s : State) (p : Packet) : Bool := p.ftValid && s.clk.ftState != .unset && 1000 * s.memT < s.ageOf p

/-- R342: the pair of a request at its destination. -/
def pairAt (p : Packet) : Nat := 4096 * p.srcDom.toNat + 64 * p.src.toNat + p.srcEng.toNat

def State.expOf (s : State) (p : Packet) : BitVec 20 := SMap.get 0 s.mem.exps (pairAt p)

/-- R342: EXP increments. -/
def State.expUp (s : State) (p : Packet) : State :=
  s.onMem (fun m => { m with exps := SMap.upd 0 m.exps (pairAt p) (· + 1) })

/-! ### The result cache (R347) -/

/-- R347: the entries that are counted together for a pair: atomics and messages, stores, and answers to SYNC. -/
def CacheKind.group (k : CacheKind) : Nat := match k with | .store => 1 | .sync => 2 | _ => 0

/-- R347: how many entries of a pair and group are newer than the entry at a place; newest first. -/
def newerLike (c : List CacheEnt) (i : Nat) (e : CacheEnt) : Nat :=
  ((c.take i).filter (fun x => x.pair = e.pair && x.kind.group = e.kind.group)).length

/-- R347: the entry may be freed. -/
def State.mayFree (s : State) (i : Nat) (e : CacheEnt) : Bool :=
  usU s.mem.retention.toNat < s.since e.at' && (e.kind = .sync || 16 ≤ newerLike s.mem.cache i e)

/-- R347: room for one more entry: the cache with a free entry, or with its oldest entry that may be freed gone. -/
def State.cacheRoom (s : State) : Option (List CacheEnt) :=
  let c := s.mem.cache
  if c.length < 65536 then some c
  else match (c.zipIdx.filter (fun p => s.mayFree p.2 p.1)).getLast? with
    | some p => some (c.eraseIdx p.2)
    | none => none

/-- R347: an entry is written; a message whose outcome is freed for it is remembered as one that was delivered (R342). -/
def State.cachePut (s : State) (e : CacheEnt) : State :=
  match s.cacheRoom with
  | some c => s.onMem (fun m => { m with
      cache := e :: c
      xmsgGone := (m.cache.filter (fun x => x.kind = .xmsg && !c.contains x)).map (fun x => (x.pair, x.tag)) ++ m.xmsgGone })
  | none => s

/-- The entry that a packet makes. -/
def State.cacheEnt (s : State) (p : Packet) (kind : CacheKind) (st : Byte) (result : List Byte) : CacheEnt :=
  ⟨pairAt p, p.seq, p.tag, kind, st, result, s.now⟩

/-- What the cache holds of a packet; a message, which takes no sequence number of its own, is known by its TAG (log entry 58). -/
def State.cached (s : State) (p : Packet) (kind : CacheKind) : Option CacheEnt :=
  s.mem.cache.find? (fun e => e.pair = pairAt p && e.kind = kind && e.seq = p.seq && (kind != .xmsg || e.tag = p.tag))

/-- R347, R343: a request that finds no room is answered BUSY. -/
def State.busy (s : State) (q : BitVec 4) (p : Packet) (op : Nat) : State :=
  (s.onMem (fun m => { m with busyNacks := satInc m.busyNacks })).answer' q (s.replyTo p op scBusy)

/-! ### Taking a request (R310, R342, R344) -/

/-- R310: the replies of this device that have not left it. -/
def State.repliesWaiting (s : State) : Nat :=
  (((s.fab.ports.toList.flatMap (·.out)) ++ s.fab.waiting).filter (fun x => isReplyOp x.pkt.opcode.toNat)).length

/-- R310: the serving units hold space for another reply; how much space they have is open (log entry 155). -/
def State.replyRoom (s : State) : Bool := s.repliesWaiting < Config.replyExtra + 1

/-- The request of an opcode at the head of a receive channel, for this device, taken off it where there is space for its reply; one
that is too old is discarded. -/
def State.takeReq (s : State) (q : BitVec 4) (ch : BitVec 2) (op : Nat) : Option Packet × State :=
  match s.headOf q ch with
  | none => (none, s)
  | some p =>
    if p.opcode.toNat != op || p.dst != s.fab.devid || 14 ≤ q.toNat || !s.replyRoom then (none, s)
    else
      let s := s.pop q ch
      if s.tooOld p then (none, s.onMem (fun m => { m with ageDiscards := satInc m.ageDiscards })) else (some p, s)

/-- R342: a sequenced request in its turn, before it, or after it. -/
inductive Turn where | now | duplicate | early
deriving DecidableEq, Repr

def State.turnOf (s : State) (p : Packet) : Turn :=
  if p.seq = s.expOf p then .now else if serBefore p.seq (s.expOf p) then .duplicate else .early

def State.seqDrop (s : State) : State := s.onMem (fun m => { m with seqDiscards := satInc m.seqDiscards })

/-- The dictionary window is served by N5: a request for it waits while N5 is down (R457). -/
def State.waitsForN5 (s : State) (a : Nat) : Bool := gRegion a = 2 && s.n5Down

/-- A request of this device to itself that nothing holds back (R337). -/
def State.ownReq (s : State) (id op : Nat) : Option Req :=
  (s.req? id).bind (fun r =>
    if r.dest = s.devid && r.op = op && !s.held r && !s.waitsForN5 r.pkt.addr.toNat then some r else none)

/-- The request at the head waits for N5. -/
def State.headWaits (s : State) (q : BitVec 4) (ch : BitVec 2) : Bool :=
  match s.headOf q ch with
  | some p => s.waitsForN5 p.addr.toNat
  | none => false

/-! ### Loads -/

/-- LD: a load is window-checked and served (R329, R331). -/
def execLdReq (req : ReqFrom) (s : State) : Res :=
  match req with
  | .own id =>
    match s.ownReq id opLd with
    | none => .next s
    | some r =>
      let (s, a) := s.serveLoad .own r.pkt.addr.toNat r.pkt.size { rd := true }
      .next ((s.moved (engTile r.eng) r.pkt.addr.toNat r.pkt.size false a.st).complete r a)
  | .port q ch =>
    if s.headWaits q ch then .next s
    else match s.takeReq q ch opLd with
    | (none, s) => .next s
    | (some p, s) =>
      let (s, a) := s.serveLoad (.peer p false) p.addr.toNat p.size { rd := true, pf := p.tag.getLsbD 15 }
      .next ((s.moved (q.toNat / 4) p.addr.toNat p.size false a.st).answerLoad q p p.size a)

/-! ### Stores -/

/-- R342: a store of a peer in its turn, a duplicate or an early one; a status that is not OK is kept. -/
def State.peerStore (s : State) (q : BitVec 4) (p : Packet) (flagged : Bool) : State :=
  match s.turnOf p with
  | .early => s.seqDrop
  | .duplicate =>
    s.answer' q (s.replyTo p opAck (match s.cached p .store with | some e => e.status | none => scOk))
  | .now =>
    let (s, st) := s.serveStore (.peer p false) p.addr.toNat (p.payload.take p.size) p.poison flagged { w := true, f := flagged }
    let s := s.moved (q.toNat / 4) p.addr.toNat p.size true st
    let s := if st = scOk then s else s.cachePut (s.cacheEnt p .store st [])
    (s.expUp p).answer' q (s.replyTo p opAck st)

/-- A store of an opcode: of this device to itself, or of a peer. -/
def State.storeReq (s : State) (req : ReqFrom) (op : Nat) (flagged : Bool) : Res :=
  match req with
  | .own id =>
    match s.ownReq id op with
    | none => .next s
    | some r =>
      let bs := r.pkt.payload.take r.pkt.size
      let (s, st) := match r.owner with
        | .writeBack _ _ bad => s.memWriteBy r.pkt.addr.toNat bs (fun a n => (sectorsOf a n).any bad.contains)
        | _ => s.serveStore .own r.pkt.addr.toNat bs r.pkt.poison flagged {}
      .next ((s.moved (engTile r.eng) r.pkt.addr.toNat r.pkt.size true st).complete r (Answer.plain st))
  | .port q ch =>
    if s.headWaits q ch then .next s
    else match s.takeReq q ch op with
    | (none, s) => .next s
    | (some p, s) => .next (s.peerStore q p flagged)

/-- ST_S: a store of up to 32 B (R331, R342). -/
def execStS (req : ReqFrom) (s : State) : Res := s.storeReq req opStS false
/-- ST: a store of up to 512 B (R331, R342). -/
def execStReq (req : ReqFrom) (s : State) : Res := s.storeReq req opSt false
/-- STF_S: a flagged store of up to 32 B (R331, R342). -/
def execStfS (req : ReqFrom) (s : State) : Res := s.storeReq req opStfS true
/-- STF: a flagged store of up to 512 B (R331, R342). -/
def execStf (req : ReqFrom) (s : State) : Res := s.storeReq req opStf true

/-! ### Atomics (R332 to R334, R342, R347) -/

def State.answerAtomic (s : State) (q : BitVec 4) (p : Packet) (st : Byte) (result : List Byte) : State :=
  s.answer' q { s.replyTo p opAtRsp st with ext := padTo 32 result }

def State.peerAtomic (s : State) (q : BitVec 4) (p : Packet) : State :=
  match s.turnOf p with
  | .early => s.seqDrop
  | .duplicate =>
    match s.cached p .atomic with
    | some e => s.answerAtomic q p e.status e.result
    | none => s.answerAtomic q p scAtomicUnknown []
  | .now =>
    if s.cacheRoom.isNone then s.busy q p opAtRsp
    else
      let (s, st, d) := s.serveAtomic (.peer p false) p
      (((s.moved (q.toNat / 4) p.addr.toNat 16 true st).cachePut (s.cacheEnt p .atomic st d)).expUp p).answerAtomic q p st d

/-- AT: an atomic, as one read–modify–write, with its result cached (R334, R342, R347). -/
def execAtomic (req : ReqFrom) (s : State) : Res :=
  match req with
  | .own id =>
    match s.ownReq id opAt with
    | none => .next s
    | some r =>
      let (s, st, d) := s.serveAtomic .own r.pkt
      .next ((s.moved (engTile r.eng) r.pkt.addr.toNat 16 true st).complete r ⟨st, d, [], true, true⟩)
  | .port q ch =>
    match s.headOf q ch with
    | none => .next s
    | some p =>
      if p.atop = 15 then .next s
      else match s.takeReq q ch opAt with
      | (none, s) => .next s
      | (some p, s) => .next (s.peerAtomic q p)

/-- SYNC_QUERY: an AT with ATOP 15 is answered with EXP of the pair, without a window or sequence check (R345, R347). -/
def execSyncQuery (q : BitVec 4) (ch : BitVec 2) (s : State) : Res :=
  match s.headOf q ch with
  | none => .next s
  | some p =>
    if p.atop != 15 then .next s
    else match s.takeReq q ch opAt with
    | (none, s) => .next s
    | (some p, s) =>
      let exp := natLE 4 (s.expOf p).toNat
      .next ((s.cachePut (s.cacheEnt p .sync scOk exp)).answerAtomic q p scOk exp)

/-! ### Replies at the source (R296, R335, R343, R345) -/

/-- The reply of an opcode at the head of a receive channel, for this device, taken off it. -/
def State.takeRsp (s : State) (q : BitVec 4) (ch : BitVec 2) (op : Nat) : Option Packet × State :=
  match s.headOf q ch with
  | none => (none, s)
  | some p => if p.opcode.toNat = op && p.dst = s.fab.devid then (some p, s.pop q ch) else (none, s)

/-- R296: the request that a reply answers. -/
def State.asked (s : State) (p : Packet) (ok : Req → Bool) : Option Req :=
  s.mem.reqs.find? (fun r =>
    r.eng = p.srcEng.toNat && r.attempts != 0 && r.pkt.tag = p.tag && r.pkt.seq = p.seq && r.pkt.dstDom = p.srcDom &&
    (isOuterOp r.op || r.dest = p.src.toNat) && ok r)

/-- A reply ends its request; BUSY has it sent again (R343). -/
def State.replied (s : State) (p : Packet) (ok : Req → Bool) (a : Req → Answer) : State :=
  match s.asked p ok with
  | none => s
  | some r => if p.status = scBusy then s.onReq r.id (fun r => { r with busy := true }) else s.complete r (a r)

/-- The answer that a load reply carries. -/
def loadAnswer (p : Packet) (n : Nat) (r : Req) : Answer :=
  let got := p.status = scOk || p.status = scPoisoned
  let m := p.ext.getD 0 0
  ⟨p.status, if got then p.payload.take n else [], if p.poison then sectorsOf r.pkt.addr.toNat n else [],
    p.opcode.toNat = opLdRsp && m.getLsbD 0, p.opcode.toNat = opLdRsp && m.getLsbD 1⟩

/-- A load reply. -/
def State.loadRsp (s : State) (q : BitVec 4) (ch : BitVec 2) (op : Nat) : Res :=
  match s.takeRsp q ch op with
  | (none, s) => .next s
  | (some p, s) => .next (s.replied p (fun r => r.op = opLd) (fun r => loadAnswer p r.pkt.size r))

/-- LD_RSP_S: a reply of up to 32 B (R331). -/
def execLdRspS (q : BitVec 4) (ch : BitVec 2) (s : State) : Res := s.loadRsp q ch opLdRspS
/-- LD_RSP: a reply with data, with the marks of its window (R329, R331). -/
def execLdRsp (q : BitVec 4) (ch : BitVec 2) (s : State) : Res := s.loadRsp q ch opLdRsp

/-- ACK: a store, a flagged store or a contribution is answered (R331, R342, R362). -/
def execAck (q : BitVec 4) (ch : BitVec 2) (s : State) : Res :=
  match s.takeRsp q ch opAck with
  | (none, s) => .next s
  | (some p, s) => .next (s.replied p (fun r => r.isStore || r.op = opColl) (fun _ => Answer.plain p.status))

/-- AT_RSP: an atomic is answered, or a query of R345. -/
def execAtRsp (q : BitVec 4) (ch : BitVec 2) (s : State) : Res :=
  match s.takeRsp q ch opAtRsp with
  | (none, s) => .next s
  | (some p, s) =>
    if p.tag = syncTag then
      let x := s.pair p.srcEng.toNat p.src.toNat
      if x.resync && x.queried then .next (s.resyncAnswer p.srcEng.toNat p.src.toNat (BitVec.ofNat 20 (fld p.ext 0 4))) else .next s
    else .next (s.replied p (fun r => r.isAtomic) (fun r => ⟨p.status, p.ext.take r.bytes, [], true, true⟩))

/-! ### Outer operations (R319, R320, R331) -/

/-- What the head of a channel is to an outer opcode. -/
inductive OuterHead where
  /-- Nothing of this opcode. -/
  | none
  /-- R319: a request that leaves the domain here. -/
  | gateway (p : Packet)
  /-- R320: a request of another domain, for this device. -/
  | serve (p : Packet)
  /-- A request of another domain that is discarded. -/
  | drop

def State.outerHead (s : State) (q : BitVec 4) (ch : BitVec 2) (op : Nat) : OuterHead × State :=
  match s.headOf q ch with
  | .none => (.none, s)
  | some p =>
    if p.opcode.toNat != op then (.none, s)
    else if q.toNat < 14 then (if p.dst = s.fab.devid then (.gateway p, s.pop q ch) else (.none, s))
    else if !s.replyRoom then (.none, s)
    else
      let s := s.pop q ch
      if p.dstDom != s.fab.domain || gDev p.addr.toNat != s.devid then (.drop, s.discard (some q) discOuter)
      else if s.tooOld p then (.drop, s.onMem (fun m => { m with ageDiscards := satInc m.ageDiscards }))
      else (.serve p, s)

/-- R297: the byte count of an outer DATA packet, where the packet carries as many. -/
def outerCount (p : Packet) : Option Nat :=
  let n := fld p.ext 0 2
  if n % 8 = 0 && 8 ≤ n && n ≤ p.size then some n else none

/-- XPUT: a put of another domain is applied, or leaves by its gateway (R319, R320). -/
def execXput (q : BitVec 4) (ch : BitVec 2) (s : State) : Res :=
  match s.outerHead q ch opXput with
  | (.gateway p, s) => .next (s.sendOuter p (some q))
  | (.serve p, s) =>
    let (s, st) := match outerCount p with
      | some n => s.serveStore (.peer p true) p.addr.toNat (p.body.take n) p.poison false { w := true }
      | none => (s, scMisaligned)
    .next (s.answer' q (s.replyTo p opXputAck st))
  | (_, s) => .next s

/-- XGET: a get of another domain is served, or leaves by its gateway (R319, R320). -/
def execXget (q : BitVec 4) (ch : BitVec 2) (s : State) : Res :=
  match s.outerHead q ch opXget with
  | (.gateway p, s) => .next (s.sendOuter p (some q))
  | (.serve p, s) =>
    let (s, a) := s.serveLoad (.peer p true) p.addr.toNat p.size { rd := true }
    .next (s.answerLoad q p p.size a)
  | (_, s) => .next s

/-- R331, R342, R347: a message of another domain; a repeated one is answered from the cache, or PEER_TIMEOUT where its outcome is no
longer there (log entry 58). -/
def State.peerMsg (s : State) (q : BitVec 4) (p : Packet) : State :=
  match s.cached p .xmsg with
  | some e => s.answer' q (s.replyTo p opXmsgAck e.status)
  | none =>
    if p.retry != 0 && s.mem.xmsgGone.contains (pairAt p, p.tag) then s.answer' q (s.replyTo p opXmsgAck scTimeout)
    else if s.cacheRoom.isNone then s.busy q p opXmsgAck
    else
      let (s, st) := match outerCount p with
        | some n => s.serveMsg (.peer p true) p.addr.toNat (fld p.ext 8 8) (p.body.take n) p.poison
        | none => (s, scMisaligned)
      let s := s.onMem (fun m => { m with xmsgGone := m.xmsgGone.filter (fun x => x != (pairAt p, p.tag)) })
      (s.cachePut (s.cacheEnt p .xmsg st [])).answer' q (s.replyTo p opXmsgAck st)

/-- XMSG: a message of another domain is written and counted once, or leaves by its gateway (R319, R320, R331, R347). -/
def execXmsg (q : BitVec 4) (ch : BitVec 2) (s : State) : Res :=
  match s.outerHead q ch opXmsg with
  | (.gateway p, s) => .next (s.sendOuter p (some q))
  | (.serve p, s) => .next (s.peerMsg q p)
  | (_, s) => .next s

/-- R320: an outer reply: routed on by the gateway at which it enters the domain, or an answer for this device. -/
def State.outerRsp (s : State) (q : BitVec 4) (ch : BitVec 2) (op reqOp : Nat) (a : Packet → Req → Answer) : Res :=
  match s.headOf q ch with
  | none => .next s
  | some p =>
    if p.opcode.toNat != op then .next s
    else if 14 ≤ q.toNat && p.dstDom != s.fab.domain then .next ((s.pop q ch).discard (some q) discOuter)
    else if p.dst = s.fab.devid then .next ((s.pop q ch).replied p (fun r => r.op = reqOp) (a p))
    else if q.toNat < 14 then .next s
    else
      let s := s.pop q ch
      if !inShape s.shape p.dst.toNat then .next (s.discard (some q) discRoute)
      else
        let p := { p with hop := false }
        let (next, _) := s.nextHop p (q.toNat / 4)
        .next (s.sendTo ⟨p, next, some q⟩ (q.toNat / 4))

/-- XPUT_ACK: a put is answered (R320). -/
def execXputAck (q : BitVec 4) (ch : BitVec 2) (s : State) : Res := s.outerRsp q ch opXputAck opXput (fun p _ => Answer.plain p.status)
/-- XGET_RSP: a get is answered (R320). -/
def execXgetRsp (q : BitVec 4) (ch : BitVec 2) (s : State) : Res :=
  s.outerRsp q ch opXgetRsp opXget (fun p r => loadAnswer p r.pkt.size r)
/-- XMSG_ACK: a message is answered (R320). -/
def execXmsgAck (q : BitVec 4) (ch : BitVec 2) (s : State) : Res := s.outerRsp q ch opXmsgAck opXmsg (fun p _ => Answer.plain p.status)

/-! ### Svaog over the fabric (R494) -/

/-- What a request needs of its packet for its reply, and its 32 bytes, as it is held. -/
def mgmtBody (p : Packet) : List Byte :=
  natLE 2 p.tag.toNat ++ natLE 1 p.srcEng.toNat ++ natLE 1 p.flow.toNat ++ natLE 3 p.seq.toNat ++ p.ext.take 32

/-- The reply to a held request. -/
def State.mgmtReply (s : State) (src : Nat) (body reply : List Byte) : State :=
  s.inject { Packet.blank with
    opcode := BitVec.ofNat 8 opMgmtRsp, dst := BitVec.ofNat 6 src, dstDom := s.fab.domain, srcDom := s.fab.domain
    srcEng := BitVec.ofNat 6 (fld body 2 1), tag := BitVec.ofNat 16 (fld body 0 2), flow := BitVec.ofNat 4 (fld body 3 1)
    seq := BitVec.ofNat 20 (fld body 4 3), len8 := 3, ext := padTo 32 reply } 3

/-- R494: kept replies: the last 16 of a source, for 10 ms, newest first. -/
def State.keepReply (s : State) (r : KeptReply) : State :=
  s.onDict (fun d =>
    let old := d.kept.filter (fun k => s.since k.at' < msU 10)
    let mine := (old.filter (fun k => k.src = r.src)).take 15
    { d with kept := r :: mine ++ old.filter (fun k => k.src != r.src) })

/-- R494: a request of a peer is served with class P, or answered from a kept reply. -/
def State.serveMgmt (s : State) (src : Nat) (body : List Byte) : State :=
  let tag := BitVec.ofNat 16 (fld body 0 2)
  match s.dict.kept.find? (fun k => k.src.toNat = src && k.tag = tag && s.since k.at' < msU 10) with
  | some k => s.mgmtReply src body k.reply
  | none =>
    let p := padTo 32 (body.drop 7)
    let (x, s) := s.dictServe (askPeer src) (reqOfMgmt (Config.mgmtIsWrite p) p)
    let reply := repOfMgmt p x
    (s.keepReply ⟨BitVec.ofNat 6 src, tag, reply, s.now⟩).mgmtReply src body reply

/-- N2 sends a dictionary request to a peer. -/
def State.sendMgmt (s : State) (r : MgmtReq) : State :=
  s.inject { Packet.blank with
    opcode := BitVec.ofNat 8 opMgmt, dst := r.dst, dstDom := s.fab.domain, srcDom := s.fab.domain, srcEng := 38, tag := r.tag
    len8 := 3, ext := padTo 32 r.body } 0

/-- MGMT: a peer's request is served, held while N5 is down, or answered from kept replies; or N2 sends one (R457, R494). -/
def execMgmt (ev : MgmtEv) (s : State) : Res :=
  match ev with
  | .received q ch =>
    match s.headOf q ch with
    | none => .next s
    | some p =>
      if p.opcode.toNat != opMgmt || p.dst != s.fab.devid then .next s
      else
        let s := s.pop q ch
        if s.tooOld p then .next (s.onMem (fun m => { m with ageDiscards := satInc m.ageDiscards }))
        else if s.n5Down then .next (s.holdReq (pathFab p.src.toNat) 2 (mgmtBody p)) else .next (s.serveMgmt p.src.toNat (mgmtBody p))
  | .sent dst body =>
    if s.coreUp 2 = false || dst = s.fab.devid || (s.destFails dst.toNat).isSome then .next s
    else
      let r : MgmtReq := ⟨s.dict.mgmtTag, dst, padTo 32 body, s.now, 0⟩
      .next ((s.onDict (fun d => { d with mgmtOut := d.mgmtOut ++ [r], mgmtTag := d.mgmtTag + 1 })).sendMgmt r)

/-- R473: what the holder has written to MEM_WINDOWS of a device. -/
def State.noteWindows (s : State) (r : MgmtReq) (rsp : List Byte) : State :=
  let b := r.body
  if s.isHolder && fld b 0 2 = 0x3200 && fld b 2 1 = 1 && Config.mgmtIsWrite b && fld rsp 9 1 = 0 then
    s.onDm (fun m => { m with windows := SMap.upd [] m.windows r.dst.toNat (fun w =>
      putAt (padTo 1024 w) (fld b 4 4 % 1024) ((b.drop 16).take (fld b 8 1))) })
  else s

/-- MGMT_RSP: a reply ends a dictionary request of this device (R494). -/
def execMgmtRsp (q : BitVec 4) (ch : BitVec 2) (s : State) : Res :=
  match s.takeRsp q ch opMgmtRsp with
  | (none, s) => .next s
  | (some p, s) =>
    match s.dict.mgmtOut.find? (fun r => r.tag = p.tag && r.dst = p.src) with
    | none => .next s
    | some r =>
      .next ((s.onDict (fun d => { d with mgmtOut := d.mgmtOut.filter (fun x => x.tag != r.tag) })).noteWindows r p.ext)

/-- MGMT_RESEND_TIMEOUT: 1 ms without a reply: the request is sent again with its TAG, at most 3 times, and then ends TIMEOUT
(R494). -/
def execMgmtResendTimeout (tag : W16) (s : State) : Res :=
  match s.dict.mgmtOut.find? (fun r => r.tag = tag) with
  | none => .next s
  | some r =>
    if 3 ≤ r.resends then .next (s.onDict (fun d => { d with mgmtOut := d.mgmtOut.filter (fun x => x.tag != tag) }))
    else
      let now := s.now
      let r := { r with sentAt := now, resends := r.resends + 1 }
      .next ((s.onDict (fun d => { d with mgmtOut := d.mgmtOut.map (fun x => if x.tag = tag then r else x) })).sendMgmt r)

end Sys2Proof.Machine
end

