-- ==== Sys2Proof/Machine/CollOps.lean ====
section
/-! DEFINITION. The collective units: descriptors, members, blocks and the packets between members (R356 to R363). -/

namespace Sys2Proof.Machine

def State.collAt (s : State) (cu : BitVec 2) : CollUnit := RF.at s.mem.coll cu
def State.collRun? (s : State) (cu : BitVec 2) (id : W32) : Option CollRun := (s.collAt cu).runs.find? (fun r => r.id = id)

/-- R295: the engine number of a unit. -/
def collEng (cu : BitVec 2) : Nat := 32 + cu.toNat

/-! ### Members (R358, R359) -/

/-- R357: the DevIDs that a mask names on an axis. -/
def collMembers (shape own axis : Nat) (mask : W64) : List Nat :=
  (shapeDevs shape).filter (fun d =>
    match axis with
    | 0 => devRow d = devRow own && mask.getLsbD (devCol d)
    | 1 => devCol d = devCol own && mask.getLsbD (devRow d)
    | _ => mask.getLsbD d)

/-- R358: no bit of a mask lies outside the shape. -/
def collMaskOk (shape axis : Nat) (mask : W64) : Bool :=
  let (rows, cols) := shapeDims shape
  (List.range 64).all (fun i => !mask.getLsbD i ||
    (match axis with | 0 => i < cols | 1 => i < rows | _ => inShape shape i))

/-- R358: an AXIS 2 mask is the product of a set of rows and a set of columns. -/
def collProduct (ms : List Nat) : Bool :=
  ms.all (fun a => ms.all (fun b => ms.contains (devAt (devRow a) (devCol b))))

/-- R359: the members that reduce a block with this device first: its row; on one axis, all. -/
def CollRun.rowOf (r : CollRun) (own : Nat) : List Nat :=
  if r.axis = 2 then r.members.filter (fun d => devRow d = devRow own) else r.members

/-- R359: the head of a row group for a block. -/
def CollRun.head (r : CollRun) (own b : Nat) : Nat :=
  let g := r.rowOf own
  g.getD (b % g.length) own

/-- R359: the heads that reduce a block together: the column of the head; on one axis, the head alone. -/
def CollRun.colOf (r : CollRun) (own b : Nat) : List Nat :=
  let h := r.head own b
  if r.axis = 2 then r.members.filter (fun d => devCol d = devCol h) else [h]

/-- R359: the owner of a block. -/
def CollRun.owner (r : CollRun) (own b : Nat) : Nat :=
  let g := r.colOf own b
  g.getD (b / (r.rowOf own).length % g.length) own

/-! ### Elements (R358 to R361) -/

/-- Elements in a block. -/
def CollRun.elems (r : CollRun) (b : Nat) : Nat := min 256 (r.count - 256 * b)

/-- Bytes of a block's elements in the descriptor's format. -/
def CollRun.blockBytes (r : CollRun) (b : Nat) : Nat := r.elems b * fmtBits r.fmt / 8

/-- Bytes of one member's contribution. -/
def CollRun.bytes (r : CollRun) : Nat := r.count * fmtBits r.fmt / 8

/-- Elements of `w` bytes each. -/
def elemsOf (w : Nat) (bs : List Byte) (n : Nat) : List Nat := (List.range n).map (fun i => fld bs (w * i) w)
def bytesOf (w : Nat) (xs : List Nat) : List Byte := xs.flatMap (fun x => natLE w x)

/-- R360: floor(log2) of the largest finite non-zero magnitude, none where there is none. -/
def collExp (fmt : Nat) (xs : List Nat) : Option Int :=
  xs.foldl (fun (m : Option Int) x =>
    match decodeVal fmt false x with
    | .fin _ mant e =>
      if mant = 0 then m
      else
        let k := (flog2 mant : Int) + e
        some (match m with | some y => max y k | none => k)
    | _ => m) none

/-- R360: some element is NaN or infinite. -/
def collNf (fmt : Nat) (xs : List Nat) : Bool :=
  xs.any (fun x => match decodeVal fmt false x with | .fin _ _ _ => false | _ => true)

def maxExp (a b : Option Int) : Option Int :=
  match a, b with
  | some x, some y => some (max x y)
  | none, y => y
  | x, none => x

/-- R360: the 4 bytes of pass 1. -/
def expBytes (e : Option Int) (nf : Bool) : List Byte :=
  natLE 2 (match e with | some x => (BitVec.ofInt 16 x).toNat | none => 0x8000) ++ [if nf then 1 else 0, 0]
def pass1Exp (bs : List Byte) : Option Int := if fld bs 0 2 = 0x8000 then none else some (BitVec.ofNat 16 (fld bs 0 2)).toInt
def pass1Nf (bs : List Byte) : Bool := fld bs 2 1 != 0

/-- R360: the anchor of a block. -/
def anchorOf (e : Option Int) : Int := match e with | some x => x - 54 | none => 0

/-- R360, R361: two contributions to one element, the earlier rank first. -/
def CollRun.join (r : CollRun) (a b : Nat) : Nat :=
  if r.exact then (xwAdd (BitVec.ofNat 64 a) (BitVec.ofNat 64 b)).toNat
  else if r.red = 0 then binLane .add r.fmt rne 0 a b
  else minMaxLane (r.red = 2) r.fmt a b

/-- R361: contributions in ascending rank. -/
def CollRun.joinAll (r : CollRun) (xs : List (List Nat)) : List Nat :=
  match xs with
  | [] => []
  | x :: rest => rest.foldl (fun a b => List.zipWith r.join a b) x

/-- Bytes of an element in pass 2. -/
def CollRun.dataWidth (r : CollRun) : Nat := if r.exact then 8 else fmtBits r.fmt / 8

/-! ### Packets (R312, R362) -/

/-- The least size of a COLL payload: 33 B, in 8-byte units (R297). -/
def collPad (bs : List Byte) : List Byte := padTo (max 40 ((bs.length + 7) / 8 * 8)) bs

/-- The packets of a block's bytes for one member (log entry 60). -/
def collSends (dst pass block stage : Nat) (mc : Option (Bool × Byte)) (bs : List Byte) : List CollSend :=
  (chunksOf 512 (bs.length / 512 + 1) bs).map (fun x => ⟨dst, pass, block, stage, mc, false, x⟩)

/-- R312: copies for members of the own row or column, in ascending order. -/
def collMulti (own : Nat) (ds : List Nat) (column : Bool) (pass block stage : Nat) (bs : List Byte) : List CollSend :=
  let others := ds.filter (fun d => d != own)
  let mask := BitVec.ofNat 8 (ds.foldl (fun m d => m ||| 2 ^ (if column then devRow d else devCol d)) 0)
  others.flatMap (fun d => collSends d pass block stage (some (column, mask)) bs)

/-- R362: the packet of a contribution. -/
def State.collPkt (s : State) (cu : BitVec 2) (r : CollRun) (x : CollSend) : Packet :=
  let body := collPad x.data
  let p := s.reqPkt opColl (collEng cu) x.dst 0 body.length
  let p := match x.mc with
    | some (column, mask) => { p with mc := true, mcdir := column, mask := mask }
    | none => p
  { p with poison := x.poison
           ext := padTo 32 (natLE 4 r.id.toNat ++ natLE 4 x.block ++ natLE 1 x.pass ++ natLE 1 r.op ++ natLE 1 r.fmt ++
             natLE 1 r.redByte ++ natLE 4 r.count ++ natLE 8 r.mask.toNat) }.withData body

/-- R362: what a packet of a member contributes. -/
def contribOf (s : State) (p : Packet) : Contrib :=
  { id := BitVec.ofNat 32 (fld p.ext 0 4), src := p.src, pass := fld p.ext 8 1, block := fld p.ext 4 4
    op := BitVec.ofNat 8 (fld p.ext 9 1), fmtc := BitVec.ofNat 8 (fld p.ext 10 1), red := BitVec.ofNat 8 (fld p.ext 11 1)
    count := BitVec.ofNat 32 (fld p.ext 12 4), mask := BitVec.ofNat 64 (fld p.ext 16 8), poison := p.poison
    data := p.body.take p.size, arrived := s.now }

/-- R362: a contribution's fields agree with the local descriptor. -/
def CollRun.agrees (r : CollRun) (c : Contrib) : Bool :=
  c.op.toNat = r.op && c.fmtc.toNat = r.fmt && c.red.toNat = r.redByte && c.count.toNat = r.count && c.mask = r.mask

/-- The bytes that a member has contributed to a pass of a block, once `n` of them are here. -/
def CollUnit.from' (u : CollUnit) (id : W32) (src pass block n : Nat) : Option (List Byte) :=
  let bs := (u.held.filter (fun c => c.id = id && c.src.toNat = src && c.pass = pass && c.block = block)).flatMap (·.data)
  if n ≤ bs.length && bs != [] then some (bs.take n) else none

/-- The contributions of several members, in their order; this device's own is given. -/
def CollUnit.fromAll (u : CollUnit) (id : W32) (own : Nat) (mine : List Byte) (pass block n : Nat) : List Nat → Option (List (List Byte))
  | [] => some []
  | d :: ds =>
    match (if d = own then some mine else u.from' id d pass block n), u.fromAll id own mine pass block n ds with
    | some x, some xs => some (x :: xs)
    | _, _ => none

/-- Contributions to a pass of a block are consumed. -/
def State.collUsed (s : State) (cu : BitVec 2) (id : W32) (pass block : Nat) (srcs : List Nat) : State :=
  s.onColl cu.toNat (fun u => { u with held := u.held.filter (fun c =>
    !(c.id = id && c.pass = pass && c.block = block && srcs.contains c.src.toNat)) })

/-! ### Failing (R362) -/

/-- R362: ABORT to every member. -/
def State.collAbort (s : State) (cu : BitVec 2) (r : CollRun) : State :=
  let s := (r.members.filter (fun d => d != s.devid && (s.destFails d).isNone)).foldl (fun s d =>
    s.inject ((s.reqPkt opCollCtl (collEng cu) d 0 32).withData (Config.collAbort r.id.toNat r.status.toNat)) cu.toNat) s
  s.onCollRun cu.toNat r.id (fun r => { r with aborted := true })

/-- R362: a collective fails with a status, unless it has failed already. -/
def State.collFail (s : State) (cu : BitVec 2) (id : W32) (st : Byte) : State :=
  let s := s.onCollRun cu.toNat id (fun r => { (r.fails st) with sends := [], stores := [] })
  match s.collRun? cu id with
  | some r => if r.status != 0 && !r.aborted then s.collAbort cu r else s
  | none => s

/-- R362: a member that is lost ends the collective; a failed collective tells the others. -/
def State.collWatch (s : State) (cu : BitVec 2) (id : W32) : State :=
  match s.collRun? cu id with
  | none => s
  | some r =>
    if r.status != 0 then s.collFail cu id r.status
    else match r.members.findSome? s.destFails with
      | some st => s.collFail cu id st
      | none => s

/-! ### Loads, packets and stores that wait for room (R349, R363) -/

def State.collRoom (s : State) (cu : BitVec 2) (dest op : Nat) : Bool := s.canIssue (collEng cu) dest op

/-- R358: this member contributes data. -/
def CollRun.contributes (r : CollRun) : Bool := r.op != 1 || r.rank = r.root

/-- Load the own contribution, up to 512 B at a time. -/
def collLoads (cu : BitVec 2) (id : W32) : Nat → State → State
  | 0, s => s
  | k + 1, s =>
    match s.collRun? cu id with
    | none => s
    | some r =>
      let total := (r.bytes + 7) / 8 * 8
      let a := (r.src + r.asked) % 2 ^ 48
      let n := min 512 (total - r.asked)
      if r.status = 0 && r.contributes && r.asked < total && s.collRoom cu (gDev a) opLd then
        let s := s.onCollRun cu.toNat id (fun r => { r with asked := r.asked + n })
        collLoads cu id k (s.issue (s.reqPkt opLd (collEng cu) (gDev a) a n) (.coll cu.toNat id (some r.asked)) none)
      else s

/-- R363: data of a stage may be sent. -/
def CollRun.maySend (r : CollRun) (x : CollSend) : Bool :=
  (x.stage != 1 || r.rowWait.isNone) && (x.stage != 2 || !r.steer.getLsbD 7 || (r.colAsked && r.colWait.isNone))

/-- Send the packets that may be sent, in order. -/
def collPackets (cu : BitVec 2) (id : W32) : Nat → State → State
  | 0, s => s
  | k + 1, s =>
    match s.collRun? cu id with
    | none => s
    | some r =>
      match r.sends.find? r.maySend with
      | none => s
      | some x =>
        if r.status = 0 && s.collRoom cu x.dst opColl then
          let s := s.onCollRun cu.toNat id (fun r => { r with sends := r.sends.erase x })
          collPackets cu id k (s.issue (s.collPkt cu r x) (.coll cu.toNat id none) none)
        else s

/-- Issue the stores of results. -/
def collStores (cu : BitVec 2) (id : W32) : Nat → State → State
  | 0, s => s
  | k + 1, s =>
    match s.collRun? cu id with
    | none => s
    | some r =>
      match r.stores with
      | [] => s
      | (a, bs) :: rest =>
        if r.status = 0 && s.collRoom cu (gDev a) opSt then
          let s := s.onCollRun cu.toNat id (fun r => { r with stores := rest })
          collStores cu id k (s.issue ((s.reqPkt (storeOp false bs.length) (collEng cu) (gDev a) a bs.length).withData bs)
            (.coll cu.toNat id none) none)
        else s

/-- R363: all row-stage data has been sent. -/
def CollRun.rowSent (r : CollRun) : Bool :=
  r.axis = 1 || ((List.range r.nblocks).all (fun b => 4 ≤ (r.blk b).st) && r.sends.all (fun x => x.stage != 1))

/-- R363: ask for a set, for 100 µs from now; the time before which data wait, where the request is taken. -/
def State.collSteer (s : State) (cu : BitVec 2) (n : BitVec 3) : Option W64 × State :=
  let t := s.ftime + BitVec.ofNat 64 (usU 100)
  let (ok, s) := s.requestSteer n t (.collective cu.toNat)
  (if ok then some (t + BitVec.ofNat 64 (usU 2)) else none, s)

/-- R363: the column set is asked for once the last row-stage data has been sent. -/
def State.collColumn (s : State) (cu : BitVec 2) (id : W32) : State :=
  match s.collRun? cu id with
  | none => s
  | some r =>
    if r.status = 0 && r.steer.getLsbD 7 && !r.colAsked && r.rowSent then
      let (w, s) := s.collSteer cu (r.steer.extractLsb' 4 3)
      s.onCollRun cu.toNat id (fun r => { r with colAsked := true, colWait := w })
    else s

/-- R358: where the results of a collective go: their bytes, in order, once every block has them. -/
def CollRun.output (r : CollRun) : List Byte :=
  let nb := r.nblocks
  let w := fmtBits r.fmt / 8
  let all := (List.range (if r.op = 3 then r.members.length * nb else nb)).flatMap (fun i => SMap.get [] r.res i)
  match r.op with
  | 0 => if r.rank = r.root then all else []
  | 2 => let n := r.count / r.members.length
         (all.drop (r.rank * n * w)).take (n * w)
  | _ => all

def CollRun.allDone (r : CollRun) : Bool := (List.range r.nblocks).all (fun b => (r.blk b).st = 7)

/-! ### Rounds (R361) -/

/-- R361: 16 MiB of owned working sums. -/
def sumRoom : Nat := 2 ^ 24

/-- R361: blocks that a member may own in one round. -/
def CollRun.ownedMost (r : CollRun) : Nat := sumRoom / (256 * r.dataWidth)

/-- R359, R361: blocks of a round: every member owns one of as many blocks in a row as there are members. -/
def CollRun.roundBlocks (r : CollRun) : Nat := r.members.length * r.ownedMost

/-- R361: bytes of owned working sums that a round of a collective takes at a member; a copy sums nothing. -/
def CollRun.sumBytes (r : CollRun) : Nat :=
  if r.copies then 0 else min r.ownedMost ((r.nblocks + r.members.length - 1) / r.members.length) * (256 * r.dataWidth)

/-- R361: every block of the rounds before that of block `b` is done. -/
def CollRun.roundOpen (r : CollRun) (b : Nat) : Bool :=
  r.copies || (List.range (b / r.roundBlocks * r.roundBlocks)).all (fun i => (r.blk i).st = 7)

/-- R361: the collectives taken before one, and it, keep within the unit's working sums (log entry 104). -/
def CollUnit.fits (u : CollUnit) (r : CollRun) : Bool :=
  r.sumBytes + (u.runs.takeWhile (fun x => x.id != r.id)).foldl (fun n x => n + x.sumBytes) 0 ≤ sumRoom

/-- R361: a block begins once its round is open and the unit has room for its round; one that has begun goes on. -/
def CollUnit.mayStep (u : CollUnit) (r : CollRun) (b : Nat) : Bool :=
  (r.blk b).st != 0 || r.copies || (r.roundOpen b && u.fits r)

/-- R358, R362: with every result here, the stores of them are made; the last 8 bytes are filled up with free bytes. -/
def State.collOutput (s : State) (cu : BitVec 2) (id : W32) : State :=
  match s.collRun? cu id with
  | none => s
  | some r =>
    if r.status != 0 || r.wrote || !r.allDone then s
    else
      let out := r.output
      let (fill, s) := s.drawBytes ((8 - out.length % 8) % 8)
      let ps := chunksOf 512 (out.length / 512 + 2) (out ++ fill)
      s.onCollRun cu.toNat id (fun r => { r with
        wrote := true, stores := ps.zipIdx.map (fun p => ((r.dst + 512 * p.2) % 2 ^ 48, p.1)) })

/-- A collective goes on as far as room, time and data allow. -/
def State.collGo (s : State) (cu : BitVec 2) (id : W32) : State :=
  let s := collPackets cu id 512 (collLoads cu id 512 (s.collWatch cu id))
  let s := collPackets cu id 512 (s.collColumn cu id)
  (collStores cu id 512 (s.collOutput cu id)).collWatch cu id

/-! ### The passes (R359 to R361) -/

/-- What a step of a block does to its collective. -/
def State.collSet (s : State) (cu : BitVec 2) (id : W32) (b : Nat) (f : CollBlk → CollBlk) : State :=
  s.onCollRun cu.toNat id (fun r => { r with blocks := SMap.upd CollBlk.reset r.blocks b f })
def State.collQueue (s : State) (cu : BitVec 2) (id : W32) (xs : List CollSend) : State :=
  s.onCollRun cu.toNat id (fun r => { r with sends := r.sends ++ xs })
def State.collResult (s : State) (cu : BitVec 2) (id : W32) (i : Nat) (bs : List Byte) : State :=
  s.onCollRun cu.toNat id (fun r => { r with res := SMap.set [] r.res i bs })

/-- The own data of a block, once it is loaded. -/
def CollRun.loaded (r : CollRun) (b : Nat) : Option (List Byte) :=
  let lo := 256 * b * fmtBits r.fmt / 8
  let n := r.blockBytes b
  if (List.range (n / 512 + 2)).all (fun i => (lo + n + 511) / 512 ≤ lo / 512 + i || r.pieces.contains (lo / 512 + i))
  then some (Mem.bytes r.buf lo n) else none

/-- R363: the stage of data towards the head, and from a head towards the owner. -/
def CollRun.upStage (r : CollRun) : Nat := if r.axis = 1 then 2 else 1

/-- R359: what goes down: from the owner along its column, and from each head along its row. -/
def CollRun.down (r : CollRun) (own b pass : Nat) (bs : List Byte) : List CollSend :=
  (if r.axis = 2 && r.owner own b = own then collMulti own (r.colOf own b) true pass b 0 bs else []) ++
  (if r.head own b = own then collMulti own (r.rowOf own) (r.axis = 1) pass b 0 bs else [])

/-- The results of a block are here. -/
def State.collHere (s : State) (cu : BitVec 2) (r : CollRun) (b : Nat) (bs : List Byte) : State :=
  (s.collResult cu r.id b bs).collSet cu r.id b (fun x => { x with st := 7, own := [], acc := [] })

/-- R360: pass 2 begins with the agreed exponent: +0 without a finite value, else the own windows go to the head. -/
def State.collPass2 (s : State) (cu : BitVec 2) (r : CollRun) (b : Nat) (e : Option Int) (nf : Bool) : State :=
  let own := s.devid
  let own' := (r.blk b).own
  if r.exact && e.isNone && !nf then s.collHere cu r b (zeros (r.blockBytes b))
  else
    let xs := if r.exact then own'.map (fun x => (xwOf (anchorOf e) (decodeVal r.fmt false x)).toNat) else own'
    let s := s.collSet cu r.id b (fun x => { x with exp := e, nf := nf, acc := xs, own := [], st := if r.head own b = own then 4 else 6 })
    if r.head own b = own then s
    else s.collQueue cu r.id (collSends (r.head own b) 2 b r.upStage none (bytesOf r.dataWidth xs))

/-- The agreed exponent is known here: it goes on down, and pass 2 begins. -/
def State.collAgreed (s : State) (cu : BitVec 2) (r : CollRun) (b : Nat) (e : Option Int) (nf : Bool) : State :=
  (s.collQueue cu r.id (r.down s.devid b 1 (expBytes e nf))).collPass2 cu r b e nf

/-- R359, R360: the sum of a block is complete at its owner: rounded out, sent down and kept. -/
def State.collOwned (s : State) (cu : BitVec 2) (r : CollRun) (b : Nat) (xs : List Nat) : State :=
  let k := anchorOf (r.blk b).exp
  let out := if r.exact then xs.map (fun w => xwOut k r.fmt r.rnd (BitVec.ofNat 64 w)) else xs
  let bs := bytesOf (fmtBits r.fmt / 8) out
  (s.collQueue cu r.id (r.down s.devid b 3 bs)).collHere cu r b bs

/-- Stage 0: the own data of a block are loaded. -/
def State.collStage0 (s : State) (cu : BitVec 2) (r : CollRun) (b : Nat) : State :=
  let own := s.devid
  if !r.contributes then s.collSet cu r.id b (fun x => { x with st := 6 })
  else match r.loaded b with
    | none => s
    | some bs =>
      if r.copies then
        let sends := if r.axis = 2 then (r.members.filter (fun d => d != own)).flatMap (fun d => collSends d 2 b 1 none bs)
                     else collMulti own r.members (r.axis = 1) 2 b r.upStage bs
        let s := s.collQueue cu r.id sends
        if r.op = 1 then s.collHere cu r b bs
        else (s.collResult cu r.id (r.rank * r.nblocks + b) bs).collSet cu r.id b (fun x => { x with st := 6 })
      else
        let xs := elemsOf (fmtBits r.fmt / 8) bs (r.elems b)
        let s := s.collSet cu r.id b (fun x => { x with own := xs })
        let r' := (s.collRun? cu r.id).getD r
        if r.exact then
          let e := collExp r.fmt xs
          let nf := collNf r.fmt xs
          if r.head own b = own then s.collSet cu r.id b (fun x => { x with exp := e, nf := nf, st := 1 })
          else (s.collSet cu r.id b (fun x => { x with st := 3 })).collQueue cu r.id
            (collSends (r.head own b) 1 b 0 none (expBytes e nf))
        else s.collPass2 cu r' b none false

/-- Stages 1 and 2: a head or an owner has every exponent of its group. -/
def State.collStage1 (s : State) (cu : BitVec 2) (r : CollRun) (b : Nat) (group : List Nat) (last : Bool) : State :=
  let own := s.devid
  let x := r.blk b
  match (s.collAt cu).fromAll r.id own (expBytes x.exp x.nf) 1 b 4 group with
  | none => s
  | some cs =>
    let e := cs.foldl (fun m c => maxExp m (pass1Exp c)) none
    let nf := cs.any pass1Nf
    let s := s.collUsed cu r.id 1 b (group.filter (fun d => d != own))
    if last then s.collAgreed cu r b e nf
    else if r.owner own b = own then s.collSet cu r.id b (fun x => { x with exp := e, nf := nf, st := 2 })
    else (s.collSet cu r.id b (fun x => { x with st := 3 })).collQueue cu r.id (collSends (r.owner own b) 1 b 0 none (expBytes e nf))

/-- Stages 4 and 5: a head or an owner has all the data of its group. -/
def State.collStage2 (s : State) (cu : BitVec 2) (r : CollRun) (b : Nat) (group : List Nat) (last : Bool) : State :=
  let own := s.devid
  let w := r.dataWidth
  let n := r.elems b
  match (s.collAt cu).fromAll r.id own (bytesOf w (r.blk b).acc) 2 b (w * n) group with
  | none => s
  | some cs =>
    let xs := r.joinAll (cs.map (fun c => elemsOf w c n))
    let s := s.collUsed cu r.id 2 b (group.filter (fun d => d != own))
    if last then s.collOwned cu r b xs
    else if r.owner own b = own then s.collSet cu r.id b (fun x => { x with acc := xs, st := 5 })
    else (s.collSet cu r.id b (fun x => { x with acc := [], st := 6 })).collQueue cu r.id
      (collSends (r.owner own b) 2 b 2 none (bytesOf w xs))

/-- Where what goes down reaches this device from: its head, or for a head the owner. -/
def CollRun.above (r : CollRun) (own b : Nat) : Nat := if r.head own b = own then r.owner own b else r.head own b

/-- Stage 3: the agreed exponent arrives. -/
def State.collStage3 (s : State) (cu : BitVec 2) (r : CollRun) (b : Nat) : State :=
  let up := r.above s.devid b
  match (s.collAt cu).from' r.id up 1 b 4 with
  | none => s
  | some c => (s.collUsed cu r.id 1 b [up]).collAgreed cu r b (pass1Exp c) (pass1Nf c)

/-- Stage 6: results arrive, or what the others contribute to a copy. -/
def State.collStage6 (s : State) (cu : BitVec 2) (r : CollRun) (b : Nat) : State :=
  let own := s.devid
  let n := r.blockBytes b
  if r.op = 1 then
    let root := r.members.getD r.root own
    match (s.collAt cu).from' r.id root 2 b n with
    | none => s
    | some c => (s.collUsed cu r.id 2 b [root]).collHere cu r b c
  else if r.op = 3 then
    match (s.collAt cu).fromAll r.id own [] 2 b n r.members with
    | none => s
    | some cs =>
      let s := s.collUsed cu r.id 2 b r.members
      let s := cs.zipIdx.foldl (fun s p => if p.2 = r.rank then s else s.collResult cu r.id (p.2 * r.nblocks + b) p.1) s
      s.collSet cu r.id b (fun x => { x with st := 7 })
  else
    let up := r.above own b
    match (s.collAt cu).from' r.id up 3 b n with
    | none => s
    | some c => ((s.collUsed cu r.id 3 b [up]).collQueue cu r.id (r.down own b 3 c)).collHere cu r b c

/-- One step of a block, where it has all that the step needs. -/
def State.collStep (s : State) (cu : BitVec 2) (r : CollRun) (b : Nat) : State :=
  let own := s.devid
  let row := r.rowOf own
  let col := r.colOf own b
  match (r.blk b).st with
  | 0 => s.collStage0 cu r b
  | 1 => s.collStage1 cu r b row (r.axis != 2)
  | 2 => s.collStage1 cu r b col true
  | 3 => s.collStage3 cu r b
  | 4 => s.collStage2 cu r b row (r.axis != 2)
  | 5 => s.collStage2 cu r b col true
  | 6 => s.collStage6 cu r b
  | _ => s

end Sys2Proof.Machine
end

