-- ==== Sys2Proof/Machine/HostMem.lean ====
section
/-! DEFINITION. The host's access to device memory: BAR4 and the host DMA engines (R351 to R355). -/

namespace Sys2Proof.Machine

/-! ### BAR4 (R351, R352) -/

/-- R351, R352: the global address of an access of BAR4 that is applied. -/
def State.bar4At (s : State) (off n : Nat) : Option Nat :=
  let base := s.mem.bar4Base.toNat
  if s.hbm.zeroed && gOff base + off + n ≤ 2 ^ 40 && s.memMapped (base + off) n then some (base + off) else none

/-- An access that BAR4 takes: within its size, over a PCIe link that is up. -/
def State.bar4Takes (s : State) (off n : Nat) : Bool := s.hostReaches && off + n ≤ s.bar4Size

def State.bar4Refused (s : State) : State := s.onMem (fun m => { m with bar4Ur := satInc m.bar4Ur })

/-- BAR4_READ: data, poison as EP, or Unsupported Request; a request is at most 4,096 B (R351, R352). -/
def execBar4Read (off len : Nat) (s : State) : Res :=
  if s.bar4Takes off len = false || 4096 < len then .next s
  else match s.bar4At off len with
    | none => .next (s.bar4Refused.emit .bar4Ur)
    | some a =>
      let (s, r) := s.memRead a len
      .next (s.emit (.bar4Data r.data (r.status = scPoisoned)))

/-- BAR4_WRITE: applied in order, or discarded and counted; in ICEBOUND always discarded (R351, R352). -/
def execBar4Write (off : Nat) (bs : List Byte) (ep : Bool) (s : State) : Res :=
  if s.bar4Takes off bs.length = false then .next s
  else if s.pkg.dev = .icebound then .next s.bar4Refused
  else match s.bar4At off bs.length with
    | none => .next s.bar4Refused
    | some a => .next (s.memWrite a bs ep).1

/-- BAR4_RESIZE: 16 GiB times a power of two, to 1 TiB (R351). -/
def execBar4Resize (log : Nat) (s : State) : Res :=
  if s.hostReaches && log ≤ 6 then .next (s.onMem (fun m => { m with bar4Log := log })) else .next s

/-! ### Host DMA descriptors (R353 to R355) -/

/-- R353, R356: the address of descriptor `j` of a ring. -/
def ringSlot (base j : Nat) : Nat := base + 64 + 64 * (j % 63)

/-- R354: a descriptor as taken. -/
def hdmaRun (num base j : Nat) (b : List Byte) : HdmaRun :=
  let gw := fld b 3 1
  { num := num, base := base, j := j, raw := b, op := fld b 1 1, irq := (fld b 2 1).testBit 0, ordered := (fld b 2 1).testBit 1
    gateway := gw % 64, outerPort := gw.testBit 6, dstDom := BitVec.ofNat 8 (fld b 4 1), host := fld b 8 8, dev := fld b 16 8
    aux := fld b 24 8, len := fld b 32 8, msgCtr := fld b 40 8, compl := fld b 48 8, tag := BitVec.ofNat 32 (fld b 56 4)
    started := false, issued := 0, outstanding := 0, reads := [], status := 0, complete := false, norec := false }

def HdmaRun.outer (r : HdmaRun) : Bool := 3 ≤ r.op && r.op ≤ 5

/-- R354, R355: a non-zero reserved field, or one that the operation does not use. -/
def HdmaRun.reserved (r : HdmaRun) : Bool :=
  let b := r.raw
  fld b 2 1 / 4 != 0 || fld b 5 3 != 0 || fld b 60 4 != 0 || (if r.outer then 128 ≤ fld b 3 1 else fld b 3 2 != 0)

/-- R354: a global address of the fabric, 8-byte aligned; 0 where the operation has none. -/
def addrOk (used : Bool) (a : Nat) : Bool := if used then a % 8 = 0 && a < 2 ^ 48 else a = 0

/-- R354, R355: the length and the addresses of a descriptor. -/
def HdmaRun.shapeOk (r : HdmaRun) : Bool :=
  let most := if r.outer then 512 else 2 ^ 40
  8 ≤ r.len && r.len ≤ most && r.len % 8 = 0 && (if r.op = 2 then r.host = 0 else r.host % 8 = 0) &&
  addrOk (!r.outer) r.dev && addrOk (r.op = 2 || r.outer) r.aux && addrOk (r.op = 5) r.msgCtr && r.compl % 16 = 0

/-- R355 step 2: the status with which a descriptor ends before it sends anything. -/
def State.hdmaCheck (s : State) (r : HdmaRun) : Byte :=
  if 6 ≤ r.op || r.reserved then scDenied
  else if r.outer && (!inShape s.shape r.gateway || r.dstDom = s.fab.domain || 253 < r.dstDom.toNat) then scDenied
  else if !r.shapeOk then scMisaligned
  else if !r.outer && (!inShape s.shape (gDev r.dev) || (r.op = 2 && !inShape s.shape (gDev r.aux))) then scOutOfDomain
  else scOk

/-- R353: the engines run in FLOW and DRIFT alike. -/
def State.hdmaRuns (s : State) : Bool := s.pkg.dev = .flow || s.pkg.dev = .drift

def State.hdmaAt (s : State) (e : BitVec 2) : Hdma := RF.at s.mem.hdma e

/-- R349: the engine has room for one more request. -/
def State.hdmaRoom (s : State) (e : BitVec 2) (dest op : Nat) : Bool :=
  ((s.hdmaAt e).runs.foldl (fun n r => n + r.outstanding) 0) < 512 && s.canIssue (42 + e.toNat) dest op

/-- R319, R331: the packet of an outer request of a descriptor. -/
def State.outerPkt (s : State) (e : BitVec 2) (r : HdmaRun) (op n : Nat) (data : List Byte) : Packet :=
  let p := s.reqPkt op (42 + e.toNat) r.gateway (r.aux % 2 ^ 48) n
  let p := { p with dstDom := r.dstDom, atop := if r.outerPort then 1 else 0 }
  if op = opXget then p
  else { p with len8 := if n ≤ 32 then 3 else p.len8
                ext := padTo 32 (natLE 2 n ++ zeros 6 ++ natLE 8 (if op = opXmsg then r.msgCtr else 0)) }.withData data

/-- R355: issue the next request of a descriptor: `n` bytes at the offset that it has reached. -/
def State.hdmaIssue1 (s : State) (e : BitVec 2) (r : HdmaRun) (n : Nat) : State :=
  let off := r.issued
  let a := (r.dev + off) % 2 ^ 48
  let up := fun (r : HdmaRun) => { r with issued := r.issued + n, outstanding := r.outstanding + 1 }
  if r.op = 1 || r.op = 2 then
    (s.onRun e.toNat r.num up).issue (s.reqPkt opLd (42 + e.toNat) (gDev a) a n) (.hdma e.toNat r.num off) none
  else if r.op = 4 then (s.onRun e.toNat r.num up).issue (s.outerPkt e r opXget n []) (.hdma e.toNat r.num off) none
  else (s.onRun e.toNat r.num (fun r => { up r with reads := NSet.add off r.reads })).emit (.hostRead (r.host + off) n)

/-- R349, R355: issue requests of a descriptor while it is OK and there is room. -/
def hdmaIssue (e : BitVec 2) (num : Nat) : Nat → State → State
  | 0, s => s
  | k + 1, s =>
    match s.run? e.toNat num with
    | none => s
    | some r =>
      let dest := if r.outer then r.gateway else gDev ((r.dev + r.issued) % 2 ^ 48)
      if r.started && !r.norec && r.status = 0 && r.issued < r.len && s.hdmaRoom e dest (if r.op = 4 then opXget else opLd) then
        hdmaIssue e num k (s.hdmaIssue1 e r (min 512 (r.len - r.issued)))
      else s

/-- R353: take posted descriptors in ring order, up to 8 running at once. -/
def hdmaTake (e : BitVec 2) : Nat → State → State
  | 0, s => s
  | k + 1, s =>
    let h := s.hdmaAt e
    let a := ringSlot h.ringBase h.take
    if (h.runs.filter (fun r => !r.complete)).length < 8 && h.take < s.peek h.ringBase 8 && s.peek a 1 = 1 then
      let b := natLE 64 (s.peek a 64)
      hdmaTake e k (s.onHdma e.toNat (fun h => { h with
        take := h.take + 1, nextNum := h.nextNum + 1, runs := h.runs ++ [hdmaRun h.nextNum h.ringBase h.take b] }))
    else s

/-- R355: an interrupt that waited for the end of its 1 µs. -/
def State.hdmaIrqDue (s : State) (e : BitVec 2) : State :=
  let h := s.hdmaAt e
  let now := s.now
  if h.irqDue && h.irqAt.all (fun t => usU 1 ≤ s.since t) then
    (s.onHdma e.toNat (fun h => { h with irqDue := false, irqAt := some now })).emit (.msix (3 + e.toNat))
  else s

/-- R355: vector 3 + e, at most once per 1 µs: one that comes sooner is raised at a later poll. -/
def State.hdmaIrq (s : State) (e : BitVec 2) : State := (s.onHdma e.toNat (fun h => { h with irqDue := true })).hdmaIrqDue e

/-- R364: HDMA_RING_BASE takes effect at the next poll; the descriptors of a new ring are numbered from its TAIL. -/
def State.hdmaLand (s : State) (e : BitVec 2) : State :=
  let k := dk 0x3200 (0x10 + e.toNat)
  if (s.staged k).isNone then s
  else
    let s := s.land k
    let tail := s.peek ((s.hdmaAt e).ringBase + 8) 8
    s.onHdma e.toNat (fun h => { h with take := tail })

/-- HDMA_POLL: an engine polls its ring, takes what is posted, and goes on with what runs (R353, R355). -/
def execHdmaPoll (eng : BitVec 2) (s : State) : Res :=
  if !s.hdmaRuns then .next s
  else
    let s := (s.hdmaLand eng).hdmaIrqDue eng
    let s := if (s.hdmaAt eng).ringBase = 0 || (s.hdmaAt eng).stopped then s else hdmaTake eng 8 s
    .next (((s.hdmaAt eng).runs.map (·.num)).foldl (fun s n => hdmaIssue eng n 512 s) s)

/-- R355 step 1: every earlier descriptor of the ring has completed. -/
def Hdma.first (h : Hdma) (num : Nat) : Bool := h.runs.all (fun r => r.complete || r.norec || num ≤ r.num)

/-- HDMA_DESCRIPTOR_START: a descriptor that may start is checked, and its requests are issued (R354, R355). -/
def execHdmaDescriptorStart (eng : BitVec 2) (num : Nat) (s : State) : Res :=
  match s.run? eng.toNat num with
  | none => .next s
  | some r =>
    if !s.hdmaRuns || r.started || (r.ordered && !(s.hdmaAt eng).first num) then .next s
    else
      let st := s.hdmaCheck r
      .next (hdmaIssue eng num 512 (s.onRun eng.toNat num (fun r => { r with started := true, status := st })))

/-- What a descriptor does with data that its read of host memory has brought. -/
def State.hdmaData (s : State) (e : BitVec 2) (r : HdmaRun) (off : Nat) (bs : List Byte) : State :=
  if r.status != 0 || r.norec then s.onRun e.toNat r.num (fun r => r.ended 0)
  else if r.op = 0 then
    let a := (r.dev + off) % 2 ^ 48
    s.issue ((s.reqPkt (storeOp false bs.length) (42 + e.toNat) (gDev a) a bs.length).withData bs) (.hdma e.toNat r.num off) none
  else
    s.issue (s.outerPkt e r (if r.op = 5 then opXmsg else opXput) bs.length bs) (.hdma e.toNat r.num off) none

/-- HDMA_HOST_READ_COMPLETION: a read of host memory brings its data, which is stored or sent on, or an error or poison, which
ends the descriptor POISONED (R355). -/
def execHdmaHostReadCompletion (eng : BitVec 2) (num off : Nat) (res : HostRead) (s : State) : Res :=
  match s.run? eng.toNat num with
  | none => .next s
  | some r =>
    if !r.reads.contains off then .next s
    else
      let got := s.onRun eng.toNat num (fun r => { r with reads := NSet.del off r.reads })
      match res with
      | .data bs =>
        if bs.length != min 512 (r.len - off) then .next s
        else .next (hdmaIssue eng num 512 (got.hdmaData eng r off bs))
      | _ => .next (got.onRun eng.toNat num (fun r => r.ended scPoisoned))

/-- R355 step 6: byte 0 of a descriptor becomes 0. -/
def State.ringClear (s : State) (base j : Nat) : State := s.poke (ringSlot base j) 1 0

/-- R355 step 6: TAIL of a ring. -/
def State.ringTail (s : State) (base tail : Nat) : State := s.poke (base + 8) 8 tail

/-- R355 step 6: TAIL passes the descriptors that have completed with every earlier one. Those of a ring that an FLR has dropped
move no TAIL and hold none up. -/
def State.hdmaTails (s : State) (e : BitVec 2) : State :=
  let old := (s.hdmaAt e).runs.filter (fun r => r.norec)
  let runs := (s.hdmaAt e).runs.filter (fun r => !r.norec)
  let s := (runs.takeWhile (fun r => r.complete)).foldl (fun s r => s.ringTail r.base (r.j + 1)) s
  s.onHdma e.toNat (fun h => { h with runs := old ++ runs.dropWhile (fun r => r.complete) })

/-- R355 step 5: the completion record. -/
def State.hdmaRecord (s : State) (r : HdmaRun) : State :=
  if r.compl = 0 || r.compl % 16 != 0 then s
  else s.emit (.hostWrite r.compl (natLE 4 r.tag.toNat ++ [r.status] ++ zeros 3 ++ natLE 8 s.ftime.toNat) false)

/-- R355: the descriptor's requests have all completed, and none is to be issued. -/
def HdmaRun.past (r : HdmaRun) : Bool := r.started && !r.complete && r.outstanding = 0 && (r.len ≤ r.issued || r.status != 0)

/-- R364: a completion is counted. -/
def State.hdmaCount (s : State) (ok : Bool) : State :=
  s.onMem (fun m => if ok then { m with hdmaDone := satInc m.hdmaDone } else { m with hdmaFailed := satInc m.hdmaFailed })

/-- HDMA_DESCRIPTOR_COMPLETE: the last request has completed: the record, byte 0, TAIL, the interrupt and the count (R355). -/
def execHdmaDescriptorComplete (eng : BitVec 2) (num : Nat) (s : State) : Res :=
  match s.run? eng.toNat num with
  | none => .next s
  | some r =>
    if !r.past then .next s
    else if r.norec then .next (s.onHdma eng.toNat (fun h => { h with runs := h.runs.filter (fun x => x.num != num) }))
    else
      let s := ((s.hdmaRecord r).ringClear r.base r.j).onHdma eng.toNat (fun h => { h with last := r.status })
      let s := ((s.onRun eng.toNat num (fun r => { r with complete := true })).hdmaTails eng).hdmaCount (r.status = 0)
      .next (if r.irq then s.hdmaIrq eng else s)

end Sys2Proof.Machine
end

