-- ==== Sys2Proof/Machine/TileMem.lean ====
section
/-! DEFINITION. The memory operations of the stream slot and the run-ahead unit (R61, R62, R68 to R72, R162, R333). -/

namespace Sys2Proof.Machine

/-! ### Segments (R162) -/

/-- The rights of R162. -/
inductive Right where | rd | w | at' | f
deriving DecidableEq, Repr

def Seg.has (g : Seg) : Right → Bool
  | .rd => g.rd | .w => g.w | .at' => g.at' | .f => g.f

/-- R162: an access passes its segment check. -/
def Seg.ok (g : Seg) (r : Right) (off n : Nat) : Bool :=
  g.v && off + n ≤ (g.limit.toNat + 1) * 4096 && g.has r

/-! ### The memory queue (R61, R62) -/

/-- Bytes an operation moves, and the alignment it asks for. -/
def memShape (kind : MemKind) (count : BitVec 6) : Nat × Nat :=
  match kind with
  | .frd => (256 * strCount count, 256) | .fwr => (256 * strCount count, 256)
  | .ffl => (256 * strCount count, 256) | .fiv => (256 * strCount count, 256)
  | .gat => let n := if count = 0 then 4 else if count = 1 then 8 else 16
            (n, n)
  | _ => (8 * strCount count, 8)

/-- The operation uses the tile SRAM. -/
def MemKind.usesSram : MemKind → Bool
  | .ffl => false | .fiv => false | _ => true

def MemKind.right : MemKind → Right
  | .frd => .rd | .gld => .rd | .gat => .at' | .gstf => .f | _ => .w

/-- R61: POSTINC of both registers; FFL and FIV move nothing through the SRAM, so only S steps (log entry 25). -/
def Tile.memPost (t : Tile) (x : StrSlot) (kind : MemKind) (n : Nat) : Tile :=
  if x.postinc then
    let t := t.postIncS x.sreg n
    if kind.usesSram then t.postIncA x.areg n else t
  else t

/-- R61, R62: a memory operation issues on a running tile: reserved fields, size and alignment first, then a place in
the queue of 16, then the segment check, which completes it with ACCESS_DENIED where it fails. -/
def memIssue (kind : MemKind) (n : Nat) (x : StrSlot) (s : State) : Res :=
  s.withTile n (fun t =>
    let (bytes, align) := memShape kind x.count
    let a := (RF.at t.a x.areg).toNat
    let r := RF.at t.s x.sreg
    let off := r.toNat % 2 ^ 40
    let atomBad := 2 < x.count.toNat || (atomSize x.atop.toNat (if bytes = 4 then 0 else if bytes = 8 then 1 else 3)).isNone
    if strReserved x false true (kind = .gat) = false then s.tileFault n faultIllegalOp
    else if kind = .gat && atomBad then s.tileFault n faultIllegalOp
    else if off % align != 0 || (kind.usesSram && a % align != 0) then s.tileFault n faultMisaligned
    else if 16 ≤ t.memQ.length then s
    else
      let u := t.memPost x kind bytes
      let p := s.tileProg n
      let seg := match p with | some p => RF.at p.segs (r.extractLsb' 60 4) | none => Seg.none
      let chOk := kind != .gstf || (p.bind (·.privCh)).isSome
      if seg.ok kind.right off bytes && chOk then
        s.setTile n { u with
          memQ := u.memQ ++ [{ id := u.nextOp, kind := kind, addr := RF.at t.a x.areg, ga := (seg.base.toNat + off) % 2 ^ 48,
                               fc := seg.fc, bytes := bytes, cc := x.cc, atop := x.atop, sent := 0, done := 0, code := 0 }]
          nextOp := u.nextOp + 1 }
      else s.setTile n (u.finish (.cc x.cc) scDenied))

/-- FRD: read COUNT Firn lines into SRAM (R61). -/
def execFrd (n : Nat) (x : StrSlot) (s : State) : Res := memIssue .frd n x s
/-- FWR: write COUNT Firn lines from SRAM (R61). -/
def execFwr (n : Nat) (x : StrSlot) (s : State) : Res := memIssue .fwr n x s
/-- GLD: load COUNT × 8 B from a global address (R61). -/
def execGld (n : Nat) (x : StrSlot) (s : State) : Res := memIssue .gld n x s
/-- GST: store COUNT × 8 B to a global address (R61). -/
def execGst (n : Nat) (x : StrSlot) (s : State) : Res := memIssue .gst n x s
/-- GAT: an atomic on 4, 8 or 16 B (R61, R333). -/
def execGat (n : Nat) (x : StrSlot) (s : State) : Res := memIssue .gat n x s
/-- GSTF: a flagged store on the program's privileged channel (R61, R162). -/
def execGstf (n : Nat) (x : StrSlot) (s : State) : Res := memIssue .gstf n x s
/-- FFL: flush COUNT Firn lines (R61, R198). -/
def execFfl (n : Nat) (x : StrSlot) (s : State) : Res := memIssue .ffl n x s
/-- FIV: invalidate COUNT Firn lines (R61, R198). -/
def execFiv (n : Nat) (x : StrSlot) (s : State) : Res := memIssue .fiv n x s

/-! ### The run-ahead unit (R68 to R72) -/

/-- R69: reach the blocks expected after the one that runs, up to the depth in force. -/
def reachMore (table blocks : Nat) : Nat → Tile → Tile
  | 0, t => t
  | k + 1, t =>
    if t.ra.depth ≤ t.ra.reached.length then t
    else match (match t.ra.reached.getLast? with | some b => some b | none => t.ra.block) with
      | none => t
      | some b =>
        let next := (t.blockEntry table b).2.2
        if next < blocks && !t.bad (table + 8 * b) 8 && t.listReadable table next then
          reachMore table blocks k (t.reach table next)
        else t

/-- R68: the entry's LENGTH and address are as R68 and R331 want them. No rule says what an entry of another shape does: the model
completes it MISALIGNED once its block runs, and ignores the reserved bits (log entry 148). -/
def RaEntry.shapeOk (e : RaEntry) : Bool := 8 ≤ e.len && e.len ≤ 4096 && e.len % 8 == 0 && e.off.toNat % 8 == 0

/-- R69, R70: the part of an entry that can be requested now: offset and length; requests that a Firn serves by line are cut at lines
(`lines`). -/
def RaEntry.part (e : RaEntry) (g : Seg) (current lines : Bool) : Option (Nat × Nat) :=
  let early := g.pf && gRegion (g.base.toNat + e.off.toNat) != 2
  match (if current then e.redo.head? else none) with
  | some p => some p
  | none =>
    if e.sent < e.len && (current || early) then
      let a := g.base.toNat + e.off.toNat + e.sent
      let rest := e.len - e.sent
      some (e.sent, if lines then min rest (256 - a % 256) else min rest 512)
    else none

/-- Drop an entry that is complete and leave it to be counted on its window (R49, R69). -/
def Tile.raDone (t : Tile) (e : RaEntry) (code : Byte) : Tile :=
  { t with ra := { t.ra with entries := t.ra.entries.filter (fun x => x.id != e.id) } }.finish (.window e.block) code

/-- RUNAHEAD_ISSUE: the next eligible list entry of the block that runs or of the expected blocks is requested, in
block and list order (R69, R70). -/
def execRunaheadIssue (n : Nat) (s : State) : Res :=
  let t := s.tile n
  match s.tileProg n with
  | none => .next s
  | some p =>
    if t.st != .running || 32 ≤ t.ra.out.length then .next s
    else
      let was := t.ra.reached.length
      let t := reachMore p.img.blockTable p.img.blockCount 4 t
      let s := (t.ra.reached.drop was).foldl (fun s b => s.listCe n t p.img.blockTable b) s
      let seg := fun (e : RaEntry) => RF.at p.segs e.seg
      let cur := fun (e : RaEntry) => t.ra.block == some e.block
      let pick := t.ra.entries.findSome? (fun e =>
        if e.shapeOk = false then (if cur e then some (e, none) else none)
        else if (seg e).ok .rd e.off.toNat e.len = false then (if cur e then some (e, none) else none)
        else (e.part (seg e) (cur e) ((seg e).fc || s.portScratch n ((seg e).base.toNat + e.off.toNat + e.sent))).map (fun q => (e, some q)))
      match pick with
      | none => .next (s.setTile n t)
      | some (e, none) => .next (s.setTile n (t.raDone e (if e.shapeOk then scDenied else scMisaligned)))
      | some (e, some (off, len)) =>
        let redo := cur e && e.redo.head? == some (off, len)
        let e' := if redo then { e with redo := e.redo.tail } else { e with sent := e.sent + len }
        let q : RaReq := { id := t.ra.nextId, epoch := t.ra.epoch, entry := e.id, off := off, len := len,
                           ga := ((seg e).base.toNat + e.off.toNat + off) % 2 ^ 48, fc := (seg e).fc, early := !(cur e),
                           sent := false, rsp := none }
        .next (s.setTile n { t with ra := { t.ra with
          entries := t.ra.entries.map (fun x => if x.id = e.id then e' else x), out := t.ra.out ++ [q],
          nextId := t.ra.nextId + 1 } })

/-- R329, R70: an early load of another device's window without PF is issued again when its block runs. -/
def State.wantsRedo (s : State) (q : RaReq) (r : RaRsp) : Bool :=
  r.code = scDenied && q.early && gDev q.ga != s.devid

/-- RUNAHEAD_REPLY: a reply of the present epoch is written to its window; one of another epoch is dropped (R72). -/
def execRunaheadReply (n id : Nat) (s : State) : Res :=
  let t := s.tile n
  match t.ra.out.find? (fun q => q.id == id) with
  | none => .next s
  | some q =>
    match q.rsp with
    | none => .next s
    | some r =>
      let t := { t with ra := { t.ra with out := t.ra.out.filter (fun x => x.id != id) } }
      match (if q.epoch = t.ra.epoch then t.ra.entries.find? (fun e => e.id == q.entry) else none) with
      | none => .next (s.setTile n t)
      | some e =>
        if s.wantsRedo q r then
          .next (s.setTile n { t with ra := { t.ra with entries := t.ra.entries.map (fun x =>
            if x.id = e.id then { x with redo := x.redo ++ [(q.off, q.len)] } else x) } })
        else
          let t := if r.code = scOk || r.code = scPoisoned then t.land (e.dst + q.off) q.ga r.data r.poison else t
          let e' := { e with done := e.done + q.len, code := if e.code = 0 then r.code else e.code }
          if e.len ≤ e'.done then .next (s.setTile n (t.raDone e e'.code))
          else .next (s.setTile n { t with ra := { t.ra with
            entries := t.ra.entries.map (fun x => if x.id = e.id then e' else x) } })

end Sys2Proof.Machine
end

