-- ==== Sys2Proof/Machine/Coll.lean ====
section
/-! DEFINITION. The commands of the collective units (R356 to R363). -/

namespace Sys2Proof.Machine

/-! ### Packets -/

/-- R362: a contribution is kept; one that differs from the local descriptor, or is poisoned, fails the collective. -/
def State.collTakeIn (s : State) (cu : BitVec 2) (c : Contrib) : State :=
  let s := s.onColl cu.toNat (fun u => { u with held := u.held ++ [c] })
  match s.collRun? cu c.id with
  | none => s
  | some r =>
    if !r.agrees c then s.collFail cu c.id scDenied
    else if c.poison then s.collFail cu c.id scPoisoned
    else s

/-- R362: a contribution of a peer in its turn, a duplicate or an early one. -/
def State.peerColl (s : State) (q : BitVec 4) (p : Packet) : State :=
  match s.turnOf p with
  | .early => s.seqDrop
  | .duplicate => s.answer' q (s.replyTo p opAck (match s.cached p .store with | some e => e.status | none => scOk))
  | .now =>
    if 32 ≤ p.srcEng.toNat && p.srcEng.toNat < 36 then
      ((s.collTakeIn (BitVec.ofNat 2 (p.srcEng.toNat - 32)) (contribOf s p)).expUp p).answer' q (s.replyTo p opAck scOk)
    else ((s.cachePut (s.cacheEnt p .store scDenied [])).expUp p).answer' q (s.replyTo p opAck scDenied)

/-- COLL: a contribution is sequenced and kept for its collective; a unit sends none to its own device (R362). -/
def execColl (req : ReqFrom) (s : State) : Res :=
  match req with
  | .own _ => .next s
  | .port q ch =>
    match s.takeReq q ch opColl with
    | (none, s) => .next s
    | (some p, s) => .next (s.peerColl q p)

/-- R362: the status that an ABORT carries ends the collective that it names. -/
def State.collAborted (s : State) (cu : BitVec 2) (id : W32) (st : Byte) : State :=
  s.onCollRun cu.toNat id (fun r => { (r.fails (if st = 0 then scDenied else st)) with aborted := true, sends := [], stores := [] })

/-- COLL_CTL: an ABORT of a member (R362). -/
def execCollCtl (req : ReqFrom) (s : State) : Res :=
  match req with
  | .own _ => .next s
  | .port q ch =>
    match s.takeReq q ch opCollCtl with
    | (none, s) => .next s
    | (some p, s) =>
      if p.srcEng.toNat < 32 || 36 ≤ p.srcEng.toNat then .next s
      else .next (s.collAborted (BitVec.ofNat 2 (p.srcEng.toNat - 32)) (BitVec.ofNat 32 (Config.collAbortId p.ext))
        (BitVec.ofNat 8 (Config.collAbortStatus p.ext)))

/-! ### Taking descriptors (R356 to R358) -/

/-- R365: COLL_RING_BASE takes effect at the next poll; the descriptors of a new ring are numbered from its TAIL. -/
def State.collLand (s : State) (cu : BitVec 2) : State :=
  let k := dk 0x3300 (1 + cu.toNat)
  if (s.staged k).isNone then s
  else
    let s := s.land k
    let tail := s.peek ((s.collAt cu).ringBase + 8) 8
    s.onColl cu.toNat (fun u => { u with take := tail })

/-- R524: the units act in FLOW and DRIFT. -/
def State.collRuns (s : State) : Bool := s.pkg.dev = .flow || s.pkg.dev = .drift

/-- COLL_POLL: a unit polls its ring, and goes on with the collectives that it has (R356). -/
def execCollPoll (cu : BitVec 2) (s : State) : Res :=
  if !s.collRuns then .next s
  else
    let s := s.collLand cu
    .next (((s.collAt cu).runs.map (·.id)).foldl (fun s id => s.collGo cu id) s)

/-- R357: a segment and an offset within it. -/
def segRef (p : Option Prog) (b : List Byte) (off : Nat) : Seg × Nat :=
  let v := fld b off 8
  (match p with | some p => RF.at p.segs (BitVec.ofNat 4 (v / 2 ^ 60)) | none => Seg.none, v % 2 ^ 40)

/-- The global address that a checked reference names. -/
def segAddr (x : Seg × Nat) : Nat := (x.1.base.toNat + x.2) % 2 ^ 48

/-- R357: a descriptor as taken, and the segments that it names. -/
def State.collParse (s : State) (b : List Byte) : CollRun × Option Prog :=
  let prog := (s.prog? (BitVec.ofNat 32 (fld b 20 4))).filter Prog.hasStarted
  let mask := BitVec.ofNat 64 (fld b 8 8)
  let axis := fld b 4 1
  let ms := collMembers s.shape s.devid axis mask
  ({ id := BitVec.ofNat 32 (fld b 16 4), op := fld b 1 1, fmt := fld b 2 1, red := fld b 3 1 % 16, rnd := fld b 3 1 / 16, axis := axis
     root := fld b 5 1, steer := BitVec.ofNat 8 (fld b 6 1), mask := mask, src := segAddr (segRef prog b 24)
     dst := segAddr (segRef prog b 32), compl := segAddr (segRef prog b 40), count := fld b 48 4, members := ms
     rank := (ms.filter (fun d => d < s.devid)).length, asked := 0, buf := [], pieces := [], blocks := [], res := [], sends := []
     stores := [], wrote := false, rowWait := none, colWait := none, colAsked := false, status := 0, aborted := false
     taken := s.now, timeout := s.mem.collTimeout.toNat }, prog)

/-- R358: the combinations of operation, reduction, format and count that a unit takes. -/
def CollRun.allowed (r : CollRun) : Bool :=
  let n := r.members.length
  if r.copies then r.fmt != 14 && r.count * fmtBits r.fmt % 64 = 0
  else
    (if r.red = 0 then r.exact || r.fmt = 0 || r.fmt = 11 else r.fmt = 1 || r.fmt = 0 || r.fmt = 11) &&
    (r.op != 2 || (r.count % n = 0 && (!r.exact || r.count / n % 256 = 0)))

/-- R358: bytes that this member's results take at DST. -/
def CollRun.outBytes (r : CollRun) : Nat :=
  match r.op with
  | 0 => if r.rank = r.root then r.bytes else 0
  | 2 => r.bytes / r.members.length
  | 3 => r.bytes * r.members.length
  | _ => r.bytes

/-- R358: a descriptor that a unit takes. -/
def State.collOk (s : State) (b : List Byte) (r : CollRun) (p : Option Prog) : Bool :=
  p.isSome && r.op < 5 && r.axis < 3 && r.red < 3 && r.rnd < 4 && r.root < r.members.length && fld b 7 1 = 0 && fld b 52 12 = 0 &&
  collMaskOk s.shape r.axis r.mask && r.members.contains s.devid && (r.axis != 2 || collProduct r.members) &&
  r.fmt < 15 && r.allowed &&
  (!r.contributes || (let x := segRef p b 24; x.1.ok .rd x.2 r.bytes)) &&
  (r.outBytes = 0 || (let x := segRef p b 32; x.1.ok .w x.2 r.outBytes)) &&
  (let x := segRef p b 40; x.1.ok .f x.2 16)

/-- R362: the completion record, by a flagged store on channel 1. -/
def State.collRecord (s : State) (cu : BitVec 2) (id : W32) (a : Nat) (st : Byte) : State :=
  let rcd := natLE 4 id.toNat ++ [st] ++ zeros 3 ++ natLE 8 s.ftime.toNat
  s.issueFlagged 1 ((s.reqPkt opStfS (collEng cu) (gDev a) a 16).withData rcd) (.collRecord cu.toNat id) none

/-- R365, R366: a completion is counted, and its status shown. -/
def State.collCount (s : State) (cu : BitVec 2) (st : Byte) : State :=
  (s.onMem (fun m => if st = 0 then { m with collDone := satInc m.collDone } else { m with collFailed := satInc m.collFailed })).onColl
    cu.toNat (fun u => { u with last := st })

/-- R363: with STEER bit 3, the row set is asked for as the descriptor is taken. -/
def State.collRow (s : State) (cu : BitVec 2) (r : CollRun) : State :=
  if r.steer.getLsbD 3 then
    let (w, s) := s.collSteer cu (r.steer.extractLsb' 0 3)
    s.onCollRun cu.toNat r.id (fun r => { r with rowWait := w })
  else s

/-- R362: what was held for a COLL_ID must agree with its descriptor. -/
def State.collHeld (s : State) (cu : BitVec 2) (r : CollRun) : State :=
  let mine := (s.collAt cu).held.filter (fun c => c.id = r.id)
  if mine.any (fun c => !r.agrees c) then s.collFail cu r.id scDenied
  else if mine.any (fun c => c.poison) then s.collFail cu r.id scPoisoned
  else s

/-- COLL_DESCRIPTOR_TAKE: the next posted descriptor is taken off the ring; it is started, or completes ACCESS_DENIED (R356 to
R358). At most 64 are active, and one with the COLL_ID of an active one waits (log entry 61). -/
def execCollDescriptorTake (cu : BitVec 2) (s : State) : Res :=
  let u := s.collAt cu
  let b := natLE 64 (s.peek (ringSlot u.ringBase u.take) 64)
  let (r, p) := s.collParse b
  if !s.collRuns || u.ringBase = 0 || fld b 0 1 != 1 || 64 ≤ u.runs.length || u.runs.any (fun x => x.id = r.id) then .next s
  else
    let s := ((s.ringClear u.ringBase u.take).ringTail u.ringBase (u.take + 1)).onColl cu.toNat (fun u => { u with take := u.take + 1 })
    if s.collOk b r p then
      let s := (s.onColl cu.toNat (fun u => { u with runs := u.runs ++ [r] })).collHeld cu r
      .next ((s.collRow cu r).collGo cu r.id)
    else
      let s := s.collCount cu scDenied
      let x := segRef p b 40
      .next (if x.1.ok .f x.2 16 then s.collRecord cu r.id (segAddr x) scDenied else s)

/-! ### Running and completing (R359 to R363) -/

/-- COLL_STAGE_COMPLETE: a pass or stage of a block that has all it needs moves on (R359 to R361). -/
def execCollStageComplete (cu : BitVec 2) (id : W32) (block : Nat) (s : State) : Res :=
  match s.collRun? cu id with
  | none => .next s
  | some r =>
    if !s.collRuns || r.status != 0 || r.nblocks ≤ block || !(s.collAt cu).mayStep r block then .next s
    else .next ((s.collStep cu r block).collGo cu id)

/-- COLL_STEER_WAIT_END: fabric time has passed the steer time and 2 µs: row-stage or column-stage data may be sent (R363). -/
def execCollSteerWaitEnd (cu : BitVec 2) (id : W32) (s : State) : Res :=
  match s.collRun? cu id with
  | none => .next s
  | some r =>
    let past := fun (w : Option W64) => w.filter (fun t => serBefore s.ftime t)
    if !s.collRuns || (r.rowWait = past r.rowWait && r.colWait = past r.colWait) then .next s
    else
      let s := s.onCollRun cu.toNat id (fun r => { r with rowWait := past r.rowWait, colWait := past r.colWait })
      .next (s.collGo cu id)

/-- COLL_TIMEOUT: a contribution has not arrived within the COLL_TIMEOUT that held when the descriptor was taken: the collective
fails PEER_TIMEOUT (R362, R365). -/
def execCollTimeout (cu : BitVec 2) (id : W32) (s : State) : Res :=
  match s.collRun? cu id with
  | none => .next s
  | some r =>
    if r.status != 0 || r.allDone || s.since r.taken < msU r.timeout then .next s else .next (s.collFail cu id scTimeout)

/-- Requests of a collective are outstanding. -/
def State.collBusy (s : State) (cu : BitVec 2) (id : W32) : Bool :=
  s.mem.reqs.any (fun r => match r.owner with | .coll c i _ => c = cu.toNat && i = id | _ => false)

/-- R362: after a status other than OK, DST holds undefined contents: free bytes, where it lies in this device's memory. -/
def State.collUndefined (s : State) (r : CollRun) : State :=
  let n := (r.outBytes + 7) / 8 * 8
  if r.status = 0 || n = 0 || !s.memMapped r.dst n then s
  else
    let (bs, s) := s.drawBytes n
    (s.memWrite r.dst bs false).1

/-- R363: set 0 is asked for when a collective that steered completes. -/
def State.collUnsteer (s : State) (cu : BitVec 2) (r : CollRun) : State :=
  if r.steer.getLsbD 3 || r.steer.getLsbD 7 then (s.collSteer cu 0).2 else s

/-- A collective has nothing more to do. -/
def CollRun.past (r : CollRun) : Bool := r.status != 0 || (r.wrote && r.stores.isEmpty && r.sends.isEmpty)

/-- COLL_COMPLETE: with its results written, or its failure known, a collective writes its record and ends (R362, R363). -/
def execCollComplete (cu : BitVec 2) (id : W32) (s : State) : Res :=
  let s := s.collWatch cu id
  match s.collRun? cu id with
  | none => .next s
  | some r =>
    if !s.collRuns || !r.past || s.collBusy cu id then .next s
    else
      let s := (s.collUndefined r).onColl cu.toNat (fun u => { u with
        runs := u.runs.filter (fun x => x.id != id), held := u.held.filter (fun c => c.id != id) })
      .next (((s.collCount cu r.status).collRecord cu id r.compl r.status).collUnsteer cu r)

/-- COLL_HOLD_EXPIRE: contributions for an unknown COLL_ID are held no longer than COLL_TIMEOUT (R362). -/
def execCollHoldExpire (cu : BitVec 2) (s : State) : Res :=
  let u := s.collAt cu
  let known := fun (c : Contrib) => u.runs.any (fun r => r.id = c.id)
  let old := fun (c : Contrib) => msU s.mem.collTimeout.toNat ≤ s.since c.arrived
  .next (s.onColl cu.toNat (fun u => { u with held := u.held.filter (fun c => known c || !old c) }))

end Sys2Proof.Machine
end

