-- ==== Sys2Proof/Machine/Prog.lean ====
section
/-! DEFINITION. Programs: submission, start, preemption, phases and the end (R151 to R185, R620). -/

namespace Sys2Proof.Machine

/-! ### Host messages (R163, R165, R168) -/

/-- The program that an accepted SUBMIT makes. -/
def State.newProg (s : State) (m : List Byte) (i : ImageInfo) : Prog :=
  let dflt := match SMap.get none s.dict.vals (0x5020 * 256 + 1) with
    | some v => leNat v
    | none => 10
  let q := if fld m 21 1 = 0 then dflt else fld m 21 1
  { tag := BitVec.ofNat 32 (fld m 16 4), prio := fld m 20 1, quantum := q, quantumLeft := q,
    notifyTrap := (fld m 22 2).testBit 0, imageAddr := fld m 24 8, ctxAddr := fld m 32 8,
    startFtime := BitVec.ofNat 64 (fld m 40 8), jobMembers := BitVec.ofNat 64 (fld m 48 8),
    jobId := BitVec.ofNat 32 (fld m 56 4), ctxUnits := fld m 60 4,
    segs := Vector.ofFn (fun k : Fin (2 ^ 4) => segOf (m.drop (64 + 12 * k.val))), img := i, st := .queued, slot := none,
    since := s.now, preemptOk := true, reserved := false, phase := 0, phaseDone := 0
    phaseAt := 0, phaseK := RF.all 2 (0, 0), doneAt := RF.all 2 0, reports := [], preempting := false,
    sliceT := none, attempts := 0, atBarrierSaved := false, govHold := false, driftHold := false, haltedTiles := [],
    resuming := false, raDepths := RF.all 2 0, savedScratch := [], preemptions := 0, startTime := 0, endTime := 0,
    trapSent := false, scratch := [], privCh := none, ending := none, cleared := false }

/-- SUBMIT: N0 checks the message in the order of the status table, then queues the program or refuses it (R165). -/
def execSubmit (s : State) : Res :=
  s.onTaken 0x0101 (fun m s =>
    let tag := BitVec.ofNat 32 (fld m 16 4)
    match s.judge m with
    | (.refuse st d, s) => s.d2h 0x0102 (progReply tag st 0xFF 0 d 0 0 0 0)
    | (.accept i, s) =>
      let p := s.newProg m i
      (s.onSched (fun x => { x with progs := x.progs ++ [p] })).d2h 0x0102 (progReply tag 0 0xFF 0 0 0 0 0 0))

/-- ABORT: a queued program is removed, a started one is aborted; otherwise NOT_FOUND (R168). -/
def execAbort (s : State) : Res :=
  s.onTaken 0x0104 (fun m s =>
    let tag := BitVec.ofNat 32 (fld m 16 4)
    let reply := fun (s : State) (st slot : Nat) => s.d2h 0x0105 (progReply tag st slot 0 0 0 0 0 0)
    match s.prog? tag with
    | none => reply s 0x0B 0xFF
    | some p =>
      if p.st = .queued then
        let t := s.ftime
        let s := reply s 0 0xFF
        s.completeProg { p with endTime := t } stAbortedHost 0 0
      else if p.st = .running && s.allHalted p then reply s 0x0B 0xFF
      else (reply s 0 (slotByte p.slot)).abortProg tag stAbortedHost 0)

/-! ### Start (R155, R160, R174, R178) -/

/-- R155: the records of a DATA section, each an address and its bytes; none where one breaks the rule. -/
def dataRecords (lo hi : Nat) : Nat → List Byte → Option (List (Nat × List Byte))
  | 0, bs => if bs.isEmpty then some [] else none
  | fuel + 1, bs =>
    if bs.isEmpty then some []
    else
      let a := fld bs 0 4
      let n := fld bs 4 4
      if bs.length < 8 + n || a % 16 != 0 || n % 16 != 0 || n < 16 || 2 ^ 20 < n || a < lo || hi < a + n then none
      else (dataRecords lo hi fuel (bs.drop (8 + n))).map (fun l => (a, (bs.drop 8).take n) :: l)

/-- R160: the value of a relocation for a tile. -/
def State.relocValue (s : State) (p : Prog) (r : Reloc) (tile : Nat) : Nat :=
  let ids := (List.range 64).filter (fun d => p.jobMembers.getLsbD d)
  match r.kind with
  | 0 => (RF.at p.segs (BitVec.ofNat 4 r.arg)).base.toNat
  | 1 => s.devid
  | 2 => (ids.filter (fun d => d < s.devid)).length
  | 3 => ids.getD r.arg 0
  | 4 => ids.length
  | 5 => p.tag.toNat
  | _ => tile

/-- R178, R39: the code of a tile, checked as it is loaded; none where it fails. -/
def State.loadCode (s : State) (p : Prog) (x : Sect) : Option (List Byte) × State :=
  let (b, s) := s.fwRead (p.imageAddr + x.off) x.size
  (b.bind (fun bs => if crc32c bs = BitVec.ofNat 32 x.crc && bs.length ≤ p.img.codeBytes then some bs else none), s)

/-- R155, R178: the records of a tile's DATA section, checked as it is loaded. -/
def State.loadData (s : State) (p : Prog) (x : Sect) : Option (List (Nat × List Byte)) × State :=
  let (b, s) := s.fwRead (p.imageAddr + x.off) x.size
  (b.bind (fun bs =>
    if crc32c bs = BitVec.ofNat 32 x.crc then
      dataRecords p.img.codeBytes (2 ^ 20 - p.img.stageBytes) (bs.length / 24 + 1) bs
    else none), s)

/-- The section that a placement entry names. -/
def ImageInfo.sect (i : ImageInfo) (type idx : Nat) : Sect := (findSect i.sects type idx).getD ⟨0, 0, 0, 0, 0, 0⟩

/-- A tile's registers and sizes as the run begins. -/
def Tile.prepared (t : Tile) (p : Prog) (n : Nat) : Tile :=
  { t with codeBytes := p.img.codeBytes, stageBytes := p.img.stageBytes,
           ra := { t.ra with depth := RF.at p.raDepths (BitVec.ofNat 2 (n / 256)) } }

/-- Load the code of one tile; the position of the section where it fails. -/
def State.codeInto (s : State) (p : Prog) (e : Place) : Option Nat × State :=
  let c := p.img.sect 2 e.code
  match s.loadCode p c with
  | (none, s) => (some c.pos, s)
  | (some bs, s) => (none, s.onTile e.tile (fun t => (t.prepared p e.tile).write 0 bs))

/-- Load the data of one tile. -/
def State.dataInto (s : State) (p : Prog) (e : Place) : Option Nat × State :=
  if e.data = 0xFFFF then (none, s)
  else
    let d := p.img.sect 3 e.data
    match s.loadData p d with
    | (none, s) => (some d.pos, s)
    | (some l, s) => (none, s.onTile e.tile (fun t => l.foldl (fun t r => t.write r.1 r.2) t))

/-- Load every tile in placement order until one fails. -/
def loadAll (p : Prog) (data : Bool) : List Place → State → Option Nat × State
  | [], s => (none, s)
  | e :: l, s =>
    match s.codeInto p e with
    | (some k, s) => (some k, s)
    | (none, s) =>
      match (if data then s.dataInto p e else (none, s)) with
      | (some k, s) => (some k, s)
      | (none, s) => loadAll p data l s

/-- R160: apply the relocations. -/
def State.relocate (s : State) (p : Prog) : State :=
  p.img.relocs.foldl (fun s r =>
    match p.img.place[r.place]? with
    | some e => s.onTile e.tile (fun t => t.write r.addr (natLE 8 (s.relocValue p r e.tile)))
    | none => s) s

/-- R79, R181: a tile of the program that has been retired. -/
def State.retiredOf (s : State) (p : Prog) : Option Nat :=
  p.tiles.find? (fun n => (s.serac.mapNext.ent n).st = .retired)

/-- R178, R203, R204: every tile has been zeroed, and every slice is in scratch mode and, on a start, zeroed. -/
def State.loadReady (s : State) (p : Prog) : Bool :=
  p.tiles.all (fun n => (s.tile n).st = .ready) &&
  p.scratch.all (fun k => s.firn.scratchMode.getLsbD k && !s.firn.toScratch.contains k && !s.firn.zeroing.contains k)

/-- All tiles issue their next bundle in one cycle: the one they stand at, or after a slice point the one that follows it. -/
def State.go (s : State) (ns : List Nat) (past : Bool := false) : State :=
  ns.foldl (fun s n =>
    (s.onTile n (fun t => if past then t.pastSlice else { t with st := .running })).fetchNext n) s

/-- R407: a phase of a program begins. -/
def State.phaseBegins (s : State) (tag : W32) : State :=
  let now := s.now
  let sums := s.pow.stks.map (fun k => (k.kSum, k.kSteps))
  s.onProg tag (fun p => { p with phaseAt := now, phaseK := sums, doneAt := RF.all 2 now })

/-- R178: load and start a program whose tiles are ready. -/
def State.startProg (s : State) (p : Prog) : State :=
  match s.retiredOf p with
  | some n => s.abortProg p.tag stFault (faultTileRetired + 256 * n)
  | none =>
    match loadAll p true p.img.place s with
    | (some k, s) => s.abortProg p.tag stLoadFailed k
    | (none, s) =>
      let t := s.ftime
      (((s.relocate p).onProg p.tag (fun q => { q with st := .running, startTime := t })).phaseBegins p.tag).go p.tiles

/-- PROGRAM_START: code, data and relocations are loaded and all tiles issue their first bundle in one cycle (R178);
with START_FTIME not before that time (R174). -/
def execProgramStart (tag : W32) (s : State) : Res :=
  match s.prog? tag with
  | none => .next s
  | some p =>
    if p.st = .loading && !p.resuming && s.loadReady p && (p.startFtime = 0 || serLe p.startFtime s.clk.ft) then
      .next (s.startProg p)
    else .next s

/-- START_RESERVE: at START_FTIME less 2 ms the program's resources are reserved, and conflicting preemptible programs
are preempted whatever their priority (R174). -/
def execStartReserve (tag : W32) (s : State) : Res :=
  match s.prog? tag with
  | none => .next s
  | some p =>
    if p.st = .queued && p.startFtime != 0 && s.schedUp then
      let s := s.onProg tag (fun p => { p with reserved := true })
      if s.sched.en && s.pkg.dev = .flow then
        .next (s.sched.progs.foldl (fun s q => if s.blocks q p && s.preemptible q then s.askPreempt q else s) s)
      else .next s
    else .next s

/-- START_FTIME_REACHED: the tiles start together; or, where a conflicting program that is not preemptible holds a
resource, the program completes START_MISSED (R174). -/
def execStartFtimeReached (tag : W32) (s : State) : Res :=
  match s.prog? tag with
  | none => .next s
  | some p =>
    if p.startFtime = 0 then .next s
    else if p.st = .loading && !p.resuming && s.loadReady p then .next (s.startProg p)
    else if p.st = .queued && s.sched.progs.any (fun q => s.blocks q p && !s.preemptible q) then
      let t := s.ftime
      .next (s.completeProg { p with endTime := t } stStartMissed 0 0)
    else .next s

/-- TILE_ZERO_COMPLETE: every SRAM byte of the tile has been written as zero (R74, R178). -/
def execTileZeroComplete (n : Nat) (s : State) : Res :=
  if (s.tile n).st = .zeroing then .next (s.onTile n (fun t => { t with st := .ready, sram := [], uc := [] }))
  else .next s

/-! ### Preemption (R82, R176, R177, R180) -/

/-- SLICE_REPORTS_COMPLETE: N0 sets `t` to the highest slice reported and releases the tiles held below it (R82). -/
def execSliceReportsComplete (tag : W32) (s : State) : Res :=
  match s.prog? tag with
  | none => .next s
  | some p =>
    if p.st = .running && p.preempting && p.sliceT = none && s.allHold p && !s.allHalted p then
      let t := p.reports.foldl (fun m r => max m (r.2.getD 0)) 0
      let lower := p.tiles.filter (fun n => (s.tile n).st = .sliceHold && (s.tile n).slice < t)
      let s := s.onProg tag (fun p => { p with
        sliceT := some t, reports := lower.foldl (fun r n => SMap.del n r) p.reports })
      let s := s.onTiles p.tiles (fun x => { x with holdAt := some t })
      .next (s.runOn lower (fun x => x))
    else .next s

/-- The scratch slices of a program that a waiting program needs (R176). -/
def State.scratchWanted (s : State) (p : Prog) : NSet :=
  p.scratch.filter (fun k => s.sched.progs.any (fun q => q.tag != p.tag && q.waits && (s.slicesOf q.segs.toList).contains k))

/-- R82, R180: every tile holds at `t`, or all wait at the barrier. -/
def State.heldForSave (s : State) (p : Prog) : Bool :=
  p.preempting && !s.allHalted p &&
  (p.st == .atBarrier || (p.st == .running && s.allHold p && (match p.sliceT with
    | some t => p.tiles.all (fun n => (s.tile n).st = .halted || (s.tile n).slice = t)
    | none => false)))

/-- PREEMPT_ALL_HELD: run-ahead is undone, and contexts, scratch and the program record are written (R176); the undo waits while
requests with the next epoch value are outstanding (R72). -/
def execPreemptAllHeld (tag : W32) (s : State) : Res :=
  match s.prog? tag with
  | none => .next s
  | some p =>
    if s.heldForSave p && !p.tiles.any (fun n => (s.tile n).epochBusy) then
      let wanted := s.scratchWanted p
      let halted := (p.tiles.filter (fun n => (s.tile n).st = .halted)).foldl (fun l n => NSet.add n l) []
      let p' := { p with savedScratch := wanted, haltedTiles := halted }
      let s := s.onTiles p.tiles Tile.undoRunAhead
      .next ((s.saveContext p').onProg tag (fun q => { q with
        st := .saving, savedScratch := wanted, haltedTiles := halted, atBarrierSaved := p.st == .atBarrier }))
    else .next s

/-- CONTEXT_SAVE_COMPLETE: the tiles are freed and the program is PREEMPTED (R176). -/
def execContextSaveComplete (tag : W32) (s : State) : Res :=
  match s.prog? tag with
  | none => .next s
  | some p =>
    if p.st = .saving then
      let s := s.freeTiles p
      let s := p.savedScratch.foldl (fun s k => s.dropSlice tag false k) s
      let now := s.now
      .next ((s.onSched (fun x => { x with preemptions := satInc x.preemptions })).onProg tag (fun p => { p with
        st := .preempted, since := now, preempting := false, reports := [], sliceT := none, attempts := 0,
        preemptions := p.preemptions + 1, scratch := p.scratch.filter (fun k => !p.savedScratch.contains k) }))
    else .next s

/-- SLICE_TIMEOUT: the preemption is abandoned and every held tile goes on; the third in a row aborts the program with
SLICE_OVERRUN (R177). -/
def execSliceTimeout (tag : W32) (s : State) : Res :=
  match s.prog? tag with
  | none => .next s
  | some p =>
    if p.st = .running && p.preempting && p.tiles.any (fun n => (s.tile n).holdReq) && !s.heldForSave p then
      let t := p.sliceT.getD (p.reports.foldl (fun m r => max m (r.2.getD 0)) 0)
      let s := s.onSched (fun x => { x with sliceAbandons := satInc x.sliceAbandons })
      let s := s.onProg tag (fun p => { p with
        preempting := false, reports := [], sliceT := none, attempts := p.attempts + 1 })
      let s := s.runOn p.tiles (fun x => { x with holdReq := false, holdAt := none })
      .next (if 2 ≤ p.attempts then s.abortProg tag stSliceOverrun t else s)
    else .next s

/-- R169: a phase whose entry has NOTIFY sends PHASE_EVENT when its barrier has been passed. -/
def State.phaseEvent (s : State) (p : Prog) : State :=
  if (p.img.phases[p.phaseDone]?).any (fun e => e.notify) then
    s.d2hEvent 0x0106 (natLE 4 p.tag.toNat ++ natLE 2 0 ++ natLE 2 p.phaseDone)
  else s

/-- PROGRAM_RESUME: code is reloaded and checked, contexts and scratch are written back, and every tile that had not
halted goes on together, after slice `t` or in the next phase (R178, R180, R181, R236). -/
def execProgramResume (tag : W32) (s : State) : Res :=
  match s.prog? tag with
  | none => .next s
  | some p =>
    if p.st = .loading && p.resuming && s.loadReady p then
      match s.retiredOf p with
      | some n => .next (s.abortProg tag stFault (faultTileRetired + 256 * n))
      | none =>
        match loadAll p false p.img.place s with
        | (some k, s) => .next (s.abortProg tag stLoadFailed k)
        | (none, s) =>
          let inj := s.contextInj p
          match s.restoreContext p with
          | (s, bad) =>
          if bad || inj.isSome then
            let at' := inj.getD (s.firstPoison p.ctxAddr (p.ctxUnits * 4096))
            .next (s.ucProgram tag { unit := unitCode 9 0 0, cause := 4, cls := .uc, tag := tag, addr := BitVec.ofNat 64 at' })
          else
            let s := s.onTiles p.haltedTiles (fun t => { t with st := .halted })
            let s := s.onProg tag (fun q => { q with st := .running, resuming := false, savedScratch := [], haltedTiles := [] })
            let s := s.phaseBegins tag
            let s := s.go (p.tiles.filter (fun n => !p.haltedTiles.contains n)) (!p.atBarrierSaved)
            .next (if p.atBarrierSaved then s.phaseEvent p else s)
    else .next s

/-! ### Phases (R169, R179, R408, R450, R451) -/

/-- R179, R450, R451: DRIFT holds the program at its barrier. -/
def State.driftHolds (s : State) (p : Prog) : Bool :=
  (s.pkg.dev = .drift && !p.img.span) || s.firm.mbx.driftExpired

/-- R179: every tile leaves the barrier in one cycle; a phase with NOTIFY sends PHASE_EVENT (R169). -/
def State.passBarrier (s : State) (p : Prog) : State :=
  let s := (s.onProg p.tag (fun p => { p with st := .running, driftHold := false })).phaseBegins p.tag
  (s.go (p.tiles.filter (fun n => (s.tile n).st = .barrier))).phaseEvent p

/-- PHASE_BARRIER_RELEASE: no hold applies, and all tiles are released into the next phase (R179). -/
def execPhaseBarrierRelease (tag : W32) (s : State) : Res :=
  match s.prog? tag with
  | none => .next s
  | some p =>
    if p.st = .atBarrier && !p.govHold && !p.preempting then
      if p.driftHold || s.driftHolds p then .next (s.onProg tag (fun p => { p with driftHold := true }))
      else .next (s.passBarrier p)
    else .next s

/-- GOVERNOR_BARRIER_TIMEOUT: N3 has not set budgets 50 µs after the barrier, and no longer holds it (R408). -/
def execGovernorBarrierTimeout (tag : W32) (s : State) : Res :=
  match s.prog? tag with
  | none => .next s
  | some p => if p.st = .atBarrier then .next (s.onProg tag (fun p => { p with govHold := false })) else .next s

/-! ### The end (R74, R164, R167, R200) -/

/-- TILE_ABORT: link operations stop, link buffers empty, replies are dropped, run-ahead is undone, once no request with the next epoch
value is outstanding (R72), the tiles are to be zeroed before another use, and the discard walk of the slot begins (R74, R200). -/
def execTileAbort (tag : W32) (s : State) : Res :=
  match s.prog? tag with
  | none => .next s
  | some p =>
    if p.st = .ending && !p.cleared then
      let mine := p.tiles.filter (fun n => (s.tile n).prog == some tag)
      if mine.any (fun n => (s.tile n).epochBusy) then .next s
      else
      let s := mine.foldl (fun s n => (s.clearLinks n).clearBridges n) s
      let s := (s.onTiles mine Tile.undoRunAhead).freeTiles p
      let s := match p.slot with
        | some k => (s.onFirn (fun f => { f with walks := f.walks ++ [Walk.mk k p.tag true] })).onSched (fun x =>
            { x with walkSlots := NSet.add k x.walkSlots })
        | none => s
      .next (s.onProg tag (fun p => { p with cleared := true }))
    else .next s

/-- PROGRAM_END: after the last HALT, or after the abort effects, N0 writes COMPLETE or holds it; a program that
completed has its slot's lines written back by the walk (R167, R200). `cycles` is RUN_CYCLES as measured (R163). -/
def execProgramEnd (tag : W32) (cycles : W64) (s : State) : Res :=
  match s.prog? tag with
  | none => .next s
  | some p =>
    if s.schedUp = false then .next s
    else if p.st = .running && s.allHalted p then
      let s := (s.freeTiles p).completeProg p stCompleted 0 cycles
      .next (match p.slot with
        | some k => (s.onFirn (fun f => { f with walks := f.walks ++ [Walk.mk k p.tag false] })).onSched (fun x =>
            { x with walkSlots := NSet.add k x.walkSlots })
        | none => s)
    else if p.st = .ending && p.cleared && !(p.slot.any s.sched.walkSlots.contains) then
      let e := p.ending.getD ⟨BitVec.ofNat 8 stError, 0⟩
      .next (s.completeProg p e.status.toNat e.detail.toNat cycles)
    else .next s

/-- TILE_FAULT: a fault of one of the causes of R73 stops the tile; it reports the code, writes a UC record and makes N0
abort the program. -/
def execTileFault (n : Nat) (code : Byte) (s : State) : Res :=
  s.withTile n (fun _ => s.tileFault n code.toNat)

end Sys2Proof.Machine
end

