-- ==== Sys2Proof/Machine/Pins.lean ====
section
/-! DEFINITION. The discrete inputs, the TAP and the PCIe link (R270, R388, R428, R599 to R609, R612, R615, R616). -/

namespace Sys2Proof.Machine

/-! ### Pin events (R606, R607) -/

/-- R599: pin codes. -/
def pinPerst : Nat := 1
def pinBrk : Nat := 2
def pinIntlk : Nat := 3
def pinFence : Nat := 4
def pinPps : Nat := 5

def State.pin (s : State) (p : Nat) : PinSt := SMap.get PinSt.reset s.pins.pins p
def State.onPin (s : State) (p : Nat) (f : PinSt → PinSt) : State :=
  { s with pins := { s.pins with pins := SMap.upd PinSt.reset s.pins.pins p f } }

/-- R607: a pin event: 1 STUCK, 2 STUCK_END, 3 EXCESS_EDGES, 4 STRAP_CHANGED; a log entry of severity WARNING. -/
def State.pinEvent (s : State) (p event : Nat) : State :=
  let x := s.pin p
  let ms := match x.since with | some t => s.since t / msU 1 | none => 0
  let s := s.log 6 3 (natLE 2 p ++ natLE 1 event ++ [0] ++ natLE 4 ms ++ natLE 4 x.ignored) true
  s.onPin p (fun y => { y with ignored := 0 })

/-- R606, R607: an edge beyond the followed rate: at most one event of a pin per second. -/
def State.excess (s : State) (p : Nat) : State :=
  let now := s.now
  let s := s.onPin p (fun x => { x with ignored := x.ignored + 1 })
  let due : Bool := match (s.pin p).excessAt with | some t => decide (msU 1000 ≤ s.since t) | none => true
  if due then (s.pinEvent p 3).onPin p (fun x => { x with excessAt := some now }) else s

/-- Local times no longer ago than `win`. -/
def State.lately (s : State) (win : Nat) (l : List W64) : List W64 := l.filter (fun t => s.since t < win)

/-- An assertion acts: since when the input is asserted. -/
def State.asserted (s : State) (p : Nat) : State :=
  let now := s.now
  s.onPin p (fun x => { x with since := some now, lastAt := some now })

/-- A release acts: a stuck input is stuck no more. -/
def State.released (s : State) (p : Nat) : State :=
  let s := if (s.pin p).stuck then s.pinEvent p 2 else s
  s.onPin p (fun x => { x with since := none, stuck := false, held := false })

/-- R606: releases of an input are ignored: `n` counted edges lie within `win`, and no quiet `win` has passed since. -/
def State.flooded (s : State) (p win n : Nat) : Bool :=
  let x := s.pin p
  let busy : Bool := match x.lastAt with | some t => decide (s.since t < win) | none => false
  busy && (x.held || n ≤ (s.lately win x.recent).length)

/-- The device runs: it is not COLD. -/
def State.powered (s : State) : Bool := s.pkg.dev != .cold

/-! ### PWRBRK_N (R428) -/

/-- PWRBRK_N_ASSERT: an acted assertion: k is clamped (R428). -/
def execPwrbrkNAssert (s : State) : Res :=
  s.withAlert (fun s =>
    let now := s.now
    let s := (s.asserted pinBrk).onPin pinBrk (fun x => { x with recent := now :: s.lately (msU 1000) x.recent })
    if s.powered && !s.pow.brk then s.brkOn else s)

/-- PWRBRK_N_RELEASE: the release has held for 1 ms: the clamp is removed, unless releases are ignored (R428, R606). -/
def execPwrbrkNRelease (s : State) : Res :=
  s.withAlert (fun s =>
    if (s.pin pinBrk).since.isNone then s
    else if s.flooded pinBrk (msU 1000) 100 then (s.excess pinBrk).onPin pinBrk (fun x => { x with held := true })
    else (s.released pinBrk).brkOff)

/-! ### LSR_INTLK_N (R270) -/

/-- LSR_INTLK_N_ASSERT: every launch gate closes and every port goes DOWN; probing goes on (R270). -/
def execLsrIntlkNAssert (s : State) : Res :=
  let s := (s.asserted pinIntlk).onFloe (fun f => { f with intlk := true })
  .next (if s.powered then s.shutAll else s)

/-- LSR_INTLK_N_RELEASE: the release has held for 100 ms: the links retrain, unless releases are ignored (R270, R606). -/
def execLsrIntlkNRelease (s : State) : Res :=
  if (s.pin pinIntlk).since.isNone then .next s
  else if s.flooded pinIntlk (10 * msU 1000) 10 then
    .next ((s.excess pinIntlk).onPin pinIntlk (fun x => { x with held := true }))
  else
    let now := s.now
    let s := (s.released pinIntlk).onPin pinIntlk (fun x => { x with recent := now :: s.lately (10 * msU 1000) x.recent })
    let s := s.onFloe (fun f => { f with intlk := false })
    .next (if s.floe.en && s.pkg.dev != .icebound then
      (List.range 16).foldl (fun s q => if s.lambdaLost (q / 4) then s else s.startProbing q) s else s)

/-! ### FENCE_N (R608) -/

/-- R488, R491, R608: MEM_FENCE becomes 1, as a write of class F, which ICEBOUND refuses (log entry 160). -/
def State.fenceNow (s : State) : State :=
  if !s.powered || s.pkg.dev = .icebound then s
  else (s.onMem (fun m => { m with memFence := true })).onDict (fun d => { d with gen := d.gen + 1 })

/-- FENCE_N_ASSERT: MEM_FENCE becomes 1; an assertion less than 1 ms after the previous one is ignored (R606, R608). -/
def execFenceNAssert (s : State) : Res :=
  if s.flooded pinFence (msU 1) 0 then .next (s.excess pinFence)
  else .next (s.asserted pinFence).fenceNow

/-- FENCE_N_RELEASE: the fence stays (R606, R608). -/
def execFenceNRelease (s : State) : Res := if (s.pin pinFence).since.isNone then .next s else .next (s.released pinFence)

/-! ### SYNC_PPS (R388) -/

/-- SYNC_PPS_EDGE: an edge steers the domain manager; one less than 0.9 s after the last is ignored (R388, R606). -/
def execSyncPpsEdge (s : State) : Res :=
  if s.flooded pinPps (msU 900) 0 then .next (s.excess pinPps)
  else .next ((((s.released pinPps).asserted pinPps).land (dk 0x4000 8)).ppsSteer)

/-! ### Straps, timers and excess edges (R606) -/

/-- RACKPOS_CHANGE: a changed strap has held for 1 s: one pin event, and nothing else (R606). -/
def execRackposChange (strap : Nat) (s : State) : Res :=
  if s.powered && strap < 6 then .next (s.pinEvent (6 + strap) 4) else .next s

/-- PIN_STUCK_TIMEOUT: an input has outlasted its timer; SYNC_PPS has none unless FT_PPS_EN is 1 (R606). -/
def execPinStuckTimeout (pin : Nat) (s : State) : Res :=
  if !s.powered || (s.pin pin).stuck || ((s.pin pin).since.isNone && pin != pinPps) then .next s
  else if pin = pinBrk || pin = pinIntlk || pin = pinFence || (pin = pinPps && s.clk.ppsEn) then
    .next ((s.pinEvent pin 1).onPin pin (fun x => { x with stuck := true }))
  else .next s

/-- PIN_EXCESS_EDGE: an edge beyond the followed rate of an input that has one (R606). -/
def execPinExcessEdge (pin : Nat) (s : State) : Res :=
  if s.powered && pinBrk ≤ pin && pin ≤ pinPps then .next (s.excess pin) else .next s

/-! ### The TAP (R615, R616) -/

/-- TRST_N_ASSERT: the TAP is held in Test-Logic-Reset, where IDCODE is in effect (R616). -/
def execTrstNAssert (s : State) : Res := .next { s with pins := { s.pins with tapReset := true, tap := .idcode } }

/-- TRST_N_RELEASE: the TAP is free to move (R616). -/
def execTrstNRelease (s : State) : Res := .next { s with pins := { s.pins with tapReset := false } }

/-- The rails that the power-on reset watches are up. -/
def Pins.railsUp (p : Pins) : Bool := p.aux && p.io && p.fle && !p.por

/-- R615: the instruction that acts: BYPASS where it is not available. -/
def State.tapActs (s : State) (i : TapInstr) : TapInstr :=
  let ext := s.pins.perst && s.pins.railsUp
  match i with
  | .extest => if ext then i else .bypass
  | .extestPulse => if ext then i else .bypass
  | .extestTrain => if ext then i else .bypass
  | .stackedDie d => if s.errs.prodLock || 8 ≤ d then .bypass else i
  | .hbm h => if s.errs.prodLock || 24 ≤ h then .bypass else i
  | _ => i

/-- TAP_INSTRUCTION: an instruction is loaded; it changes neither the device state nor a dictionary value (R615, R616). -/
def execTapInstruction (i : TapInstr) (s : State) : Res :=
  if s.pins.tapReset then .next s else .next { s with pins := { s.pins with tap := s.tapActs i } }

/-- R615: IDCODE. -/
def Part.idcode (p : Part) : W32 := p.rev ++ 0x7A24#16 ++ p.mfr ++ 1#1

/-! ### The PCIe link (R612) -/

/-- PCIE_LINK_DOWN: the link goes down for a reason other than a reset; no device state changes (R612). -/
def execPcieLinkDown (s : State) : Res := .next s.linkDown

/-- PCIE_LINK_UP: the link comes back (R612); it cannot while the device is COLD (R613). -/
def execPcieLinkUp (s : State) : Res := if s.powered then .next { s with pins := { s.pins with pcieUp := true } } else .next s

end Sys2Proof.Machine
end

