-- ==== Sys2Proof/Machine/Reset.lean ====
section
/-! DEFINITION. Resets, discovery and the end of THAW (R3, R25 to R32, R511, R573, R577, R602, R610 to R612). -/

namespace Sys2Proof.Machine

/-! ### What a reset leaves (R481, R511, R555, R610) -/

/-- An input that stays asserted over a reset: its time counts anew from the local time `now` (log entry 53). -/
def PinSt.kept (now : W64) (p : PinSt) : PinSt := if p.since.isSome then { PinSt.reset with since := some now } else PinSt.reset

/-- R606: inputs that are still asserted. -/
def Pins.kept (now : W64) (p : Pins) : Pins :=
  { p with pins := p.pins.foldl (fun m x => SMap.set PinSt.reset m x.1 (x.2.kept now)) [] }

/-- R544 to R548: the store's contents and the power-cycle count; what was gathered since the last snapshot is lost. -/
def Moraine.kept (m : Moraine) : Moraine :=
  { Moraine.reset with
    cycles := m.cycles, optime := (m.stored.map Snap.optime).getD 0, stored := m.stored, nextSlot := m.nextSlot
    lfNew := m.lfNew, lfOld := m.lfOld }

/-- R555, R556, R567: fuses, a fuse write that runs, and the alias copies of the store. -/
def Sec.kept (x : Sec) : Sec :=
  { Sec.reset with
    keyHash := x.keyHash, keyRevoked := x.keyRevoked, svnFused := x.svnFused, uds := x.uds, fuse := x.fuse
    copyA := x.copyA, copyB := x.copyB, bOlder := x.bOlder }

/-- R610: a reset clears everything but the fuses, the Moraine store, the trip latch and the pins; R594's marks are kept for
the calibration that follows. -/
def State.cleared (s : State) : State :=
  { State.reset with
    part := s.part, pins := s.pins.kept 0, sec := s.sec.kept, mor := s.mor.kept
    cal := { Cal.reset with marks := s.cal.marks }
    errs := { Errs.reset with prodLock := s.errs.prodLock }
    serac := { Serac.reset s.part.fusedRows with retiredStore := s.serac.retiredStore }
    pending := s.pending, free := s.free
    outbox := if s.alert then s.outbox ++ [.pin 13 false] else s.outbox }

/-- R387, R454, R610: a soft reset clears what PERST_N clears, but the counts that run from the release of PERST_N go on. -/
def State.softCleared (s : State) : State :=
  let c := s.cleared
  { c with
    clk := { c.clk with ftLocal := s.clk.ftLocal }
    pkg := { c.pkg with bootAt := s.pkg.bootAt }
    pins := s.pins.kept s.now }

/-- R3: COLD. -/
def State.goCold (s : State) : State :=
  let s := s.cleared
  { s with pkg := { s.pkg with dev := .cold }, pins := { s.pins with pcieUp := false } }

/-- R25 step 1, R431: N4 starts the boot ROM. -/
def State.startN4 (s : State) : State := s.onCore 4 (fun c => if c.st = .off then { c with st := .boot } else c)

/-- R25 step 1, R351, R431, R606: THAW begins: N4 starts the boot ROM, with the DevID that RACKPOS gives and the inputs that
are asserted. -/
def State.enterThaw (s : State) : State :=
  let dev := s.pins.rackpos
  let brk := (s.pin pinBrk).since.isSome
  let s := { s with
    pkg := { s.pkg with dev := .thaw }
    fab := { s.fab with devid := dev }
    mem := { s.mem with bar4Base := BitVec.ofNat 48 (dev.toNat * 2 ^ 42) }
    floe := { s.floe with intlk := (s.pin pinIntlk).since.isSome }
    pow := { s.pow with brk := brk } }.startN4
  if brk then s.emit (.pin 13 true) else s

/-- R3, R602: COLD is left once the rails are in range, PERST_N is released and the trip latch is clear. -/
def State.mayStart (s : State) : Bool := s.pkg.dev = .cold && s.pins.railsUp && !s.pins.perst && !s.pins.trip

/-! ### PERST_N (R3, R602, R606) -/

/-- PERST_N_ASSERT: COLD, from any state; a fuse write runs on, and pending steers end ABANDONED (R3, R280, R556, R610). -/
def execPerstNAssert (s : State) : Res :=
  let s := s.goCold.onFloe (fun x => x.abandoned s.floe)
  .next { s with pins := { s.pins with perst := true } }

/-- PERST_N_RELEASE: RACKPOS is sampled and THAW begins; ignored while the trip latch is set (R3, R602, R606). EXTEST ends with
COLD (R615). A device whose Floe 0 does not start (`floe0` false) answers nothing and is reported as COLD: it stays there (R16,
log entry 141). -/
def execPerstNRelease (rackpos : BitVec 6) (floe0 : Bool) (s : State) : Res :=
  if !s.pins.perst || s.pins.trip then .next s
  else
    let s := { s with pins := { s.pins with perst := false, rackpos := rackpos } }
    let s := { s with pins := { s.pins with tap := s.tapActs s.pins.tap } }
    .next (if s.mayStart && floe0 then s.enterThaw else s)

/-! ### Power (R602) -/

def Pins.without (p : Pins) (r : Rail) : Pins :=
  match r with
  | .aux => { p with aux := false, por := true }
  | .io => { p with io := false, por := true }
  | .fle => { p with fle := false, por := true }

/-- R556, R602: VDD_AUX falls: the trip latch clears, THERMTRIP_N with it, and a fuse write is cut. -/
def State.auxLost (s : State) : State :=
  let s := s.fuseCut
  let s := if s.pins.trip then s.emit (.pin 12 false) else s
  { s with pins := { s.pins with trip := false } }

/-- RAIL_OUT_OF_TOLERANCE: the power-on reset is held (R602). -/
def execRailOutOfTolerance (rail : Rail) (s : State) : Res :=
  let s := if rail = .aux then s.auxLost else s
  let s := s.goCold
  .next { s with pins := s.pins.without rail }

/-- POWER_LOSS: power is removed (R3). -/
def execPowerLoss (s : State) : Res :=
  let s := s.auxLost.goCold
  .next { s with pins := ((s.pins.without .aux).without .io).without .fle }

/-- POWER_ON_RESET_RELEASE: the three rails have been in tolerance for 2 ms: a POR (R602); `floe0` says whether Floe 0 starts where
THAW begins with it (R16). -/
def execPowerOnResetRelease (floe0 : Bool) (s : State) : Res :=
  if !s.pins.por then .next s
  else
    let s := { s with
      pins := { s.pins with aux := true, io := true, fle := true, por := false }
      mor := { s.mor with cycles := satInc s.mor.cycles } }
    .next (if s.mayStart && floe0 then s.enterThaw else s)

/-- SOFT_RESET_BEGIN: the snapshot is written; THAW restarts with the PCIe link kept up (R610, R611). An FE that has been raised
goes before it (R4). -/
def execSoftResetBegin (s : State) : Res :=
  let live := s.pkg.dev = .thaw || s.pkg.dev = .flow || s.pkg.dev = .drift
  if s.pkg.softReset && s.mor.writing.isNone && live && !s.errs.entryDue then .next (s.softCleared.enterThaw.onFloe (fun x => x.abandoned s.floe)) else .next s

/-! ### Discovery (R25 to R32) -/

/-- R20, R25: the dies that discovery reaches of those that answer: an HBM stack only through its own Floe tile. -/
def reachedDies (found : List (Nat × BitVec 64 × Byte)) : List (Nat × BitVec 64 × Byte) :=
  found.filter (fun d => d.1 < 17 || found.any (fun f => f.1 == (d.1 - 17) / 6))

/-- R25, R31: why a die fails discovery: 2 NOT_FOUND, 3 SERIAL_MISMATCH, 4 SIDEBAND; none where it does not. A die on the sideband
is Floe 1 to 3 (DEDUCED). -/
def State.dieCause (s : State) (found : List (Nat × BitVec 64 × Byte)) (i : Nat) : Option Byte :=
  match found.find? (fun d => d.1 == i) with
  | none => some (if 1 ≤ i && i < 4 then 4 else 2)
  | some d => if 1 ≤ i && i < 16 && d.2.1 != SMap.get 0 s.part.assembly i then some 3 else none

/-- R27, R32: the record of a die. -/
def State.dieFound (s : State) (found : List (Nat × BitVec 64 × Byte)) (i : Nat) : DieRec :=
  match found.find? (fun d => d.1 == i) with
  | none => ⟨0, 0, if i < 16 then 0 else if i = 16 then dieFailed else dieRetired⟩
  | some d => ⟨if i < 16 then d.2.1.setWidth 32 else 0, d.2.2, if (s.dieCause found i).isSome then 5 else dieGood⟩

/-- R29: a record is written, and the generation after it if it changed. -/
def State.writeDie (s : State) (i : Nat) (r : DieRec) : State :=
  let gen := if (SMap.get none s.pkg.dies i).getD ⟨0, 0, 0⟩ = r && SMap.get none s.pkg.dies i = some r then s.pkg.mapGen else s.pkg.mapGen + 1
  { s with pkg := { s.pkg with dies := SMap.set none s.pkg.dies i (some r), mapGen := gen } }

/-- R27: what an HBM stack or the Moraine store that is not found loses. MOR_STORE_STATE of a store that is not found is 2 FAILED, as
R27 has its die record; R551's 0 ABSENT is not used (log entry 142). -/
def State.dieMissing (s : State) (i : Nat) : State :=
  if i < 16 then s
  else if i = 16 then s.onMor (fun m => { m with store := 2 })
  else s.onStack (i - 17) (fun k => { k with st := .notFound })

/-- R76, R77: every die has exactly the grade's number of whole fused rows, and no tile is retired. -/
def TileMap.conforms (m : TileMap) (gradeB : Bool) : Bool :=
  let whole := fun (t : Nat) => ((List.range 16).filter (fun y =>
    (List.range 16).all (fun x => (m.ent (256 * t + 16 * y + x)).st = .fused))).length
  (List.range 4).all (fun t => whole t = (if gradeB then 2 else 1)) && (List.range 1024).all (fun n => (m.ent n).st != .retired)

/-- R27, R76, R80: the map that this THAW puts in force: the part's fused rows, and the tiles that the retirement list names. The
tile-port bundles of fused tiles are not trained (R19). -/
def State.firstMap (s : State) : State :=
  let list := if s.mor.store = 1 then s.serac.retiredStore else []
  let fused := (TileMap.ofRows s.part.fusedRows).ents
  let ents := list.foldl (fun m n => SMap.set MapEnt.full m n ⟨.none, .retired⟩) fused
  let map : TileMap := ⟨ents, (TileMap.mk ents true).conforms s.part.gradeB⟩
  let s := s.onSerac (fun x => { x with map := map, mapNext := map, retiredList := list })
  fused.foldl (fun s p => s.onVb (BitVec.ofNat 2 (p.1 / 256)) (p.1 % 256) (fun v => { v with st := .untrained })) s

/-- R25, R573: N4 has the package map and opens the load; every PLL is locked. -/
def State.bootN4 (s : State) : State :=
  let s := (List.range 25).foldl (fun s d => if s.pll d = .off then s.setPll d .locked else s) s
  (s.startN4.onLoad (fun l => { l with st := .waiting })).onCal (fun c => { c with stage := 2 })

/-- R516: discovery reports a die of the package. -/
def State.discoveryFe (s : State) (die : Nat) (cause : Byte) : State :=
  s.raise' { unit := unitCode 0 0 die, cause := 0x80, cls := .fe, detail := BitVec.ofNat 64 cause.toNat }

/-- Discovery has yet to end: in THAW, once a fuse write has ended, with a Floe 0 that starts (R16, R25, R556). -/
def State.discovers (s : State) : Bool := s.pkg.dev = .thaw && !s.pkg.discovered && s.sec.fuse.isNone

/-- DISCOVERY: the package map is assembled from the dies that answer, as die index, serial number and revision, and from the rows
that the Serac fuse records name (R20, R25, R27). -/
def execDiscovery (answers : List (Nat × BitVec 64 × Byte)) (s : State) : Res :=
  let found := reachedDies answers
  if !s.discovers || !found.any (fun d => d.1 == 0) then .next s
  else
    let s := (List.range 41).foldl (fun s i => s.writeDie i (s.dieFound found i)) s
    let fails := (List.range 41).filter (fun i => (s.dieCause found i).isSome)
    let cause := (fails.head?.bind (s.dieCause found)).getD 0
    let s := (fails.filter (fun i => !found.any (fun d => d.1 == i))).foldl State.dieMissing s
    let s := ({ s with pkg := { s.pkg with cause := cause, discovered := true } }.firstMap).bootN4
    .next (match fails.head? with
      | some i => if fails.any (fun j => j < 16) then s.discoveryFe i cause else s
      | none => s)

/-- DISCOVERY_TIMEOUT: step 6 has not finished in time (R26). No rule says which die the record names: the model names die 0
(log entry 143). -/
def execDiscoveryTimeout (s : State) : Res :=
  if !s.discovers then .next s
  else .next ({ s with pkg := { s.pkg with cause := 1, discovered := true } }.startN4.discoveryFe 0 1)

/-! ### The end of THAW (R9, R573 step 15, R577) -/

/-- Entries whose moment is not the end of THAW, though they may be staged then. -/
def laterMoments : List Nat :=
  nextThaw ++ [dk 0x2200 1, dk 0x2200 2, dk 0x3000 6, dk 0x3100 4, dk 0x4000 3, dk 0x5030 1, dk 0x2000 7,
    dk 0x3200 0x10, dk 0x3200 0x11, dk 0x3200 0x12, dk 0x3200 0x13, dk 0x3300 1, dk 0x3300 2, dk 0x3300 3, dk 0x3300 4]

/-- R9: the entries with a register of their own, and their defaults: the firmware writes the dictionary's values to the
hardware, whatever a BAR0 write of THAW has set (log entry 54). -/
def State.pushed (s : State) : List (Nat × List Byte) :=
  [(dk 0x2100 1, natLE 4 0), (dk 0x3000 3, natLE 2 0), (dk 0x3000 4, natLE 2 40), (dk 0x3100 4, [0]), (dk 0x3200 5, [1]),
   (dk 0x3200 0x0C, natLE 8 (s.fab.devid.toNat * 2 ^ 42)), (dk 0x4000 8, [0]), (dk 0x4100 1, natLE 2 2200), (dk 0x4100 3, [16]),
   (dk 0x5020 2, natLE 4 1000), (dk 0x5020 3, [1]), (dk 0x5040 1, [1]), (dk 0x6300 9, [1]), (dk 0x7000 0x0B, [1])]

/-- R9: the dictionary's own value of an entry governs. -/
def State.pushOwn (s : State) (x : Nat × List Byte) : State :=
  if s.entryLocked x.1 then s else s.applyEntry x.1 ((SMap.get none s.dict.vals x.1).getD x.2)

/-- R298: the routes before the first update: SELF, DEFAULT inside the shape, OUTSIDE. -/
def State.firstRoutes (s : State) : RF 6 W16 :=
  Vector.ofFn (fun d : Fin (2 ^ 6) =>
    if d.val = s.devid then 5#16 <<< 13 else if (shapeDevs s.shape).contains d.val then 0 else 4#16 <<< 13)

/-- R573 step 15: every EN that is tied to the end of THAW. -/
def State.enables (s : State) : State :=
  { s with
    mem := { s.mem with en := true, timeout := s.mem.timeoutOwn, retention := s.mem.retentionOwn }
    clk := { s.clk with en := true, jobStep := 24, toStep := 24 }
    pow := { s.pow with en := true }
    firm := { s.firm with en := true }
    errs := { s.errs with en := true }
    sec := { s.sec with en := true }
    cal := { s.cal with en := true }
    sched := { s.sched with en := true }
    serac := { s.serac with mapOn := true }
    fab := { s.fab with routes := s.firstRoutes } }

/-- R217: slices whose default mode is scratch are brought to it. -/
def State.defaultModes (s : State) : State :=
  (List.range 32).foldl (fun s k => if s.firn.scratchDefault.getLsbD k then s.toScratch k else s) s

/-- THAW_END: every item has ended and the margin plan is made: the dictionary's values are applied, the ENs are set, and the
device is in FLOW (R573, R577), unless an FE has been raised (R4). -/
def execThawEnd (s : State) : Res :=
  if !(s.calibrates && s.itemsEnded && s.cal.stage = 14 && s.hbm.zeroed) || s.errs.entryDue then .next s
  else
    let s := (s.dict.staged.map Prod.fst).foldl (fun s k => if laterMoments.contains k then s else s.land k) s
    let s := s.pushed.foldl State.pushOwn s
    let s := s.putRaEnable ((SMap.get none s.dict.staged (dk 0x2000 7)).getD ((SMap.get none s.dict.vals (dk 0x2000 7)).getD [1]))
    let s := s.enables.defaultModes
    let now := s.now
    let s := (s.onMbx (fun m => { m with lastMsg := now })).onCal (fun c => { c with stage := 15 })
    .next (s.setDev .flow).claimRole

/-! ### FLR (R355, R453, R511, R612) -/

/-- R355: a host DMA engine drops its ring; requests that it has issued complete without a record. -/
def Hdma.flr (h : Hdma) : Hdma :=
  { h with ringBase := 0, take := 0
           runs := (h.runs.filter (fun r => r.started && !r.complete)).map (fun r => { r with norec := true, len := r.issued }) }

/-- R355: HDMA_RING_BASE of every engine is cleared, a value that waits for the next poll with it. -/
def State.dropRings (s : State) : State :=
  (List.range 4).foldl (fun s e => s.unstage (dk 0x3200 (0x10 + e)))
    { s with mem := { s.mem with hdma := s.mem.hdma.map Hdma.flr } }

def State.flr (s : State) : State :=
  let s := (s.flrMailbox.onRegs (fun r => { r with loHeld := [], hiLatch := [] })).onDict (fun d =>
    { d with heldReqs := d.heldReqs.filter (fun h => h.path != pathMbx) })
  s.dropRings

/-- FLR: the mailbox, the load buffers and ATTACHED are reset, and the host DMA engines stop (R355, R453, R511). -/
def execFlr (s : State) : Res := .next s.flr

/-- PCIE_HOT_RESET: as an FLR (R612). -/
def execPcieHotReset (s : State) : Res := .next s.flr

end Sys2Proof.Machine
end

