-- ==== Sys2Proof/Machine/Cycle.lean ====
section
/-! DEFINITION. The scheduler cycle, the phase governor and the limit report (R174, R175, R407, R408, R422, R449 to R463). -/

namespace Sys2Proof.Machine

/-! ### What falls at a cycle start (R9, R449, R452, R591) -/

/-- R9, R183, R426: BAR0's cap first, then the dictionary's values, in FLOW and DRIFT. -/
def State.landCycle (s : State) : State :=
  let s := match s.pow.capReg with
    | some n => s.onPow (fun p => { p with cap := n, capReg := none })
    | none => s
  if s.pkg.dev = .flow || s.pkg.dev = .drift then
    [dk 0x4100 1, dk 0x4100 8, dk 0x5020 2, dk 0x5020 3].foldl State.land s
  else s

/-- R452 step 6: the barriers that DRIFT held are released, and the fence of R451 is lifted. -/
def State.releaseDrift (s : State) : State :=
  if !s.firm.mbx.releaseDue then s
  else
    let s := (s.onMbx (fun m => { m with releaseDue := false })).onMem (fun m => { m with driftFence := false })
    s.sched.progs.foldl (fun s p =>
      if !p.driftHold then s
      else if p.st = .atBarrier && !p.govHold && !p.preempting then s.passBarrier p
      else s.onProg p.tag (fun p => { p with driftHold := false })) s

/-- R449: DRIFT begins, if the heartbeat has timed out. -/
def State.driftStart (s : State) : State := if s.firm.mbx.driftDue && s.pkg.dev = .flow && !s.errs.entryDue then s.enterDrift else s

/-! ### Starts and preemptions (R174) -/

/-- R174 step 1: the waiting order: priority, then the time of acceptance or of the last preemption. -/
def Prog.before (p q : Prog) : Bool := q.prio < p.prio || (p.prio = q.prio && serLe p.since q.since)

def insertWaiting (p : Prog) : List Prog → List Prog
  | [] => [p]
  | q :: l => if q.before p then q :: insertWaiting p l else p :: q :: l

def State.waiting (s : State) : List Prog := (s.sched.progs.filter Prog.waits).foldl (fun l p => insertWaiting p l) []

/-- R174 step 1: every waiting program that conflicts with no started one begins to load. -/
def State.startWaiting (s : State) : State := s.waiting.foldl (fun s p => if s.unblocked p then s.beginLoad p else s) s

/-- R174 steps 2, 4 to 6: waiting programs cause conflicting preemptible programs of lower priority to be preempted; reserved
programs whatever the priority. -/
def State.preemptFor (s : State) (p : Prog) : State :=
  s.sched.progs.foldl (fun s q =>
    if s.blocks q p && s.preemptible q && (p.reserved || q.prio < p.prio) then s.askPreempt q else s) s

/-- R174 step 3, R175: a cycle of a RUNNING program's quantum; at its end a waiting program of the same priority that conflicts
with it has it preempted, or a new quantum begins. -/
def State.quantumOf (s : State) (p : Prog) : State :=
  let left := p.quantumLeft - 1
  if left = 0 then
    if s.preemptible p && s.waiting.any (fun w => w.prio = p.prio && s.blocks p w) then
      match (s.onProg p.tag (fun x => { x with quantumLeft := 0 })).prog? p.tag with
      | some q => (s.onProg p.tag (fun x => { x with quantumLeft := 0 })).askPreempt q
      | none => s
    else s.onProg p.tag (fun x => { x with quantumLeft := x.quantum })
  else s.onProg p.tag (fun x => { x with quantumLeft := left })

/-- R174: the decisions of a cycle; none while SCHED_CTRL.EN is 0 (R184), and none in DRIFT (R450). -/
def State.decide (s : State) : State :=
  if !(s.sched.en && s.pkg.dev = .flow) then s
  else
    let running := s.sched.progs.filter (fun p => p.st = .running)
    let s := s.startWaiting
    let s := s.waiting.foldl State.preemptFor s
    running.foldl State.quantumOf s

/-- R591: a guardband plan of service is applied. -/
def State.applyPlan (s : State) : State :=
  if s.cal.planApply then (s.setVddAll s.clk.jobStep).onCal (fun c => { c with planApply := false }) else s

/-- SCHED_CYCLE_START: the cycle before has ended, with a swap if one is asked for; else N0 renews its lease and decides (R174,
R458, R463). -/
def execSchedCycleStart (s : State) : Res :=
  if !s.schedUp || !s.leaseRuns then .next s
  else
    let s := s.handOver
    if s.firm.lease.handover then .next s
    else
      let now := s.now
      let s := s.onLease (fun l => { l with renewed := now })
      let s := s.onSched (fun x => { x with
        cycle := x.cycle + 1, progs := x.progs.map (fun p => { p with trapSent := false }) })
      .next s.driftStart.releaseDrift.landCycle.applyPlan.decide

/-! ### The phase governor (R407 to R409) -/

/-- R407, R408: the entry of the next phase has been used. -/
def Power.touch (p : Power) (key : W32) : Power :=
  { p with gov := p.gov.map (fun g => if g.key = key then { g with used := p.govClock + 1 } else g), govClock := p.govClock + 1 }

/-- R408: a phase with an EST_CYCLES below 120,000 keeps the budgets in force. -/
def PhaseEnt.short (e : PhaseEnt) : Bool := e.est != 0 && e.est < 120000

/-- R407: P_run of a phase that has ended on a stack, from its energy in pJ. -/
def State.phasePower (s : State) (p : Prog) (t : BitVec 2) (energy : Nat) : Nat :=
  let k := s.stk t
  let mark := RF.at p.phaseK t
  runPower energy ((RF.at p.doneAt t - p.phaseAt).toNat / 64) (meanK 100 k mark.1 mark.2)

/-- GOVERNOR_PHASE_UPDATE: the phase that ended teaches its entry, from the energy by stack in pJ, and the next phase's needs set the
budgets (R407, R408). -/
def execGovernorPhaseUpdate (tag : W32) (energy : List (BitVec 2 × Nat)) (s : State) : Res :=
  match s.prog? tag with
  | none => .next s
  | some p =>
    if p.st != .atBarrier || s.coreUp 3 = false then .next s
    else
      let s := match p.img.phases[p.phaseDone]? with
        | some e => s.onPow (fun w => w.learn e.key (energy.map (fun (r : BitVec 2 × Nat) => (r.1, s.phasePower p r.1 r.2))))
        | none => s
      let s := s.land (dk 0x4100 7)
      let s := s.onProg tag (fun p => { p with govHold := false })
      match p.nextPhase with
      | some e => if e.short then .next s else .next (s.onPow (fun w => w.touch e.key)).sendBudgets
      | none => .next s

/-! ### The limit report (R422, R423) -/

/-- R423: the interval that ends was low: the mean k of a stack was below 56, or a margin alarm is sustained. -/
def State.intervalLow (s : State) : Bool :=
  s.pow.stks.toList.any (fun k => meanK 100 k k.kSumRep k.kStepsRep < 5600) || s.sustainedAlarm

/-- R422: K_MEAN of the interval that ends. -/
def State.kMean (s : State) : Nat := minOf 64 (s.pow.stks.toList.map (fun k => meanK 1 k k.kSumRep k.kStepsRep))

/-- R422: a new interval begins. -/
def State.newInterval (s : State) : State :=
  s.onPow (fun p => { p with stks := p.stks.map (fun k => { k with kSumRep := k.kSum, kStepsRep := k.kSteps }) })

/-- LIMIT_REPORT_SEND: LOW_RUN follows the 100 µs interval that ends, and N3 reports to the leader (R422, R423). -/
def execLimitReportSend (s : State) : Res :=
  if s.coreUp 3 = false || !(s.pkg.dev = .flow || s.pkg.dev = .drift) then .next s
  else
    let k := s.kMean
    let low := s.intervalLow
    let sustained := s.sustainedAlarm
    let s := ((s.land (dk 0x4100 5)).newInterval).onPow (fun p => { p with lowRun := p.nextLowRun low })
    match s.leader with
    | some d => .next (s.sendBudget d (s.limitReport k sustained))
    | none => .next s

end Sys2Proof.Machine
end

