-- ==== Sys2Proof/Machine/Restart.lean ====
section
/-! DEFINITION. The failure of a Nunatak core, and what a restarted one does (R456, R457, R461). -/

namespace Sys2Proof.Machine

/-- R456: what a failure of a core that runs leads to. -/
def State.failCore (s : State) (n : BitVec 3) (cause : Byte) (digestOk : Bool) : State :=
  let now := s.now
  let r : Raise := { unit := coreUnit n.toNat, cause := 0x0060, cls := .ce, detail := cause.setWidth 64 }
  let again := (s.core n).lastFail.any (fun t => s.since t ≤ 10 * msU 1000)
  let s := s.onCore n (fun c => { c with lastCause := cause, lastFail := some now })
  let down := s.onCore n (fun c => { c with st := .failed })
  if n = 4 && (s.firm.load.st = .waiting || s.firm.load.st = .loading) then
    (down.onLoad (fun l => { l with st := .notReady, queue := [], image := [], lastTaken := false })).raise' r
  else if again || s.armed (coreUnit n.toNat) 0x61 then (down.coreLost n).raise' { r with cause := 0x0061, cls := .fe }
  else if !digestOk || s.armed (coreUnit n.toNat) 0x62 then (down.coreLost n).raise' { r with cause := 0x0062, cls := .fe, detail := 0 }
  else (s.restartCore n).raise' r

/-- CORE_FAILURE: the watchdog (1), an uncorrectable SRAM error (2) or an unhandled exception (3) of a core; `digestOk`
says whether its code measures as recorded at load (R431, R456). -/
def execCoreFailure (n : BitVec 3) (cause : Byte) (digestOk : Bool) (s : State) : Res :=
  if 6 ≤ n.toNat || !((s.core n).st = .running || (s.core n).st = .boot) then .next s
  else s.withAlert (fun s => s.failCore n cause digestOk)

/-- R457: N5 answers what was held, in order of arrival: a request of a peer, or one of the mailbox or MCTP. -/
def State.answerHeld (s : State) (h : HeldDict) : State :=
  if h.path != pathMbx && h.path % 2 = 0 then s.serveMgmt (h.path / 2 - 1) h.body else s.serveSvaog h.path h.body

/-- R455, R457: N5 writes the entries that the cores have buffered, answers the held requests, and begins a Moraine write that
was deferred. -/
def State.resumeN5 (s : State) : State :=
  let s := s.onLog (fun l => l.held.foldl Log.push { l with held := [] })
  let held := s.dict.heldReqs
  (held.foldl State.answerHeld (s.onDict (fun d => { d with heldReqs := [] }))).startSnap

/-- R457: what the restart of a core brings back; a core of the scheduler is the standby's from then on, unless it still is the
primary's, whose lease nobody renews. -/
def State.coreBack (s : State) (n : BitVec 3) : State :=
  let now := s.now
  match n.toNat with
  | 0 | 1 => if s.firm.lease.primary = n then s else s.onLease (fun l => { l with health := .syncing, syncSince := now, run := 0 })
  | 3 => { s with pow := { s.pow with fallback := false } }
  | 5 => s.resumeN5
  | _ => s

/-- CORE_RESTART_COMPLETE: a restarted core runs again, is measured, announces itself with FW_EVENT CORE_RESTART, and held work
resumes (R456, R457, R563). -/
def execCoreRestartComplete (core : BitVec 3) (s : State) : Res :=
  if (s.core core).st != .restarting then .next s
  else
    s.withAlert (fun s =>
      let s := (s.onCore core (fun c => { c with st := .running })).measureCore core.toNat
      let gen := if core.toNat < 2 then s.firm.lease.gen else 0
      (s.fwEvent 1 core.toNat gen).coreBack core)

end Sys2Proof.Machine
end

