-- ==== Sys2Proof/Machine/TileMat.lean ====
section
/-! DEFINITION. The matrix slot and the matrix engine (R50 to R57, R120 to R136). -/

namespace Sys2Proof.Machine

/-! ### Issue -/

/-- R50: COUNT 0 means 512. -/
def depthSteps (c : BitVec 9) : Nat := if c = 0 then 512 else c.toNat

/-- R107: whether an output operation takes its 16 draws when it issues. -/
def outDraws (k : MatKind) (d : BitVec 256) : Bool :=
  (k = .mout || k = .moutz) && descRnd d == srm && descFmtOut d != 14

/-- R50: the post-increments that POSTINC asks for. -/
def Tile.matPost (t : Tile) (m : MatSlot) (d : BitVec 256) : Tile :=
  if m.postinc then
    ((t.postIncA m.aa (descWord d 1).toNat).postIncA m.ab (descWord d 2).toNat).postIncA m.ac (descWord d 3).toNat
  else t

/-- R51, R107: the queued operation with its copies of descriptor, addresses and generator. -/
def Tile.matOp (t : Tile) (k : MatKind) (m : MatSlot) : MatOp :=
  { kind := k, desc := RF.at t.md m.md, aa := RF.at t.a m.aa, ab := RF.at t.a m.ab, ac := RF.at t.a m.ac, set := m.set,
    count := depthSteps m.count, done := 0, g := t.g }

/-- R42, R51: put an operation into the matrix queue of two; a full queue holds the slot back. -/
def matIssue (k : MatKind) (n : Nat) (m : MatSlot) (s : State) : Res :=
  s.withTile n (fun t =>
    if 2 ≤ t.matQ.length then s
    else
      let d := RF.at t.md m.md
      let u := { t with matQ := t.matQ ++ [t.matOp k m], g := if outDraws k d then draws t.g 16 else t.g }
      s.setTile n (u.matPost m d))

/-- MNOP: none (R50). -/
def execMnop (_ : Nat) (_ : MatSlot) (s : State) : Res := .next s
/-- MMA: SET += A × B over COUNT depth steps (R52). -/
def execMma (n : Nat) (m : MatSlot) (s : State) : Res := matIssue .mma n m s
/-- MMAZ: SET := A × B over COUNT depth steps (R52). -/
def execMmaz (n : Nat) (m : MatSlot) (s : State) : Res := matIssue .mmaz n m s
/-- MOUT: round SET once to FMT_OUT and write it (R131). -/
def execMout (n : Nat) (m : MatSlot) (s : State) : Res := matIssue .mout n m s
/-- MOUTZ: MOUT, then SET := 0 (R131). -/
def execMoutz (n : Nat) (m : MatSlot) (s : State) : Res := matIssue .moutz n m s
/-- MZERO: SET := 0 and its mode (R120). -/
def execMzero (n : Nat) (m : MatSlot) (s : State) : Res := matIssue .mzero n m s
/-- MLOAD: SET := 16 accumulator images (R122). -/
def execMload (n : Nat) (m : MatSlot) (s : State) : Res := matIssue .mload n m s

/-! ### The engine -/

/-- R52: the depth of one step, by the operand format. -/
def stepDepth (f : Nat) : Nat :=
  match f with
  | 0 => 2 | 1 => 4 | 2 => 8 | 3 => 8 | 4 => 8 | 5 => 16 | 6 => 16 | 12 => 16 | _ => 32

/-- R52: bytes of a block per step: 4 rows or columns of `stepDepth` elements. -/
def stepBytes (f : Nat) : Nat := 4 * stepDepth f * fmtBits f / 8

/-- R120: whether a descriptor names FP64 mode. -/
def descFp64 (d : BitVec 256) : Bool := descFmtA d == 0

/-- R122: the first operation of one of some kinds that has no earlier operation on its set: its place and itself. -/
def firstReady (want : MatKind → Bool) (q : List MatOp) : Option (Nat × MatOp) :=
  match q with
  | [] => none
  | a :: rest =>
    if want a.kind then some (0, a)
    else match rest with
      | [] => none
      | b :: _ => if want b.kind && b.set != a.set then some (1, b) else none

/-- The value of element `(r, k)` of an operand block read as one number. -/
def blockVal (f : Nat) (uns mx : Bool) (w r k : Nat) : Val :=
  let e := elemOf f w (r * stepDepth f + k)
  if mx then decodeMx f e else decodeVal f uns e

/-- R116: the scale of a block of depth elements. -/
def scaleVal (t : Tile) (mx : Bool) (addr m i : Nat) : Val :=
  if mx then decodeVal 10 false (t.byte (addr + 4 * m + i)).toNat else .fin false 1 0

/-- R127, R99: an XA accumulator after one step. -/
def xaStep (t : Tile) (o : MatOp) (wa wb : Nat) (i j : Nat) (x : Xa) : Xa :=
  let d := o.desc
  let fa := descFmtA d
  let fb := descFmtB d
  let m := o.done * stepDepth fa / 32
  let sa := scaleVal t (descMx d) (descWord d 5).toNat m i
  let sb := scaleVal t (descMx d) (descWord d 6).toNat m j
  x.step ((List.range (stepDepth fa)).map (fun k =>
    xaProduct (blockVal fa (descAUns d) (descMx d) wa i k) (blockVal fb (descBUns d) (descMx d) wb j k) sa sb))

/-- R134: an FP64 accumulator after one step. -/
def fpStep (wa wb : Nat) (i j : Nat) (c : W64) : W64 :=
  let a := fun k => BitVec.ofNat 64 (elemOf 0 wa (i * 2 + k))
  let b := fun k => BitVec.ofNat 64 (elemOf 0 wb (j * 2 + k))
  fma64 (a 1) (b 1) (fma64 (a 0) (b 0) c)

/-- The 16 accumulators, element `(i, j)` at `4 i + j`. -/
def AccSet.step (acc : AccSet) (t : Tile) (o : MatOp) (wa wb : Nat) : AccSet :=
  if acc.fp64 then
    { acc with fp := Vector.ofFn (fun e => fpStep wa wb (e.val / 4) (e.val % 4) (RF.at acc.fp (BitVec.ofFin e))) }
  else
    { acc with xa := Vector.ofFn (fun e => xaStep t o wa wb (e.val / 4) (e.val % 4) (RF.at acc.xa (BitVec.ofFin e))) }

/-- R120: a zero set in the mode that a descriptor names. -/
def AccSet.zeroed (d : BitVec 256) : AccSet := { AccSet.zero with fp64 := descFp64 d }

def Tile.setAcc (t : Tile) (k : BitVec 1) (a : AccSet) : Tile := { t with acc := RF.put t.acc k a }

/-- R38: whether the reads of a step touch an uncorrectable word. -/
def stepBad (t : Tile) (o : MatOp) (aAddr bAddr : Nat) : Bool :=
  let d := o.desc
  let m := o.done * stepDepth (descFmtA d) / 32
  t.bad aAddr (stepBytes (descFmtA d)) || t.bad bAddr (stepBytes (descFmtB d)) ||
  (descMx d && (t.bad ((descWord d 5).toNat + 4 * m) 4 || t.bad ((descWord d 6).toNat + 4 * m) 4))

/-- R397: the limiter admits `k` of every 64 matrix issue slots, spread evenly. -/
def limGrants (k i : Nat) : Bool := i * k / 64 < (i + 1) * k / 64

/-- R53, R397: the present issue slot of a tile's stack is granted. -/
def State.slotGranted (s : State) (n : Nat) : Bool :=
  let t := BitVec.ofNat 2 (n / 256)
  limGrants (RF.at s.pow.stks t).k (RF.at s.clk.scSlot t).toNat

/-- R38: the operand blocks and, with MX, the scales of a step are read. -/
def State.stepCe (s : State) (n : Nat) (o : MatOp) (aAddr bAddr : Nat) : State :=
  let d := o.desc
  let m := o.done * stepDepth (descFmtA d) / 32
  let s := (s.sramCe n aAddr (stepBytes (descFmtA d))).sramCe n bAddr (stepBytes (descFmtB d))
  if descMx d then (s.sramCe n ((descWord d 5).toNat + 4 * m) 4).sramCe n ((descWord d 6).toNat + 4 * m) 4 else s

/-- MATRIX_STEP_ADMIT: the limiter grants a slot, and the next depth step of the first operation whose set is not
claimed by an earlier one is performed (R52, R53, R121, R127, R134). -/
def execMatrixStepAdmit (n : Nat) (s : State) : Res :=
  s.withTile n (fun t =>
    match (if s.slotGranted n then firstReady (fun k => k = .mma || k = .mmaz) t.matQ else none) with
    | none => s
    | some (i, o) =>
      let d := o.desc
      let aAddr := (o.aa.toNat + o.done * stepBytes (descFmtA d)) % 2 ^ 20
      let bAddr := (o.ab.toNat + o.done * stepBytes (descFmtB d)) % 2 ^ 20
      let acc := if o.kind = .mmaz && o.done == 0 then AccSet.zeroed d else RF.at t.acc o.set
      if o.kind = .mma && o.done == 0 && acc.fp64 != descFp64 d then s.tileFault n faultBadDescriptor
      else if aAddr % 32 ≠ 0 ∨ bAddr % 32 ≠ 0 then s.tileFault n faultMisaligned
      else if stepBad t o aAddr bAddr then s.tileFault n faultSramUc
      else
        let acc := acc.step t o (t.read aAddr (stepBytes (descFmtA d))) (t.read bAddr (stepBytes (descFmtB d)))
        let q := if o.done + 1 = o.count then t.matQ.eraseIdx i
          else t.matQ.set i { o with done := o.done + 1 }
        (s.stepCe n o aAddr bAddr).setTile n
          { t.setAcc o.set acc with matQ := q })

/-- R57: the bytes of an output row: four elements of FMT_OUT. -/
def rowBytes (fmtOut : Nat) : Nat := 4 * fmtBits fmtOut / 8

/-- R57: the unit of alignment of an output row. -/
def rowAlign (fmtOut : Nat) : Nat := if fmtOut = 14 then 16 else rowBytes fmtOut

/-- R57: an address and a row stride fit an output format. -/
def rowsAligned (fmtOut addr stride : Nat) : Bool :=
  addr % rowAlign fmtOut == 0 && stride % rowAlign fmtOut == 0 && rowBytes fmtOut ≤ stride

/-- R131, R136: the code of one element written out. -/
def outElem (o : MatOp) (acc : AccSet) (e : Nat) : Nat :=
  let d := o.desc
  let k := BitVec.ofNat 4 e
  if acc.fp64 then (RF.at acc.fp k).toNat
  else if descFmtOut d = 14 then (RF.at acc.xa k).image
  else roundVal (descFmtOut d) false false (descRnd d) (descSat d) (draws o.g (e + 1)) false (RF.at acc.xa k).val

/-- The bytes of row `i` of an output. -/
def outRow (o : MatOp) (acc : AccSet) (i : Nat) : List Byte :=
  (List.range 4).flatMap (fun j => natLE (fmtBits (descFmtOut o.desc) / 8) (outElem o acc (4 * i + j)))

/-- R54: write the four rows of an output. -/
def Tile.writeRows (t : Tile) (o : MatOp) (acc : AccSet) : Tile :=
  (List.range 4).foldl (fun t i => t.write (o.ac.toNat + i * (descWord o.desc 4).toNat) (outRow o acc i)) t

/-- R56, R126: a set loaded from memory. -/
def loadSet (t : Tile) (o : MatOp) : AccSet :=
  let d := o.desc
  let w := if descFp64 d then 8 else 80
  let at' := fun (e : Nat) => t.read (o.aa.toNat + (e / 4) * (descWord d 4).toNat + (e % 4) * w) w
  if descFp64 d then { AccSet.zero with fp64 := true, fp := Vector.ofFn (fun e => BitVec.ofNat 64 (at' e.val)) }
  else { AccSet.zero with xa := Vector.ofFn (fun e => Xa.ofImage (at' e.val)) }

/-- R38: whether the rows of a load touch an uncorrectable word. -/
def rowsBad (t : Tile) (o : MatOp) (w : Nat) : Bool :=
  (List.range 4).any (fun i => t.bad ((o.aa.toNat + i * (descWord o.desc 4).toNat) % 2 ^ 20) w)

/-- R38: the rows of a load are read. -/
def State.rowsCe (s : State) (n : Nat) (o : MatOp) (w : Nat) : State :=
  (List.range 4).foldl (fun s i => s.sramCe n ((o.aa.toNat + i * (descWord o.desc 4).toNat) % 2 ^ 20) w) s

/-- MATRIX_OP_START: a queued MOUT, MOUTZ, MZERO or MLOAD whose set no earlier operation claims starts and takes its
effect (R54, R57, R120 to R122, R131, R136). -/
def execMatrixOpStart (n : Nat) (s : State) : Res :=
  s.withTile n (fun t =>
    match firstReady (fun k => k = .mout || k = .moutz || k = .mzero || k = .mload) t.matQ with
    | none => s
    | some (i, o) =>
      let d := o.desc
      let acc := RF.at t.acc o.set
      let stride := (descWord d 4).toNat
      let t := { t with matQ := t.matQ.eraseIdx i }
      match o.kind with
      | .mzero => s.setTile n (t.setAcc o.set (AccSet.zeroed d))
      | .mload =>
        let f := if descFp64 d then 0 else 14
        if rowsAligned f o.aa.toNat stride = false then s.tileFault n faultMisaligned
        else if rowsBad t o (rowBytes f) then s.tileFault n faultSramUc
        else (s.rowsCe n o (rowBytes f)).setTile n (t.setAcc o.set (loadSet t o))
      | k =>
        if acc.fp64 != descFp64 d then s.tileFault n faultBadDescriptor
        else if rowsAligned (descFmtOut d) o.ac.toNat stride = false then s.tileFault n faultMisaligned
        else
          let t := t.writeRows o acc
          s.setTile n (if k = .moutz then t.setAcc o.set { AccSet.zero with fp64 := acc.fp64 } else t))

end Sys2Proof.Machine
end

