-- ==== Sys2Proof/Machine/TileVec.lean ====
section
/-! DEFINITION. The vector slot and the vector unit (R58 to R60, R100, R107 to R116, R138, R618, R619). -/

namespace Sys2Proof.Machine

/-! ### Hazards and writing back -/

def Tile.vPending (t : Tile) (r : BitVec 5) : Bool := t.vPend.any (fun p => match p with | .reg q _ => q = r | _ => false)
def Tile.pPending (t : Tile) (r : BitVec 2) : Bool := t.vPend.any (fun p => match p with | .pred q _ => q = r | _ => false)

/-- R42: a vector operation issues on a running tile when no register or predicate that it reads or writes has a write
pending; a form that R46, R58, R110 or R618 refuses stops the tile. -/
def vecIssue (n : Nat) (s : State) (vs : List (BitVec 5)) (ps : List (BitVec 2)) (legal : Bool) (f : Tile → State) : Res :=
  s.withTile n (fun t =>
    if legal = false then s.tileFault n faultIllegalOp
    else if vs.any t.vPending || ps.any t.pPending then s
    else f t)

/-- The predicate's mask: P0 enables all lanes (R58). -/
def Tile.mask (t : Tile) (p : BitVec 2) : W32 := if p = 0 then BitVec.allOnes 32 else RF.at t.p p

/-- R60: the result waits for its latency. -/
def Tile.pendV (t : Tile) (r : BitVec 5) (v : BitVec 1024) : Tile := { t with vPend := t.vPend ++ [.reg r v] }

/-- R58, R618: result lanes into VD under the predicate. -/
def Tile.pendLanes (t : Tile) (v : VecSlot) (f : Nat → Nat) : Tile :=
  t.pendV v.vd (mergeLanes v.vfmt.toNat (t.mask v.pred) (RF.at t.v v.vd) f)

/-- Lane `i` of a register. -/
def Tile.lane (t : Tile) (v : VecSlot) (r : BitVec 5) (i : Nat) : Nat := laneOf (laneBits v.vfmt.toNat) (RF.at t.v r) i

/-- VECTOR_RESULT_WRITE: a result is written after its latency (R60). -/
def execVectorResultWrite (n idx : Nat) (s : State) : Res :=
  let t := s.tile n
  match t.vPend[idx]? with
  | none => .next s
  | some p =>
    let u := { t with vPend := t.vPend.eraseIdx idx }
    .next (s.setTile n (match p with
      | .reg r v => { u with v := RF.put u.v r v }
      | .pred r m => { u with p := RF.put u.p r m }))

/-! ### Arithmetic -/

/-- R58: the formats of arithmetic. -/
def arithFmt (f : BitVec 4) : Bool := f = 0 || f = 1 || f = 11
def floatFmt (f : BitVec 4) : Bool := f = 0 || f = 1

/-- R107: one draw per lane for an operation in SR mode on a floating format. -/
def Tile.laneDraws (t : Tile) (v : VecSlot) : Nat :=
  if t.rnd.toNat = srm ∧ floatFmt v.vfmt then laneCount v.vfmt.toNat else 0

/-- The draw of lane `i`. -/
def Tile.drawOf (t : Tile) (i : Nat) : W32 := draws t.g (i + 1)

/-- VNOP: none (R58). -/
def execVnop (_ : Nat) (_ : VecSlot) (s : State) : Res := .next s

/-- The shape of VADD, VSUB and VMUL. -/
def vecBin (op : Bin) (n : Nat) (v : VecSlot) (s : State) : Res :=
  vecIssue n s [v.va, v.vb, v.vd] [v.pred] (arithFmt v.vfmt) (fun t =>
    let u := t.pendLanes v (fun i =>
      binLane op v.vfmt.toNat t.rnd.toNat (t.drawOf i) (t.lane v v.va i) (t.lane v v.vb i))
    s.setTile n { u with g := draws t.g (t.laneDraws v) })

/-- VADD (R58). -/
def execVadd (n : Nat) (v : VecSlot) (s : State) : Res := vecBin .add n v s
/-- VSUB (R58). -/
def execVsub (n : Nat) (v : VecSlot) (s : State) : Res := vecBin .sub n v s
/-- VMUL (R58). -/
def execVmul (n : Nat) (v : VecSlot) (s : State) : Res := vecBin .mul n v s

/-- VFMA: VD := VA × VB + VC with one rounding (R58). -/
def execVfma (n : Nat) (v : VecSlot) (s : State) : Res :=
  vecIssue n s [v.va, v.vb, v.vc, v.vd] [v.pred] (arithFmt v.vfmt) (fun t =>
    let u := t.pendLanes v (fun i =>
      fmaLane v.vfmt.toNat t.rnd.toNat (t.drawOf i) (t.lane v v.va i) (t.lane v v.vb i) (t.lane v v.vc i))
    s.setTile n { u with g := draws t.g (t.laneDraws v) })

/-- An operation on the lanes of VA alone. -/
def vecUn (legal : Bool) (f : Nat → Nat) (n : Nat) (v : VecSlot) (s : State) : Res :=
  vecIssue n s [v.va, v.vd] [v.pred] legal (fun t => s.setTile n (t.pendLanes v (fun i => f (t.lane v v.va i))))

/-- An operation on the lanes of VA and VB. -/
def vecTwo (legal : Bool) (f : Nat → Nat → Nat) (n : Nat) (v : VecSlot) (s : State) : Res :=
  vecIssue n s [v.va, v.vb, v.vd] [v.pred] legal (fun t =>
    s.setTile n (t.pendLanes v (fun i => f (t.lane v v.va i) (t.lane v v.vb i))))

/-- VMIN (R100). -/
def execVmin (n : Nat) (v : VecSlot) (s : State) : Res := vecTwo (arithFmt v.vfmt) (minMaxLane false v.vfmt.toNat) n v s
/-- VMAX (R100). -/
def execVmax (n : Nat) (v : VecSlot) (s : State) : Res := vecTwo (arithFmt v.vfmt) (minMaxLane true v.vfmt.toNat) n v s
/-- VABS (R100). -/
def execVabs (n : Nat) (v : VecSlot) (s : State) : Res := vecUn (arithFmt v.vfmt) (absLane v.vfmt.toNat) n v s
/-- VNEG (R100). -/
def execVneg (n : Nat) (v : VecSlot) (s : State) : Res := vecUn (arithFmt v.vfmt) (negLane v.vfmt.toNat) n v s
/-- VRCP (R619). -/
def execVrcp (n : Nat) (v : VecSlot) (s : State) : Res := vecUn (floatFmt v.vfmt) (rcpLane v.vfmt.toNat) n v s
/-- VRSQ (R619). -/
def execVrsq (n : Nat) (v : VecSlot) (s : State) : Res := vecUn (floatFmt v.vfmt) (rsqLane v.vfmt.toNat) n v s
/-- VEXP2 (R619). -/
def execVexp2 (n : Nat) (v : VecSlot) (s : State) : Res := vecUn (floatFmt v.vfmt) (exp2Lane v.vfmt.toNat) n v s
/-- VLOG2 (R619). -/
def execVlog2 (n : Nat) (v : VecSlot) (s : State) : Res := vecUn (floatFmt v.vfmt) (log2Lane v.vfmt.toNat) n v s
/-- VAND (R58, R618). -/
def execVand (n : Nat) (v : VecSlot) (s : State) : Res := vecTwo (arithFmt v.vfmt) (fun a b => a &&& b) n v s
/-- VOR (R58, R618). -/
def execVor (n : Nat) (v : VecSlot) (s : State) : Res := vecTwo (arithFmt v.vfmt) (fun a b => a ||| b) n v s
/-- VXOR (R58, R618). -/
def execVxor (n : Nat) (v : VecSlot) (s : State) : Res := vecTwo (arithFmt v.vfmt) (fun a b => a ^^^ b) n v s
/-- VSHL (R618). -/
def execVshl (n : Nat) (v : VecSlot) (s : State) : Res :=
  vecTwo (arithFmt v.vfmt) (shlLane (laneBits v.vfmt.toNat)) n v s
/-- VSHR: arithmetic if VC[0] (R618). -/
def execVshr (n : Nat) (v : VecSlot) (s : State) : Res :=
  vecTwo (arithFmt v.vfmt) (shrLane (laneBits v.vfmt.toNat) (v.vc.getLsbD 0)) n v s

/-- VCMP: P[VD[1:0]] := VA rel VB on the enabled lanes; a write to P0 is ignored; relation 7 is not defined (R46, R58). With 16 lanes
the spec does not say what bits 16 to 31 of the predicate hold afterwards: the model leaves them as they were (log entry 150). -/
def execVcmp (n : Nat) (v : VecSlot) (s : State) : Res :=
  let pd : BitVec 2 := v.vd.setWidth 2
  let rel := v.vc.toNat % 8
  vecIssue n s [v.va, v.vb] [v.pred, pd] (arithFmt v.vfmt && rel != 7) (fun t =>
    if pd = 0 then s
    else
      let old := RF.at t.p pd
      let m := (List.range (laneCount v.vfmt.toNat)).foldl (fun m i =>
        if laneOn (t.mask v.pred) i then
          setField m i 1 (if cmpLane rel v.vfmt.toNat (t.lane v v.va i) (t.lane v v.vb i) then 1 else 0)
        else m) old.toNat
      s.setTile n { t with vPend := t.vPend ++ [.pred pd (BitVec.ofNat 32 m)] })

/-- VSEL: VD := P[VC[1:0]] ? VA : VB (R58). -/
def execVsel (n : Nat) (v : VecSlot) (s : State) : Res :=
  let ps : BitVec 2 := v.vc.setWidth 2
  vecIssue n s [v.va, v.vb, v.vd] [v.pred, ps] (arithFmt v.vfmt) (fun t =>
    s.setTile n (t.pendLanes v (fun i =>
      if laneOn (t.mask ps) i then t.lane v v.va i else t.lane v v.vb i)))

/-- VPERM: lane `i` := lane VB[i] of VA, 0 for an index beyond the lanes (R618). -/
def execVperm (n : Nat) (v : VecSlot) (s : State) : Res :=
  vecIssue n s [v.va, v.vb, v.vd] [v.pred] (arithFmt v.vfmt) (fun t =>
    s.setTile n (t.pendLanes v (fun i =>
      let k := t.lane v v.vb i
      if k < laneCount v.vfmt.toNat then t.lane v v.va k else 0)))

/-- VBCAST: all lanes := lane VB of VA; a VB beyond the lanes is ILLEGAL_OP (R58). -/
def execVbcast (n : Nat) (v : VecSlot) (s : State) : Res :=
  vecIssue n s [v.va, v.vd] [v.pred] (arithFmt v.vfmt && v.vb.toNat < laneCount v.vfmt.toNat) (fun t =>
    s.setTile n (t.pendLanes v (fun _ => t.lane v v.va v.vb.toNat)))

/-- VRED: lane 0 := the sum of all lanes by the fixed tree, the others 0 (R138, R107). -/
def execVred (n : Nat) (v : VecSlot) (s : State) : Res :=
  vecIssue n s [v.va, v.vd] [v.pred] (arithFmt v.vfmt) (fun t =>
    let k := laneCount v.vfmt.toNat
    let x := redTree v.vfmt.toNat t.rnd.toNat (if k = 16 then 4 else 5) t.g ((List.range k).map (t.lane v v.va))
    let u := t.pendLanes v (fun i => if i = 0 then x else 0)
    s.setTile n { u with g := if t.laneDraws v = 0 then t.g else draws t.g (k - 1) })

/-! ### Loads and stores (R58, R618) -/

/-- The address of VLD and VST: A[VA[3:0]] + sext(VB:VC) × 128, modulo 2^20. -/
def Tile.vecAddr (t : Tile) (v : VecSlot) : Nat :=
  let off : BitVec 10 := v.vb ++ v.vc
  (RF.at t.a (v.va.setWidth 4) + (off.signExtend 20 <<< 7)).toNat

/-- VLD: VD := 128 B at the address, lanes under the predicate. -/
def execVld (n : Nat) (v : VecSlot) (s : State) : Res :=
  vecIssue n s [v.vd] [v.pred] (v.vfmt != 14) (fun t =>
    let a := t.vecAddr v
    if a % 128 ≠ 0 then s.tileFault n faultMisaligned
    else if t.bad a 128 then s.tileFault n faultSramUc
    else
      let w := t.read a 128
      (s.sramCe n a 128).setTile n (t.pendLanes v (fun i => (w >>> (i * laneBits v.vfmt.toNat)))))

/-- VST: 128 B at the address := VD, lanes under the predicate. -/
def execVst (n : Nat) (v : VecSlot) (s : State) : Res :=
  vecIssue n s [v.vd] [v.pred] (v.vfmt != 14) (fun t =>
    let a := t.vecAddr v
    if a % 128 ≠ 0 then s.tileFault n faultMisaligned
    else
      let b := laneBits v.vfmt.toNat / 8
      s.setTile n (t.writeMasked a (natLE 128 (RF.at t.v v.vd).toNat) (fun i => laneOn (t.mask v.pred) (i / b))))

/-! ### Conversions (R108 to R116) -/

/-- R109: how many groups of 32 a packed register holds; FP64 holds one group of 16. -/
def groupsOf (f : Nat) : Nat :=
  match f with
  | 0 => 1 | 1 => 1 | 2 => 1 | 11 => 1 | 3 => 2 | 4 => 2 | 5 => 4 | 6 => 4 | 12 => 4 | 7 => 5 | 8 => 5 | 9 => 8 | 13 => 8
  | _ => 0

def scaleReg (v : VecSlot) : BitVec 5 := v.vc >>> 2
def convUns (v : VecSlot) : Bool := v.vc.getLsbD 1
def convTo64 (v : VecSlot) : Bool := v.vc.getLsbD 0

/-- R110: the conditions on VFMT, UNS and SCALE_REG that both conversions share. -/
def convLegal (v : VecSlot) : Bool :=
  let f := v.vfmt.toNat
  f != 14 && f != 15 && (!convUns v || f == 12 || f == 13) && (scaleReg v == 0 || (isMxFmt f false && !convUns v))

/-- R110: the range of VB for VCVTI. -/
def cvtiRange (v : VecSlot) : Nat :=
  let f := v.vfmt.toNat
  if f = 0 then 1 else if convTo64 v then 2 * groupsOf f else groupsOf f

/-- R111: the scale byte, VB of the register that SCALE_REG names. -/
def Tile.scaleByte (t : Tile) (v : VecSlot) : Nat := laneOf 8 (RF.at t.v (scaleReg v)) v.vb.toNat

/-- R109: elements of the group that VCVTI converts. -/
def cvtiCount (v : VecSlot) : Nat := if v.vfmt = 0 ∨ convTo64 v then 16 else 32

/-- One element of VCVTI. An element that is -0 gives +0: R98 has every exact zero so, though the example after R116 says that such an
element reads back as -0 (log entry 151). -/
def Tile.cvtiElem (t : Tile) (v : VecSlot) (i : Nat) : Nat :=
  let f := v.vfmt.toNat
  let target := if convTo64 v then 0 else 1
  let e := elemOf f (RF.at t.v v.va).toNat (v.vb.toNat * cvtiCount v + i)
  let x := if scaleReg v = 0 then decodeVal f (convUns v) e
    else if t.scaleByte v = 255 then .nan
    else (decodeMx f e).scale ((t.scaleByte v : Int) - 127)
  roundVal target false false t.rnd.toNat false (t.drawOf i) false x

/-- The registers that a conversion reads beside VA and VD. -/
def convRegs (v : VecSlot) : List (BitVec 5) := if scaleReg v = 0 then [v.va, v.vd] else [v.va, v.vd, scaleReg v]

/-- VCVTI: VD := element group VB of VA, converted to FP32 or FP64 (R108 to R111). -/
def execVcvti (n : Nat) (v : VecSlot) (s : State) : Res :=
  vecIssue n s (convRegs v) [v.pred] (convLegal v && v.vfmt != 10 && v.vb.toNat < cvtiRange v) (fun t =>
    let target : Nat := if convTo64 v then 0 else 1
    let out := mergeLanes target (t.mask v.pred) (RF.at t.v v.vd) (fun i => if i < cvtiCount v then t.cvtiElem v i else 0)
    s.setTile n { t.pendV v.vd out with g := if t.rnd.toNat = srm then draws t.g (cvtiCount v) else t.g })

/-- R115: the exponent of the largest power of two of an element format. -/
def mxEmax (f : Nat) : Int := match f with | 5 => 8 | 6 => 15 | 7 => 4 | 8 => 2 | 9 => 2 | _ => 0

/-- The larger magnitude of two finite values, as mantissa and exponent. -/
def maxMag (a b : Nat × Int) : Nat × Int :=
  let u := min a.2 b.2
  if a.1 <<< (a.2 - u).toNat < b.1 <<< (b.2 - u).toNat then b else a

/-- R115: the MX scale of a block of values. -/
def mxScale (f : Nat) (vs : List Val) : Nat :=
  if vs.any (fun x => match x with | .fin .. => false | _ => true) then 0xFF
  else
    let (m, e) := vs.foldl (fun a x => match x with | .fin _ m e => maxMag a (m, e) | _ => a) ((0, 0) : Nat × Int)
    if m = 0 then 0
    else
      let k := (flog2 m : Int) + e - mxEmax f + 127
      (if k < 0 then 0 else if 254 < k then 254 else k).toNat

/-- R111: one element of VCVTO. -/
def Tile.cvtoElem (t : Tile) (v : VecSlot) (i : Nat) : Nat :=
  let f := v.vfmt.toNat
  let x := decodeVal 1 false (laneOf 32 (RF.at t.v v.va) i)
  let mx := scaleReg v != 0
  let x := if mx then (if t.scaleByte v = 255 then .nan else x.scale (127 - (t.scaleByte v : Int))) else x
  roundVal f (convUns v) mx t.rnd.toNat (5 ≤ f) (t.drawOf i) false x

/-- R109: elements of the group that VCVTO writes. -/
def cvtoCount (v : VecSlot) : Nat := if v.vfmt = 0 then 16 else 32

/-- VCVTO into an element format: element group VB of VD := VA converted (R108 to R111). -/
def Tile.cvtoGroup (t : Tile) (v : VecSlot) : Tile :=
  let w := fmtBits v.vfmt.toNat
  let k := cvtoCount v
  let out := (List.range k).foldl (fun r i =>
    if laneOn (t.mask v.pred) i then setField r ((v.vb.toNat * k + i) * w) w (t.cvtoElem v i) else r)
    (RF.at t.v v.vd).toNat
  { t.pendV v.vd (BitVec.ofNat 1024 out) with g := if t.rnd.toNat = srm then draws t.g k else t.g }

/-- VCVTO with VFMT = 10: the MX scale of the lanes of VA into one byte of VD (R112, R115). -/
def Tile.cvtoScale (t : Tile) (v : VecSlot) : Tile :=
  let f := v.vc.toNat / 2
  let sc := mxScale f ((List.range 32).map (fun i => decodeVal 1 false (laneOf 32 (RF.at t.v v.va) i)))
  t.pendV v.vd (BitVec.ofNat 1024
    (setField (RF.at t.v v.vd).toNat (8 * (v.pred.toNat * 32 + v.vb.toNat)) 8 sc))

/-- VCVTO (R108 to R112). -/
def execVcvto (n : Nat) (v : VecSlot) (s : State) : Res :=
  if v.vfmt = 10 then
    vecIssue n s [v.va, v.vd] [] (isMxFmt (v.vc.toNat / 2) false && !v.vc.getLsbD 0) (fun t => s.setTile n (t.cvtoScale v))
  else
    vecIssue n s (convRegs v) [v.pred] (convLegal v && !v.vc.getLsbD 0 && v.vb.toNat < groupsOf v.vfmt.toNat)
      (fun t => s.setTile n (t.cvtoGroup v))

end Sys2Proof.Machine
end

