-- ==== Sys2Proof/Machine/Dispatch.lean ====
section
/-! DEFINITION. One arm per command: the call of its meaning. -/

namespace Sys2Proof.Machine

def exec (i : Instr) (s : State) : Host.Outcome State Fault Refusal :=
  match i with
  | .powerOnResetRelease floe0 => Sys2Proof.Machine.execPowerOnResetRelease floe0 s
  | .powerLoss => Sys2Proof.Machine.execPowerLoss s
  | .railOutOfTolerance rail => Sys2Proof.Machine.execRailOutOfTolerance rail s
  | .perstNAssert => Sys2Proof.Machine.execPerstNAssert s
  | .perstNRelease rackpos floe0 => Sys2Proof.Machine.execPerstNRelease rackpos floe0 s
  | .discovery found => Sys2Proof.Machine.execDiscovery found s
  | .discoveryTimeout => Sys2Proof.Machine.execDiscoveryTimeout s
  | .loadChunkSubmit ctrl bytes => Sys2Proof.Machine.execLoadChunkSubmit ctrl bytes s
  | .loadChunkTake => Sys2Proof.Machine.execLoadChunkTake s
  | .loadChunkTimeout => Sys2Proof.Machine.execLoadChunkTimeout s
  | .imageVerify sigOk => Sys2Proof.Machine.execImageVerify sigOk s
  | .aliasKeyReady => Sys2Proof.Machine.execAliasKeyReady s
  | .thawProceed src => Sys2Proof.Machine.execThawProceed src s
  | .thawProceedTimeout => Sys2Proof.Machine.execThawProceedTimeout s
  | .calRestore src => Sys2Proof.Machine.execCalRestore src s
  | .calRunComplete item elem run order discard ends => Sys2Proof.Machine.execCalRunComplete item elem run order discard ends s
  | .restoreCheckRun item elem run ends => Sys2Proof.Machine.execRestoreCheckRun item elem run ends s
  | .marginPlan ageD sweep targets eyes => Sys2Proof.Machine.execMarginPlan ageD sweep targets eyes s
  | .thawEnd => Sys2Proof.Machine.execThawEnd s
  | .softReset src => Sys2Proof.Machine.execSoftReset src s
  | .softResetBegin => Sys2Proof.Machine.execSoftResetBegin s
  | .flr => Sys2Proof.Machine.execFlr s
  | .pcieHotReset => Sys2Proof.Machine.execPcieHotReset s
  | .pcieLinkDown => Sys2Proof.Machine.execPcieLinkDown s
  | .iceboundEntry => Sys2Proof.Machine.execIceboundEntry s
  | .lastFatalWrite => Sys2Proof.Machine.execLastFatalWrite s
  | .mbxPoll head msgs => Sys2Proof.Machine.execMbxPoll head msgs s
  | .mbxD2hTailWrite tail => Sys2Proof.Machine.execMbxD2hTailWrite tail s
  | .heartbeat => Sys2Proof.Machine.execHeartbeat s
  | .heartbeatTimeout => Sys2Proof.Machine.execHeartbeatTimeout s
  | .driftPeriodExpire => Sys2Proof.Machine.execDriftPeriodExpire s
  | .attach => Sys2Proof.Machine.execAttach s
  | .submit => Sys2Proof.Machine.execSubmit s
  | .abort => Sys2Proof.Machine.execAbort s
  | .schedCycleStart => Sys2Proof.Machine.execSchedCycleStart s
  | .programStart tag => Sys2Proof.Machine.execProgramStart tag s
  | .startReserve tag => Sys2Proof.Machine.execStartReserve tag s
  | .startFtimeReached tag => Sys2Proof.Machine.execStartFtimeReached tag s
  | .sliceReportsComplete tag => Sys2Proof.Machine.execSliceReportsComplete tag s
  | .preemptAllHeld tag => Sys2Proof.Machine.execPreemptAllHeld tag s
  | .contextSaveComplete tag => Sys2Proof.Machine.execContextSaveComplete tag s
  | .sliceTimeout tag => Sys2Proof.Machine.execSliceTimeout tag s
  | .programResume tag => Sys2Proof.Machine.execProgramResume tag s
  | .phaseBarrierRelease tag => Sys2Proof.Machine.execPhaseBarrierRelease tag s
  | .governorPhaseUpdate tag energy => Sys2Proof.Machine.execGovernorPhaseUpdate tag energy s
  | .governorBarrierTimeout tag => Sys2Proof.Machine.execGovernorBarrierTimeout tag s
  | .programEnd tag cycles => Sys2Proof.Machine.execProgramEnd tag cycles s
  | .firnDrainWalkEnd slot => Sys2Proof.Machine.execFirnDrainWalkEnd slot s
  | .tileAbort tag => Sys2Proof.Machine.execTileAbort tag s
  | .tileFault tile code => Sys2Proof.Machine.execTileFault tile code s
  | .schedLeaseStop => Sys2Proof.Machine.execSchedLeaseStop s
  | .schedLeaseExpiry => Sys2Proof.Machine.execSchedLeaseExpiry s
  | .schedJournalRecord entry => Sys2Proof.Machine.execSchedJournalRecord entry s
  | .schedStateCopy agrees => Sys2Proof.Machine.execSchedStateCopy agrees s
  | .schedSwap src => Sys2Proof.Machine.execSchedSwap src s
  | .schedHandoverCopy => Sys2Proof.Machine.execSchedHandoverCopy s
  | .coreFailure core cause digestOk => Sys2Proof.Machine.execCoreFailure core cause digestOk s
  | .coreRestartComplete core => Sys2Proof.Machine.execCoreRestartComplete core s
  | .dictRead => Sys2Proof.Machine.execDictRead s
  | .dictWrite => Sys2Proof.Machine.execDictWrite s
  | .dictSessionAbandon key => Sys2Proof.Machine.execDictSessionAbandon key s
  | .dictLock src => Sys2Proof.Machine.execDictLock src s
  | .mctpSvaogMessage ep msg => Sys2Proof.Machine.execMctpSvaogMessage ep msg s
  | .bar0RegisterWrite addr size acc => Sys2Proof.Machine.execBar0RegisterWrite addr size acc s
  | .voteScrub found => Sys2Proof.Machine.execVoteScrub found s
  | .hostBar4BaseHiWrite al v => Sys2Proof.Machine.execHostBar4BaseHiWrite al v s
  | .cnop tile c => Sys2Proof.Machine.execCnop tile c s
  | .seta tile c => Sys2Proof.Machine.execSeta tile c s
  | .adda tile c => Sys2Proof.Machine.execAdda tile c s
  | .sets tile c => Sys2Proof.Machine.execSets tile c s
  | .shis tile c => Sys2Proof.Machine.execShis tile c s
  | .adds tile c => Sys2Proof.Machine.execAdds tile c s
  | .lds tile c => Sys2Proof.Machine.execLds tile c s
  | .sts tile c => Sys2Proof.Machine.execSts tile c s
  | .mova tile c => Sys2Proof.Machine.execMova tile c s
  | .movs tile c => Sys2Proof.Machine.execMovs tile c s
  | .br tile c => Sys2Proof.Machine.execBr tile c s
  | .loop tile c => Sys2Proof.Machine.execLoop tile c s
  | .wait tile c => Sys2Proof.Machine.execWait tile c s
  | .ccset tile c => Sys2Proof.Machine.execCcset tile c s
  | .ccst tile c => Sys2Proof.Machine.execCcst tile c s
  | .tfence tile c => Sys2Proof.Machine.execTfence tile c s
  | .ldmd tile c => Sys2Proof.Machine.execLdmd tile c s
  | .setrnd tile c => Sys2Proof.Machine.execSetrnd tile c s
  | .blk tile c => Sys2Proof.Machine.execBlk tile c s
  | .phase tile c => Sys2Proof.Machine.execPhase tile c s
  | .slice tile c => Sys2Proof.Machine.execSlice tile c s
  | .phaseDone tile c => Sys2Proof.Machine.execPhaseDone tile c s
  | .halt tile c => Sys2Proof.Machine.execHalt tile c s
  | .trap tile c => Sys2Proof.Machine.execTrap tile c s
  | .mnop tile m => Sys2Proof.Machine.execMnop tile m s
  | .mma tile m => Sys2Proof.Machine.execMma tile m s
  | .mmaz tile m => Sys2Proof.Machine.execMmaz tile m s
  | .mout tile m => Sys2Proof.Machine.execMout tile m s
  | .moutz tile m => Sys2Proof.Machine.execMoutz tile m s
  | .mzero tile m => Sys2Proof.Machine.execMzero tile m s
  | .mload tile m => Sys2Proof.Machine.execMload tile m s
  | .matrixStepAdmit tile => Sys2Proof.Machine.execMatrixStepAdmit tile s
  | .vnop tile v => Sys2Proof.Machine.execVnop tile v s
  | .vld tile v => Sys2Proof.Machine.execVld tile v s
  | .vst tile v => Sys2Proof.Machine.execVst tile v s
  | .vadd tile v => Sys2Proof.Machine.execVadd tile v s
  | .vsub tile v => Sys2Proof.Machine.execVsub tile v s
  | .vmul tile v => Sys2Proof.Machine.execVmul tile v s
  | .vfma tile v => Sys2Proof.Machine.execVfma tile v s
  | .vmin tile v => Sys2Proof.Machine.execVmin tile v s
  | .vmax tile v => Sys2Proof.Machine.execVmax tile v s
  | .vabs tile v => Sys2Proof.Machine.execVabs tile v s
  | .vneg tile v => Sys2Proof.Machine.execVneg tile v s
  | .vrcp tile v => Sys2Proof.Machine.execVrcp tile v s
  | .vrsq tile v => Sys2Proof.Machine.execVrsq tile v s
  | .vexp2 tile v => Sys2Proof.Machine.execVexp2 tile v s
  | .vlog2 tile v => Sys2Proof.Machine.execVlog2 tile v s
  | .vcmp tile v => Sys2Proof.Machine.execVcmp tile v s
  | .vsel tile v => Sys2Proof.Machine.execVsel tile v s
  | .vand tile v => Sys2Proof.Machine.execVand tile v s
  | .vor tile v => Sys2Proof.Machine.execVor tile v s
  | .vxor tile v => Sys2Proof.Machine.execVxor tile v s
  | .vshl tile v => Sys2Proof.Machine.execVshl tile v s
  | .vshr tile v => Sys2Proof.Machine.execVshr tile v s
  | .vcvti tile v => Sys2Proof.Machine.execVcvti tile v s
  | .vcvto tile v => Sys2Proof.Machine.execVcvto tile v s
  | .vred tile v => Sys2Proof.Machine.execVred tile v s
  | .vperm tile v => Sys2Proof.Machine.execVperm tile v s
  | .vbcast tile v => Sys2Proof.Machine.execVbcast tile v s
  | .snop tile x => Sys2Proof.Machine.execSnop tile x s
  | .ssend tile x => Sys2Proof.Machine.execSsend tile x s
  | .srecv tile x => Sys2Proof.Machine.execSrecv tile x s
  | .spass tile x => Sys2Proof.Machine.execSpass tile x s
  | .spassw tile x => Sys2Proof.Machine.execSpassw tile x s
  | .frd tile x => Sys2Proof.Machine.execFrd tile x s
  | .fwr tile x => Sys2Proof.Machine.execFwr tile x s
  | .gld tile x => Sys2Proof.Machine.execGld tile x s
  | .gst tile x => Sys2Proof.Machine.execGst tile x s
  | .gat tile x => Sys2Proof.Machine.execGat tile x s
  | .gstf tile x => Sys2Proof.Machine.execGstf tile x s
  | .ffl tile x => Sys2Proof.Machine.execFfl tile x s
  | .fiv tile x => Sys2Proof.Machine.execFiv tile x s
  | .flitArrive tile dir => Sys2Proof.Machine.execFlitArrive tile dir s
  | .streamOpComplete tile => Sys2Proof.Machine.execStreamOpComplete tile s
  | .runaheadIssue tile => Sys2Proof.Machine.execRunaheadIssue tile s
  | .runaheadReply tile req => Sys2Proof.Machine.execRunaheadReply tile req s
  | .tileZeroComplete tile => Sys2Proof.Machine.execTileZeroComplete tile s
  | .firnRequest tile runAhead ecc => Sys2Proof.Machine.execFirnRequest tile runAhead ecc s
  | .firnMergeWindowClose stack line => Sys2Proof.Machine.execFirnMergeWindowClose stack line s
  | .firnFillComplete stack line => Sys2Proof.Machine.execFirnFillComplete stack line s
  | .firnSliceZeroComplete slice => Sys2Proof.Machine.execFirnSliceZeroComplete slice s
  | .firnFlush => Sys2Proof.Machine.execFirnFlush s
  | .frnMaintFlush stack mask => Sys2Proof.Machine.execFrnMaintFlush stack mask s
  | .frnMaintFlushInvalidate stack mask => Sys2Proof.Machine.execFrnMaintFlushInvalidate stack mask s
  | .frnMaintEnd stack => Sys2Proof.Machine.execFrnMaintEnd stack s
  | .vbBeatReplay stack bundle pos => Sys2Proof.Machine.execVbBeatReplay stack bundle pos s
  | .vbEyeMeasure stack bundle pos eye => Sys2Proof.Machine.execVbEyeMeasure stack bundle pos eye s
  | .vbChannelFailing stack bundle pos => Sys2Proof.Machine.execVbChannelFailing stack bundle pos s
  | .vbRemapComplete stack bundle => Sys2Proof.Machine.execVbRemapComplete stack bundle s
  | .retiredListStoreWrite => Sys2Proof.Machine.execRetiredListStoreWrite s
  | .tileRetiredListWrite src => Sys2Proof.Machine.execTileRetiredListWrite src s
  | .hbmAccess stack addr op found => Sys2Proof.Machine.execHbmAccess stack addr op found s
  | .hbmTempRead stack temp => Sys2Proof.Machine.execHbmTempRead stack temp s
  | .hbmRefresh stack bank => Sys2Proof.Machine.execHbmRefresh stack bank s
  | .hbmScrubRead stack found => Sys2Proof.Machine.execHbmScrubRead stack found s
  | .hbmStackFail stack => Sys2Proof.Machine.execHbmStackFail stack s
  | .hbmPortSilentTimeout stack => Sys2Proof.Machine.execHbmPortSilentTimeout stack s
  | .hbmPhyRelockTimeout stack => Sys2Proof.Machine.execHbmPhyRelockTimeout stack s
  | .emitterSample bank em meas margins => Sys2Proof.Machine.execEmitterSample bank em meas margins s
  | .emitterSpareLocked bank spare => Sys2Proof.Machine.execEmitterSpareLocked bank spare s
  | .swapSlot owner => Sys2Proof.Machine.execSwapSlot owner s
  | .emitterSwapComplete bank em => Sys2Proof.Machine.execEmitterSwapComplete bank em s
  | .serviceEmitterFail bank => Sys2Proof.Machine.execServiceEmitterFail bank s
  | .ringTrackingError chan rx => Sys2Proof.Machine.execRingTrackingError chan rx s
  | .serviceSlotStart owner => Sys2Proof.Machine.execServiceSlotStart owner s
  | .slotNotice ev => Sys2Proof.Machine.execSlotNotice ev s
  | .serviceSlotJudge chan rx vals margin => Sys2Proof.Machine.execServiceSlotJudge chan rx vals margin s
  | .serviceSlotEnd chan rx => Sys2Proof.Machine.execServiceSlotEnd chan rx s
  | .slotRequest h chan => Sys2Proof.Machine.execSlotRequest h chan s
  | .marginReport ev => Sys2Proof.Machine.execMarginReport ev s
  | .lightLoss port fibreB => Sys2Proof.Machine.execLightLoss port fibreB s
  | .fibreDown port fibreB => Sys2Proof.Machine.execFibreDown port fibreB s
  | .launchGateClose port fibreB silent => Sys2Proof.Machine.execLaunchGateClose port fibreB silent s
  | .launchGateClosed port fibreB => Sys2Proof.Machine.execLaunchGateClosed port fibreB s
  | .lightReturn port fibreB => Sys2Proof.Machine.execLightReturn port fibreB s
  | .probeBurst port fibreB => Sys2Proof.Machine.execProbeBurst port fibreB s
  | .probe h heard => Sys2Proof.Machine.execProbe h heard s
  | .ident h dev port fibreB dom => Sys2Proof.Machine.execIdent h dev port fibreB dom s
  | .wiringRecheck port => Sys2Proof.Machine.execWiringRecheck port s
  | .linkTrainingComplete port margins sites => Sys2Proof.Machine.execLinkTrainingComplete port margins sites s
  | .phoSteerGo src => Sys2Proof.Machine.execPhoSteerGo src s
  | .phoSteerCmdGo al v => Sys2Proof.Machine.execPhoSteerCmdGo al v s
  | .steerPropose h gen t groups => Sys2Proof.Machine.execSteerPropose h gen t groups s
  | .steerAnswer h gen accept => Sys2Proof.Machine.execSteerAnswer h gen accept s
  | .steerDecide => Sys2Proof.Machine.execSteerDecide s
  | .steerApply => Sys2Proof.Machine.execSteerApply s
  | .groupStart group => Sys2Proof.Machine.execGroupStart group s
  | .lsrIntlkNAssert => Sys2Proof.Machine.execLsrIntlkNAssert s
  | .lsrIntlkNRelease => Sys2Proof.Machine.execLsrIntlkNRelease s
  | .frameReceive lane errs hdr items => Sys2Proof.Machine.execFrameReceive lane errs hdr items s
  | .frameSkipTimeout stream => Sys2Proof.Machine.execFrameSkipTimeout stream s
  | .creditFlit port => Sys2Proof.Machine.execCreditFlit port s
  | .creditSend port => Sys2Proof.Machine.execCreditSend port s
  | .credit hdr flit => Sys2Proof.Machine.execCredit hdr flit s
  | .packetStart port idle stallNs darkNs => Sys2Proof.Machine.execPacketStart port idle stallNs darkNs s
  | .packetForward port ch => Sys2Proof.Machine.execPacketForward port ch s
  | .headBusyTimeout port ch => Sys2Proof.Machine.execHeadBusyTimeout port ch s
  | .ldReq req => Sys2Proof.Machine.execLdReq req s
  | .ldRspS port ch => Sys2Proof.Machine.execLdRspS port ch s
  | .ldRsp port ch => Sys2Proof.Machine.execLdRsp port ch s
  | .stS req => Sys2Proof.Machine.execStS req s
  | .stReq req => Sys2Proof.Machine.execStReq req s
  | .stfS req => Sys2Proof.Machine.execStfS req s
  | .stf req => Sys2Proof.Machine.execStf req s
  | .ack port ch => Sys2Proof.Machine.execAck port ch s
  | .atomic req => Sys2Proof.Machine.execAtomic req s
  | .syncQuery port ch => Sys2Proof.Machine.execSyncQuery port ch s
  | .atRsp port ch => Sys2Proof.Machine.execAtRsp port ch s
  | .xput port ch => Sys2Proof.Machine.execXput port ch s
  | .xputAck port ch => Sys2Proof.Machine.execXputAck port ch s
  | .xget port ch => Sys2Proof.Machine.execXget port ch s
  | .xgetRsp port ch => Sys2Proof.Machine.execXgetRsp port ch s
  | .xmsg port ch => Sys2Proof.Machine.execXmsg port ch s
  | .xmsgAck port ch => Sys2Proof.Machine.execXmsgAck port ch s
  | .coll req => Sys2Proof.Machine.execColl req s
  | .collCtl req => Sys2Proof.Machine.execCollCtl req s
  | .mgmt ev => Sys2Proof.Machine.execMgmt ev s
  | .mgmtRsp port ch => Sys2Proof.Machine.execMgmtRsp port ch s
  | .mgmtResendTimeout tag => Sys2Proof.Machine.execMgmtResendTimeout tag s
  | .requestTimeout id => Sys2Proof.Machine.execRequestTimeout id s
  | .requestLastChance id => Sys2Proof.Machine.execRequestLastChance id s
  | .busyResend id => Sys2Proof.Machine.execBusyResend id s
  | .resyncQuerySend eng dest => Sys2Proof.Machine.execResyncQuerySend eng dest s
  | .resyncDuplicateResend id => Sys2Proof.Machine.execResyncDuplicateResend id s
  | .flaggedStoreSend id => Sys2Proof.Machine.execFlaggedStoreSend id s
  | .neighbourPortsDown dev => Sys2Proof.Machine.execNeighbourPortsDown dev s
  | .neighbourLostLocal dev => Sys2Proof.Machine.execNeighbourLostLocal dev s
  | .peerDown hdr payload => Sys2Proof.Machine.execPeerDown hdr payload s
  | .routeUpdate hdr payload => Sys2Proof.Machine.execRouteUpdate hdr payload s
  | .routeAck hdr payload => Sys2Proof.Machine.execRouteAck hdr payload s
  | .routeSegmentResend => Sys2Proof.Machine.execRouteSegmentResend s
  | .routeUpdateActivate => Sys2Proof.Machine.execRouteUpdateActivate s
  | .mgmtAliveSend => Sys2Proof.Machine.execMgmtAliveSend s
  | .mgmtAlive hdr payload => Sys2Proof.Machine.execMgmtAlive hdr payload s
  | .mgmtSilentTimeout dev => Sys2Proof.Machine.execMgmtSilentTimeout dev s
  | .dmClaimSend => Sys2Proof.Machine.execDmClaimSend s
  | .dmClaim hdr payload => Sys2Proof.Machine.execDmClaim hdr payload s
  | .dmAck hdr payload => Sys2Proof.Machine.execDmAck hdr payload s
  | .dmRenewSend => Sys2Proof.Machine.execDmRenewSend s
  | .dmRenew hdr payload => Sys2Proof.Machine.execDmRenew hdr payload s
  | .dmRenewAck hdr payload => Sys2Proof.Machine.execDmRenewAck hdr payload s
  | .dmHolderExpiry => Sys2Proof.Machine.execDmHolderExpiry s
  | .dmMgmtCycle => Sys2Proof.Machine.execDmMgmtCycle s
  | .dmCopy hdr payload agrees => Sys2Proof.Machine.execDmCopy hdr payload agrees s
  | .dmCopyReport hdr payload => Sys2Proof.Machine.execDmCopyReport hdr payload s
  | .dmSwap src => Sys2Proof.Machine.execDmSwap src s
  | .dmSwapPeriodExpire => Sys2Proof.Machine.execDmSwapPeriodExpire s
  | .timeExchangeSend port => Sys2Proof.Machine.execTimeExchangeSend port s
  | .timeReq h turn => Sys2Proof.Machine.execTimeReq h turn s
  | .timeResp h t2 t3 ftState hops => Sys2Proof.Machine.execTimeResp h t2 t3 ftState hops s
  | .calTrimUpdate tb plls => Sys2Proof.Machine.execCalTrimUpdate tb plls s
  | .syncPpsEdge => Sys2Proof.Machine.execSyncPpsEdge s
  | .ftWrapTest src => Sys2Proof.Machine.execFtWrapTest src s
  | .freqAnnounce src => Sys2Proof.Machine.execFreqAnnounce src s
  | .freqAck src => Sys2Proof.Machine.execFreqAck src s
  | .freqSupplyCommand => Sys2Proof.Machine.execFreqSupplyCommand s
  | .freqChangeStart => Sys2Proof.Machine.execFreqChangeStart s
  | .freqChangeEnd => Sys2Proof.Machine.execFreqChangeEnd s
  | .pllLossOfLock d => Sys2Proof.Machine.execPllLossOfLock d s
  | .pllRelock d ns => Sys2Proof.Machine.execPllRelock d ns s
  | .pllLockTimeout d => Sys2Proof.Machine.execPllLockTimeout d s
  | .refclkLoss pcie => Sys2Proof.Machine.execRefclkLoss pcie s
  | .replicaAlarm t => Sys2Proof.Machine.execReplicaAlarm t s
  | .replicaAlarmEnd t => Sys2Proof.Machine.execReplicaAlarmEnd t s
  | .replicaWarn t => Sys2Proof.Machine.execReplicaWarn t s
  | .limitReportSend => Sys2Proof.Machine.execLimitReportSend s
  | .limitReport src => Sys2Proof.Machine.execLimitReport src s
  | .budgetCycle fixed power => Sys2Proof.Machine.execBudgetCycle fixed power s
  | .stackBudgetReceive t => Sys2Proof.Machine.execStackBudgetReceive t s
  | .stackBudgetTimeout t => Sys2Proof.Machine.execStackBudgetTimeout t s
  | .limiterLoopStep t power => Sys2Proof.Machine.execLimiterLoopStep t power s
  | .thermalStepping => Sys2Proof.Machine.execThermalStepping s
  | .stackRuleEval t smp => Sys2Proof.Machine.execStackRuleEval t smp s
  | .sensorSuspect t sensor => Sys2Proof.Machine.execSensorSuspect t sensor s
  | .firnSensorsSuspect t => Sys2Proof.Machine.execFirnSensorsSuspect t s
  | .thermalTrip t sensor => Sys2Proof.Machine.execThermalTrip t sensor s
  | .capUnreachableSet => Sys2Proof.Machine.execCapUnreachableSet s
  | .pwrbrkNAssert => Sys2Proof.Machine.execPwrbrkNAssert s
  | .pwrbrkNRelease => Sys2Proof.Machine.execPwrbrkNRelease s
  | .fenceNAssert => Sys2Proof.Machine.execFenceNAssert s
  | .rackposChange strap => Sys2Proof.Machine.execRackposChange strap s
  | .trstNAssert => Sys2Proof.Machine.execTrstNAssert s
  | .pinStuckTimeout pin => Sys2Proof.Machine.execPinStuckTimeout pin s
  | .pinExcessEdge pin => Sys2Proof.Machine.execPinExcessEdge pin s
  | .tapInstruction op => Sys2Proof.Machine.execTapInstruction op s
  | .bar4Read off len => Sys2Proof.Machine.execBar4Read off len s
  | .bar4Write off bs ep => Sys2Proof.Machine.execBar4Write off bs ep s
  | .hdmaPoll eng => Sys2Proof.Machine.execHdmaPoll eng s
  | .hdmaDescriptorStart eng num => Sys2Proof.Machine.execHdmaDescriptorStart eng num s
  | .hdmaDescriptorComplete eng num => Sys2Proof.Machine.execHdmaDescriptorComplete eng num s
  | .collPoll cu => Sys2Proof.Machine.execCollPoll cu s
  | .collDescriptorTake cu => Sys2Proof.Machine.execCollDescriptorTake cu s
  | .collStageComplete cu id block => Sys2Proof.Machine.execCollStageComplete cu id block s
  | .collComplete cu id => Sys2Proof.Machine.execCollComplete cu id s
  | .collTimeout cu id => Sys2Proof.Machine.execCollTimeout cu id s
  | .memWindowsWrite src => Sys2Proof.Machine.execMemWindowsWrite src s
  | .memFence src => Sys2Proof.Machine.execMemFence src s
  | .hostBar4Base src => Sys2Proof.Machine.execHostBar4Base src s
  | .errAck src => Sys2Proof.Machine.execErrAck src s
  | .errInject src => Sys2Proof.Machine.execErrInject src s
  | .errProdLockSet src => Sys2Proof.Machine.execErrProdLockSet src s
  | .fuseWriteComplete => Sys2Proof.Machine.execFuseWriteComplete s
  | .secKeyRevoke src => Sys2Proof.Machine.execSecKeyRevoke src s
  | .secSvnCommit src => Sys2Proof.Machine.execSecSvnCommit src s
  | .secMeasExtend src => Sys2Proof.Machine.execSecMeasExtend src s
  | .getVersion conn => Sys2Proof.Machine.execGetVersion conn s
  | .getCapabilities conn ver => Sys2Proof.Machine.execGetCapabilities conn ver s
  | .negotiateAlgorithms conn ver mlDsa44 sha3 dmtf => Sys2Proof.Machine.execNegotiateAlgorithms conn ver mlDsa44 sha3 dmtf s
  | .getDigests conn ver => Sys2Proof.Machine.execGetDigests conn ver s
  | .getCertificate conn ver slot off len => Sys2Proof.Machine.execGetCertificate conn ver slot off len s
  | .challenge conn ver slot nonce summary signature => Sys2Proof.Machine.execChallenge conn ver slot nonce summary signature s
  | .getMeasurements conn ver index signature => Sys2Proof.Machine.execGetMeasurements conn ver index signature s
  | .chunkGet conn ver handle num => Sys2Proof.Machine.execChunkGet conn ver handle num s
  | .cvuStart unit src => Sys2Proof.Machine.execCvuStart unit src s
  | .cvuStop unit src => Sys2Proof.Machine.execCvuStop unit src s
  | .cvuLoadComplete unit => Sys2Proof.Machine.execCvuLoadComplete unit s
  | .cvuScanEnd unit => Sys2Proof.Machine.execCvuScanEnd unit s
  | .moraineSample hists exts => Sys2Proof.Machine.execMoraineSample hists exts s
  | .morFreeze src => Sys2Proof.Machine.execMorFreeze src s
  | .morFreezeExpire => Sys2Proof.Machine.execMorFreezeExpire s
  | .morFlush src => Sys2Proof.Machine.execMorFlush src s
  | .snapshotDue => Sys2Proof.Machine.execSnapshotDue s
  | .snapshotWriteComplete ok => Sys2Proof.Machine.execSnapshotWriteComplete ok s
  | .operatingHour ageD slack slope eye => Sys2Proof.Machine.execOperatingHour ageD slack slope eye s
  | .emitterBiasStep => Sys2Proof.Machine.execEmitterBiasStep s
  | .calExportTake src => Sys2Proof.Machine.execCalExportTake src s
  | .matrixOpStart tile => Sys2Proof.Machine.execMatrixOpStart tile s
  | .vectorResultWrite tile idx => Sys2Proof.Machine.execVectorResultWrite tile idx s
  | .firnModeChangeEnd slice => Sys2Proof.Machine.execFirnModeChangeEnd slice s
  | .hbmPhyLossOfLock stack => Sys2Proof.Machine.execHbmPhyLossOfLock stack s
  | .hbmPhyRetrained stack => Sys2Proof.Machine.execHbmPhyRetrained stack s
  | .hbmZeroComplete => Sys2Proof.Machine.execHbmZeroComplete s
  | .collHoldExpire cu => Sys2Proof.Machine.execCollHoldExpire cu s
  | .collSteerWaitEnd cu id => Sys2Proof.Machine.execCollSteerWaitEnd cu id s
  | .hdmaHostReadCompletion eng num off res => Sys2Proof.Machine.execHdmaHostReadCompletion eng num off res s
  | .bar4Resize log => Sys2Proof.Machine.execBar4Resize log s
  | .pcieLinkUp => Sys2Proof.Machine.execPcieLinkUp s
  | .replicaWarnEnd t => Sys2Proof.Machine.execReplicaWarnEnd t s
  | .capUnreachableClear => Sys2Proof.Machine.execCapUnreachableClear s
  | .fabricTimeWrap => Sys2Proof.Machine.execFabricTimeWrap s
  | .vddSrcDip depth => Sys2Proof.Machine.execVddSrcDip depth s
  | .spdmUnsupportedRequest conn => Sys2Proof.Machine.execSpdmUnsupportedRequest conn s
  | .fenceNRelease => Sys2Proof.Machine.execFenceNRelease s
  | .trstNRelease => Sys2Proof.Machine.execTrstNRelease s

end Sys2Proof.Machine
end

