-- ==== Sys2Proof/Machine/Bundle.lean ====
section
/-! DEFINITION. The sequencer of a tile: the fetch of a bundle and the issue of its four slots together (R41, R42, R44, R46). -/

namespace Sys2Proof.Machine

/-! ### What holds a slot back (R42) -/

/-- The vector registers and the predicates that a vector operation reads or writes. -/
def vecUses : Instr → List (BitVec 5) × List (BitVec 2)
  | .vld _ v | .vst _ v => ([v.vd], [v.pred])
  | .vadd _ v | .vsub _ v | .vmul _ v | .vmin _ v | .vmax _ v | .vand _ v | .vor _ v | .vxor _ v | .vshl _ v | .vshr _ v
    | .vperm _ v => ([v.va, v.vb, v.vd], [v.pred])
  | .vfma _ v => ([v.va, v.vb, v.vc, v.vd], [v.pred])
  | .vabs _ v | .vneg _ v | .vrcp _ v | .vrsq _ v | .vexp2 _ v | .vlog2 _ v | .vred _ v | .vbcast _ v => ([v.va, v.vd], [v.pred])
  | .vcmp _ v => ([v.va, v.vb], [v.pred, v.vd.setWidth 2])
  | .vsel _ v => ([v.va, v.vb, v.vd], [v.pred, v.vc.setWidth 2])
  | .vcvti _ v => (convRegs v, [v.pred])
  | .vcvto _ v => if v.vfmt = 10 then ([v.va, v.vd], []) else (convRegs v, [v.pred])
  | _ => ([], [])

/-- The matrix slot waits for a place in the queue of two. -/
def Tile.matHeld (t : Tile) : Instr → Bool
  | .mnop _ _ => false
  | _ => 2 ≤ t.matQ.length

/-- The vector slot waits for pending writes. -/
def Tile.vecHeld (t : Tile) (i : Instr) : Bool := (vecUses i).1.any t.vPending || (vecUses i).2.any t.pPending

/-- The stream slot waits for its channels or for a place in the memory queue of 16. -/
def Tile.strHeld (t : Tile) : Instr → Bool
  | .snop _ _ => false
  | .ssend _ x => !sendFree t x.dir
  | .srecv _ x => !recvFree t x.dir
  | .spass _ x | .spassw _ x => !(recvFree t x.dir && sendFree t x.dir2)
  | _ => 16 ≤ t.memQ.length

/-- The control slot waits for the condition of a WAIT, TFENCE, SLICE or BLK. -/
def State.ctlHeld (s : State) (n : Nat) (t : Tile) : Instr → Bool
  | .wait _ c => c.sub.toNat < 2 && (t.waitCounter c).count.toNat < c.imm.toNat
  | .tfence _ c => (c.sub.getLsbD 0 && !t.matrixIdle) || (c.sub.getLsbD 1 && !t.streamIdle)
  | .slice _ c => t.holdReq && (t.holdAt = none || t.holdAt = some c.imm.toNat) && !t.drained
  | .blk _ c => match s.tileProg n with
    | some p => t.misses p.img.blockTable c.imm.toNat && t.epochBusy
    | none => false
  | _ => false

/-- R42: no slot of the bundle is held back. -/
def State.mayIssue (s : State) (n : Nat) (b : Bundle) : Bool :=
  let t := s.tile n
  !(t.matHeld b.mat || t.vecHeld b.vec || t.strHeld b.str || s.ctlHeld n t b.ctl)

/-! ### Issue -/

/-- The effect of one slot. -/
def State.runSlot (s : State) (i : Instr) : State :=
  match exec i s with
  | .next t => t
  | _ => s

/-- R41: the 128 bits of the bundle that a tile stands at. -/
def Tile.bundleBits (t : Tile) : BitVec 128 := BitVec.ofNat 128 (t.read (16 * t.bundle) 16)

/-- R42, R44, R46, R107: the sequencer of tile `n` in one Serac cycle: a reserved opcode stops the tile; otherwise all four slots of
its bundle issue, the matrix slot before the vector slot and the control slot last, or none does and the bundle is tried again. -/
def State.issueBundle (s : State) (n : Nat) : State :=
  let t := s.tile n
  if t.st != .running then s
  else match decodeBundle n t.bundleBits with
  | none => s.tileFault n faultIllegalOp
  | some b => if s.mayIssue n b then (((s.runSlot b.mat).runSlot b.vec).runSlot b.str).runSlot b.ctl else s

/-- R42: a Serac cycle of stack `t`: the sequencer of each of its tiles. -/
def State.seracCycle (s : State) (t : BitVec 2) : State :=
  (s.serac.tiles.map Prod.fst).foldl (fun s n => if n / 256 = t.toNat then s.issueBundle n else s) s

end Sys2Proof.Machine
end

