-- ==== Sys2Proof/Machine/Idle.lean ====
section
/-! DEFINITION. What happens at a tick of the timebase when no command waits. -/

namespace Sys2Proof.Machine

/-- R544: operating time counts, in 1/1024 h, while any rail other than VDD_AUX is up. -/
def Moraine.elapse (m : Moraine) (n : Nat) : Moraine :=
  if m.optSub + n < 225000000000 then { m with optSub := m.optSub + n }
  else { m with optSub := m.optSub + n - 225000000000, optime := satInc m.optime }

/-- R379, R378, R384: what a TB cycle adds to fabric time: 16 units, corrected by the rate trim and by the servo. -/
def Clk.advance (c : Clk) : Clk :=
  let x : Int := Int.ofNat c.frac + 16 * (c.trim + c.servo)
  { c with ft := c.ft + BitVec.ofInt 64 (16 + x / 2 ^ 32), frac := (x % 2 ^ 32).toNat }

/-- R368, R377: the share of a Serac cycle of a stack that one TB cycle is, in 1/68000: its clock runs at the frequency of the running step,
and 1/16 slower in an alarm. -/
def State.seracShare (s : State) (t : BitVec 2) : Nat := s.freqMhz t.toNat * if RF.at s.clk.alarm t then 16 else 17

/-- A TB cycle as the Serac clock of a stack sees it: each 68,000 shares end one Serac cycle, a step of the limiter's pattern, in
which the sequencers issue (R42, R397). -/
def State.seracTick (s : State) (t : BitVec 2) : State :=
  if s.pkg.dev = .cold || s.pll t.toNat != .locked then s
  else
    let n := RF.at s.clk.scPhase t + s.seracShare t
    if n < 68000 then s.onClk (fun c => { c with scPhase := RF.put c.scPhase t n })
    else (s.onClk (fun c => { c with scPhase := RF.put c.scPhase t (n - 68000), scSlot := RF.put c.scSlot t (RF.at c.scSlot t + 1) })).seracCycle t

/-- One TB cycle of 250 ps (R379): the local count advances by 16 units, fabric time unless UNSET, and operating time;
fabric time that passes 0 is the event of R389, which has a command of its own. -/
def State.tbTick (s : State) : State :=
  { s with
    clk := if s.pkg.dev = .cold then s.clk else
      let c := if s.clk.ftState = .unset then s.clk else s.clk.advance
      { c with ftLocal := c.ftLocal + 16 }
    mor := if s.pins.io || s.pins.fle then s.mor.elapse 16 else s.mor }

/-- R286, R322: every 10 ms of the device's time PHO_PORT_FEC and FAB_PORT_COUNTERS take the counts of the moment. -/
def State.publish (s : State) : State :=
  { s with
    floe := { s.floe with fecPub := Vector.ofFn (fun q : Fin (2 ^ 4) =>
      (RF.at s.floe.fecCorrected (BitVec.ofNat 4 q.val), RF.at s.floe.fecDiscarded (BitVec.ofNat 4 q.val))) }
    fab := { s.fab with cntPub := s.fab.counters } }

/-- The 10 ms of the device's time that have passed. -/
def State.tenMs (s : State) : Nat := s.now.toNat / msU 10

/-- R42, R379: what happens in a TB cycle when no command waits: time passes, the Serac cycles that end in it run, an interrupt that
waited for its 1 µs is raised, and counts are published. -/
def tick (s : State) : State :=
  let u := (([0, 1, 2, 3] : List (BitVec 2)).foldl State.seracTick s.tbTick).msgIrqDue
  if u.tenMs = s.tenMs then u else u.publish

end Sys2Proof.Machine
end

