-- ==== Sys2Proof/Safety.lean ====
section
/-! DEFINITION. What counts as a safe state and a safe run. -/

namespace Sys2Proof.Machine

/-- The HBM, the Firn scratch and every tile SRAM are in their canonical form. -/
def State.memWf (s : State) : Bool :=
  Memory.wf s.hbm.mem && Memory.wf s.firn.scratch && s.serac.tiles.all (fun p => Memory.wf p.2.sram)

/-- A step that stops neither with a fault nor with a refusal. -/
def State.runs (s : State) : Prop := ∃ t, step s = .next t

end Sys2Proof.Machine
end

