-- ==== Sys2Proof/WellFormed.lean ====
section
/-! DEFINITION. Which commands are well formed: operands that name something the device has. -/

namespace Sys2Proof

/-- A package tile number: 256 tiles on each of the four Serac dies. -/
def tileOk (n : Nat) : Bool := n < 1024

/-- An HBM stack number. -/
def stackOk (h : Nat) : Bool := h < 24

/-- An HBM access lies within one 64-byte ECC word. -/
def opOk (a : Nat) (op : HbmOp) : Bool :=
  match op with
  | .read => true
  | .write bs _ => 1 ≤ bs.length && a % 64 + bs.length ≤ 64

/-- R263: a service message carries up to 116 bytes. -/
def payloadOk (p : List Byte) : Bool := p.length ≤ 116

/-- A command whose operands name something that the device has. -/
def Instr.wf (i : Instr) : Bool :=
  match i with
  | .discovery found => found.all (fun d => d.1 < 41)
  | .loadChunkSubmit _ bytes => bytes.length ≤ 65536
  | .calRunComplete item elem _ _ _ _ => item ≤ 8 && elem < 2 ^ 24
  | .restoreCheckRun item elem _ _ => item ≤ 8 && elem < 2 ^ 24
  | .mbxPoll _ msgs => msgs.length ≤ 64 && msgs.all (fun m => m.length ≤ 256)
  | .tileFault tile code => tileOk tile && 1 ≤ code.toNat && code.toNat ≤ 9
  | .coreFailure core cause _ => core.toNat < 6 && 1 ≤ cause.toNat && cause.toNat ≤ 3
  | .coreRestartComplete core => core.toNat < 6
  | .mctpSvaogMessage _ msg => msg.length ≤ 247
  | .bar0RegisterWrite _ size _ => size = 1 || size = 2 || size = 4 || size = 8
  | .firnMergeWindowClose stack _ => stack < 4
  | .firnFillComplete stack _ => stack < 4
  | .vbBeatReplay _ bundle _ => bundle < 384
  | .vbEyeMeasure _ bundle _ eye => bundle < 384 && eye ≤ 100
  | .vbChannelFailing _ bundle _ => bundle < 384
  | .vbRemapComplete _ bundle => bundle < 384
  | .hbmAccess stack addr op _ => stackOk stack && addr < 24 * 2 ^ 30 && opOk addr op
  | .emitterSample _ em _ _ => em.toNat < 34
  | .emitterSpareLocked _ spare => spare.toNat < 34
  | .emitterSwapComplete _ em => em.toNat < 34
  | .mgmt ev => match ev with | .received _ _ => true | .sent _ body => body.length = 32
  | .resyncQuerySend eng dest => eng < 46 && dest < 64
  | .pllRelock d _ => d.toNat < 25
  | .sensorSuspect _ sensor => sensor < 98
  | .thermalTrip _ sensor => sensor < 104
  | .rackposChange strap => strap < 6
  | .bar4Read off len => 1 ≤ len && len ≤ 4096 && off + len ≤ 2 ^ 40
  | .bar4Write off bs _ => 1 ≤ bs.length && off + bs.length ≤ 2 ^ 40
  | .collStageComplete _ _ block => block < 2 ^ 24
  | .challenge _ _ _ nonce _ _ => nonce.length = 32
  | .moraineSample hists exts => hists.all (fun p => p.1 < 48) && exts.all (fun p => p.1 < 64)
  | .vectorResultWrite tile _ => tileOk tile
  | .hdmaHostReadCompletion _ _ _ res => match res with | .data bs => bs.length ≤ 512 && bs.length % 8 = 0 | _ => true
  | .bar4Resize log => log ≤ 6
  | .powerOnResetRelease _ | .powerLoss | .railOutOfTolerance _ | .perstNAssert | .perstNRelease _ _ | .discoveryTimeout
    | .loadChunkTake | .loadChunkTimeout | .imageVerify _ | .aliasKeyReady | .thawProceed _ | .thawProceedTimeout
    | .calRestore _ | .marginPlan _ _ _ _ | .thawEnd | .softReset _ | .softResetBegin | .flr | .pcieHotReset | .pcieLinkDown
    | .iceboundEntry | .lastFatalWrite | .mbxD2hTailWrite _ | .heartbeat | .heartbeatTimeout | .driftPeriodExpire | .attach
    | .submit | .abort | .schedCycleStart | .programStart _ | .startReserve _ | .startFtimeReached _
    | .sliceReportsComplete _ | .preemptAllHeld _ | .contextSaveComplete _ | .sliceTimeout _ | .programResume _
    | .phaseBarrierRelease _ | .governorPhaseUpdate _ _ | .governorBarrierTimeout _ | .programEnd _ _ | .firnDrainWalkEnd _
    | .tileAbort _ | .schedLeaseStop | .schedLeaseExpiry | .schedJournalRecord _ | .schedStateCopy _ | .schedSwap _
    | .schedHandoverCopy | .dictRead | .dictWrite | .dictSessionAbandon _ | .dictLock _ | .voteScrub _
    | .hostBar4BaseHiWrite _ _ | .firnSliceZeroComplete _ | .firnFlush | .frnMaintFlush _ _ | .frnMaintFlushInvalidate _ _
    | .frnMaintEnd _ | .retiredListStoreWrite | .tileRetiredListWrite _ | .swapSlot _ | .serviceEmitterFail _
    | .ringTrackingError _ _ | .serviceSlotStart _ | .slotNotice _ | .serviceSlotJudge _ _ _ _ | .serviceSlotEnd _ _
    | .slotRequest _ _ | .marginReport _ | .lightLoss _ _ | .fibreDown _ _ | .launchGateClose _ _ _ | .launchGateClosed _ _
    | .lightReturn _ _ | .probeBurst _ _ | .probe _ _ | .ident _ _ _ _ _ | .wiringRecheck _ | .linkTrainingComplete _ _ _
    | .phoSteerGo _ | .phoSteerCmdGo _ _ | .steerPropose _ _ _ _ | .steerAnswer _ _ _ | .steerDecide | .steerApply
    | .groupStart _ | .lsrIntlkNAssert | .lsrIntlkNRelease | .frameReceive _ _ _ _ | .frameSkipTimeout _ | .creditFlit _
    | .creditSend _ | .credit _ _ | .packetStart _ _ _ _ | .packetForward _ _ | .headBusyTimeout _ _ | .ldReq _
    | .ldRspS _ _ | .ldRsp _ _ | .stS _ | .stReq _ | .stfS _ | .stf _ | .ack _ _ | .atomic _ | .syncQuery _ _ | .atRsp _ _
    | .xput _ _ | .xputAck _ _ | .xget _ _ | .xgetRsp _ _ | .xmsg _ _ | .xmsgAck _ _ | .coll _ | .collCtl _ | .mgmtRsp _ _
    | .mgmtResendTimeout _ | .requestTimeout _ | .requestLastChance _ | .busyResend _ | .resyncDuplicateResend _
    | .flaggedStoreSend _ | .neighbourPortsDown _ | .neighbourLostLocal _ | .routeSegmentResend | .routeUpdateActivate
    | .mgmtAliveSend | .mgmtSilentTimeout _ | .dmClaimSend | .dmRenewSend | .dmHolderExpiry | .dmMgmtCycle | .dmSwap _
    | .dmSwapPeriodExpire | .timeExchangeSend _ | .timeReq _ _ | .timeResp _ _ _ _ _ | .calTrimUpdate _ _ | .syncPpsEdge
    | .ftWrapTest _ | .freqAnnounce _ | .freqAck _ | .freqSupplyCommand | .freqChangeStart | .freqChangeEnd
    | .pllLossOfLock _ | .pllLockTimeout _ | .refclkLoss _ | .replicaAlarm _ | .replicaAlarmEnd _ | .replicaWarn _
    | .limitReportSend | .limitReport _ | .budgetCycle _ _ | .stackBudgetReceive _ | .stackBudgetTimeout _
    | .limiterLoopStep _ _ | .thermalStepping | .stackRuleEval _ _ | .firnSensorsSuspect _ | .capUnreachableSet
    | .pwrbrkNAssert | .pwrbrkNRelease | .fenceNAssert | .trstNAssert | .pinStuckTimeout _ | .pinExcessEdge _
    | .tapInstruction _ | .hdmaPoll _ | .hdmaDescriptorStart _ _ | .hdmaDescriptorComplete _ _ | .collPoll _
    | .collDescriptorTake _ | .collComplete _ _ | .collTimeout _ _ | .memWindowsWrite _ | .memFence _ | .hostBar4Base _
    | .errAck _ | .errInject _ | .errProdLockSet _ | .fuseWriteComplete | .secKeyRevoke _ | .secSvnCommit _
    | .secMeasExtend _ | .getVersion _ | .getCapabilities _ _ | .negotiateAlgorithms _ _ _ _ _ | .getDigests _ _
    | .getCertificate _ _ _ _ _ | .getMeasurements _ _ _ _ | .chunkGet _ _ _ _ | .cvuStart _ _ | .cvuStop _ _
    | .cvuLoadComplete _ | .cvuScanEnd _ | .morFreeze _ | .morFreezeExpire | .morFlush _ | .snapshotDue
    | .snapshotWriteComplete _ | .operatingHour _ _ _ _ | .emitterBiasStep | .calExportTake _ | .firnModeChangeEnd _
    | .hbmZeroComplete | .collHoldExpire _ | .collSteerWaitEnd _ _ | .pcieLinkUp | .replicaWarnEnd _ | .capUnreachableClear
    | .fabricTimeWrap | .vddSrcDip _ | .spdmUnsupportedRequest _ | .fenceNRelease | .trstNRelease => true
  | .cnop tile _ | .seta tile _ | .adda tile _ | .sets tile _ | .shis tile _ | .adds tile _ | .lds tile _ | .sts tile _
    | .mova tile _ | .movs tile _ | .br tile _ | .loop tile _ | .wait tile _ | .ccset tile _ | .ccst tile _ | .tfence tile _
    | .ldmd tile _ | .setrnd tile _ | .blk tile _ | .phase tile _ | .slice tile _ | .phaseDone tile _ | .halt tile _
    | .trap tile _ | .mnop tile _ | .mma tile _ | .mmaz tile _ | .mout tile _ | .moutz tile _ | .mzero tile _
    | .mload tile _ | .matrixStepAdmit tile | .vnop tile _ | .vld tile _ | .vst tile _ | .vadd tile _ | .vsub tile _
    | .vmul tile _ | .vfma tile _ | .vmin tile _ | .vmax tile _ | .vabs tile _ | .vneg tile _ | .vrcp tile _ | .vrsq tile _
    | .vexp2 tile _ | .vlog2 tile _ | .vcmp tile _ | .vsel tile _ | .vand tile _ | .vor tile _ | .vxor tile _ | .vshl tile _
    | .vshr tile _ | .vcvti tile _ | .vcvto tile _ | .vred tile _ | .vperm tile _ | .vbcast tile _ | .snop tile _
    | .ssend tile _ | .srecv tile _ | .spass tile _ | .spassw tile _ | .frd tile _ | .fwr tile _ | .gld tile _ | .gst tile _
    | .gat tile _ | .gstf tile _ | .ffl tile _ | .fiv tile _ | .flitArrive tile _ | .streamOpComplete tile
    | .runaheadIssue tile | .runaheadReply tile _ | .tileZeroComplete tile | .firnRequest tile _ _ | .matrixOpStart tile => tileOk tile
  | .hbmRefresh stack bank => stack < 24 && bank < 64
  | .hbmTempRead stack _ | .hbmScrubRead stack _ | .hbmStackFail stack | .hbmPortSilentTimeout stack
    | .hbmPhyRelockTimeout stack | .hbmPhyLossOfLock stack | .hbmPhyRetrained stack => stackOk stack
  | .peerDown _ payload | .routeUpdate _ payload | .routeAck _ payload | .mgmtAlive _ payload | .dmClaim _ payload
    | .dmAck _ payload | .dmRenew _ payload | .dmRenewAck _ payload | .dmCopy _ payload _ | .dmCopyReport _ payload => payloadOk payload

end Sys2Proof
end

