-- ==== Sys2Proof/Certificates/Slice0/Obligations.lean ====
section
/-! DEFINITION. The statements for the provers, each a proposition that names what it states. -/

namespace Sys2Proof.Claims

open Sys2Proof.Machine

/-! ### Words of the statements about tiles -/

/-- Tile `n` runs a program, and no injection is armed. -/
def Runs (s : State) (n : Nat) : Prop := (s.tile n).st = .running ∧ s.errs.inj = none

/-- The bundle that follows the present one of tile `n` lies in the code region, and its word can be read (R38, R43). -/
def Room (s : State) (n : Nat) : Prop :=
  16 * ((s.tile n).goAfter (s.tile n).bundle).bundle + 16 ≤ (s.tile n).codeBytes ∧
  (s.tile n).bad (16 * ((s.tile n).goAfter (s.tile n).bundle).bundle) 16 = false

/-- Tile `n` becomes `u`, and its bundle in sequence is fetched (R43, R48). -/
def seqNext (s : State) (n : Nat) (u : Tile) : State := s.setTile n (u.goAfter u.bundle).fetchLine

/-- R431: ALERT_N follows what has become of the device. -/
def alerted (s t : State) : State := if t.alert = s.alert then t else t.emit (.pin 13 t.alert)

end Sys2Proof.Claims

open Sys2Proof Sys2Proof.Machine Sys2Proof.Claims

/-! ### The Serac tile: control slot -/

/-- R44, R46, R47: the control operations that write one register, and CNOP, on a running tile whose next bundle lies in
its code region: the post-increments of the bundle act, then the register is written, and the next bundle in sequence
is fetched; nothing else changes. -/
def Obligations.ControlRegisterWrites : Prop :=
  ∀ (s : State) (n : Nat) (c : CtlSlot), Runs s n → Room s n →
    let u := (s.tile n).applyPost
    let t := s.tile n
    exec (.cnop n c) s = .next (seqNext s n u) ∧
    (c.sub = 0 →
      exec (.seta n c) s = .next (seqNext s n { u with a := RF.put u.a c.reg c.imm }) ∧
      exec (.adda n c) s = .next (seqNext s n { u with a := RF.put u.a c.reg (RF.at t.a c.reg + c.imm) }) ∧
      exec (.sets n c) s = .next (seqNext s n { u with s := RF.put u.s c.reg (c.imm.setWidth 64) }) ∧
      exec (.shis n c) s = .next (seqNext s n
        { u with s := RF.put u.s c.reg ((RF.at t.s c.reg <<< 20) ||| c.imm.setWidth 64) }) ∧
      exec (.adds n c) s = .next (seqNext s n
        { u with s := RF.put u.s c.reg (RF.at t.s c.reg + c.imm.signExtend 64) }) ∧
      exec (.mova n c) s = .next (seqNext s n
        { u with a := RF.put u.a c.reg ((RF.at t.s (c.imm.setWidth 4)).setWidth 20) }) ∧
      exec (.movs n c) s = .next (seqNext s n
        { u with s := RF.put u.s c.reg ((RF.at t.a (c.imm.setWidth 4)).setWidth 64) }) ∧
      exec (.sts n c) s = .next (seqNext s n
        (u.write (RF.at t.a (c.imm.setWidth 4)).toNat (natLE 8 (RF.at t.s c.reg).toNat))) ∧
      (let k := RF.at t.cc (c.imm.setWidth 4)
       exec (.ccst n c) s = .next (seqNext s n
        { u with s := RF.put u.s c.reg (k.code.setWidth 64 ||| (k.bad.setWidth 64 <<< 8)) }))) ∧
    (c.sub.toNat < 2 →
      exec (.ccset n c) s = .next (seqNext s n
        { u with cc := RF.put u.cc c.reg ⟨c.imm.setWidth 32, 0, 0, c.sub = 1⟩ })) ∧
    (c.sub.toNat < 2 → c.imm.toNat ≤ 4 →
      exec (.setrnd n c) s = .next (seqNext s n
        { u with rnd := c.imm.setWidth 3, g := if c.sub = 1 then (RF.at t.s c.reg).setWidth 32 else u.g }))

/-- R47, R55: LDS and LDMD on a running tile whose address is aligned and whose words can be read: the register takes the
bytes at the address; LDMD takes only a descriptor that R55 accepts. -/
def Obligations.ControlLoads : Prop :=
  ∀ (s : State) (n : Nat) (c : CtlSlot), Runs s n → Room s n → c.sub = 0 → (s.tile n).uc = [] →
    let u := (s.tile n).applyPost
    let t := s.tile n
    let a := (RF.at t.a (c.imm.setWidth 4)).toNat
    (a % 8 = 0 →
      exec (.lds n c) s = .next (seqNext s n { u with s := RF.put u.s c.reg (BitVec.ofNat 64 (t.read a 8)) })) ∧
    (descOk (BitVec.ofNat 256 (t.read a 32)) = true →
      exec (.ldmd n c) s = .next (seqNext s n { u with md := RF.put u.md c.reg (BitVec.ofNat 256 (t.read a 32)) }))

/-- R43, R47, R48: BR, taken and not taken, and LOOP, entered and skipped, on a running tile. -/
def Obligations.ControlFlow : Prop :=
  ∀ (s : State) (n : Nat) (c : CtlSlot), Runs s n → Room s n →
    let u := (s.tile n).applyPost
    let t := s.tile n
    let zero := RF.at t.s c.reg = 0
    (c.sub = 1 ∧ ¬zero ∨ c.sub = 2 ∧ zero → exec (.br n c) s = .next (seqNext s n u)) ∧
    (c.sub = 0 ∨ c.sub = 1 ∧ zero ∨ c.sub = 2 ∧ ¬zero →
      16 * (BitVec.ofNat 20 t.bundle + c.imm).toNat + 16 ≤ t.codeBytes →
      t.bad (16 * (BitVec.ofNat 20 t.bundle + c.imm).toNat) 16 = false →
      exec (.br n c) s = .next (s.setTile n
        ({ u with bundle := (BitVec.ofNat 20 t.bundle + c.imm).toNat }).fetchLine)) ∧
    (RF.at t.loops c.sub = none → c.imm ≠ 0 → ¬zero → t.loops = RF.all 2 none →
      16 * t.bundle + 32 ≤ t.codeBytes → t.bad (16 * (t.bundle + 1)) 16 = false →
      exec (.loop n c) s = .next (seqNext s n
        { u with loops := RF.put u.loops c.sub (some ⟨t.bundle + 1, t.bundle + c.imm.toNat, RF.at t.s c.reg⟩) })) ∧
    (t.loops = RF.all 2 none → c.imm ≠ 0 → zero →
      16 * (t.bundle + c.imm.toNat + 1) + 16 ≤ t.codeBytes → t.bad (16 * (t.bundle + c.imm.toNat + 1)) 16 = false →
      exec (.loop n c) s = .next (s.setTile n ({ u with bundle := t.bundle + c.imm.toNat + 1 }).fetchLine))

/-- R45, R47, R49: WAIT on a counter that has come to its number with every completion OK, or that is tolerant, and
TFENCE on units that have nothing unfinished, go on to the next bundle; a WAIT whose number has not come, and a TFENCE
on an unfinished unit, hold the bundle back.
R72, R82, R157, R169, R179: the markers BLK, PHASE and SLICE, the ends DONE and HALT, and TRAP, on a running tile of
a program that is running: each takes its effect on the tile and on the program. -/
def Obligations.ControlWaitsAndMarkers : Prop :=
  (∀ (s : State) (n : Nat) (c : CtlSlot), Runs s n → Room s n →
    let u := (s.tile n).applyPost
    let t := s.tile n
    let k := RF.at t.cc c.reg
    (c.sub = 0 → c.imm.toNat ≤ k.count.toNat → k.bad = 0 ∨ k.tolerant = true →
      exec (.wait n c) s = .next (seqNext s n u)) ∧
    (c.sub = 0 → k.count.toNat < c.imm.toNat → exec (.wait n c) s = .next s) ∧
    (c.sub = 0 → c.imm.toNat ≤ k.count.toNat → k.bad ≠ 0 → k.tolerant = false →
      exec (.wait n c) s = .next (s.tileFault n 0x07)) ∧
    (c.sub ≠ 0 → (c.sub.getLsbD 0 = true → t.matrixIdle = true) → (c.sub.getLsbD 1 = true → t.streamIdle = true) →
      exec (.tfence n c) s = .next (seqNext s n u)) ∧
    (c.sub.getLsbD 0 = true → t.matrixIdle = false → exec (.tfence n c) s = .next s)) ∧
  (∀ (s : State) (n : Nat) (c : CtlSlot) (p : Prog), Runs s n → Room s n → c.sub = 0 → s.tileProg n = some p →
    let u := (s.tile n).applyPost
    let t := s.tile n
    (c.imm.toNat < p.img.blockCount → t.uc = [] →
      (t.misses p.img.blockTable c.imm.toNat = false ∨ t.epochBusy = false →
        exec (.blk n c) s = .next (seqNext s n (u.enterBlock p.img.blockTable c.imm.toNat))) ∧
      (t.misses p.img.blockTable c.imm.toNat = true → t.epochBusy = true → exec (.blk n c) s = .next s)) ∧
    (c.imm.toNat < p.img.phases.length →
      exec (.phase n c) s = .next (seqNext (s.onProg p.tag (fun p => { p with phase := c.imm.toNat })) n
        { u with phase := c.imm.toNat })) ∧
    (t.holdReq = false → exec (.slice n c) s = .next (seqNext s n { u with slice := c.imm.toNat })) ∧
    (t.holdReq = true → t.holdAt = none → t.drained = true →
      exec (.slice n c) s = .next ((s.setTile n
          { u with slice := c.imm.toNat, st := .sliceHold }).onProg (t.prog.getD 0)
        (fun p => { p with reports := SMap.set none p.reports n (some c.imm.toNat) }))) ∧
    exec (.phaseDone n c) s =
      .next (((s.setTile n { u.goAfter t.bundle with st := .barrier }).phaseEnds (t.prog.getD 0) n).barrierCheck
        (t.prog.getD 0)) ∧
    exec (.halt n c) s = .next ((s.setTile n { u with st := .halted }).barrierCheck (t.prog.getD 0)) ∧
    (p.notifyTrap = false → exec (.trap n c) s = .next (seqNext s n u)) ∧
    (p.notifyTrap = true → p.trapSent = true → exec (.trap n c) s = .next (seqNext
      (s.onSched (fun x => { x with trapsDropped := satInc x.trapsDropped })) n u)) ∧
    (p.notifyTrap = true → p.trapSent = false → exec (.trap n c) s = .next
      (((s.onProg p.tag (fun p => { p with trapSent := true })).d2hEvent 0x0107
        (natLE 4 p.tag.toNat ++ natLE 2 n ++ natLE 2 0 ++ natLE 4 c.imm.toNat)).ctlNext n u)))

/-! ### The Serac tile: matrix slot and engine -/

/-- R42, R50, R51: a matrix operation issues on a running tile whose queue of two has room: it enters the queue with its
copies of the descriptor, the addresses and the generator; the post-increments that POSTINC asks for wait for the end
of the bundle; MNOP changes nothing; and a full queue holds the operation back. -/
def Obligations.MatrixIssue : Prop :=
  ∀ (s : State) (n : Nat) (m : MatSlot),
    exec (.mnop n m) s = .next s ∧
    ((s.tile n).st = .running → (s.tile n).matQ.length < 2 →
      let t := s.tile n
      let d := RF.at t.md m.md
      let q := fun (k : MatKind) => (t.matPost m d).matQ ++ [t.matOp k m]
      exec (.mma n m) s = .next (s.setTile n { t.matPost m d with matQ := q .mma }) ∧
      exec (.mmaz n m) s = .next (s.setTile n { t.matPost m d with matQ := q .mmaz }) ∧
      exec (.mzero n m) s = .next (s.setTile n { t.matPost m d with matQ := q .mzero }) ∧
      exec (.mload n m) s = .next (s.setTile n { t.matPost m d with matQ := q .mload }) ∧
      exec (.mout n m) s = .next (s.setTile n
        { t.matPost m d with matQ := q .mout, g := if outDraws .mout d then draws t.g 16 else t.g }) ∧
      exec (.moutz n m) s = .next (s.setTile n
        { t.matPost m d with matQ := q .moutz, g := if outDraws .moutz d then draws t.g 16 else t.g })) ∧
    ((s.tile n).st = .running → 2 ≤ (s.tile n).matQ.length → exec (.mma n m) s = .next s)

/-- R52, R53, R397: in an issue slot that the limiter grants, a depth step of the operation at the front of the queue, an MMA or MMAZ whose
addresses are aligned and whose words can be read: a slot that is not granted admits nothing; the 16 accumulators of its set take the step, an MMAZ's first step starting from
zero in the mode that its descriptor names; the operation counts the step and leaves the queue after its last one.
R54, R57, R120, R122, R131: the operation at the front of the queue starts: MZERO zeroes its set in the mode of its
descriptor; an MLOAD whose rows are aligned loads its set; an MOUT or MOUTZ whose set is in that mode and whose rows
are aligned writes its four rows, and MOUTZ then zeroes the set. -/
def Obligations.MatrixEngine : Prop :=
  (∀ (s : State) (n : Nat), (s.tile n).st = .running → s.slotGranted n = false → exec (.matrixStepAdmit n) s = .next s) ∧
  (∀ (s : State) (n : Nat) (o : MatOp) (q : List MatOp), Runs s n → (s.tile n).uc = [] → s.slotGranted n = true →
    (s.tile n).matQ = o :: q → o.kind = .mma ∨ o.kind = .mmaz →
    let t := s.tile n
    let fa := descFmtA o.desc
    let fb := descFmtB o.desc
    let a := (o.aa.toNat + o.done * stepBytes fa) % 2 ^ 20
    let b := (o.ab.toNat + o.done * stepBytes fb) % 2 ^ 20
    let acc := if o.kind = .mmaz ∧ o.done = 0 then AccSet.zeroed o.desc else RF.at t.acc o.set
    acc.fp64 = descFp64 o.desc → a % 32 = 0 → b % 32 = 0 →
    exec (.matrixStepAdmit n) s = .next (s.setTile n
      { t with
        acc := RF.put t.acc o.set (acc.step t o (t.read a (stepBytes fa)) (t.read b (stepBytes fb)))
        matQ := if o.done + 1 = o.count then q else { o with done := o.done + 1 } :: q })) ∧
  (∀ (s : State) (n : Nat) (o : MatOp) (q : List MatOp), Runs s n → (s.tile n).uc = [] →
    (s.tile n).matQ = o :: q →
    let t := { s.tile n with matQ := q }
    let stride := (descWord o.desc 4).toNat
    let acc := RF.at t.acc o.set
    (o.kind = .mzero → exec (.matrixOpStart n) s = .next (s.setTile n (t.setAcc o.set (AccSet.zeroed o.desc)))) ∧
    (o.kind = .mload → rowsAligned (if descFp64 o.desc then 0 else 14) o.aa.toNat stride = true →
      exec (.matrixOpStart n) s = .next (s.setTile n (t.setAcc o.set (loadSet t o)))) ∧
    (o.kind = .mout → acc.fp64 = descFp64 o.desc → rowsAligned (descFmtOut o.desc) o.ac.toNat stride = true →
      exec (.matrixOpStart n) s = .next (s.setTile n (t.writeRows o acc))) ∧
    (o.kind = .moutz → acc.fp64 = descFp64 o.desc → rowsAligned (descFmtOut o.desc) o.ac.toNat stride = true →
      exec (.matrixOpStart n) s = .next (s.setTile n
        ((t.writeRows o acc).setAcc o.set { AccSet.zero with fp64 := acc.fp64 }))))

/-! ### The Serac tile: vector slot and unit -/

/-- R42, R58, R60, R107, R138, R618: the arithmetic of the vector unit on a running tile with no write pending: the result lanes wait
for VD under the predicate, and in SR mode the generator takes its draws; nothing else of the tile, and nothing beyond it, changes. A
vector result is written after its latency, to its register or predicate, and waits no longer; while a
register that an operation reads or writes has a write pending, the operation is held back. -/
def Obligations.VectorArithmetic : Prop :=
  (∀ (s : State) (n : Nat) (v : VecSlot), (s.tile n).st = .running → (s.tile n).vPend = [] →
    v.vfmt = 0 ∨ v.vfmt = 1 ∨ v.vfmt = 11 →
    let t := s.tile n
    let f := v.vfmt.toNat
    let rnd := t.rnd.toNat
    let res := fun (g : Nat → Nat) => s.setTile n { t.pendLanes v g with g := draws t.g (t.laneDraws v) }
    exec (.vadd n v) s = .next (res (fun i => binLane .add f rnd (t.drawOf i) (t.lane v v.va i) (t.lane v v.vb i))) ∧
    exec (.vsub n v) s = .next (res (fun i => binLane .sub f rnd (t.drawOf i) (t.lane v v.va i) (t.lane v v.vb i))) ∧
    exec (.vmul n v) s = .next (res (fun i => binLane .mul f rnd (t.drawOf i) (t.lane v v.va i) (t.lane v v.vb i))) ∧
    exec (.vfma n v) s = .next (res (fun i =>
      fmaLane f rnd (t.drawOf i) (t.lane v v.va i) (t.lane v v.vb i) (t.lane v v.vc i))) ∧
    (let k := laneCount f
     let x := redTree f rnd (if k = 16 then 4 else 5) t.g ((List.range k).map (t.lane v v.va))
     exec (.vred n v) s = .next (s.setTile n
       { t.pendLanes v (fun i => if i = 0 then x else 0) with
         g := if t.laneDraws v = 0 then t.g else draws t.g (k - 1) }))) ∧
  (∀ (s : State) (n : Nat),
    let t := s.tile n
    (∀ i r x, t.vPend[i]? = some (.reg r x) →
      exec (.vectorResultWrite n i) s = .next (s.setTile n { t with vPend := t.vPend.eraseIdx i, v := RF.put t.v r x })) ∧
    (∀ i r m, t.vPend[i]? = some (.pred r m) →
      exec (.vectorResultWrite n i) s = .next (s.setTile n { t with vPend := t.vPend.eraseIdx i, p := RF.put t.p r m })) ∧
    (∀ v : VecSlot, t.st = .running → v.vfmt = 0 ∨ v.vfmt = 1 ∨ v.vfmt = 11 →
      t.vPending v.va = true ∨ t.vPending v.vb = true ∨ t.vPending v.vd = true →
      exec (.vadd n v) s = .next s))

/-- R58, R100, R618, R619: the lane operations of the vector unit that take no draw, on a running tile with no write
pending: every operation answers a next state, in which its result lanes wait for VD under the predicate and nothing else has changed;
VNOP changes nothing at all. -/
def Obligations.VectorLaneOperations : Prop :=
  ∀ (s : State) (n : Nat) (v : VecSlot),
    exec (.vnop n v) s = .next s ∧
    ((s.tile n).st = .running → (s.tile n).vPend = [] →
    let t := s.tile n
    let f := v.vfmt.toNat
    let a := t.lane v v.va
    let b := t.lane v v.vb
    let res := fun (g : Nat → Nat) => s.setTile n (t.pendLanes v g)
    (v.vfmt = 0 ∨ v.vfmt = 1 ∨ v.vfmt = 11 →
      exec (.vmin n v) s = .next (res (fun i => minMaxLane false f (a i) (b i))) ∧
      exec (.vmax n v) s = .next (res (fun i => minMaxLane true f (a i) (b i))) ∧
      exec (.vabs n v) s = .next (res (fun i => absLane f (a i))) ∧
      exec (.vneg n v) s = .next (res (fun i => negLane f (a i))) ∧
      exec (.vand n v) s = .next (res (fun i => a i &&& b i)) ∧
      exec (.vor n v) s = .next (res (fun i => a i ||| b i)) ∧
      exec (.vxor n v) s = .next (res (fun i => a i ^^^ b i)) ∧
      exec (.vshl n v) s = .next (res (fun i => shlLane (laneBits f) (a i) (b i))) ∧
      exec (.vshr n v) s = .next (res (fun i => shrLane (laneBits f) (v.vc.getLsbD 0) (a i) (b i))) ∧
      exec (.vsel n v) s = .next (res (fun i => if laneOn (t.mask (v.vc.setWidth 2)) i then a i else b i)) ∧
      exec (.vperm n v) s = .next (res (fun i => if b i < laneCount f then a (b i) else 0)) ∧
      (v.vb.toNat < laneCount f → exec (.vbcast n v) s = .next (res (fun _ => a v.vb.toNat)))) ∧
    (v.vfmt = 0 ∨ v.vfmt = 1 →
      exec (.vrcp n v) s = .next (res (fun i => rcpLane f (a i))) ∧
      exec (.vrsq n v) s = .next (res (fun i => rsqLane f (a i))) ∧
      exec (.vexp2 n v) s = .next (res (fun i => exp2Lane f (a i))) ∧
      exec (.vlog2 n v) s = .next (res (fun i => log2Lane f (a i)))))

/-- R58, R108 to R112: comparison, conversion, load and store in the vector slot, on a running tile with no write pending:
VCMP's bits of the enabled lanes wait for its predicate, and a VCMP into P0 changes nothing; a conversion of a legal form waits for VD, with
its draws in SR mode; VLD and VST at an aligned address whose words can be read read and write 128 B under the predicate. That VCMP with 16
lanes keeps bits 16 to 31 is the model's choice (log entry 150). -/
def Obligations.VectorCompareConvertMove : Prop :=
  ∀ (s : State) (n : Nat) (v : VecSlot), Runs s n → (s.tile n).vPend = [] → (s.tile n).uc = [] →
    let t := s.tile n
    let f := v.vfmt.toNat
    let pd : BitVec 2 := v.vd.setWidth 2
    (v.vfmt = 0 ∨ v.vfmt = 1 ∨ v.vfmt = 11 → v.vc.toNat % 8 ≠ 7 →
      (pd = 0 → exec (.vcmp n v) s = .next s) ∧
      (pd ≠ 0 → ∃ m : W32,
        exec (.vcmp n v) s = .next (s.setTile n { t with vPend := [.pred pd m] }) ∧
        ∀ i : Nat, i < 32 → m.getLsbD i =
          if i < laneCount f ∧ laneOn (t.mask v.pred) i = true then
            cmpLane (v.vc.toNat % 8) f (t.lane v v.va i) (t.lane v v.vb i)
          else (RF.at t.p pd).getLsbD i)) ∧
    (convLegal v = true → v.vfmt ≠ 10 → v.vb.toNat < cvtiRange v →
      exec (.vcvti n v) s = .next (s.setTile n
        { t.pendV v.vd (mergeLanes (if convTo64 v then 0 else 1) (t.mask v.pred) (RF.at t.v v.vd)
            (fun i => if i < cvtiCount v then t.cvtiElem v i else 0)) with
          g := if t.rnd.toNat = srm then draws t.g (cvtiCount v) else t.g })) ∧
    (v.vfmt = 10 → isMxFmt (v.vc.toNat / 2) false = true → v.vc.getLsbD 0 = false →
      exec (.vcvto n v) s = .next (s.setTile n (t.cvtoScale v))) ∧
    (v.vfmt ≠ 10 → convLegal v = true → v.vc.getLsbD 0 = false → v.vb.toNat < groupsOf f →
      exec (.vcvto n v) s = .next (s.setTile n (t.cvtoGroup v))) ∧
    (v.vfmt ≠ 14 → t.vecAddr v % 128 = 0 →
      exec (.vld n v) s = .next (s.setTile n
        (t.pendLanes v (fun i => t.read (t.vecAddr v) 128 >>> (i * laneBits f)))) ∧
      exec (.vst n v) s = .next (s.setTile n (t.writeMasked (t.vecAddr v) (natLE 128 (RF.at t.v v.vd).toNat)
        (fun i => laneOn (t.mask v.pred) (i / (laneBits f / 8))))))

/-- R48, R57, R58, R65, R102, R121: where a running tile stops. A LOOP at an active level stops it with LOOP_DEPTH; a SETRND whose mode is
above 4 or whose high bits are not 0, and a vector operation of a format that it does not take, with ILLEGAL_OP; a link operation
whose reserved fields are 0 on a direction that leaves the die, with EDGE_LINK; an MMA, in a slot that the limiter grants, MOUT or MOUTZ
whose descriptor names another mode than its set's when it starts, with BAD_DESCRIPTOR; an output or accumulator load that breaks the alignment rule, with
SRAM_MISALIGNED. The accumulators are left unchanged. -/
def Obligations.TileFaults : Prop :=
  ∀ (s : State) (n : Nat), (s.tile n).st = .running →
    let t := s.tile n
    let off := fun (d : BitVec 2) =>
      d = 0 ∧ n / 16 % 16 = 15 ∨ d = 1 ∧ n % 16 = 15 ∨ d = 2 ∧ n / 16 % 16 = 0 ∨ d = 3 ∧ n % 16 = 0
    (∀ c : CtlSlot, RF.at t.loops c.sub ≠ none → exec (.loop n c) s = .next (s.tileFault n 0x05)) ∧
    (∀ c : CtlSlot, c.sub = 0 ∨ c.sub = 1 → 5 ≤ (c.imm.extractLsb' 0 3).toNat ∨ c.imm.extractLsb' 3 17 ≠ 0 →
      exec (.setrnd n c) s = .next (s.tileFault n 0x01)) ∧
    (∀ v : VecSlot, v.vfmt ≠ 0 → v.vfmt ≠ 1 → v.vfmt ≠ 11 →
      exec (.vadd n v) s = .next (s.tileFault n 0x01) ∧ exec (.vsub n v) s = .next (s.tileFault n 0x01) ∧
      exec (.vmul n v) s = .next (s.tileFault n 0x01) ∧ exec (.vfma n v) s = .next (s.tileFault n 0x01)) ∧
    (∀ x : StrSlot, x.sreg = 0 → x.atop = 0 →
      (off x.dir → x.dir2 = 0 →
        exec (.ssend n x) s = .next (s.tileFault n 0x04) ∧ exec (.srecv n x) s = .next (s.tileFault n 0x04)) ∧
      (off x.dir ∨ off x.dir2 →
        exec (.spass n x) s = .next (s.tileFault n 0x04) ∧ exec (.spassw n x) s = .next (s.tileFault n 0x04))) ∧
    (∀ (o : MatOp) (q : List MatOp), t.matQ = o :: q → (RF.at t.acc o.set).fp64 ≠ descFp64 o.desc →
      (o.kind = .mma → o.done = 0 → s.slotGranted n = true → exec (.matrixStepAdmit n) s = .next (s.tileFault n 0x02)) ∧
      (o.kind = .mout ∨ o.kind = .moutz → exec (.matrixOpStart n) s = .next (s.tileFault n 0x02))) ∧
    (∀ (o : MatOp) (q : List MatOp), t.matQ = o :: q →
      let stride := (descWord o.desc 4).toNat
      o.kind = .mload ∧ rowsAligned (if descFp64 o.desc then 0 else 14) o.aa.toNat stride = false ∨
        (o.kind = .mout ∨ o.kind = .moutz) ∧ (RF.at t.acc o.set).fp64 = descFp64 o.desc ∧
          rowsAligned (descFmtOut o.desc) o.ac.toNat stride = false →
      exec (.matrixOpStart n) s = .next (s.tileFault n 0x03)) ∧
    (∀ code, ((s.tileFault n code).tile n).acc = t.acc ∧ ((s.tileFault n code).tile n).st = .stopped)

/-! ### The Serac tile: stream slot, links and run-ahead -/

/-- R46, R61, R62, R64, R65: the link operations on a running tile with their channels free, whose reserved fields are 0,
whose directions stay on the die and whose address is aligned to 64 B where the operation uses the SRAM: each takes its
channels with its COUNT, and then whatever flits can move do; SNOP changes nothing. -/
def Obligations.LinkIssue : Prop :=
  ∀ (s : State) (n : Nat) (x : StrSlot),
    let t := s.tile n
    let k := strCount x.count
    let a := RF.at t.a x.areg
    exec (.snop n x) s = .next s ∧
    (t.st = .running → x.sreg = 0 → x.atop = 0 → nbr n x.dir ≠ none →
      (x.dir2 = 0 → a.toNat % 64 = 0 → RF.at t.sendCh x.dir = .idle →
        exec (.ssend n x) s = .next (linkRun linkFuel [⟨n, x.dir, true⟩] (s.setTile n
          (({ t with sendCh := RF.put t.sendCh x.dir (.send ⟨x.cc, a, k⟩) } : Tile).strPostA x (64 * k))))) ∧
      (x.dir2 = 0 → a.toNat % 64 = 0 → RF.at t.recvCh x.dir = none →
        exec (.srecv n x) s = .next ((s.setTile n
          (({ t with recvCh := RF.put t.recvCh x.dir (some ⟨.recv, 0, x.cc, a, k⟩) } : Tile).strPostA x (64 * k))).linkKick
            n x.dir)) ∧
      (nbr n x.dir2 ≠ none → RF.at t.recvCh x.dir = none → RF.at t.sendCh x.dir2 = .idle →
        exec (.spass n x) s = .next ((s.setTile n
          (({ t with recvCh := RF.put t.recvCh x.dir (some ⟨.pass, x.dir2, x.cc, a, k⟩),
                     sendCh := RF.put t.sendCh x.dir2 (.pass x.dir) } : Tile).strPostA x (64 * k))).linkKick n x.dir) ∧
        (a.toNat % 64 = 0 →
          exec (.spassw n x) s = .next ((s.setTile n
            (({ t with recvCh := RF.put t.recvCh x.dir (some ⟨.passw, x.dir2, x.cc, a, k⟩),
                       sendCh := RF.put t.sendCh x.dir2 (.pass x.dir) } : Tile).strPostA x (64 * k))).linkKick n x.dir))))

/-- R49, R63, R64: one flit through a link. A flit at the head of the wire reaches the link logic, where it is moved on or
held; a send operation with one flit left and a credit puts it on the wire towards its neighbour, uses the credit and
ends; and an ended operation adds one to its counter, whose status keeps the first code that is not OK and counts all
such completions. -/
def Obligations.LinkFlits : Prop :=
  ∀ (s : State) (n : Nat),
    let t := s.tile n
    (∀ (d : BitVec 2) (f : Flit) (rest : List Flit), RF.at t.wire d = f :: rest →
      exec (.flitArrive n d) s = .next ((s.setTile n { t with
        wire := RF.put t.wire d rest, linkBuf := RF.put t.linkBuf d (RF.at t.linkBuf d ++ [f]) }).linkKick n d)) ∧
    (∀ (k : BitVec 4) (code : Byte) (rest : List (CountTo × Byte)), t.doneOps = (.cc k, code) :: rest →
      let c := RF.at t.cc k
      let c' : Counter := { count := satInc c.count, code := if c.bad = 0 then code else c.code,
                            bad := if code = 0 then c.bad else satInc c.bad, tolerant := c.tolerant }
      exec (.streamOpComplete n) s = .next (s.setTile n { t with doneOps := rest, cc := RF.put t.cc k c' })) ∧
    (∀ (d : BitVec 2) (op : SendOp) (m : Nat), s.errs.inj = none → s.isBridge n = false → t.uc = [] → nbr n d = some m →
      RF.at t.sendCh d = .send op → op.left = 1 → RF.at t.credit d ≠ 0 →
      ∃ s', s.trySend n d = some (s', [⟨n, d, true⟩]) ∧
        (s'.tile n).sendCh = RF.put t.sendCh d .idle ∧
        (s'.tile n).doneOps = t.doneOps ++ [(.cc op.cc, 0)] ∧
        RF.at (s'.tile n).credit d = RF.at t.credit d - 1 ∧
        RF.at (s'.tile m).wire (opp d) = RF.at (s.tile m).wire (opp d) ++ [⟨BitVec.ofNat 512 (t.read op.addr.toNat 64), false⟩])

/-- R61, R62, R162: the memory operations of the stream slot on a running tile of a program, with the reserved fields 0, the
addresses aligned and room in the queue of 16: an operation that passes its segment check enters the queue with its
global address; one that fails it completes with ACCESS_DENIED and does not stop the tile. -/
def Obligations.MemoryIssue : Prop :=
  ∀ (s : State) (n : Nat) (x : StrSlot) (p : Prog), (s.tile n).st = .running → s.tileProg n = some p →
    x.dir2 = 0 → (s.tile n).memQ.length < 16 →
    let t := s.tile n
    let r := RF.at t.s x.sreg
    let off := r.toNat % 2 ^ 40
    let a := RF.at t.a x.areg
    let seg := RF.at p.segs (r.extractLsb' 60 4)
    let outcome := fun (kind : MemKind) (bytes : Nat) (ok : Bool) =>
      let u := t.memPost x kind bytes
      let op : MemOp := { id := u.nextOp, kind := kind, addr := a, ga := (seg.base.toNat + off) % 2 ^ 48, fc := seg.fc,
                          bytes := bytes, cc := x.cc, atop := x.atop, sent := 0, done := 0, code := 0 }
      if ok then s.setTile n { u with memQ := u.memQ ++ [op], nextOp := u.nextOp + 1 }
      else s.setTile n (u.finish (.cc x.cc) 0x03)
    (x.atop = 0 → off % 256 = 0 →
      let bytes := 256 * strCount x.count
      (a.toNat % 256 = 0 →
        exec (.frd n x) s = .next (outcome .frd bytes (seg.ok .rd off bytes)) ∧
        exec (.fwr n x) s = .next (outcome .fwr bytes (seg.ok .w off bytes))) ∧
      exec (.ffl n x) s = .next (outcome .ffl bytes (seg.ok .w off bytes)) ∧
      exec (.fiv n x) s = .next (outcome .fiv bytes (seg.ok .w off bytes))) ∧
    (x.atop = 0 → off % 8 = 0 → a.toNat % 8 = 0 →
      let bytes := 8 * strCount x.count
      exec (.gld n x) s = .next (outcome .gld bytes (seg.ok .rd off bytes)) ∧
      exec (.gst n x) s = .next (outcome .gst bytes (seg.ok .w off bytes)) ∧
      exec (.gstf n x) s = .next (outcome .gstf bytes (seg.ok .f off bytes && p.privCh.isSome))) ∧
    (x.count = 0 → x.atop.toNat ≤ 11 → x.atop ≠ 2 → x.atop ≠ 4 → off % 4 = 0 → a.toNat % 4 = 0 →
      exec (.gat n x) s = .next (outcome .gat 4 (seg.ok .at' off 4))) ∧
    (x.count = 1 → x.atop.toNat ≤ 11 → off % 8 = 0 → a.toNat % 8 = 0 →
      exec (.gat n x) s = .next (outcome .gat 8 (seg.ok .at' off 8))) ∧
    (x.count = 2 → x.atop = 4 → off % 16 = 0 → a.toNat % 16 = 0 →
      exec (.gat n x) s = .next (outcome .gat 16 (seg.ok .at' off 16)))

/-- R69, R72: the run-ahead unit of a running tile: the next eligible list entry is requested with the tile's epoch, and the
SRAM stays as it was; a reply whose epoch tag differs from the tile's is dropped and changes nothing but
the list of requests. -/
def Obligations.RunAhead : Prop :=
  ∀ (s : State) (n : Nat) (p : Prog), s.tileProg n = some p → Runs s n →
    let t := reachMore p.img.blockTable p.img.blockCount 4 (s.tile n)
    (∀ (e : RaEntry) (es : List RaEntry) (off len : Nat), (s.tile n).ra.out.length < 32 → t.ra.entries = e :: es →
      let seg := RF.at p.segs e.seg
      t.ra.block = some e.block → e.redo = [] → e.shapeOk = true → seg.ok .rd e.off.toNat e.len = true →
      e.part seg true (seg.fc || s.portScratch n (seg.base.toNat + e.off.toNat + e.sent)) = some (off, len) →
      ∃ s', exec (.runaheadIssue n) s = .next s' ∧
        (s'.tile n).ra.out = t.ra.out ++ [⟨t.ra.nextId, t.ra.epoch, e.id, off, len,
          (seg.base.toNat + e.off.toNat + off) % 2 ^ 48, seg.fc, false, false, none⟩] ∧
        (s'.tile n).sram = t.sram) ∧
    (∀ (id : Nat) (q : RaReq) (r : RaRsp), (s.tile n).ra.out.find? (fun q => q.id == id) = some q → q.rsp = some r →
      q.epoch ≠ (s.tile n).ra.epoch →
      exec (.runaheadReply n id) s = .next (s.setTile n { s.tile n with
        ra := { (s.tile n).ra with out := (s.tile n).ra.out.filter (fun x => x.id != id) } }))

/-! ### Programs and the scheduler -/

namespace Sys2Proof.Claims

/-- N0 has taken a message of a type, and is up to act on it (R163, R442). -/
def Taken (s : State) (type : Nat) (m : List Byte) (rest : List (List Byte)) : Prop :=
  s.firm.mbx.taken = m :: rest ∧ s.schedUp = true ∧ fld m 2 2 = type

end Sys2Proof.Claims

/-- R163 to R168: N0 answers the oldest SUBMIT that it has taken: it accepts the program, which is then queued, or refuses
it with the status and DETAIL of the first check that fails; and it answers an ABORT: NOT_FOUND where no accepted
program has the tag, and otherwise ACCEPTED, a queued program completing ABORTED_HOST at once and a started one being
aborted. -/
def Obligations.SubmitAndAbort : Prop :=
  ∀ (s : State) (m : List Byte) (rest : List (List Byte)),
    let u := s.takeUp
    let b := padTo 256 m
    let tag := BitVec.ofNat 32 (fld b 16 4)
    let reply := fun (s : State) (st slot : Nat) => s.d2h 0x0105 (progReply tag st slot 0 0 0 0 0 0)
    (Taken s 0x0101 m rest →
      (∀ i v, u.judge b = (.accept i, v) → exec .submit s =
        .next ((v.onSched (fun x => { x with progs := x.progs ++ [v.newProg b i] })).d2h 0x0102
          (progReply tag 0 0xFF 0 0 0 0 0 0))) ∧
      (∀ st d v, u.judge b = (.refuse st d, v) → exec .submit s =
        .next (v.d2h 0x0102 (progReply tag st 0xFF 0 d 0 0 0 0)))) ∧
    (Taken s 0x0104 m rest →
      (u.prog? tag = none → exec .abort s = .next (reply u 0x0B 0xFF)) ∧
      (∀ p, u.prog? tag = some p → p.st = .queued → exec .abort s =
        .next ((reply u 0 0xFF).completeProg { p with endTime := u.ftime } 0x11 0 0)) ∧
      (∀ p, u.prog? tag = some p → p.st ≠ .queued → p.st ≠ .running → exec .abort s =
        .next ((reply u 0 (slotByte p.slot)).abortProg tag 0x11 0)) ∧
      (∀ p, u.prog? tag = some p → p.st = .running → u.allHalted p = false → exec .abort s =
        .next ((reply u 0 (slotByte p.slot)).abortProg tag 0x11 0)) ∧
      (∀ p, u.prog? tag = some p → p.st = .running → u.allHalted p = true → exec .abort s =
        .next (reply u 0x0B 0xFF)))

/-- R174, R178: a program starts when its tiles are zeroed and its slices are ready: code and data are loaded and
checked, the relocations applied, and all its tiles issue their first bundle in one cycle; a section that fails its check
makes the program abort with LOAD_FAILED and the section's position. A program with START_FTIME reserves its resources
2 ms before; at START_FTIME it starts, or completes START_MISSED. -/
def Obligations.ProgramStart : Prop :=
  ∀ (s : State) (tag : W32) (p : Prog), s.prog? tag = some p →
    (p.st = .loading → p.resuming = false → s.loadReady p = true → s.retiredOf p = none →
      (∀ v, loadAll p true p.img.place s = (none, v) →
        let started := (((v.relocate p).onProg p.tag (fun q => { q with st := .running, startTime := v.ftime })).phaseBegins
          p.tag).go p.tiles
        (p.startFtime = 0 → exec (.programStart tag) s = .next started) ∧
        (p.startFtime ≠ 0 → exec (.startFtimeReached tag) s = .next started)) ∧
      (∀ k v, loadAll p true p.img.place s = (some k, v) → p.startFtime = 0 →
        exec (.programStart tag) s = .next (v.abortProg p.tag 0x13 k))) ∧
    (p.st = .queued → p.startFtime ≠ 0 →
      (s.schedUp = true → s.sched.en = false →
        exec (.startReserve tag) s = .next (s.onProg tag (fun p => { p with reserved := true }))) ∧
      (s.schedUp = true → s.sched.en = true → s.pkg.dev = .flow →
        let u := s.onProg tag (fun p => { p with reserved := true })
        exec (.startReserve tag) s = .next (u.sched.progs.foldl
          (fun v q => if v.blocks q p && v.preemptible q then v.askPreempt q else v) u)) ∧
      (s.sched.progs.any (fun q => s.blocks q p && !s.preemptible q) = true →
        exec (.startFtimeReached tag) s = .next (s.completeProg { p with endTime := s.ftime } 0x15 0 0)))

/-- R82, R175 to R177: the steps of a preemption. When every tile holds or has halted, N0 sets t to the highest slice
reported and releases the tiles below it; when all hold at t, run-ahead is undone and the context is written; when the
save is complete the tiles are freed and the program is PREEMPTED; and a preemption whose tiles do not all hold in time
is abandoned, the third in a row aborting the program with SLICE_OVERRUN. -/
def Obligations.Preemption : Prop :=
  ∀ (s : State) (tag : W32) (p : Prog), s.prog? tag = some p →
    (p.st = .running → p.preempting = true → p.sliceT = none → s.allHold p = true → s.allHalted p = false →
      let t := p.reports.foldl (fun m r => max m (r.2.getD 0)) 0
      let lower := p.tiles.filter (fun n => (s.tile n).st = .sliceHold && (s.tile n).slice < t)
      exec (.sliceReportsComplete tag) s = .next (((s.onProg tag (fun p =>
          { p with sliceT := some t, reports := lower.foldl (fun r n => SMap.del n r) p.reports })).onTiles p.tiles
        (fun x => { x with holdAt := some t })).runOn lower (fun x => x))) ∧
    (s.heldForSave p = true → p.tiles.any (fun n => (s.tile n).epochBusy) = false →
      let halted := (p.tiles.filter (fun n => (s.tile n).st = .halted)).foldl (fun l n => NSet.add n l) []
      let q := { p with savedScratch := s.scratchWanted p, haltedTiles := halted }
      exec (.preemptAllHeld tag) s = .next (((s.onTiles p.tiles Tile.undoRunAhead).saveContext q).onProg tag (fun r =>
        { r with st := .saving, savedScratch := s.scratchWanted p, haltedTiles := halted,
                 atBarrierSaved := p.st == .atBarrier }))) ∧
    (p.st = .saving →
      let u := p.savedScratch.foldl (fun s k => s.dropSlice tag false k) (s.freeTiles p)
      exec (.contextSaveComplete tag) s = .next ((u.onSched (fun x =>
          { x with preemptions := satInc x.preemptions })).onProg tag (fun p =>
        { p with st := .preempted, since := u.now, preempting := false, reports := [], sliceT := none, attempts := 0,
                 preemptions := p.preemptions + 1, scratch := p.scratch.filter (fun k => !p.savedScratch.contains k) }))) ∧
    (p.st = .running → p.preempting = true → p.tiles.any (fun n => (s.tile n).holdReq) = true → s.heldForSave p = false →
      let u := ((s.onSched (fun x => { x with sliceAbandons := satInc x.sliceAbandons })).onProg tag (fun p =>
          { p with preempting := false, reports := [], sliceT := none, attempts := p.attempts + 1 })).runOn p.tiles
        (fun x => { x with holdReq := false, holdAt := none })
      (p.attempts < 2 → exec (.sliceTimeout tag) s = .next u) ∧
      (2 ≤ p.attempts → exec (.sliceTimeout tag) s = .next (u.abortProg tag 0x14
        (p.sliceT.getD (p.reports.foldl (fun m r => max m (r.2.getD 0)) 0)))))

/-- R178, R179, R180, R408: a program that resumes has its code reloaded and its context written back, and every tile that
had not halted goes on; a barrier that nothing holds releases all its tiles into the next phase; DRIFT holds it; and a
governor that has not set budgets 50 µs after the barrier holds it no longer. -/
def Obligations.ResumeAndBarriers : Prop :=
  ∀ (s : State) (tag : W32) (p : Prog), s.prog? tag = some p →
    (p.st = .loading → p.resuming = true → s.loadReady p = true → s.retiredOf p = none →
      (∀ v w, loadAll p false p.img.place s = (none, v) → v.restoreContext p = (w, false) → v.contextInj p = none →
        let x := (((w.onTiles p.haltedTiles (fun t => { t with st := .halted })).onProg tag (fun q =>
          { q with st := .running, resuming := false, savedScratch := [], haltedTiles := [] })).phaseBegins tag).go
            (p.tiles.filter (fun n => !p.haltedTiles.contains n)) (!p.atBarrierSaved)
        exec (.programResume tag) s = .next (if p.atBarrierSaved then x.phaseEvent p else x))) ∧
    (p.st = .atBarrier → p.govHold = false → p.preempting = false →
      (p.driftHold = false → s.driftHolds p = false →
        exec (.phaseBarrierRelease tag) s = .next (s.passBarrier p)) ∧
      (s.driftHolds p = true →
        exec (.phaseBarrierRelease tag) s = .next (s.onProg tag (fun p => { p with driftHold := true })))) ∧
    (p.st = .atBarrier →
      exec (.governorBarrierTimeout tag) s = .next (s.onProg tag (fun p => { p with govHold := false })))

/-- R73, R74, R167, R200: the end of a program. A tile fault stops the tile and makes N0 abort the program; the abort
empties its links, frees its tiles and begins the discard walk of its slot; after the last HALT, or after the abort's
effects, N0 writes COMPLETE, and a program that completed has its slot's lines written back. A zeroed tile is ready. -/
def Obligations.ProgramEnd : Prop :=
  ∀ (s : State) (tag : W32) (p : Prog) (k : Nat), s.prog? tag = some p → p.slot = some k →
    (∀ n code, (s.tile n).st = .running → exec (.tileFault n code) s = .next (s.tileFault n code.toNat)) ∧
    (∀ n, (s.tile n).st = .zeroing →
      exec (.tileZeroComplete n) s = .next (s.setTile n { s.tile n with st := .ready, sram := [], uc := [] })) ∧
    (p.st = .ending → p.cleared = false →
      let mine := p.tiles.filter (fun n => (s.tile n).prog == some tag)
      mine.any (fun n => (s.tile n).epochBusy) = false →
      let u := ((mine.foldl (fun s n => (s.clearLinks n).clearBridges n) s).onTiles mine Tile.undoRunAhead).freeTiles p
      exec (.tileAbort tag) s = .next (((u.onFirn (fun f => { f with walks := f.walks ++ [⟨k, p.tag, true⟩] })).onSched (fun x =>
          { x with walkSlots := NSet.add k x.walkSlots })).onProg tag (fun p => { p with cleared := true }))) ∧
    (∀ cycles, s.schedUp = true → p.st = .running → s.allHalted p = true →
      exec (.programEnd tag cycles) s = .next
        ((((s.freeTiles p).completeProg p 0x10 0 cycles).onFirn (fun f => { f with walks := f.walks ++ [⟨k, p.tag, false⟩] })).onSched
          (fun x => { x with walkSlots := NSet.add k x.walkSlots }))) ∧
    (∀ cycles e, s.schedUp = true → p.st = .ending → p.cleared = true → s.sched.walkSlots.contains k = false →
      p.ending = some e →
      exec (.programEnd tag cycles) s = .next (s.completeProg p e.status.toNat e.detail.toNat cycles))

/-! ### The host's messages and the scheduler's cycle -/

/-- R439, R440, R442 to R445, R449: loading firmware and taking messages. A GO write that names a free buffer queues its
chunk; N4 takes chunks in order; a gap of 10 s discards the partial image with cause CHUNK_TIMEOUT. N0 takes the messages
up to the head in index order; the tail that the host writes frees its slots; a heartbeat makes the newest message's
age 0, and one that is late makes DRIFT due. -/
def Obligations.HostLoadAndMessages : Prop :=
  ∀ (s : State),
    let l := s.firm.load
    let m := s.firm.mbx
    (∀ (ctrl : W32) (bytes : List Byte), ctrl.getLsbD 31 = true → l.st = .waiting ∨ l.st = .loading →
      l.busy (ctrl.getLsbD 29) = false →
      let n := ctrl.toNat % 65536 + 1
      exec (.loadChunkSubmit ctrl bytes) s = .next (s.onLoad (fun l =>
        { l with ctrl := ctrl &&& 0x7FFFFFFF, st := .loading, chunkAt := s.now,
                 queue := l.queue ++ [⟨ctrl.getLsbD 29, ctrl.getLsbD 30, padTo n (bytes.take n)⟩],
                 bufs := SMap.set [] l.bufs (if ctrl.getLsbD 29 then 1 else 0) (bytes.take 65536) }))) ∧
    (∀ c rest, l.queue = c :: rest → l.lastTaken = false → s.coreUp 4 = true ∨ (RF.at s.firm.cores 4).st = .boot →
      exec .loadChunkTake s = .next (s.onLoad (fun l =>
        { l with queue := rest, image := l.image ++ c.bytes, lastTaken := c.last }))) ∧
    (l.st = .loading → l.lastTaken = false →
      exec .loadChunkTimeout s = .next (s.onLoad (fun l =>
        { l with st := .waiting, cause := 7, queue := [], image := [], lastTaken := false }))) ∧
    (∀ (head : W32) (msgs : List (List Byte)), s.schedUp = true → s.pkg.dev ≠ .cold → msgs.length ≤ 64 →
      (head - m.h2dTail).toNat ≤ 64 →
      let u := s.onMbx (fun m => ({ m with h2dHead := head }).fill msgs)
      exec (.mbxPoll head msgs) s = .next (u.firm.mbx.waiting.foldl State.takeMsg
        (u.onMbx (fun m => { m with h2dTail := head })))) ∧
    (∀ tail : W32, (tail - m.d2hTail).toNat ≤ (m.d2hHead - m.d2hTail).toNat →
      exec (.mbxD2hTailWrite tail) s = .next (s.onMbx (fun m =>
        { m with d2hTail := tail, sent := m.sent.drop (tail - m.d2hTail).toNat })).pump) ∧
    (∀ b rest, Taken s 0x0010 b rest →
      exec .heartbeat s = .next (s.takeUp.onMbx (fun x => { x with lastMsg := s.now }))) ∧
    (s.pkg.dev = .flow → exec .heartbeatTimeout s = .next (s.onMbx (fun m => { m with driftDue := true })))

/-- R174, R179, R407, R408, R422, R450 to R452: a cycle of N0's, attachment, DRIFT and the governor's reports. ATTACH
empties the mailbox, writes ATTACH_REPLY, the inventory and the COMPLETEs not consumed, and turns DRIFT into FLOW; a DRIFT
that lasts its period holds programs and fences the windows; a cycle start renews the lease, counts the cycle and
decides; a phase update lifts the governor's hold; a limit report moves
LOW_RUN and goes to the leader. -/
def Obligations.AttachAndCycle : Prop :=
  ∀ (s : State),
    (∀ b rest, Taken s 0x0011 b rest → s.pkg.dev = .thaw ∨ s.pkg.dev = .flow ∨ s.pkg.dev = .drift → s.errs.entryDue = false →
      ∃ t, exec .attach s = .next t ∧
      t.firm.mbx.attached = true ∧ t.firm.mbx.h2dHead = 0 ∧ t.firm.mbx.h2dTail = 0 ∧ t.firm.mbx.d2hTail = 0 ∧
      t.firm.mbx.taken = [] ∧ t.pkg.dev = (if s.pkg.dev = .drift then .flow else s.pkg.dev) ∧
      t.firm.mbx.sent ++ t.firm.mbx.out =
        s.attachReply (BitVec.ofNat 32 (fld (padTo 256 b) 16 4)) s.firm.mbx.completes.length ::
          invParts (s.inventory s.firm.mbx.completes) ++ s.firm.mbx.completes) ∧
    (s.pkg.dev = .drift → s.firm.mbx.driftPeriod ≠ 0 →
      exec .driftPeriodExpire s = .next ((s.onMbx (fun m => { m with driftExpired := true })).onMem (fun m =>
        { m with driftFence := true }))) ∧
    (s.schedUp = true → s.leaseRuns = true → s.handOver.firm.lease.handover = false →
      exec .schedCycleStart s = .next ((((s.handOver.onLease (fun l => { l with renewed := s.handOver.now })).onSched (fun x =>
        { x with cycle := x.cycle + 1, progs := x.progs.map (fun p => { p with trapSent := false }) })).driftStart.releaseDrift
          ).landCycle.applyPlan.decide)) ∧
    (∀ tag p energy e, s.prog? tag = some p → p.st = .atBarrier → s.coreUp 3 = true → p.img.phases[p.phaseDone]? = some e →
      let u := ((s.onPow (fun w => w.learn e.key (energy.map (fun r => (r.1, s.phasePower p r.1 r.2))))).land (dk 0x4100 7)).onProg
        tag (fun p => { p with govHold := false })
      (p.nextPhase = none → exec (.governorPhaseUpdate tag energy) s = .next u) ∧
      (∀ e', p.nextPhase = some e' → e'.short = true → exec (.governorPhaseUpdate tag energy) s = .next u) ∧
      (∀ e', p.nextPhase = some e' → e'.short = false →
        exec (.governorPhaseUpdate tag energy) s = .next (u.onPow (fun w => w.touch e'.key)).sendBudgets)) ∧
    (s.coreUp 3 = true → s.pkg.dev = .flow ∨ s.pkg.dev = .drift →
      let u := ((s.land (dk 0x4100 5)).newInterval).onPow (fun p => { p with lowRun := p.nextLowRun s.intervalLow })
      (u.leader = none → exec .limitReportSend s = .next u) ∧
      (∀ d, u.leader = some d →
        exec .limitReportSend s = .next (u.sendBudget d (u.limitReport s.kMean s.sustainedAlarm))))

/-- R340, R343 to R345: retries at the source. A load that times out within its attempts is injected again with RETRY one
higher; a sequenced request takes every later request of its pair with it; the last chance ends a load with PEER_TIMEOUT and
puts a pair into resync; a BUSY reply is sent again; a resync query goes out, and its duplicates are sent again; and a
flagged store that nothing keeps waiting is sent. -/
def Obligations.RetryAndResync : Prop :=
  ∀ (s : State) (id : Nat),
    (∀ r, s.trying id = some r → r.sequenced = false → s.mayRetry r = true →
      exec (.requestTimeout id) s = .next (s.retry r)) ∧
    (∀ r, s.trying id = some r → r.sequenced = true → (s.oldestOf r.eng r.dest).map (·.id) = some id →
      exec (.requestTimeout id) s = .next ((s.fromOn r).foldl (fun s q => if s.mayRetry q then s.retry q else s) s)) ∧
    (∀ r, s.req? id = some r → r.attempts ≠ 0 → r.dup = false → s.isLocal r = false →
      (r.sequenced = false → exec (.requestLastChance id) s = .next (s.complete r (Answer.plain 0x01))) ∧
      (r.sequenced = true → (s.pair r.eng r.dest).resync = false → ∃ t, exec (.requestLastChance id) s = .next t ∧
        (t.pair r.eng r.dest).resync = true ∧ t.mem.resyncs = satInc s.mem.resyncs ∧ t.mem.reqs = s.mem.reqs)) ∧
    (∀ r, s.trying id = some r → r.busy = true → s.destFails r.dest = none → r.sequenced = false → exec (.busyResend id) s =
        .next ((s.onReq r.id (fun _ => { r with busy := false })).sendReq { r with busy := false })) ∧
    (∀ eng dest, (s.pair eng dest).resync = true →
      (s.pair eng dest).queried = true ∨ usU s.memT ≤ s.since (s.pair eng dest).lastInj →
      exec (.resyncQuerySend eng dest) s = .next ((s.onPair eng dest (fun p => { p with queried := true })).inject
        (s.syncPkt eng dest) (engTile eng))) ∧
    (∀ r, s.req? id = some r → r.dup = true →
      exec (.resyncDuplicateResend id) s =
        .next ((s.onMem (fun m => { m with retries := satInc m.retries })).sendReq r)) ∧
    (∀ f, s.mem.flagged.find? (fun f => f.req.id == id) = some f → f.waits = [] →
      let u := s.onMem (fun m => { m with flagged := m.flagged.filter (fun g => g.req.id != id) })
      (∀ e, f.fail = some e → exec (.flaggedStoreSend id) s = .next (u.complete f.req (Answer.plain e.2))) ∧
      (f.fail = none → u.destFails f.req.dest = none → exec (.flaggedStoreSend id) s = .next ((u.onMem (fun m =>
        { m with reqs := m.reqs.filter (fun q => q.id < id) ++ f.req :: m.reqs.filter (fun q => id < q.id) })).release)))

/-! ### The fabric -/

/-- R257 to R260, R294, R300 to R302, R306 to R310, R313, R314: a port of the fabric. A frame that the code cannot correct is discarded
whole and counted; a frame next in order is released; CREDIT flits and service message 0x30 set the
sender's view of the receiver; a credited packet of a lit port starts and its flits are dealt; a packet for another device
sets HOP and goes on to it, a second hop is discarded with cause ROUTE, and a request that finds no reply space is discarded with
cause BUSY; and a silent neighbour's ports go down. -/
def Obligations.FabricPorts : Prop :=
  ∀ (s : State) (q : BitVec 4),
    let rx := RF.at s.floe.rx q
    let f := RF.at s.fab.ports q
    (∀ fibreB half errs w items, frameDecodes errs = false → exec (.frameReceive (.slot q fibreB half) errs w items) s =
      .next { s with floe := { s.floe with
        fecDiscarded := RF.put s.floe.fecDiscarded q (satInc (RF.at s.floe.fecDiscarded q)) } }) ∧
    (∀ l errs w items h, frameDecodes errs = true → frameHdrOf w = some h →
      exec (.frameReceive l errs w items) s = .next ((s.countFec l errs).takeFrame l h items)) ∧
    (∀ fibreB half w items h, frameHdrOf w = some h → h.kind = 0 → s.portUp q.toNat = true →
      s.floe.rxReleased.contains (laneKey (.slot q fibreB half)) = false →
      rx.synced = true → rx.held = [] → rx.expect = h.seq →
      ∃ u, exec (.frameReceive (.slot q fibreB half) [] w items) s = .next u ∧
        (RF.at u.floe.rx q).expect = h.seq + 15 ∧ (RF.at u.floe.rx q).held = []) ∧
    (∀ k, rx.first = some k →
      exec (.frameSkipTimeout (.port q)) s = .next ((s.onRx q (fun r => { r with expect := k })).rxRun q)) ∧
    (∀ c rest, f.creditIn = c :: rest →
      exec (.creditFlit q) s = .next (s.onPort q (fun f => { f with creditIn := rest, tx := f.tx.report c }))) ∧
    (s.portUp q.toNat = true → s.portLit q.toNat = true → ∃ u, exec (.creditSend q) s = .next u ∧
      (RF.at u.fab.ports q).reported = f.occ ∧ (RF.at u.fab.ports q).tx.next = f.tx.next + 1) ∧
    (∀ idle i x, s.portUp q.toNat = true → s.portLit q.toNat = true → f.pick idle = some (i, x) →
      ∃ u, exec (.packetStart q idle 0 0) s = .next u ∧ (RF.at u.fab.ports q).out = f.out.eraseIdx i ∧
        (RF.at u.fab.ports q).tx.dealt = f.tx.dealt ++ (List.range x.pkt.flits).map (fun k =>
          ((s.dealPort q idle x.pkt.flits).2.seq + BitVec.ofNat 24 k, x.pkt.channel x.pkt.hop))) ∧
    (∀ ch p, s.headOf q ch = some p → p.dst ≠ s.fab.devid → q.toNat < 14 →
      (p.hop = true → exec (.packetForward q ch) s = .next ((s.pop q ch).discard (some q) discRoute)) ∧
      (p.hop = false → inShape s.shape p.dst.toNat = true → exec (.packetForward q ch) s =
        .next ((s.pop q ch).sendTo ⟨{ p with hop := true }, p.dst.toNat, some q⟩ (q.toNat / 4)))) ∧
    (∀ ch p, s.headOf q ch = some p → isReplyOp p.opcode.toNat = false →
      q.toNat < 14 ∧ p.dst = s.fab.devid ∨ 14 ≤ q.toNat ∧ isOuterOp p.opcode.toNat = true →
      exec (.headBusyTimeout q ch) s = .next ((s.pop q ch).discard (some q) discBusy)) ∧
    (∀ d : BitVec 6, s.portsTo d.toNat ≠ [] →
      exec (.neighbourPortsDown d) s = .next ((s.portsTo d.toNat).foldl (fun s k =>
        if s.portUp k || s.portSt k = .training then s.portDown (BitVec.ofNat 4 k) .down else s) (s.onFab (fun f =>
        { f with silent := NSet.add d.toNat f.silent, silentDown := NSet.add d.toNat f.silentDown })))) ∧
    (∀ h c u, c.crcOk = true → s.svcIn h 0x30 (creditBytes c) = (true, u) →
      exec (.credit h c) s = .next (u.onPort h.port (fun f => { f with tx := f.tx.report c })))

/-! ### Memory requests -/

/-- R276, R326, R329, R331 to R334, R337, R342, R345, R347: requests that the destination serves. A load, a store in its turn and an
atomic in its turn of a peer are window-checked, performed and answered, EXP of the pair goes up by one and an atomic's result is
cached; a store before its turn is dropped and counted; a sync query is answered with EXP; and a request of this device to itself is
performed and ends. -/
def Obligations.RequestsServed : Prop :=
  (∀ (s : State) (q : BitVec 4) (ch : BitVec 2) (p : Packet), s.headOf q ch = some p → p.dst = s.fab.devid →
    q.toNat < 14 → s.replyRoom = true → s.tooOld p = false → s.headWaits q ch = false →
    let u := s.pop q ch
    let stored := fun (flagged : Bool) => u.serveStore (.peer p false) p.addr.toNat (p.payload.take p.size) p.poison flagged
      { w := true, f := flagged }
    let kept := fun (flagged : Bool) =>
      let v := (stored flagged).1.moved (q.toNat / 4) p.addr.toNat p.size true (stored flagged).2
      if (stored flagged).2 = 0 then v else v.cachePut (v.cacheEnt p .store (stored flagged).2 [])
    let acked := fun (flagged : Bool) =>
      ((kept flagged).expUp p).answer' q ((kept flagged).replyTo p opAck (stored flagged).2)
    (p.opcode = 0x01 →
      let x := u.serveLoad (.peer p false) p.addr.toNat p.size { rd := true, pf := p.tag.getLsbD 15 }
      exec (.ldReq (.port q ch)) s =
        .next ((x.1.moved (q.toNat / 4) p.addr.toNat p.size false x.2.st).answerLoad q p p.size x.2)) ∧
    (u.turnOf p = .now →
      (p.opcode = 0x04 → exec (.stS (.port q ch)) s = .next (acked false)) ∧
      (p.opcode = 0x05 → exec (.stReq (.port q ch)) s = .next (acked false)) ∧
      (p.opcode = 0x06 → exec (.stfS (.port q ch)) s = .next (acked true)) ∧
      (p.opcode = 0x07 → exec (.stf (.port q ch)) s = .next (acked true)) ∧
      (p.opcode = 0x09 → p.atop ≠ 15 → u.cacheRoom.isSome = true →
        let x := u.serveAtomic (.peer p false) p
        exec (.atomic (.port q ch)) s = .next
          ((((x.1.moved (q.toNat / 4) p.addr.toNat 16 true x.2.1).cachePut (x.1.cacheEnt p .atomic x.2.1 x.2.2)).expUp p
            ).answerAtomic q p x.2.1 x.2.2))) ∧
    (u.turnOf p = .early → p.opcode = 0x05 → exec (.stReq (.port q ch)) s =
      .next (u.onMem (fun m => { m with seqDiscards := satInc m.seqDiscards }))) ∧
    (p.opcode = 0x09 → p.atop = 15 → exec (.syncQuery q ch) s =
      .next ((u.cachePut (u.cacheEnt p .sync 0 (natLE 4 (u.expOf p).toNat))).answerAtomic q p 0 (natLE 4 (u.expOf p).toNat)))) ∧
  (∀ (s : State) (id : Nat) (r : Req),
    let t := engTile r.eng
    let a := r.pkt.addr.toNat
    let stored := fun (flagged : Bool) => s.serveStore .own a (r.pkt.payload.take r.pkt.size) r.pkt.poison flagged {}
    let ended := fun (flagged : Bool) =>
      ((stored flagged).1.moved t a r.pkt.size true (stored flagged).2).complete r (Answer.plain (stored flagged).2)
    let plain := (match r.owner with | .writeBack _ _ _ => false | _ => true) = true
    (s.ownReq id opLd = some r →
      let x := s.serveLoad .own a r.pkt.size { rd := true }
      exec (.ldReq (.own id)) s = .next ((x.1.moved t a r.pkt.size false x.2.st).complete r x.2)) ∧
    (s.ownReq id opStS = some r → plain → exec (.stS (.own id)) s = .next (ended false)) ∧
    (s.ownReq id opSt = some r → plain → exec (.stReq (.own id)) s = .next (ended false)) ∧
    (s.ownReq id opStfS = some r → plain → exec (.stfS (.own id)) s = .next (ended true)) ∧
    (s.ownReq id opStf = some r → plain → exec (.stf (.own id)) s = .next (ended true)) ∧
    (s.ownReq id opAt = some r →
      let x := s.serveAtomic .own r.pkt
      exec (.atomic (.own id)) s = .next ((x.1.moved t a 16 true x.2.1).complete r ⟨x.2.1, x.2.2, [], true, true⟩)))

/-- R296, R320, R337, R343, R345: the replies at the source end the requests that they answer, with the reply's status and data; a reply
BUSY leaves its request to be sent again; and the answer of a SYNC query ends the resync of its pair. -/
def Obligations.RepliesEndRequests : Prop :=
  ∀ (s : State) (q : BitVec 4) (ch : BitVec 2) (p : Packet) (r : Req), s.headOf q ch = some p → p.dst = s.fab.devid →
    let u := s.pop q ch
    let ended := fun (a : Answer) =>
      if p.status = 7 then u.onReq r.id (fun r => { r with busy := true }) else u.complete r a
    let loaded := ended (loadAnswer p r.pkt.size r)
    let plain := ended (Answer.plain p.status)
    let mine := q.toNat < 14 ∨ p.dstDom = s.fab.domain
    (p.opcode = 0x02 → u.asked p (fun r => r.op = opLd) = some r → exec (.ldRspS q ch) s = .next loaded) ∧
    (p.opcode = 0x03 → u.asked p (fun r => r.op = opLd) = some r → exec (.ldRsp q ch) s = .next loaded) ∧
    (p.opcode = 0x08 → u.asked p (fun r => r.isStore || r.op = opColl) = some r → exec (.ack q ch) s = .next plain) ∧
    (p.opcode = 0x0A → p.tag ≠ syncTag → u.asked p (fun r => r.isAtomic) = some r →
      exec (.atRsp q ch) s = .next (ended ⟨p.status, p.ext.take r.bytes, [], true, true⟩)) ∧
    (p.opcode = 0x0A → p.tag = syncTag → (u.pair p.srcEng.toNat p.src.toNat).resync = true →
      (u.pair p.srcEng.toNat p.src.toNat).queried = true →
      exec (.atRsp q ch) s = .next (u.resyncAnswer p.srcEng.toNat p.src.toNat (BitVec.ofNat 20 (fld p.ext 0 4)))) ∧
    (p.opcode = 0x11 → mine → u.asked p (fun r => r.op = opXput) = some r → exec (.xputAck q ch) s = .next plain) ∧
    (p.opcode = 0x13 → mine → u.asked p (fun r => r.op = opXget) = some r → exec (.xgetRsp q ch) s = .next loaded) ∧
    (p.opcode = 0x15 → mine → u.asked p (fun r => r.op = opXmsg) = some r → exec (.xmsgAck q ch) s = .next plain)

/-- R319, R320, R331, R347: requests between domains. One that comes to this device's gateway leaves by it; one of another
domain for this device is served under its windows and answered by the port on which it came, a message once; and one
that names another domain is discarded with cause OUTER. -/
def Obligations.OuterRequests : Prop :=
  ∀ (s : State) (q : BitVec 4) (ch : BitVec 2) (p : Packet), s.headOf q ch = some p →
    let u := s.pop q ch
    (q.toNat < 14 → p.dst = s.fab.devid →
      (p.opcode = 0x10 → exec (.xput q ch) s = .next (u.sendOuter p (some q))) ∧
      (p.opcode = 0x12 → exec (.xget q ch) s = .next (u.sendOuter p (some q))) ∧
      (p.opcode = 0x14 → exec (.xmsg q ch) s = .next (u.sendOuter p (some q)))) ∧
    (14 ≤ q.toNat → s.replyRoom = true → p.dstDom ≠ s.fab.domain →
      (p.opcode = 0x10 → exec (.xput q ch) s = .next (u.discard (some q) discOuter)) ∧
      (p.opcode = 0x12 → exec (.xget q ch) s = .next (u.discard (some q) discOuter)) ∧
      (p.opcode = 0x14 → exec (.xmsg q ch) s = .next (u.discard (some q) discOuter))) ∧
    (14 ≤ q.toNat → s.replyRoom = true → p.dstDom = s.fab.domain → gDev p.addr.toNat = s.devid → s.tooOld p = false →
      (∀ n, p.opcode = 0x10 → outerCount p = some n →
        let x := u.serveStore (.peer p true) p.addr.toNat (p.body.take n) p.poison false { w := true }
        exec (.xput q ch) s = .next (x.1.answer' q (x.1.replyTo p opXputAck x.2))) ∧
      (p.opcode = 0x12 →
        let x := u.serveLoad (.peer p true) p.addr.toNat p.size { rd := true }
        exec (.xget q ch) s = .next (x.1.answerLoad q p p.size x.2)) ∧
      (p.opcode = 0x14 → (∀ e, u.cached p .xmsg = some e →
        exec (.xmsg q ch) s = .next (u.answer' q (u.replyTo p opXmsgAck e.status)))) ∧
      (p.opcode = 0x14 → u.cached p .xmsg = none → p.retry = 0 → u.cacheRoom.isSome = true → ∀ n, outerCount p = some n →
        let x := u.serveMsg (.peer p true) p.addr.toNat (fld p.ext 8 8) (p.body.take n) p.poison
        let w := x.1.onMem (fun m => { m with xmsgGone := m.xmsgGone.filter (fun x => x != (pairAt p, p.tag)) })
        let v := w.cachePut (w.cacheEnt p .xmsg x.2 [])
        ∃ r : Packet, r = w.replyTo p opXmsgAck x.2 ∧ exec (.xmsg q ch) s = .next (v.answer' q r)))

/-- R457, R494: the dictionary over the fabric. A peer's request is served, or held while N5 is down; N2's own requests are sent, sent again after 1 ms at most 3 times, and end with
their reply. -/
def Obligations.ManagementOverFabric : Prop :=
  ∀ (s : State),
    (∀ q ch p, s.headOf q ch = some p → p.opcode = 0x30 → p.dst = s.fab.devid →
      let u := s.pop q ch
      u.tooOld p = false →
      (u.n5Down = true → exec (.mgmt (.received q ch)) s = .next (u.holdReq (pathFab p.src.toNat) 2 (mgmtBody p))) ∧
      (u.n5Down = false → exec (.mgmt (.received q ch)) s = .next (u.serveMgmt p.src.toNat (mgmtBody p)))) ∧
    (∀ dst body, s.coreUp 2 = true → dst ≠ s.fab.devid → s.destFails dst.toNat = none →
      let r : MgmtReq := ⟨s.dict.mgmtTag, dst, padTo 32 body, s.now, 0⟩
      exec (.mgmt (.sent dst body)) s = .next ((s.onDict (fun d =>
        { d with mgmtOut := d.mgmtOut ++ [r], mgmtTag := d.mgmtTag + 1 })).sendMgmt r)) ∧
    (∀ tag r, s.dict.mgmtOut.find? (fun r => r.tag = tag) = some r →
      (r.resends < 3 →
        let r' := { r with sentAt := s.now, resends := r.resends + 1 }
        exec (.mgmtResendTimeout tag) s = .next ((s.onDict (fun d =>
          { d with mgmtOut := d.mgmtOut.map (fun x => if x.tag = tag then r' else x) })).sendMgmt r')) ∧
      (3 ≤ r.resends → exec (.mgmtResendTimeout tag) s = .next (s.onDict (fun d =>
        { d with mgmtOut := d.mgmtOut.filter (fun x => x.tag != tag) })))) ∧
    (∀ q ch p r, s.headOf q ch = some p → p.opcode = 0x31 → p.dst = s.fab.devid →
      s.dict.mgmtOut.find? (fun r => r.tag = p.tag && r.dst = p.src) = some r →
      exec (.mgmtRsp q ch) s = .next (((s.pop q ch).onDict (fun d =>
        { d with mgmtOut := d.mgmtOut.filter (fun x => x.tag != r.tag) })).noteWindows r p.ext))

/-! ### The Firn cache -/

/-- R191, R192, R198, R202, R205, R206, R621: requests of a tile at its Firn, whose vertical bundle is not being remapped. A load that
hits is served from the line, one that misses opens its window and waits for a fill, and one that the Firn does not hold is forwarded; a
store that hits an own line makes its sectors dirty and ends at the Firn; FIV
invalidates its line; run-ahead loads as a tile does; a fill serves those that wait for it; and a merge window closes. -/
def Obligations.FirnRequests : Prop :=
  ∀ (s : State) (n : Nat),
    (∀ kind atop p, s.portWaits n = false → s.nextPiece n = some (kind, atop, p) →
      (s.cacheable p = true → ∀ k x, s.firn.find p.stack p.line = some (k, x) → s.errs.inj = none → s.firn.upsets = [] →
        (kind = .frd ∨ kind = .gld → x.poison = 0 → exec (.firnRequest n false .clean) s = .next
          ((((p.take s).touchWay k).windowRead p.stack p.line true).serve p 0 (x.bytes p.off p.n) [])) ∧
        (kind = .fwr ∨ kind = .gst → gDev p.ga = s.devid →
          let d := s.portRead p.tile p.sram p.n p.ga
          let y := x.store p.off d.1 (d.2.1.map (fun w => w - 8 * p.line)) (s.slotOf p.tile)
          exec (.firnRequest n false .clean) s = .next
            (((d.2.2.setLine k (some y)).touchWay k).windowShut p.stack p.line |>.absorbed p y)) ∧
        (kind = .fiv → s.filling p.stack p.line = false → exec (.firnRequest n false .clean) s = .next
          ((p.take ((s.setLine k none).windowShut p.stack p.line)).onTile p.tile (fun t => t.opAnswer p.id p.n 0)))) ∧
      (s.cacheable p = true → s.firn.find p.stack p.line = none → kind = .frd ∨ kind = .gld →
        s.canIssue p.eng (gDev p.ga) opLd = true → exec (.firnRequest n false .clean) s = .next
          ((s.windowRead p.stack p.line false).fillFor p (p.waiter false 0 [] []))) ∧
      (s.cacheable p = false → s.ownScratch p = false → kind = .frd ∨ kind = .gld → gRegion p.ga ≠ 2 →
        exec (.firnRequest n false .clean) s = .next (s.forwardLoad p))) ∧
    (∀ p, s.portWaits n = false → s.nextPiece n = none → s.nextRunAhead n = some p →
      exec (.firnRequest n true .clean) s = .next (s.firnLoad p .clean)) ∧
    (∀ t l, exec (.firnMergeWindowClose t l) s = .next (s.onFirn (fun f =>
      { f with windows := f.windows.filter (fun w => !(w.stack = t && w.line = l && w.filled)) }))) ∧
    (∀ t l f r, s.firn.fills.find? (fun f => f.stack = t && f.line = l) = some f → f.res = some r → r.status = 0 →
      let x : FLine := ⟨l, BitVec.ofNat 2048 (leNat r.data), 0, byteBits r.poison, 0⟩
      (l / 2 ^ 34 = s.devid ∨ r.fc = true ∧ s.cacheMode t l = true →
        exec (.firnFillComplete t l) s = .next (s.fillIn t x [] f.waits 0)) ∧
      (l / 2 ^ 34 ≠ s.devid → r.fc = false ∨ s.cacheMode t l = false →
        exec (.firnFillComplete t l) s = .next ((s.fillOver t l).serveWaiters x f.waits).1))

/-- R189, R200, R203, R204, R216 to R219, R487: slices and maintenance. A zeroed scratch slice reads 0; FIRN_FLUSH and the maintenance
operations write back the slices that they name; an operation ends with its write-backs; a slice whose lines are clean enters
scratch mode; and the walk of a completed program's slot writes its dirty lines back, and frees the slot when they are in HBM. While a
bundle is being remapped, none of them ends. -/
def Obligations.FirnMaintenance : Prop :=
  ∀ (s : State),
    (∀ k : BitVec 5, s.firn.zeroing.contains k.toNat = true → s.remapping (k.toNat / 8) = false →
      exec (.firnSliceZeroComplete k) s = .next (s.onFirn (fun f =>
      { f with windows := f.windows.filter (fun w => !(gRegion (256 * w.line) = 1 && gOff (256 * w.line) / 2 ^ 28 = k.toNat)),
               zeroing := NSet.del k.toNat f.zeroing, scratch := Mem.zero f.scratch (k.toNat * 2 ^ 28) (2 ^ 28),
               scratchPoison := f.scratchPoison.filter (fun w => w / 2 ^ 23 != k.toNat) }))) ∧
    (exec .firnFlush s = .next ((s.onFirn (fun f => { f with flushDue := 0 })).flushSlices (s.maskSlice s.firn.flushDue.toNat))) ∧
    (∀ (t : BitVec 2) (mask : Byte), s.maintBusy t = false →
      let start := fun (op : Nat) =>
        let u := s.onFirn (fun f => { f with
          maint := RF.put f.maint t (some ⟨op, mask⟩)
          maintReg := RF.put f.maintReg t (BitVec.ofNat 32 (mask.toNat * 16 + op)) })
        u.flushSlices (u.maskSlice (mask.toNat * 2 ^ (8 * t.toNat)))
      exec (.frnMaintFlush t mask) s = .next (start 1) ∧ exec (.frnMaintFlushInvalidate t mask) s = .next (start 2)) ∧
    (∀ (t : BitVec 2) m, RF.at s.firn.maint t = some m → s.stackWritingBack t.toNat = false → s.remapping t.toNat = false →
      (m.op ≠ 2 → exec (.frnMaintEnd t) s = .next (s.onFirn (fun f =>
        { f with maint := RF.put f.maint t none, maintReg := RF.put f.maintReg t (RF.at f.maintReg t &&& 0xFFFFFFFC) }))) ∧
      (m.op = 2 → ∃ u, exec (.frnMaintEnd t) s = .next u ∧ RF.at u.firn.maint t = none ∧
        u.firn.lines = s.firn.lines.filter (fun p => !(s.maskSlice (m.mask.toNat * 2 ^ (8 * t.toNat)) (p.1 / 16 / 49152) &&
          (match p.2 with | some x => x.dirty == 0 | none => true))))) ∧
    (∀ k : BitVec 5, s.firn.toScratch.contains k.toNat = true → s.stackWritingBack (k.toNat / 8) = false →
      s.remapping (k.toNat / 8) = false → s.firn.fills.any (fun f => homeOn f.stack f.line == k.toNat) = false →
      (s.firn.framesOf (fun x => x == k.toNat)).any (fun p => p.2.dirty != 0) = false →
      exec (.firnModeChangeEnd k) s = .next ((s.clearSlice k.toNat).onFirn (fun f =>
        { f with toScratch := NSet.del k.toNat f.toScratch, scratchMode := f.scratchMode ||| (1#32 <<< k.toNat) }))) ∧
    (∀ slot w, s.firn.walks.find? (fun w => w.slot == slot) = some w → s.walkBegun w = true →
      (∀ t : Nat, t < 4 → s.remapping t = false) →
      let mine := s.firn.walked slot
      (w.discard = true →
        exec (.firnDrainWalkEnd slot) s = .next ((mine.foldl (fun s p => s.setLine p.1 none) s).walkOver slot)) ∧
      (w.discard = false → mine ≠ [] → exec (.firnDrainWalkEnd slot) s = .next
        ((mine.foldl (fun s p => s.writeBack p.1 none) s).onFirn (fun f => { f with drainLines := satAdd f.drainLines mine.length }))) ∧
      (w.discard = false → mine = [] → (∀ t : Nat, t < 4 → s.stackWritingBack t = false) →
        exec (.firnDrainWalkEnd slot) s = .next (s.walkOver slot)))

/-- R80, R209 to R214: a vertical bundle of the Firn that is in use. A beat whose check fails is replayed, and the ninth within
1 ms makes the channel failing, as does an eye below 30 %; a failing channel takes the first free spare, with a CE; without
one the bundle goes HALF; a remapped bundle resumes; and N5 stores newly retired tiles. -/
def Obligations.VerticalBundles : Prop :=
  ∀ (s : State) (t : BitVec 2) (n : Nat) (pos : BitVec 6), s.vbLive t n = true →
    let v := s.vb t n
    let rs := (pos.toNat, s.now) :: v.replays.filter (fun r => (s.now - r.2).toNat < msU 1)
    (exec (.vbBeatReplay t n pos) s = .next (s.onVb t n (fun v => { v with
      replays := rs
      due := if 8 < (rs.filter (fun r => r.1 == pos.toNat)).length then NSet.add pos.toNat v.due else v.due }))) ∧
    (∀ eye, eye < 30 →
      exec (.vbEyeMeasure t n pos eye) s = .next (s.onVb t n (fun v => { v with due := NSet.add pos.toNat v.due }))) ∧
    (∀ i : BitVec 2, v.due.contains pos.toNat = true → v.st = .full → RF.at v.spares i = none →
      (∀ j : BitVec 2, j < i → RF.at v.spares j ≠ none) →
      let u := s.onVb t n (fun v => { v with due := NSet.del pos.toNat v.due, replays := v.replays.filter (fun r => r.1 != pos.toNat) })
      exec (.vbChannelFailing t n pos) s = .next
        (((u.onVb t n (fun v => { v with spares := RF.put v.spares i (some pos), remap := true })).onFirn (fun f =>
          { f with spareSwaps := satInc f.spareSwaps })).raise'
            { unit := vbUnit t n, cause := 0x12, cls := .ce, detail := BitVec.ofNat 64 (pos.toNat + 256 * i.toNat) })) ∧
    (v.due.contains pos.toNat = true → v.st = .full → (∀ i, RF.at v.spares i ≠ none) → v.failed = [] →
      let u := s.onVb t n (fun v => { v with due := NSet.del pos.toNat v.due, replays := v.replays.filter (fun r => r.1 != pos.toNat) })
      exec (.vbChannelFailing t n pos) s = .next
        ((u.onVb t n (fun v => { v with failed := [pos.toNat] })).vbHalf t n (pos.toNat < 32))) ∧
    (v.remap = true → exec (.vbRemapComplete t n) s = .next (s.onVb t n (fun v => { v with remap := false }))) ∧
    (s.coreUp 5 = true → s.mor.store = 1 → exec .retiredListStoreWrite s = .next (s.onSerac (fun x =>
      { x with retiredStore := x.retirePending.foldl (fun l n => NSet.add n l) x.retiredStore, retirePending := [] })))

/-! ### HBM -/

/-- R20, R221 to R223, R228, R229, R231 to R235, R352: the controller of a stack that its Floe tile reaches. A stack in service performs a
whole-word write, which clears
the word's poison unless its data is poisoned; up to three symbols in error are corrected and counted, four and five are an uncorrectable
word, and a parity failure counts towards the fourth in a row; an access to a failed stack is counted and does
nothing else; temperature reads set the refresh rate with hysteresis; a refresh counts for its bank; the patrol scrub goes on by one
word; a stack that comes to its bound, is silent or does not relock fails; and zeroing leaves memory with nothing listed. -/
def Obligations.HbmStacks : Prop :=
  ∀ (s : State) (h : Nat), h < 24 → s.pkg.dev ≠ .cold → s.pkg.discovered = true →
    let k := s.hbm.stack h
    (k.st = .failed → ∀ a op f, exec (.hbmAccess h a op f) s =
      .next (s.onHbm (fun x => { x with failedAccesses := satInc x.failedAccesses }))) ∧
    (∀ v : W16, k.st ≠ .notFound → k.st ≠ .retired → s.errs.inj = none →
      exec (.hbmTempRead h (some v)) s = .next (s.onStack h (fun k => { k with
        temp := v, age := 0, hot := if 1360 < v.toInt then true else if v.toInt < 1312 then false else k.hot })) ∧
      exec (.hbmTempRead h none) s = .next (s.onStack h (fun k => { k with age := k.age + 1 }))) ∧
    (s.hbm.placed = true → s.hbm.zeroed = false → exec .hbmZeroComplete s =
      .next (s.onHbm (fun x => { x with mem := [], poison := [], zeroed := true }))) ∧
    (exec (.hbmPhyRetrained h) s = .next (s.onStack h (fun k => { k with phyLost := false }))) ∧
    (k.st = .inService →
      (∀ a, a < stackBytes →
        let u := s.onStack h (fun k => { k with parity := SMap.set 0 k.parity (pseudoChannel a) 0 })
        (∀ bs poison, bs.length = 64 → a % 64 = 0 →
          exec (.hbmAccess h a (.write bs poison) (.word 0 0)) s = .next (u.onHbm (fun x =>
            { x with mem := Mem.wrBytes x.mem (stackKey h a) bs
                     poison := if poison then NSet.add (stackKey h a / 64) x.poison else NSet.del (stackKey h a / 64) x.poison }))) ∧
        (∀ lanes symbols, u.hbm.poisoned h a = false → 1 ≤ 2 * lanes + symbols →
          (2 * lanes + symbols ≤ 3 →
            exec (.hbmAccess h a .read (.word lanes symbols)) s = .next (u.hbmCorrected h a false)) ∧
          (4 ≤ 2 * lanes + symbols → 2 * lanes + symbols ≤ 5 →
            exec (.hbmAccess h a .read (.word lanes symbols)) s = .next (u.hbmUncorrectable h a false))) ∧
        (∀ op, exec (.hbmAccess h a op .parity) s = .next (s.onStack h (fun k => { k with
          parity := SMap.set 0 k.parity (pseudoChannel a) (SMap.get 0 k.parity (pseudoChannel a) + 1)
          failDue := if 3 ≤ SMap.get 0 k.parity (pseudoChannel a) ∧ k.failDue = none then some 1 else k.failDue })))) ∧
      (∀ bank, bank < 64 → exec (.hbmRefresh h bank) s = .next (s.onStack h (fun k =>
        { k with refreshes := SMap.set 0 k.refreshes bank (SMap.get 0 k.refreshes bank + 1) }))) ∧
      exec (.hbmPhyLossOfLock h) s = .next (s.onStack h (fun k => { k with phyLost := true })) ∧
      (∀ found, s.hbm.placed = true → RF.at s.hbm.pause (BitVec.ofNat 2 (h / 6)) = false → k.scrubDone = false →
        k.scrubAt + 64 < stackBytes → found ≠ .parity →
        exec (.hbmScrubRead h found) s = .next ((((s.hbmCommand h k.scrubAt false).hbmFound h k.scrubAt found).onStack h (fun x =>
          { x with scrubAt := k.scrubAt + 64, scrubDone := false })).scrubEnd)) ∧
      (s.hbm.placed = true →
        let failed := fun (ev : Nat) =>
          ((s.onStack h (fun k => { k with st := .failed, parity := [], ucTimes := [], failDue := none })).dieStatus
            (17 + h) dieFailed).raise' { unit := hbmUnit h, cause := 0x22, cls := .uc, detail := BitVec.ofNat 64 ev }
        (∀ ev, k.failDue = some ev → exec (.hbmStackFail h) s = .next (failed ev)) ∧
        (exec (.hbmPortSilentTimeout h) s = .next (failed 4)) ∧
        (k.phyLost = true → exec (.hbmPhyRelockTimeout h) s = .next (failed 2))))

/-! ### The host's access to memory -/

/-- R351 to R355: BAR4 and the host DMA engines. An access of BAR4 that is within it and mapped is applied, or answered Unsupported
Request and counted; the size is 16 GiB times a power of two. A poll takes what is posted; a descriptor that may start is
checked, and its requests issued; data of a host read is stored or sent on; and a descriptor with nothing left ends with its
record, byte 0, TAIL and the count. -/
def Obligations.HostMemoryAccess : Prop :=
  ∀ (s : State),
    (∀ off len, s.bar4Takes off len = true → len ≤ 4096 →
      (s.bar4At off len = none → exec (.bar4Read off len) s = .next (s.bar4Refused.emit .bar4Ur)) ∧
      (∀ a, s.bar4At off len = some a → exec (.bar4Read off len) s =
        .next ((s.memRead a len).1.emit (.bar4Data (s.memRead a len).2.data ((s.memRead a len).2.status = 4))))) ∧
    (∀ off bs ep, s.bar4Takes off bs.length = true →
      (s.pkg.dev = .icebound → exec (.bar4Write off bs ep) s = .next s.bar4Refused) ∧
      (s.pkg.dev ≠ .icebound → ∀ a, s.bar4At off bs.length = some a →
        exec (.bar4Write off bs ep) s = .next (s.memWrite a bs ep).1)) ∧
    (∀ log, s.hostReaches = true → log ≤ 6 → exec (.bar4Resize log) s = .next (s.onMem (fun m => { m with bar4Log := log }))) ∧
    (∀ e : BitVec 2, s.hdmaRuns = true →
      (s.staged (dk 0x3200 (0x10 + e.toNat)) = none → (s.hdmaAt e).irqDue = false → (s.hdmaAt e).ringBase ≠ 0 →
        (s.hdmaAt e).stopped = false → let u := hdmaTake e 8 s
        exec (.hdmaPoll e) s = .next (((u.hdmaAt e).runs.map (·.num)).foldl (fun s n => hdmaIssue e n 512 s) u)) ∧
      (∀ num r, s.run? e.toNat num = some r → r.started = false → r.ordered = false ∨ (s.hdmaAt e).first num = true →
        exec (.hdmaDescriptorStart e num) s = .next (hdmaIssue e num 512 (s.onRun e.toNat num (fun x =>
          { x with started := true, status := s.hdmaCheck r }))))) ∧
    (∀ (e : BitVec 2) num r, s.run? e.toNat num = some r →
      (∀ off bs, r.reads.contains off = true → bs.length = min 512 (r.len - off) →
        let u := s.onRun e.toNat num (fun x => { x with reads := NSet.del off x.reads })
        exec (.hdmaHostReadCompletion e num off (.data bs)) s = .next (hdmaIssue e num 512 (u.hdmaData e r off bs))) ∧
      (∀ off, r.reads.contains off = true →
        let u := s.onRun e.toNat num (fun x => { x with reads := NSet.del off x.reads })
        exec (.hdmaHostReadCompletion e num off .error) s = .next (u.onRun e.toNat num (fun x => x.ended 0x04))) ∧
      (r.past = true → r.norec = false →
        let u := (((((s.hdmaRecord r).ringClear r.base r.j).onHdma e.toNat (fun h =>
          { h with last := r.status })).onRun e.toNat num (fun x => { x with complete := true })).hdmaTails e).hdmaCount (r.status = 0)
        (r.irq = false → exec (.hdmaDescriptorComplete e num) s = .next u) ∧
        (r.irq = true → exec (.hdmaDescriptorComplete e num) s = .next (u.hdmaIrq e))))

/-- R356 to R363, R365: the collective units. A contribution in its turn is kept for its collective and acknowledged; an ABORT ends
the collective that it names; a unit polls, takes a posted descriptor or refuses it, steps its blocks, waits for steering,
fails after its timeout, and ends with a record; contributions for an unknown COLL_ID are held no longer than the timeout. -/
def Obligations.Collectives : Prop :=
  ∀ (s : State) (cu : BitVec 2),
    (∀ q ch p, s.headOf q ch = some p → p.dst = s.fab.devid → q.toNat < 14 → s.replyRoom = true → s.tooOld p = false →
      let u := s.pop q ch
      let k := BitVec.ofNat 2 (p.srcEng.toNat - 32)
      (p.opcode = 0x20 → u.turnOf p = .now → 32 ≤ p.srcEng.toNat → p.srcEng.toNat < 36 →
        let v := (u.collTakeIn k (contribOf u p)).expUp p
        exec (.coll (.port q ch)) s = .next (v.answer' q (v.replyTo p opAck 0))) ∧
      (p.opcode = 0x21 → 32 ≤ p.srcEng.toNat → p.srcEng.toNat < 36 →
        exec (.collCtl (.port q ch)) s = .next (u.collAborted k (BitVec.ofNat 32 (Config.collAbortId p.ext))
          (BitVec.ofNat 8 (Config.collAbortStatus p.ext))))) ∧
    (exec (.collHoldExpire cu) s = .next (s.onColl cu.toNat (fun x => { x with held := x.held.filter (fun c =>
      (s.collAt cu).runs.any (fun r => r.id = c.id) || !decide (msU s.mem.collTimeout.toNat ≤ s.since c.arrived)) }))) ∧
    (s.collRuns = true →
      (s.staged (dk 0x3300 (1 + cu.toNat)) = none →
        exec (.collPoll cu) s = .next (((s.collAt cu).runs.map (·.id)).foldl (fun s id => s.collGo cu id) s)) ∧
      (let x := s.collAt cu
       let b := natLE 64 (s.peek (ringSlot x.ringBase x.take) 64)
       let r := (s.collParse b).1
       let prog := (s.collParse b).2
       let u := ((s.ringClear x.ringBase x.take).ringTail x.ringBase (x.take + 1)).onColl cu.toNat (fun y => { y with take := y.take + 1 })
       x.ringBase ≠ 0 → fld b 0 1 = 1 → x.runs.length < 64 → x.runs.any (fun y => y.id = r.id) = false →
         (u.collOk b r prog = true →
           let v := (u.onColl cu.toNat (fun y => { y with runs := y.runs ++ [r] })).collHeld cu r
           exec (.collDescriptorTake cu) s = .next ((v.collRow cu r).collGo cu r.id)) ∧
         (u.collOk b r prog = false → (segRef prog b 40).1.ok .f (segRef prog b 40).2 16 = false →
           exec (.collDescriptorTake cu) s = .next (u.collCount cu 0x03))) ∧
      (∀ id r, s.collRun? cu id = some r →
        (r.status = 0 →
          (∀ b, b < r.nblocks → (s.collAt cu).mayStep r b = true →
            exec (.collStageComplete cu id b) s = .next ((s.collStep cu r b).collGo cu id)) ∧
          (r.allDone = false → msU r.timeout ≤ s.since r.taken → exec (.collTimeout cu id) s = .next (s.collFail cu id 0x01))) ∧
        (∀ t, r.rowWait = some t → serBefore s.ftime t = false → r.colWait = none →
          let still := fun (w : Option W64) => w.filter (fun t => serBefore s.ftime t)
          exec (.collSteerWaitEnd cu id) s = .next ((s.onCollRun cu.toNat id (fun x =>
            { x with rowWait := still x.rowWait, colWait := still x.colWait })).collGo cu id))) ∧
      (∀ id r, (s.collWatch cu id).collRun? cu id = some r → (s.collWatch cu id).collRuns = true → r.past = true →
        (s.collWatch cu id).collBusy cu id = false →
        let u := ((s.collWatch cu id).collUndefined r).onColl cu.toNat (fun x => { x with
          runs := x.runs.filter (fun x => x.id != id), held := x.held.filter (fun c => c.id != id) })
        exec (.collComplete cu id) s = .next (((u.collCount cu r.status).collRecord cu id r.compl r.status).collUnsteer cu r)))

/-! ### The cores, the scheduler's lease and the domain manager -/

/-- R456 to R463: failures of cores and the lease. A first failure of a running core restarts it with a CE, a second within 10 s
is FE; the standby that is HEALTHY takes an expired lease with the next generation, and without one an FE-class error is raised;
the standby keeps the journal, takes copies and takes a handover. -/
def Obligations.CoresAndLease : Prop :=
  ∀ (s : State),
    let l := s.firm.lease
    (∀ (n : BitVec 3) (cause : Byte), n.toNat < 6 → (s.core n).st = .running ∨ (s.core n).st = .boot →
      s.firm.load.st = .done → s.errs.inj = none →
      let u := s.onCore n (fun c => { c with lastCause := cause, lastFail := some s.now })
      let r : Raise := { unit := coreUnit n.toNat, cause := 0x0060, cls := .ce, detail := cause.setWidth 64 }
      ((s.core n).lastFail = none → exec (.coreFailure n cause true) s = .next (alerted s ((u.restartCore n).raise' r))) ∧
      (∀ t, (s.core n).lastFail = some t → s.since t ≤ 10 * msU 1000 → exec (.coreFailure n cause true) s =
        .next (alerted s (((u.onCore n (fun c => { c with st := .failed })).coreLost n).raise' { r with cause := 0x0061, cls := .fe })))) ∧
    (exec .schedLeaseStop s = .next (s.onLease (fun l => { l with stopped := true }))) ∧
    (s.leaseRuns = true →
      (l.health = .healthy → s.coreUp l.standby.toNat = true → s.errs.inj = none → ∃ t, exec .schedLeaseExpiry s = .next t ∧
        t.firm.lease.primaryN1 = !l.primaryN1 ∧ t.firm.lease.gen = l.gen + 1 ∧ t.firm.lease.stopped = false) ∧
      (l.health ≠ .healthy → exec .schedLeaseExpiry s = .next ((s.onLease (fun l => { l with stopped := true })).raise'
        { unit := leaseUnit, cause := 0x0064, cls := .fe, detail := l.gen.setWidth 64 })) ∧
      (s.coreUp l.standby.toNat = true →
        (∀ rcd, exec (.schedJournalRecord rcd) s = .next (s.onLease (fun l => { l with journal := l.journal ++ [rcd] }))) ∧
        (l.health = .healthy → s.errs.inj = none → exec (.schedStateCopy true) s = .next (s.onLease (fun l =>
          { l with copyCycle := s.sched.cycle, journal := [], run := 0, health := .healthy }))))) ∧
    (l.handover = true → s.coreUp l.standby.toNat = true →
      exec .schedHandoverCopy s = .next (s.newPrimary .healthy).pump) ∧
    (∀ n : BitVec 3, (s.core n).st = .restarting → exec (.coreRestartComplete n) s =
      .next (alerted s ((((s.onCore n (fun c => { c with st := .running })).measureCore n.toNat).fwEvent 1 n.toNat
        (if n.toNat < 2 then (((s.onCore n (fun c => { c with st := .running })).measureCore n.toNat)).firm.lease.gen else 0)).coreBack n)))

/-- R464 to R471: the role of the domain manager. The holder renews, copies its state, marks a swap that has taken its period as due, and
loses a role that expires; a standby claims, answers claims, takes the role on a quorum, hears renewals and keeps copies; liveness is heard and its
loss shown. -/
def Obligations.DomainManagerRole : Prop :=
  ∀ (s : State),
    let m := s.firm.dm
    (s.dmUp = true → exec .mgmtAliveSend s = .next (s.neighbours.foldl (fun v d => match v.linkTo d with
      | some q => v.svc (.link (BitVec.ofNat 4 q) (v.svcFibreB q)) 0x50
          (natLE 4 m.seenGen.toNat ++ natLE 1 m.role.code ++ natLE 1 s.clk.ftState.code ++ [0, 0])
      | none => v) s)) ∧
    (∀ d : BitVec 6, s.dmUp = true → s.neighbours.contains d.toNat = true →
      exec (.mgmtSilentTimeout d) s = .next (s.onDm (fun m => { m with mgmtSilent := m.mgmtSilent ||| (1#64 <<< d.toNat) }))) ∧
    (exec .dmClaimSend s = .next s.claimRole) ∧
    (s.isHolder = true → exec .dmRenewSend s = .next s.renew ∧
      exec .dmMgmtCycle s = .next (s.sendCopy ((s.dmList.drop 1).take 3)) ∧
      (m.sending ≠ none → exec .dmSwapPeriodExpire s = .next (s.onDm (fun m => { m with swapDue := true })))) ∧
    (m.role = .holder → exec .dmHolderExpiry s =
      .next (s.onDm (fun m => { m with role := .standby, sending := none, swapDue := false })).timeHoldover) ∧
    (∀ h b u, s.svcIn h 0x50 b = (true, u) → u.neighbours.contains h.src.toNat = true → u.coreUp 2 = true →
      exec (.mgmtAlive h b) s = .next (u.onDm (fun m => { m with
        mgmtSilent := m.mgmtSilent &&& ~~~(1#64 <<< h.src.toNat)
        aliveAt := SMap.set none m.aliveAt h.src.toNat (some u.now) }))) ∧
    (∀ h b u, s.svcIn h 0x60 b = (true, u) → u.dmUp = true →
      let gen := BitVec.ofNat 32 (fld b 0 4)
      let who := fld b 4 1 % 64
      u.claimAnswer gen who = 1 → exec (.dmClaim h b) s =
        .next (u.svcDev who 0x61 (natLE 4 gen.toNat ++ natLE 1 1 ++ [0, 0, 0] ++ natLE 4 u.firm.dm.seenGen.toNat))) ∧
    (∀ h b u c, s.svcIn h 0x61 b = (true, u) → u.dmUp = true → u.firm.dm.claim = some c → c.gen = BitVec.ofNat 32 (fld b 0 4) →
      fld b 4 1 = 0 → u.since c.sentAt ≤ msU 1 →
      let acks := NSet.add h.src.toNat c.acks
      (u.quorum ≤ acks.length → exec (.dmAck h b) s = .next (u.takeRole c.gen)) ∧
      (acks.length < u.quorum → exec (.dmAck h b) s = .next (u.onDm (fun m => { m with claim := some { c with acks := acks } })))) ∧
    (∀ h b u, s.svcIn h 0x62 b = (true, u) → u.dmUp = true → u.firm.dm.role ≠ .holder →
      let gen := BitVec.ofNat 32 (fld b 0 4)
      serBefore gen u.firm.dm.seenGen = false →
      exec (.dmRenew h b) s = .next (u.hearRenew gen (fld b 4 1 % 64) ((fld b 5 1).testBit 0))) ∧
    (∀ h b u, s.svcIn h 0x63 b = (true, u) → u.isHolder = true → BitVec.ofNat 32 (fld b 0 4) = u.firm.dm.gen →
      u.since u.firm.dm.renewSent ≤ msU 1 → u.mode h.src.toNat ≠ modeLost → ∃ t, exec (.dmRenewAck h b) s = .next t ∧
        t.firm.dm.renewAcks = NSet.add h.src.toNat u.firm.dm.renewAcks) ∧
    (∀ h b u, s.svcIn h 0x64 b = (true, u) → u.dmUp = true → u.firm.dm.role = .standby → u.firm.dm.copyIn = none →
      serBefore (BitVec.ofNat 32 (fld b 0 4)) u.firm.dm.gen = false →
      let c : DmCopy := ⟨BitVec.ofNat 32 (fld b 0 4), BitVec.ofNat 32 (fld b 4 4), fld b 10 2,
        SMap.set [] [] (fld b 8 2) ((b.drop 16).take 96), u.now⟩
      c.whole = none → exec (.dmCopy h b true) s = .next (u.onDm (fun m => { m with copyIn := some c }))) ∧
    (∀ h b u, s.svcIn h 0x65 b = (true, u) → u.isHolder = true → BitVec.ofNat 32 (fld b 0 4) = u.firm.dm.gen →
      let i := (u.dmList.takeWhile (· != h.src.toNat)).length
      1 ≤ i → i < u.dmList.length → i ≤ 3 → exec (.dmCopyReport h b) s =
        .next (u.onDm (fun m => { m with health := putAt m.health (i - 1) [BitVec.ofNat 8 (fld b 8 1)] })))

/-- R304, R314, R315, R471, R472: losses and route updates. A report is recorded and decided on by the holder; a silent neighbour is
declared lost; a segment of an update is stored; the holder records the acknowledgements, sends
segments again to the others, and at the activation time the update takes effect. -/
def Obligations.RouteUpdates : Prop :=
  ∀ (s : State),
    (∀ h b u, s.svcIn h 0x51 b = (true, u) → u.isHolder = true → BitVec.ofNat 32 (fld b 16 4) = u.firm.dm.gen →
      exec (.peerDown h b) s = .next (u.onDm (fun m =>
        { m with reports := NSet.add (64 * (fld b 0 1 % 64) + h.src.toNat) m.reports })).decideRoutes) ∧
    (∀ d : BitVec 6, s.fab.silent.contains d.toNat = true → (s.declareLost d).isHolder = false →
      exec (.neighbourLostLocal d) s = .next (s.declareLost d)) ∧
    (∀ h b u, s.svcIn h 0x66 b = (true, u) → u.dmUp = true → u.firm.dm.role ≠ .holder → u.firm.dm.incoming = none →
      serBefore u.fab.routeGen (BitVec.ofNat 32 (fld b 0 4)) = true → fld b 12 1 + 1 ≠ fld b 13 1 →
      let r : RouteIn := ⟨BitVec.ofNat 32 (fld b 0 4), BitVec.ofNat 64 (fld b 4 8), fld b 13 1,
        SMap.set [] [] (fld b 12 1) ((b.drop 16).take 96)⟩
      r.whole = none → exec (.routeUpdate h b) s = .next (u.onDm (fun m => { m with incoming := some r }))) ∧
    (∀ h b u x, s.svcIn h 0x67 b = (true, u) → u.isHolder = true → u.firm.dm.sending = some x →
      x.gen = BitVec.ofNat 32 (fld b 0 4) → fld b 4 1 = 0 →
      exec (.routeAck h b) s = .next (u.onDm (fun m => { m with acks := NSet.add h.src.toNat m.acks }))) ∧
    (∀ x, s.firm.dm.sending = some x → s.isHolder = true →
      (exec .routeSegmentResend s = .next (((shapeDevs s.shape).filter (fun d => d != s.devid && !s.firm.dm.acks.contains d)).foldl
        (fun v d => x.segments.foldl (fun v p => v.svcDev d 0x66 p) v) s)) ∧
      exec .routeUpdateActivate s = .next (s.activateOwn x)) ∧
    (∀ r b, s.firm.dm.role = .standby → s.firm.dm.incoming = some r → r.whole = some b → s.coreUp 2 = true →
      exec .routeUpdateActivate s = .next ((s.onDm (fun m => { m with incoming := none })).applyUpdate r.gen b))

/-! ### Clocks and time -/

/-- R371 to R377, R605: PLLs, replica paths and changes of the job step. A PLL that loses lock relocks with a CE or fails with an FE,
and PX takes the PCIe link with it; a margin warning and an alarm are set, counted and released; an announcement and its answer
are handled; a raise commands its supply, the change begins at Tf, and at its end the new step runs. -/
def Obligations.ClockDomains : Prop :=
  ∀ (s : State) (d : BitVec 5) (t : BitVec 2),
    (d.toNat < 21 ∨ d.toNat = 22 ∨ d.toNat = 23 ∨ d.toNat = 24 →
      (s.pll d.toNat = .locked → (d.toNat < 8 → s.clk.changing = false) →
        exec (.pllLossOfLock d) s = .next (s.setPll d.toNat .locking)) ∧
      (s.pll d.toNat = .locking →
        (∀ ns, exec (.pllRelock d ns) s = .next ((s.setPll d.toNat .locked).raise'
          { unit := clkUnit d.toNat, cause := 0x40, cls := .ce, detail := BitVec.ofNat 64 ns })) ∧
        exec (.pllLockTimeout d) s = .next ((s.setPll d.toNat .failed).raise' { unit := clkUnit d.toNat, cause := 0x41, cls := .fe }))) ∧
    (s.pll 21 = .locked → exec (.pllLossOfLock 21) s = .next (s.setPll 21 .locking).linkDown) ∧
    (s.pll 21 = .locking → (∀ ns, exec (.pllRelock 21 ns) s = .next (s.setPll 21 .locked)) ∧
      exec (.pllLockTimeout 21) s = .next (s.setPll 21 .failed).linkDown) ∧
    (exec (.refclkLoss true) s = .next (s.setPll 21 .locking).linkDown) ∧
    (s.pkg.dev = .thaw ∨ s.pkg.dev = .flow ∨ s.pkg.dev = .drift → exec (.refclkLoss false) s =
      .next ((s.setPll 0 .failed).raise' { unit := clkUnit 0, cause := 0x41, cls := .fe })) ∧
    ((∀ w, RF.at s.clk.warnMs t = some w → msU 1 ≤ (s.now - w).toNat) → exec (.replicaWarn t) s = .next (s.onClk (fun c => { c with
      warn := RF.put c.warn t true, warnMs := RF.put c.warnMs t (some s.now), marginWarn := satInc c.marginWarn }))) ∧
    (∀ w, RF.at s.clk.warnMs t = some w → (s.now - w).toNat < msU 1 →
      exec (.replicaWarn t) s = .next (s.onClk (fun c => { c with warn := RF.put c.warn t true }))) ∧
    (exec (.replicaWarnEnd t) s = .next (s.onClk (fun c => { c with warn := RF.put c.warn t false }))) ∧
    (RF.at s.clk.alarm t = false → exec (.replicaAlarm t) s =
      .next (s.onClk (fun c => { c with
        alarm := RF.put c.alarm t true, alarmAt := RF.put c.alarmAt t s.now, marginAlarm := satInc c.marginAlarm }))) ∧
    (RF.at s.clk.alarm t = true → ∃ u, exec (.replicaAlarmEnd t) s = .next u ∧ RF.at u.clk.alarm t = false ∧
      u.clk.marginAlarm = s.clk.marginAlarm ∧ (RF.at u.clk.alarmPast t).getLast? = some (RF.at s.clk.alarmAt t, s.now)) ∧
    (s.coreUp 3 = true → s.pkg.dev = .flow ∨ s.pkg.dev = .drift →
      (∀ src dst b u, s.takeBudget src 0x01 = (some (dst, b), u) →
        exec (.freqAnnounce src) s = .next ((u.announced b).2.2.sendBudget dst
          ([0x02] ++ natLE 1 (u.announced b).2.1 ++ (b.drop 2).take 14 ++ natLE 1 (u.announced b).1))) ∧
      (∀ src dst b u, s.takeBudget src 0x02 = (some (dst, b), u) → BitVec.ofNat 16 (fld b 2 2) = u.pow.freqSeq →
        exec (.freqAck src) s = .next (u.onPow (fun p => { p with acks := SMap.set 0 p.acks dst (fld b 16 1 + 1) })))) ∧
    (∀ f, s.clk.pending = some f →
      (f.supplied = false → s.clk.jobStep < f.step → exec .freqSupplyCommand s =
        .next ((s.setVddAll f.step).onClk (fun c => { c with pending := some { f with supplied := true } }))) ∧
      (s.clk.changing = false → f.step ≤ s.clk.jobStep ∨ f.supplied = true →
        exec .freqChangeStart s = .next (s.onClk (fun c => { c with changing := true, toStep := f.step })))) ∧
    (s.clk.changing = true → s.cal.pendingLimit = none → ∃ u, exec .freqChangeEnd s = .next u ∧ u.clk.jobStep = s.clk.toStep ∧
      u.clk.changing = false ∧ u.clk.pending = none ∧ u.clk.freqChanges = satInc s.clk.freqChanges ∧ u.pow.lowRun = 0)

/-- R378, R381, R384, R389: fabric time. An UP port sends TIME_REQ on both fibres; a request is answered with its times and this
device's state; a response ends its exchange on either fibre, and a response for which no request is under way changes nothing; a
first offset of the upstream makes an UNSET device ACQUIRING, its fabric time the local count moved by the offset;
a trim moves by at most 0.1 ppm; and a wrap counts one epoch. -/
def Obligations.FabricTime : Prop :=
  ∀ (s : State) (q : BitVec 4),
    (s.portUp q.toNat = true →
      let port := { RF.at s.clk.ports q with t1A := some s.stamp0, t1B := some s.stamp0 }
      let u := s.onClk (fun c => { c with ports := RF.put c.ports q port })
      exec (.timeExchangeSend q) s = .next ((u.phoSend q.toNat false 0x40 .timeReq).phoSend q.toNat true 0x40 .timeReq)) ∧
    (∀ h turn u, s.svcIn h 0x40 [] = (true, u) → exec (.timeReq h turn) s = .next (u.phoSend h.port.toNat h.fibreB 0x41
      (.timeResp u.ftime (u.ftime + BitVec.ofNat 64 turn) u.clk.ftState.code u.clk.hops))) ∧
    (∀ h t2 t3 st hops u, s.svcIn h 0x41 [] = (true, u) →
      (∀ t1, (if h.fibreB then (RF.at u.clk.ports h.port).t1B else (RF.at u.clk.ports h.port).t1A) = some t1 →
        ∃ v, exec (.timeResp h t2 t3 st hops) s = .next v ∧ (RF.at v.clk.ports h.port).hops = hops ∧
          (if h.fibreB then (RF.at v.clk.ports h.port).t1B else (RF.at v.clk.ports h.port).t1A) = none) ∧
      ((if h.fibreB then (RF.at u.clk.ports h.port).t1B else (RF.at u.clk.ports h.port).t1A) = none →
        exec (.timeResp h t2 t3 st hops) s = .next u)) ∧
    (∀ (c : Clk) (off : Int), c.ftState = .unset →
      (c.follow off).ftState = .acquiring ∧ (c.follow off).ft = c.ftLocal + BitVec.ofInt 64 off) ∧
    (∀ tb plls, ∃ u, exec (.calTrimUpdate tb plls) s = .next u ∧ u.clk.trim ≤ s.clk.trim + 429 ∧ s.clk.trim ≤ u.clk.trim + 429) ∧
    (s.clk.ftState ≠ .unset → exec .fabricTimeWrap s = .next (s.onClk (fun c => { c with wrapEpoch := c.wrapEpoch + 1 })))

/-! ### Power and temperature -/

/-- R397 to R406, R410 to R418, R422 to R424, R429 to R431: power control. N3 computes the pool and sends budgets; outside the N3
fallback a stack takes up the budget that has reached it and returns what it measures, or, without one for 1 ms, takes a quarter of
the last pool; the limiter moves k; a sampling joins the history of the Floe temperatures; a sensor that is more than 6 °C off the
median of its neighbours is marked with a CE, and the ninth suspect sensor of a Floe die clamps L to 50 %; a stepping leaves the trip
as it is; a trip asserts THERMTRIP_N and takes G to 25 %; and CAP_UNREACHABLE is set and cleared. ALERT_N follows. -/
def Obligations.PowerControl : Prop :=
  ∀ (s : State) (t : BitVec 2),
    (s.coreUp 3 = true → s.pkg.dev ≠ .icebound →
      (∀ fixed power, let u := s.onPow (fun p => { p with pwrNow := power })
        exec (.budgetCycle fixed power) s = .next (u.onPow (fun p => { p with pool := 980 * u.capE - fixed })).sendBudgets)) ∧
    (s.pow.fallback = false →
      (∀ mw pool, (s.stk t).sent = some (mw, pool) → exec (.stackBudgetReceive t) s =
        .next ((s.onStk t (fun k => { k with budget := mw, lastPool := pool, sent := none })).returnStack t)) ∧
      exec (.stackBudgetTimeout t) s = .next (s.onStk t (fun k => { k with budget := k.lastPool / 4 }))) ∧
    (s.pow.fallback = true → exec (.stackBudgetReceive t) s = .next s ∧ exec (.stackBudgetTimeout t) s = .next s) ∧
    (∀ power, ∃ u, exec (.limiterLoopStep t power) s = .next u ∧ (u.stk t).k = (s.stk t).nextK s.kClamp power ∧
      (u.stk t).power = power ∧ (u.stk t).budget = (s.stk t).budget) ∧
    (∀ smp, ∃ u, exec (.stackRuleEval t smp) s = .next (alerted s u) ∧
      (u.stk t).floeHist = (smp.floe :: (s.stk t).floeHist).take 11) ∧
    (∀ sensor median, (s.stk t).median sensor = some median →
      let reading := sampleOf (s.stk t).last sensor
      96 < (reading - median).natAbs → (s.stk t).suspects sensor = false →
      (64 ≤ sensor → sensor < 80 → (s.stk t).firnSuspect = false →
        exec (.sensorSuspect t sensor) s = .next (alerted s ((s.onStk t (fun k => k.mark sensor)).raise'
          { unit := sensorUnit t sensor, cause := 0x50, cls := .ce, detail := BitVec.ofInt 32 median ++ BitVec.ofInt 32 reading }))) ∧
      (80 ≤ sensor → sensor < 96 → (s.stk t).suspFloe.length = 8 → ∃ u, exec (.sensorSuspect t sensor) s = .next (alerted s u) ∧
        (u.stk t).halfClamp = true ∧ (u.stk t).l ≤ 50)) ∧
    ((s.stk t).firnSuspect = false →
      (∃ j, j < 16 ∧ 128 < s.inferred t (s.stk t).last j - (s.stk t).last.firn.getD j 0) → ∃ u, exec (.firnSensorsSuspect t) s = .next (alerted s u) ∧
      (u.stk t).firnSuspect = true ∧ (u.stk t).g ≤ 75 ∧ (u.stk t).l ≤ 80) ∧
    (∃ u, exec .thermalStepping s = .next (alerted s u) ∧ u.pow.trip = s.pow.trip) ∧
    (∀ sensor, sensor < 104 → tripLimit sensor ≤ s.tripValue t sensor → s.pow.trip = false → s.pkg.dev ≠ .cold →
      ∃ u, exec (.thermalTrip t sensor) s = .next (alerted s u) ∧ u.pins.trip = true ∧ u.pow.trip = true ∧ (u.stk t).g = 25) ∧
    ((∀ k : BitVec 2, (s.stk k).k = 0) → 102 * s.capE < 100 * s.pow.pwrNow →
      exec .capUnreachableSet s = .next (alerted s (s.onPow (fun p => { p with capUnreach := true })))) ∧
    (s.pow.pwrNow ≤ s.capE →
      exec .capUnreachableClear s = .next (alerted s (s.onPow (fun p => { p with capUnreach := false })))) ∧
    (∀ src d b u, s.coreUp 3 = true → s.takeBudget src 0x03 = (some (d, b), u) → BitVec.ofNat 32 (fld b 4 4) = u.jobId →
      u.members.contains d = true →
      let v := u.onPow (fun p => { p with reports := SMap.set none p.reports d (some (MemberRep.ofPayload b (SMap.get none p.reports d) u.now)) })
      v.mayAnnounce = false → exec (.limitReport src) s = .next v)

/-! ### The photonics -/

/-- R251 to R256: emitters. A sample of bias and slope is kept and published, and the fade state of an active emitter never falls by
it; a spare at the lock of its swap becomes hot; a swap slot of which the far end has had notice moves its channel to the other emitter; a
finished swap makes the old emitter FAILED and its spare active, and is counted; and the hot spare of the service wavelength takes
over. -/
def Obligations.Emitters : Prop :=
  ∀ (s : State) (bank : BitVec 2) (em : BitVec 6),
    let b := bank.toNat
    let e := em.toNat
    let x := s.emitter b e
    (e < 34 → x.st ≠ .active → ∀ bias slope, ∃ u, exec (.emitterSample bank em (some (bias, slope)) []) s = .next u ∧
      (u.emitter b e).bias = bias ∧ (u.emitter b e).slope = slope ∧ (u.emitter b e).fade = x.fade ∧ (u.emitter b e).st = x.st ∧
      SMap.get 0 u.floe.emitPub (emKey b e) = u.emitWord b e) ∧
    (e < 34 → x.st = .active → ∀ m, ∃ u, exec (.emitterSample bank em m []) s = .next u ∧
      x.fade.code ≤ (u.emitter b e).fade.code) ∧
    (e = 33 → x.st = .spare → (s.emitter b 32).st = .active → 2 ≤ (s.emitter b 32).fade.code →
      exec (.emitterSpareLocked bank em) s = .next (s.onEmitter b 33 (fun x => { x with st := .spareHot }))) ∧
    (∀ (o : BitVec 5) k rest, (s.owner o.toNat).swaps = k :: rest → (s.owner o.toNat).running.any Slot.single = false →
      (s.owner o.toNat).running.any (fun x => x.chan == k) = false → s.hasNotice o.toNat .swap = true →
      let u := s.onOwner o.toNat (fun w => { w with swaps := rest, noticed := none, running := w.running ++ [⟨.swap, k, s.now⟩] })
      exec (.swapSlot o) s = .next ((u.onChan k (fun c => { c with active := false, selB := !c.selB })).laneCheck k)) ∧
    (e = 32 → x.st = .active → (s.emitter b 33).st = .spareHot → 2 ≤ x.fade.code →
      ∃ u, exec (.emitterSwapComplete bank em) s = .next u ∧ (u.emitter b 32).st = .failed ∧ (u.emitter b 33).st = .active ∧
        u.floe.swaps = satInc s.floe.swaps) ∧
    ((s.emitter b 32).st = .active → (s.emitter b 33).st ≠ .failed → exec (.serviceEmitterFail bank) s =
      .next ((s.onEmitter b 32 (fun x => { x with st := .failed })).onEmitter b 33 (fun x => { x with st := .active, target := x.bias })))

/-- R249, R251, R271 to R274, R587: service slots. A scheduled slot takes out the next channel of its owner, of which the far end has
had notice; its values are judged, those of a receiving end too, and at its end the channel is active again and the sweep goes on; a
tracking error at this end and a request of the far end make an immediate slot; notices are sent and heard, and margins are sent, with a
request for each channel below 0.5 dB. -/
def Obligations.ServiceSlots : Prop :=
  ∀ (s : State) (k : Nat),
    (let u := s.onFloe (fun x => { x with trackEvents := satInc x.trackEvents })
     exec (.ringTrackingError k false) s = .next (u.immediate k) ∧
     (k < 512 → exec (.ringTrackingError k true) s =
       .next (u.phoSend (k / 32) (u.svcB (k / 32)) 0x21 (.request (BitVec.ofNat 5 k) true)))) ∧
    (∀ (o : BitVec 5) rest, s.slotFree o.toNat = true → s.hasNotice o.toNat .scheduled = true → s.slotOrder o.toNat = k :: rest →
      (s.owner o.toNat).running.any (fun x => x.chan == k) = false → s.staged (dk 0x3000 4) = none →
      let u := s.onOwner o.toNat (fun w => { w with
        noticed := none, running := w.running ++ [⟨.scheduled, k, s.now⟩], next := if (s.chan k).retry then w.next else chanPlace k })
      exec (.serviceSlotStart o) s = .next ((u.onChan k (fun c => { c with active := false, retry := false })).laneCheck k)) ∧
    (∀ (q : BitVec 4) start kind, s.portUp q.toNat = true → s.nextSlot q.toNat = some (kind, k) →
      let u := s.onOwner q.toNat (fun w => { w with noticed := some kind })
      exec (.slotNotice (.sent q start)) s = .next (u.phoSend q.toNat (u.svcB q.toNat) 0x20 (.notice (BitVec.ofNat 5 k) kind start))) ∧
    (∀ (h : SvcHdr) (c : BitVec 5) kind start u, s.svcIn h 0x20 [] = (true, u) →
      exec (.slotNotice (.heard h c kind start)) s = .next (u.onFloe (fun x => { x with
        peerSlots := x.peerSlots.filter (fun y => y.chan / 32 != h.port.toNat) ++ [⟨kind, 32 * h.port.toNat + c.toNat, start⟩] }))) ∧
    (∀ x vals margin, s.chanSlot k = some x → x.kind ≠ .swap →
      let j := s.judgeSlot k vals
      (j.1.owner (chanOwner k)).swaps.contains k = false →
      exec (.serviceSlotJudge k false vals margin) s = .next (j.1.onChan k (fun c => { c with retry := j.2, margin := margin }))) ∧
    (∀ x, s.chanSlot k = some x → x.kind = .scheduled ∨ s.floe.drained.contains k = false →
      let o := chanOwner k
      let u := (s.onCal (fun c => { c with slotOld := c.slotOld.filter (fun p => p.1 != k) })).onOwner o (fun w => { w with
        running := w.running.filter (fun y => y != x)
        next := if x.kind = .scheduled && chanPlace k = w.next then (w.next + 1) % ownerSize o else w.next })
      exec (.serviceSlotEnd k false) s = .next (u.settle k)) ∧
    (∀ x vals margin, s.floe.peerSlots.find? (fun x => x.chan == k) = some x → x.kind ≠ .swap →
      exec (.serviceSlotJudge k true vals margin) s = .next (s.judgeSlot (4096 + k) vals).1) ∧
    (∃ u, exec (.serviceSlotEnd k true) s = .next u ∧ u.floe.peerSlots = s.floe.peerSlots.filter (fun y => y.chan != k)) ∧
    (∀ (h : SvcHdr) (c : BitVec 5) u, s.svcIn h 0x21 [] = (true, u) →
      exec (.slotRequest h c) s = .next (u.immediate (32 * h.port.toNat + c.toNat))) ∧
    (∀ (q : BitVec 4) ms, s.portUp q.toNat = true →
      let u := s.phoSend q.toNat (s.svcB q.toNat) 0x22 (.margins ms)
      exec (.marginReport (.sent q ms)) s = .next ((ms.filter (fun m => m.2 < 5)).foldl (fun s m =>
        s.phoSend q.toNat (s.svcB q.toNat) 0x21 (.request m.1 false)) u))

/-- R264, R265, R267, R269: ports come up. A fibre that probes sends its burst; a burst that is heard is answered, and HEARD on both
fibres starts training; an IDENT is judged with that of the other fibre: two that match the wiring open the launch gates, one that does not
closes them; a port that is wrong asks again while λS is heard; and training of a port whose identity matched brings it UP. -/
def Obligations.PortTraining : Prop :=
  ∀ (s : State) (q : BitVec 4) (b : Bool),
    (((s.phoPort q.toNat).fibre b).probing = true → s.pkg.dev ≠ .icebound → s.pkg.dev ≠ .cold →
      exec (.probeBurst q b) s = .next (s.sendProbe q.toNat b false)) ∧
    (∀ h u, s.svcIn h 0x01 [] = (true, u) → u.mayHear h.port.toNat = true →
      exec (.probe h false) s = .next (u.sendProbe h.port.toNat h.fibreB true) ∧
      (((u.phoPort h.port.toNat).fibre h.fibreB).probing = true →
        let v := (u.sendProbe h.port.toNat h.fibreB true).onPho h.port.toNat (fun p => p.onFibre h.fibreB (fun f => { f with heard := true }))
        ((u.phoPort h.port.toNat).fibre (!h.fibreB)).heard = true →
        exec (.probe h true) s = .next (v.startTraining h.port.toNat))) ∧
    (∀ (h : SvcHdr) dev port fb dom u, s.svcIn h 0x02 [] = (true, u) → u.errs.inj = none →
      u.portSt h.port.toNat = .training ∨ u.portSt h.port.toNat = .miswired ∨ u.portSt h.port.toNat = .crossed →
      let st := u.wiringOf h.port.toNat h.fibreB dev port fb dom
      let v := u.onPho h.port.toNat (fun p => { p with peerDev := dev, peerPort := port, peerDom := dom }.onFibre h.fibreB
        (fun f => { f with ident := some st }))
      ((v.phoPort h.port.toNat).verdict = none → exec (.ident h dev port fb dom) s = .next v) ∧
      ((v.phoPort h.port.toNat).verdict = some .training →
        let w := v.onPho h.port.toNat (fun p => { p with st := .training, wired := true })
        exec (.ident h dev port fb dom) s = .next ((w.setGate h.port.toNat false false).setGate h.port.toNat true false)) ∧
      (∀ bad, (v.phoPort h.port.toNat).verdict = some bad → bad ≠ .training →
        let w := v.onPho h.port.toNat (fun p => { p with st := bad, wired := false })
        let x := ((w.setGate h.port.toNat false true).setGate h.port.toNat true true).retryWaiting
        (u.portSt h.port.toNat = bad → exec (.ident h dev port fb dom) s = .next x) ∧
        (u.portSt h.port.toNat ≠ bad → exec (.ident h dev port fb dom) s = .next (x.raise'
          { unit := unitCode 6 (h.port.toNat / 4) (h.port.toNat % 4), cause := 0x34, cls := .ce
            detail := (x.portWord h.port.toNat).setWidth 64 })))) ∧
    (s.portSt q.toNat = .miswired ∨ s.portSt q.toNat = .crossed →
      (s.phoPort q.toNat).a.lost = false ∨ (s.phoPort q.toNat).b.lost = false → exec (.wiringRecheck q) s =
        .next ((s.onPho q.toNat (fun p => { p with a := { p.a with ident := none }, b := { p.b with ident := none } })).sendIdent q.toNat)) ∧
    (∀ ms sites, s.portSt q.toNat = .training → (s.phoPort q.toNat).wired = true → s.floe.intlk = false →
      ∃ u, exec (.linkTrainingComplete q ms sites) s = .next u ∧ u.portUp q.toNat = true)

/-- R266 to R268, R278 to R285: steering and loss of light. A proposal in good time that nothing speaks against is answered ACCEPT and
binds this device; a late one, one of a failed receive site and one of a fibre that is down are answered REFUSE with causes 1 to 3; an
answer is held; a steer is decided, and takes effect at its time with the generation going up by one; a proposal that this device is
bound to takes effect too; a moved group starts; a fibre loses light or its service messages, its gate closes and it probes, and light
that returns in time ends the loss. -/
def Obligations.SteeringAndLight : Prop :=
  ∀ (s : State) (q : BitVec 4) (b : Bool),
    (∀ h gen t groups u, s.svcIn h 0x10 [] = (true, u) →
      let port := h.port.toNat
      let late := u.clk.ftState = .unset ∨ serBefore (t - BitVec.ofNat 64 (usU 30)) u.ftime = true
      (late → exec (.steerPropose h gen t groups) s = .next (u.phoSend port (u.svcB port) 0x11 (.answer gen false 1))) ∧
      (¬ late → u.siteFailed port groups = true →
        exec (.steerPropose h gen t groups) s = .next (u.phoSend port (u.svcB port) 0x11 (.answer gen false 2))) ∧
      (¬ late → u.siteFailed port groups = false → u.rxDown port groups = true →
        exec (.steerPropose h gen t groups) s = .next (u.phoSend port (u.svcB port) 0x11 (.answer gen false 3))) ∧
      (¬ late → u.siteFailed port groups = false → u.rxDown port groups = false →
        let v := u.onFloe (fun f => { f with
          bound := f.bound.filter (fun b => b.port != h.port || b.gen != gen) ++ [⟨h.port, gen, t, groups⟩] })
        exec (.steerPropose h gen t groups) s = .next (v.phoSend port (v.svcB port) 0x11 (.answer gen true 0)))) ∧
    (∀ h gen ok u, s.svcIn h 0x11 [] = (true, u) → exec (.steerAnswer h gen ok) s = .next (u.onFloe (fun f => { f with
      steers := f.steers.map (fun x =>
        if x.gen = gen && x.decided.isNone && x.asked.contains h.port.toNat then
          { x with answers := SMap.set none x.answers h.port.toNat (some ok) }
        else x) }))) ∧
    (∀ t, s.floe.steers.find? (fun x => x.decided.isNone) = some t →
      let out := (List.range 16).foldl (fun m p => SMap.set 0 m p (s.portOutcome t (s.assignBefore t.time) p)) []
      let v := s.onFloe (fun f => { f with steers := f.steers.map (fun x =>
        if x.gen = t.gen then { x with decided := some (t.decide (s.assignBefore t.time)), outcome := out } else x) })
      (t.internal = true → exec .steerDecide s = .next v) ∧
      (t.internal = false → exec .steerDecide s = .next (v.steerResult t.src 0 out))) ∧
    (∀ t rest d, s.floe.steers = t :: rest → t.decided = some d →
      (∀ b, s.floe.nextBound = some b → serBefore b.time t.time = false) →
      ∃ u, exec .steerApply s = .next u ∧ u.floe.steers = rest ∧ u.floe.steerGen = s.floe.steerGen + 1) ∧
    (∀ b, s.floe.nextBound = some b → (∀ t, s.floe.steers.head? = some t → serBefore b.time t.time = true) →
      exec .steerApply s = .next (s.applyBound b)) ∧
    (∀ g : BitVec 5, s.floe.starting.contains g.toNat = true → s.floe.deferred = [] → s.groupLit g.toNat = true →
      s.portUp ((s.groupByte g.toNat).toNat % 16) = true →
      let v := s.onFloe (fun f => { f with starting := NSet.del g.toNat f.starting })
      exec (.groupStart g) s = .next (v.groupFrame g.toNat (s.groupByte g.toNat) 2)) ∧
    (wiring s.shape s.devid q.toNat = none →
      exec (.lightLoss q b) s = .next (s.onPho q.toNat (fun p => p.onFibre b (fun f => { f with lost := true })))) ∧
    (let f := (s.phoPort q.toNat).fibre b
     (f.lost = true → f.los = false → s.portUp q.toNat = false →
       exec (.fibreDown q b) s = .next (s.onPho q.toNat (fun p => p.onFibre b (fun f => { f with los := true })))) ∧
     (∀ silent, f.lost = true ∨ silent = true → f.gate = false → exec (.launchGateClose q b silent) s =
       .next ((s.onPho q.toNat (fun p => p.onFibre b (fun f => { f with closing := true }))).abandonOn
         (fun k => k / 32 == q.toNat && k < 512 && (16 ≤ k % 32) == b))) ∧
     (f.closing = true → s.portSt q.toNat ≠ .disabled → ∃ u, exec (.launchGateClosed q b) s = .next u ∧
       ((u.phoPort q.toNat).fibre b).gate = true ∧ ((u.phoPort q.toNat).fibre b).probing = true ∧
       u.floe.eyeEvents = satInc s.floe.eyeEvents) ∧
     (f.lost = true → f.closing = false → f.gate = false → s.floe.lostMoves = [] → ∃ u, exec (.lightReturn q b) s = .next u ∧
       ((u.phoPort q.toNat).fibre b).lost = false ∧ ((u.phoPort q.toNat).fibre b).los = false))

/-! ### Starting, resets and fatal errors -/

/-- R25 to R27, R574, R577, R579, R586, R589, R592, R593: THAW and calibration. A discovery that finds Floe 0 ends, and one that does not within its time raises
an FE; the proceed point comes by itself; a run is taken by its element; a restored value that its check does not confirm makes the result
3; a plan is published with the next generation; THAW ends in FLOW; an hour takes up the ageing figures; and a bias step touches no port. -/
def Obligations.ThawAndCalibration : Prop :=
  ∀ (s : State),
    (s.discovers = true →
      (∀ found, found.any (fun d => d.1 == 0) = true → ∃ u, exec (.discovery found) s = .next u ∧ u.pkg.discovered = true) ∧
      exec .discoveryTimeout s = .next ({ s with pkg := { s.pkg with cause := 1, discovered := true } }.startN4.raise'
        { unit := unitCode 0 0 0, cause := 0x80, cls := .fe, detail := 1 })) ∧
    (s.inHold = true → exec .thawProceedTimeout s = .next s.proceed) ∧
    (s.calibrates = true →
      (∀ item elem run order, item < 9 → s.elemLive item elem = true → (s.calElem (elemKey item elem)).ended = false →
        (item = 8 → s.runSpoiled (BitVec.ofNat 2 (elem / 16)) = false) →
        exec (.calRunComplete item elem run order false false) s = .next ((s.startItem item).runElem item elem run order)) ∧
      (∀ item elem run b, item < 9 → s.elemLive item elem = true → s.cal.restore = some b → s.cal.restored = true →
        (s.calElem (elemKey item elem)).ended = false → (s.calElem (elemKey item elem)).restored = false →
        (s.calElem (elemKey item elem)).runs = [] → ∃ u, exec (.restoreCheckRun item elem run false) s = .next u ∧
        (∀ c trims, Config.calValue item (calSectBytes b item) elem = c :: trims → agree item ⟨c.toNat, trims⟩ run = false →
          u.cal.result = 3)) ∧
      (∀ d sweep, s.itemsEnded = true → s.cal.stage < 14 → ∃ u, exec (.marginPlan d sweep [] []) s = .next u ∧
        u.cal.stage = 14 ∧ u.cal.planGen = s.cal.planGen + 1 ∧ u.cal.pendingLimit = none) ∧
      (s.itemsEnded = true → s.cal.stage = 14 → s.hbm.zeroed = true → s.errs.entryDue = false → ∃ u, exec .thawEnd s = .next u ∧ u.pkg.dev = .flow ∧
        u.cal.stage = 15 ∧ u.mem.en = true ∧ u.clk.jobStep = 24)) ∧
    (s.pkg.dev = .flow ∨ s.pkg.dev = .drift → ∀ a b c d, ∃ u, exec (.operatingHour a b c d) s = .next u ∧
      u.cal.ageD = a ∧ u.cal.ageSlack = b ∧ u.cal.ageSlope = c ∧ u.cal.ageEye = d) ∧
    (∃ u, exec .emitterBiasStep s = .next u ∧ u.floe.ports = s.floe.ports ∧ u.floe.chans = s.floe.chans)

/-- R3, R355, R453, R511, R524 to R526, R547, R602, R610 to R612: resets. Whatever the state was, PERST_N, a lost rail and a lost supply lead
to COLD; a power-on reset counts a cycle, and a release enters THAW once nothing holds it, with a Floe 0 that starts; a soft reset with no
FE raised enters THAW with the PCIe link kept; an FLR empties the mailbox and leaves the programs; an FE leads to ICEBOUND, which loses
what the Firn dies hold, and the last-fatal area is written. -/
def Obligations.Resets : Prop :=
  ∀ (s : State),
    (∃ u, exec .perstNAssert s = .next u ∧ u.pkg.dev = .cold ∧ u.pins.perst = true ∧ u.pins.pcieUp = false) ∧
    (∃ u, exec .powerLoss s = .next u ∧ u.pkg.dev = .cold ∧ u.pins.trip = false) ∧
    (∀ rail, ∃ u, exec (.railOutOfTolerance rail) s = .next u ∧ u.pkg.dev = .cold ∧ u.pins.por = true) ∧
    (s.pins.por = true → ∀ floe0, ∃ u, exec (.powerOnResetRelease floe0) s = .next u ∧ u.mor.cycles = satInc s.mor.cycles ∧
      u.pins.por = false ∧ (s.pkg.dev = .cold → s.pins.perst = false → s.pins.trip = false →
        u.pkg.dev = if floe0 then .thaw else .cold)) ∧
    (∀ r floe0, s.pins.perst = true → s.pins.trip = false → s.pkg.dev = .cold → s.pins.railsUp = true →
      ∃ u, exec (.perstNRelease r floe0) s = .next u ∧ u.pkg.dev = (if floe0 then .thaw else .cold) ∧ u.pins.perst = false ∧
        u.pins.rackpos = r ∧ (floe0 = true → u.fab.devid = r)) ∧
    (s.pkg.softReset = true → s.mor.writing = none → s.errs.entryDue = false →
      s.pkg.dev = .thaw ∨ s.pkg.dev = .flow ∨ s.pkg.dev = .drift →
      ∃ u, exec .softResetBegin s = .next u ∧ u.pkg.dev = .thaw ∧ u.pins.pcieUp = s.pins.pcieUp ∧ u.sched.progs = [] ∧
        u.clk.ftLocal = s.clk.ftLocal) ∧
    (exec .flr s = .next s.flr ∧ exec .pcieHotReset s = .next s.flr ∧ s.flr.firm.mbx.attached = false ∧
      s.flr.firm.mbx.h2dHead = 0 ∧ s.flr.firm.mbx.d2hHead = 0 ∧ s.flr.sched = s.sched) ∧
    (s.errs.entryDue = true → s.pkg.dev = .thaw ∨ s.pkg.dev = .flow ∨ s.pkg.dev = .drift → ∃ u, exec .iceboundEntry s = .next u ∧
      u.pkg.dev = .icebound ∧ u.sched.progs = [] ∧ u.mem.reqs = [] ∧ u.firn.lines = [] ∧ u.clk.pending = none ∧
      u.errs.entryDue = false) ∧
    (s.errs.handling = true → s.pkg.dev = .icebound → s.coreUp 5 = true ∨ s.coreUp 4 = true →
      let u := s.onErrs (fun e => { e with handling := false })
      let v := u.onMor (fun m =>
        { m with snapDue := false, lfOld := m.lfNew, lfNew := some ⟨s.errs.feSeq, m.cycles, m.optime, s.errs.newRecs⟩ })
      exec .lastFatalWrite s =
        .next (if s.mor.store = 1 then v.snapWritten ⟨v.mor.nextSlot, v.mor.d, v.mor.cycles, v.mor.optime⟩ else u))

/-! ### Security -/

/-- R440, R556, R558, R560 to R562, R565 to R570: secure boot and SPDM. N4 refuses an image with its cause or accepts it; the alias key is
derived once; a fuse write that ends leaves its fuses; every SPDM request that reaches N4 is counted, and a request of a connection that is
set up is answered or refused by the rules of its code. -/
def Obligations.Security : Prop :=
  ∀ (s : State) (c : Nat) (ver : Byte),
    (s.firm.load.lastTaken = true → s.firm.load.st = .loading → s.coreUp 4 = true ∨ (s.core 4).st = .boot → ∀ ok,
      (∀ x, s.imageCause s.firm.load.image ok = some x → exec (.imageVerify ok) s = .next (s.loadRefused x)) ∧
      (s.imageCause s.firm.load.image ok = none → exec (.imageVerify ok) s = .next (s.acceptImage s.firm.load.image))) ∧
    (s.firm.load.st = .done → s.coreUp 4 = true → s.sec.aliasPub = [] →
      let pub := pubOf s.aliasSeed
      let cert := s.issueCert pub
      let u := { s with free := s.free + 1 }.onSec (fun x => { x with aliasPub := pub, certChain := s.slotChain cert })
      exec .aliasKeyReady s = .next (if s.mor.store = 1 then u.onSec (fun x => x.keepAlias pub cert) else u)) ∧
    (∀ f, s.sec.fuse = some f → exec .fuseWriteComplete s = .next ((s.onSec (fun x => { x with fuse := none })).fuseDone f)) ∧
    (s.pkg.dev ≠ .cold → s.pins.perst = false → (c = 0 → s.pins.pcieUp = true) →
     let u := s.spdmCount
     exec (.getVersion c) s = .next ((u.onConn c (fun x => { SpdmConn.reset with started := true, handle := x.handle })).emit
       (.spdm c (.version spdmVersions))) ∧
     ((u.conn c).started = true → spdmVersions.contains ver = true → exec (.getCapabilities c ver) s =
       .next ((u.onConn c (fun x => { x with version := ver, algs := false })).answer c (.capabilities (transferSize c)))) ∧
     (exec (.spdmUnsupportedRequest c) s = .next (u.spdmError c ((u.spdmRefusal false).getD errUnsupported))) ∧
     (u.spdmRefusal false = none → (u.conn c).version = ver → ver ≠ 0 →
       (exec (.negotiateAlgorithms c ver true true true) s =
         .next ((u.onConn c (fun x => { x with algs := true })).answer c (.algorithms true true true))) ∧
       (∀ h n r, (u.conn c).large = some r → h = (u.conn c).handle → n = (u.conn c).nextChunk → n = 0 →
         ∃ v, exec (.chunkGet c ver h n) s = .next v ∧ (v.conn c).nextChunk = 1) ∧
       ((u.conn c).algs = true →
         exec (.getDigests c ver) s = .next (u.answer c (.digests 1 (sha3 s.sec.certChain))) ∧
         (∀ off len, off < s.sec.certChain.length →
           let p := (s.sec.certChain.drop off).take len
           exec (.getCertificate c ver 0 off len) s = .next (u.answer c (.certificate p (s.sec.certChain.length - off - p.length)))) ∧
         (∀ nonce sig, exec (.challenge c ver 0 nonce false sig) s =
           .next (u.answer c (.challengeAuth 1 (sha3 s.sec.certChain) nonce [] sig))) ∧
         (∀ sig, exec (.getMeasurements c ver 0 sig) s = .next (u.answer c (.measurements 16 [] sig))))))

/-! ### The object dictionary -/

namespace Sys2Proof.Claims

/-- The request that a mailbox message carries, and the entry that it names (R492). -/
def mailReq (write : Bool) (m : List Byte) : DictReq := reqOfMsg write ((padTo 256 m).drop 16)
def mailKey (m : List Byte) : Nat := dk (mailReq true m).idx (mailReq true m).sub

/-- N0 answers a mailbox request (R443, R492). -/
def mailReply (m : List Byte) (x : DictRep) (s : State) : State := s.d2h 0x0203 (repOfMsg ((padTo 256 m).drop 16) x)

/-- A write of the entry that `m` names is accepted with `t` as its effect: it counts, and the reply says OK, whether the value
waits for its moment, and the GEN of a DOMAIN entry (R486, R488, R492). -/
def accepted (m : List Byte) (e : Entry) (t : State) : State :=
  mailReply m ((t.genUp 0).bare e (mailKey m) 0 ((t.genUp 0).staged (mailKey m)).isSome) (t.genUp 0)

/-- The oldest message that N0 has taken writes an entry; the write passes the checks of R485 up to LENGTH and the device state allows
it; with this message the value `v` is whole, as one message or as the closing segment of a session (R489); `u` is the state once the
message is taken up and the session has ended. -/
structure MailWrite (s : State) (m : List Byte) (rest : List (List Byte)) (e : Entry) (v : List Byte) (u : State) : Prop where
  taken : Taken s 0x0202 m rest
  up : s.n5Down = false
  below : (mailReq true m).idx < 0x8000
  entry : entryAt (mailReq true m).idx (mailReq true m).sub = some e
  allowed : s.takeUp.writeDenied e askMbx = false
  unlocked : s.takeUp.writeLocked (mailKey m) (mailReq true m).data = false
  length : lengthBad e (mailReq true m) = false
  stateOk : s.takeUp.stateRefuses askMbx (mailReq true m) = false
  whole :
    (v = padTo e.len (mailReq true m).data ∧ u = s.takeUp ∧
      (e.ty = .domain → s.session (mailKey m) = none ∧ (mailReq true m).off = 0 ∧ (mailReq true m).last = true)) ∨
    (e.ty = .domain ∧ (mailReq true m).last = true ∧ ∃ x, s.session (mailKey m) = some x ∧ x.path = pathMbx ∧
      (mailReq true m).off = x.data.length ∧ (mailReq true m).off ≠ 0 ∧
        v = x.data ++ (mailReq true m).data ∧ u = s.takeUp.endSession (mailKey m))

end Sys2Proof.Claims

/-- R484 to R486, R488, R489, R492, R493: requests. A write is refused with the code of the first check that fails and changes
nothing; a whole value that the entry takes is accepted, and one that it does not take is refused; a read of an entry that does not
exist says so, and a read of a scalar returns its value; a request over MCTP is served for class B and answered on its endpoint, and a
message with another header changes nothing; while N5 is down a request is held; a session without a segment for 1 s is dropped. -/
def Obligations.DictionaryRequests : Prop :=
  ∀ (s : State) (m : List Byte) (rest : List (List Byte)),
    let u := s.takeUp
    (Taken s 0x0202 m rest → s.n5Down = false → (mailReq true m).idx < 0x8000 →
      let r := mailReq true m
      let refused := fun (e : Entry) (c : Nat) => mailReply m (u.bare e (mailKey m) c false) u
      (entryAt r.idx r.sub = none → exec .dictWrite s = .next (mailReply m (.plain 1) u)) ∧
      (∀ e, entryAt r.idx r.sub = some e →
        (u.writeDenied e askMbx = true → exec .dictWrite s = .next (refused e 2)) ∧
        (u.writeDenied e askMbx = false → u.writeLocked (mailKey m) r.data = true → exec .dictWrite s = .next (refused e 3)) ∧
        (u.writeDenied e askMbx = false → u.writeLocked (mailKey m) r.data = false → lengthBad e r = true →
          exec .dictWrite s = .next (refused e 4)))) ∧
    (∀ e v w, MailWrite s m rest e v w →
      (∀ t, w.putEntry e.ty (mailKey m) v = (0, t) → exec .dictWrite s = .next (accepted m e t)) ∧
      (∀ c t, c ≠ 0 → w.putEntry e.ty (mailKey m) v = (c, t) →
        exec .dictWrite s = .next (mailReply m (t.bare e (mailKey m) c false) t))) ∧
    (Taken s 0x0201 m rest → s.n5Down = false → (mailReq false m).idx < 0x8000 →
      let r := mailReq false m
      (entryAt r.idx r.sub = none → exec .dictRead s = .next (mailReply m (.plain 1) u)) ∧
      (∀ e, entryAt r.idx r.sub = some e → e.ty ≠ .domain → e.ty ≠ .str → r.off = 0 → u.stateRefuses askMbx r = false →
        let x := u.readVal e (dk r.idx r.sub) .h r.staged
        exec .dictRead s = .next (mailReply m ⟨0, x.2, e.ty.code, e.len, 0, x.1.take r.len⟩ u))) ∧
    (s.n5Down = true → (Taken s 0x0201 m rest → exec .dictRead s = .next (u.holdReq pathMbx 0 (mbxBody (padTo 256 m)))) ∧
      (Taken s 0x0202 m rest → exec .dictWrite s = .next (u.holdReq pathMbx 0 (mbxBody (padTo 256 m))))) ∧
    (∀ ep msg, s.pins.perst = false → s.pkg.dev ≠ .cold →
      (s.mctpBody msg = none → exec (.mctpSvaogMessage ep msg) s = .next s) ∧
      (∀ b, s.mctpBody msg = some b → s.n5Down = false → fld b 0 2 = 0x0201 ∨ fld b 0 2 = 0x0202 →
        exec (.mctpSvaogMessage ep msg) s = .next (s.serveMctp ep (fld b 0 2 = 0x0202) (padTo 240 (b.drop 2))))) ∧
    (∀ key x, s.session key = some x → msU 1000 ≤ s.since x.at' → exec (.dictSessionAbandon key) s =
      .next (s.onDict (fun d => { d with sessions := d.sessions.filter (fun x => x.key != key) })))

/-- R80, R280, R286, R329, R330, R351, R364, R390, R463, R467, R484, R574, R583, R585, R611: the entries of control that act when
they are written, by the mailbox. -/
def Obligations.DictionaryControl : Prop :=
  ∀ (s : State) (m : List Byte) (rest : List (List Byte)) (e : Entry) (v : List Byte) (u : State),
    MailWrite s m rest e v u →
      let n := leNat v
      let k := mailKey m
      (k = dk 0x6300 2 → n = 1 → u.inHold = true → exec (.thawProceed .mailbox) s = .next (accepted m e u.proceed)) ∧
      (k = dk 0x6300 3 → u.inHold = true → u.restoreCause v = 1 → exec (.calRestore .mailbox) s =
        .next (accepted m e ((u.onCal (fun x => { x with result := 1 })).stage (dk 0x6300 3) v))) ∧
      (k = dk 0x1200 7 → n = 0x5A → exec (.softReset .mailbox) s =
        .next (accepted m e { u.dueSnap with pkg := { u.dueSnap.pkg with softReset := true } })) ∧
      (k = dk 0x5010 4 → n = 1 → u.firm.lease.health = .healthy → exec (.schedSwap .mailbox) s =
        .next (accepted m e (u.onLease (fun l => { l with swapPending := true })))) ∧
      (k = dk 0x5030 7 → n = 1 → u.isHolder = true → exec (.dmSwap .mailbox) s = .next (accepted m e u.giveRole)) ∧
      (k = dk 0x1000 0x10 → v = [1] → exec (.dictLock .mailbox) s = .next (accepted m e u.lockAll)) ∧
      (k = dk 0x2000 9 →
        (∀ i ∈ u.serac.retiredList, i < 1024 ∧ (v.getD (i / 8) 0).getLsbD (i % 8) = true) →
        exec (.tileRetiredListWrite .mailbox) s = .next (accepted m e (u.putRetired v).2)) ∧
      (k = dk 0x3000 7 → n < 8 → exec (.phoSteerGo .mailbox) s =
        .next (accepted m e (let w := u.land (dk 0x3000 6); w.requestSteer (BitVec.ofNat 3 n) w.floe.steerTime .dictionary).2)) ∧
      (k = dk 0x4000 9 → u.firm.dm.role = .holder → 1 ≤ n → n ≤ 10 → u.errs.prodLock = false →
        serLe u.ftime (BitVec.ofNat 64 (2 ^ 64 - n * 64 * 10 ^ 9)) = true →
        exec (.ftWrapTest .mailbox) s = .next (accepted m e (u.onClk (fun c => { c with wrapTest := some n })))) ∧
      (k = dk 0x3200 1 → (∀ i < 32, (Window.of ((v.drop (32 * i)).take 32)).region ≠ 3) →
        exec (.memWindowsWrite .mailbox) s = .next (accepted m e (u.putWindows v).2)) ∧
      (k = dk 0x3200 2 → n < 2 → exec (.memFence .mailbox) s =
        .next (accepted m e (u.onMem (fun x => { x with memFence := n != 0 })))) ∧
      (k = dk 0x3200 0x0C → u.bar4Ok n = true → ∃ t, exec (.hostBar4Base .mailbox) s = .next (accepted m e t) ∧
        t.mem.bar4Base = BitVec.ofNat 48 n) ∧
      (k = dk 0x6300 5 → n = 1 → u.pkg.dev = .flow ∨ u.pkg.dev = .drift → exec (.calExportTake .mailbox) s =
        .next (accepted m e ((u.onCal (fun c => { c with exported := u.calBlob })).lookDom (dk 0x6300 6) u.calBlob true)))

/-- R521, R528 to R530, R537, R543, R546, R550, R560, R561, R564: the entries of errors, check values, the Moraine and security that
act when they are written, by the mailbox. -/
def Obligations.DictionaryRas : Prop :=
  ∀ (s : State) (m : List Byte) (rest : List (List Byte)) (e : Entry) (v : List Byte) (u : State),
    MailWrite s m rest e v u →
      let n := leNat v
      let k := mailKey m
      (k = dk 0x6000 3 → (u.errAck (BitVec.ofNat 32 n)).1 = true →
        exec (.errAck .mailbox) s = .next (accepted m e (u.errAck (BitVec.ofNat 32 n)).2)) ∧
      (k = dk 0x6000 8 → u.errs.injEn = true → u.errs.prodLock = false →
        ((fld v 5 1).testBit 0 = false → exec (.errInject .mailbox) s =
          .next (accepted m e (u.onErrs (fun x => { x with injReg := v, inj := none })))) ∧
        ((fld v 5 1).testBit 0 = true → causes.contains (fld v 2 2) = true → fld v 4 1 ≠ 0 → fld v 8 8 = 0 →
          exec (.errInject .mailbox) s = .next (accepted m e (u.onErrs (fun x => { x with
            injReg := v, inj := some ⟨BitVec.ofNat 16 (fld v 0 2), BitVec.ofNat 16 (fld v 2 2), fld v 4 1, 0⟩ }))))) ∧
      (k = dk 0x6000 0x0B → n = 0xA5 → u.sec.fuse = none → exec (.errProdLockSet .mailbox) s =
        .next (accepted m e (u.onSec (fun x => { x with fuse := some .prodLock })))) ∧
      (k = dk 0x7000 3 → (u.keyRevoke n).1 = 0 → exec (.secKeyRevoke .mailbox) s =
        .next (accepted m e (u.onSec (fun x => { x with fuse := some (.revoke (BitVec.ofNat 4 n)) })))) ∧
      (k = dk 0x7000 5 → n = 1 → u.sec.svnFused < u.sec.svn.toNat → u.sec.fuse = none → exec (.secSvnCommit .mailbox) s =
        .next (accepted m e (u.onSec (fun x => { x with fuse := some (.svn u.sec.svn.toNat) })))) ∧
      (k = dk 0x7000 0x0A → 8 ≤ fld v 0 1 → fld v 0 1 ≤ 15 → exec (.secMeasExtend .mailbox) s =
        .next (accepted m e (u.extend (fld v 0 1) (v.drop 1)))) ∧
      (∀ unit : BitVec 4, k = dk 0x6100 (unit.toNat + 1) → u.cvuFwOnly unit = false →
        (fld v 44 4 % 2 = 1 → exec (.cvuStart unit .mailbox) s = .next (accepted m e (u.putCvu unit v).2)) ∧
        (fld v 44 4 % 2 = 0 → exec (.cvuStop unit .mailbox) s = .next (accepted m e (u.putCvu unit v).2))) ∧
      (k = dk 0x6200 4 → (n = 1 → u.mor.frozen = none → exec (.morFreeze .mailbox) s = .next (accepted m e
          (u.onMor (fun x => { x with frozen := some u.now, shadow := MorData.reset })))) ∧
        (n = 0 → exec (.morFreeze .mailbox) s = .next (accepted m e u.thaw))) ∧
      (k = dk 0x6200 5 → n = 1 → exec (.morFlush .mailbox) s = .next (accepted m e u.dueSnap))

/-! ### BAR0 -/

/-- R366, R500 to R508: accesses to registers. A register of a global block or of a tile's block takes
its new value, by itself or through the SET, CLEAR or TOGGLE alias; a plain write that changes a reserved field acts on the others, what the
reserved one then holds being a free value (the model's choice, log entry 84), and is counted and ignored where the block is locked; an
access that is not aligned is counted; a read answers with the register; HOST_BAR4_BASE takes effect with its HI half.
R507: the scrub of the triplicated registers counts the fields that it corrected, in the block of each, up to what the counter
holds, and reports a block at most once per second. -/
def Obligations.RegisterWrites : Prop :=
  (∀ (s : State) (addr : BitVec 27) (v : W32),
    let a := addr.toNat
    let g := a / 2 ^ 24
    let n := a / 2 ^ 16 % 2 ^ 8
    let off := a % 2 ^ 14
    let new := aliasVal (a / 2 ^ 14 % 4) (s.reg g n off) v (BitVec.ofNat 32 (regMask g n off))
    let rsv := BitVec.ofNat 32 (rsvMask g n off)
    let kept := (new ^^^ s.reg g n off) &&& rsv = 0
    s.hostReaches = true → blockExists g n = true →
      (a % 4 = 0 → s.pkg.dev ≠ .icebound → off < 0x3FF0 → regMask g n off ≠ 0 →
        (kept → g = 0 → exec (.bar0RegisterWrite addr 4 (.write (v.setWidth 64))) s = .next (s.putGlobal n off (new &&& ~~~rsv))) ∧
        (kept → ∀ t, g = t + 1 →
          exec (.bar0RegisterWrite addr 4 (.write (v.setWidth 64))) s = .next (s.putTile t n off (new &&& ~~~rsv))) ∧
        (¬ kept → (s.block (blockKey g n)).lock = true →
          exec (.bar0RegisterWrite addr 4 (.write (v.setWidth 64))) s = .next (s.ignored (blockKey g n))) ∧
        (¬ kept → (s.block (blockKey g n)).lock = false →
          (g = 0 → exec (.bar0RegisterWrite addr 4 (.write (v.setWidth 64))) s =
            .next ((s.putReserved g n off).putGlobal n off (new &&& ~~~rsv))) ∧
          (∀ t, g = t + 1 → exec (.bar0RegisterWrite addr 4 (.write (v.setWidth 64))) s =
            .next ((s.putReserved g n off).putTile t n off (new &&& ~~~rsv))))) ∧
      (a % 4 ≠ 0 → exec (.bar0RegisterWrite addr 4 (.write (v.setWidth 64))) s = .next (s.ignored (blockKey g n))) ∧
      (a % 4 = 0 → s.pkg.dev = .icebound →
        exec (.bar0RegisterWrite addr 4 (.write (v.setWidth 64))) s = .next (s.ignored (blockKey g n))) ∧
      (∀ size, exec (.bar0RegisterWrite addr size .read) s =
        .next ((s.bar0Read a size).2.emit (.bar0Data (s.bar0Read a size).1))) ∧
      (s.pkg.dev ≠ .icebound → ∀ d : BitVec 64, s.bar4Ok d.toNat = true → d.toNat / 2 ^ 32 = v.toNat →
        SMap.get 0 s.regs.loHeld (regAddr 0 3 0x10) = d.setWidth 32 → SMap.get 0 s.regs.test (regAddr 0 3 0x14) = 0 →
        exec (.hostBar4BaseHiWrite 0 v) s = .next (s.onMem (fun m => { m with bar4Base := d.setWidth 48 }))) ∧
      (s.pkg.dev ≠ .icebound → SMap.get 0 s.regs.test (regAddr 1 5 8) = 0 → v.toNat < 8 → exec (.phoSteerCmdGo 0 v) s =
        .next (s.onFloe (fun f => { f with cmdSet := v.extractLsb' 0 3 }))) ∧
      (s.pkg.dev ≠ .icebound → SMap.get 0 s.regs.test (regAddr 1 5 8) = 0 → v.toNat < 8 → let w := s.onFloe (fun f => { f with cmdSet := v.extractLsb' 0 3 })
        exec (.phoSteerCmdGo 0 (v ||| 0x80)) s = .next (w.requestSteer (v.extractLsb' 0 3) s.floe.cmdT .register).2)) ∧
  (∀ (s : State), s.errs.inj = none →
    exec (.voteScrub []) s = .next s ∧
    (∀ addr : BitVec 27, let g := addr.toNat / 2 ^ 24
      let n := addr.toNat / 2 ^ 16 % 2 ^ 8
      blockExists g n = true → ∃ t, exec (.voteScrub [addr]) s = .next t ∧
        (t.block (blockKey g n)).votes = satAdd (s.block (blockKey g n)).votes 1 ∧
        ((∃ w, (s.block (blockKey g n)).voteAt = some w ∧ s.since w < msU 1000) → t.errs = s.errs) ∧
        (∀ b, b ≠ blockKey g n → t.block b = s.block b)))

/-- R10: once the LOCK bit of a block is set, a write to a field that it names is refused at both levels: whatever register is written, the
locked fields stay as they are, and a dictionary write of an entry that the block's LOCK names is refused LOCKED and changes nothing, by the mailbox and whoever asks. -/
def Obligations.LockedFieldsHold : Prop :=
  (∀ (s t : State) (addr : BitVec 27) (size : Nat) (v : W64), exec (.bar0RegisterWrite addr size (.write v)) s = .next t →
    let g := fun (n : Nat) => (s.block (blockKey 0 n)).lock = true
    (g 2 → t.sched.sliceTimeout = s.sched.sliceTimeout ∧ t.sched.preemptEn = s.sched.preemptEn) ∧
    (g 3 → t.mem.privSw = s.mem.privSw) ∧ (g 4 → t.clk.ppsEn = s.clk.ppsEn) ∧ (g 5 → t.pow.brkK = s.pow.brkK) ∧
    (g 6 → t.firm.log.minSev = s.firm.log.minSev) ∧ (g 8 → t.mor.frozen = s.mor.frozen) ∧
    (g 9 → t.sec.hostEn = s.sec.hostEn) ∧ (g 10 → t.cal.replanEn = s.cal.replanEn) ∧
    (∀ k : BitVec 2,
      let b := fun (n : Nat) => (s.block (blockKey (k.toNat + 1) n)).lock = true
      (b 2 → RF.at t.serac.raMax k = RF.at s.serac.raMax k ∧ RF.at t.serac.raEn k = RF.at s.serac.raEn k) ∧
      (b 3 → t.firn.scratchDefault.extractLsb' (8 * k.toNat) 8 = s.firn.scratchDefault.extractLsb' (8 * k.toNat) 8) ∧
      (b 4 → RF.at t.hbm.refreshDouble k = RF.at s.hbm.refreshDouble k) ∧
      (b 5 → t.floe.disable.extractLsb' (4 * k.toNat) 4 = s.floe.disable.extractLsb' (4 * k.toNat) 4) ∧
      (b 6 → RF.at t.fab.seed k = RF.at s.fab.seed k) ∧ (b 7 → (t.stk k).slopeLimit = (s.stk k).slopeLimit) ∧
      (b 8 → RF.at t.errs.fwOnly k = RF.at s.errs.fwOnly k))) ∧
  (∀ (s : State) (m : List Byte) (rest : List (List Byte)) (e : Entry), Taken s 0x0202 m rest → s.n5Down = false →
    (mailReq true m).idx < 0x8000 → entryAt (mailReq true m).idx (mailReq true m).sub = some e →
    s.takeUp.writeDenied e askMbx = false →
    (∃ n, lockBy (mailKey m) = .glob n ∧ (s.block (blockKey 0 n)).lock = true) ∨
      (∃ n g, lockBy (mailKey m) = .tiles n ∧ 1 ≤ g ∧ g ≤ 4 ∧ (s.block (blockKey g n)).lock = true) ∨
      (mailKey m = dk 0x6000 7 ∧ (s.block (blockKey 0 7)).lock = true ∧ leNat (mailReq true m).data = 1) →
    exec .dictWrite s = .next (mailReply m (s.takeUp.bare e (mailKey m) 3 false) s.takeUp)) ∧
  (∀ (s : State) (who : Asker) (r : DictReq) (e : Entry), r.idx < 0x8000 → entryAt r.idx r.sub = some e →
    s.writeDenied e who = false →
    (∃ n, lockBy (dk r.idx r.sub) = .glob n ∧ (s.block (blockKey 0 n)).lock = true) ∨
      (∃ n g, lockBy (dk r.idx r.sub) = .tiles n ∧ 1 ≤ g ∧ g ≤ 4 ∧ (s.block (blockKey g n)).lock = true) ∨
      (dk r.idx r.sub = dk 0x6000 7 ∧ (s.block (blockKey 0 7)).lock = true ∧ leNat r.data = 1) →
    s.dictWrite who r = (3, s))

/-! ### Pins, the TAP and the PCIe link -/

namespace Sys2Proof.Claims

/-- An assertion acts on an input now: its stamps. -/
def pinNow (s : State) (p : Nat) : State := s.onPin p (fun x => { x with since := some s.now, lastAt := some s.now })

/-- A release acts on an input: it is asserted no more. -/
def pinEnds (s : State) (p : Nat) : State := s.onPin p (fun x => { x with since := none, stuck := false, held := false })

end Sys2Proof.Claims

/-- R270, R388, R428, R606, R608: the discrete inputs of a device that runs. An acted assertion of PWRBRK_N sets the power brake and its release ends
it; LSR_INTLK_N closes the gates and its release lets the ports be probed again; FENCE_N raises MEM_FENCE and counts as a write of it,
but not in ICEBOUND (the model's choice, log entry 160), and its release leaves it;
an edge of SYNC_PPS steers the grandmaster; a release of an input that the excess rule holds is counted and ignored.
R606, R607: a strap that changes, an input that outlasts its stuck timer and an edge beyond the followed rate each write a pin event,
a log entry of CORE 6 with the pin and the event, and nothing else changes but the pin's own counts. -/
def Obligations.DiscreteInputs : Prop :=
  (∀ (s : State), s.powered = true →
    (∃ t, exec .pwrbrkNAssert s = .next t ∧ t.pow.brk = true ∧ (t.pin pinBrk).since = some s.now) ∧
    ((s.pin pinBrk).since.isSome = true → (s.pin pinBrk).stuck = false → s.flooded pinBrk (msU 1000) 100 = false →
      exec .pwrbrkNRelease s = .next (alerted s ((pinEnds s pinBrk).onPow (fun p => { p with brk := false })))) ∧
    (exec .lsrIntlkNAssert s = .next ((pinNow s pinIntlk).onFloe (fun f => { f with intlk := true })).shutAll) ∧
    ((s.pin pinIntlk).since.isSome = true → s.flooded pinIntlk (10 * msU 1000) 10 = false →
      ∃ t, exec .lsrIntlkNRelease s = .next t ∧ t.floe.intlk = false ∧ (t.pin pinIntlk).since = none) ∧
    ((s.pin pinIntlk).since.isSome = true → s.flooded pinIntlk (10 * msU 1000) 10 = true →
      ∃ t, exec .lsrIntlkNRelease s = .next t ∧ t.floe = s.floe ∧ (t.pin pinIntlk).since = (s.pin pinIntlk).since ∧
        (t.pin pinIntlk).held = true) ∧
    (s.flooded pinFence (msU 1) 0 = false →
      (s.pkg.dev = .icebound → exec .fenceNAssert s = .next (pinNow s pinFence)) ∧
      (s.pkg.dev ≠ .icebound → exec .fenceNAssert s =
        .next (((pinNow s pinFence).onMem (fun m => { m with memFence := true })).onDict (fun d => { d with gen := d.gen + 1 })))) ∧
    ((s.pin pinFence).since.isSome = true → ∃ t, exec .fenceNRelease s = .next t ∧ t.mem = s.mem ∧ (t.pin pinFence).since = none) ∧
    (s.flooded pinPps (msU 900) 0 = false → (s.pin pinPps).stuck = false → s.clk.ppsEn = true → s.staged (dk 0x4000 8) = none →
      s.clk.ftState = .grandmaster → exec .syncPpsEdge s =
        .next ((pinNow (pinEnds s pinPps) pinPps).onClk (fun c => { c with servo := clampRate 4294 (Config.ppsRate s.clk.taiPhase) })))) ∧
  (∀ (s : State), s.powered = true →
    let noted := fun (t : State) => t.mem = s.mem ∧ t.sched = s.sched ∧ t.pkg = s.pkg ∧ t.floe = s.floe ∧ t.pow = s.pow
    let event := fun (p ev : Nat) => s.pinEvent p ev
    (∀ strap, strap < 6 → exec (.rackposChange strap) s = .next (event (6 + strap) 4) ∧ noted (event (6 + strap) 4)) ∧
    (∀ p, p = pinBrk ∨ p = pinIntlk ∨ p = pinFence → (s.pin p).stuck = false → (s.pin p).since.isSome = true →
      exec (.pinStuckTimeout p) s = .next ((event p 1).onPin p (fun x => { x with stuck := true })) ∧ noted (event p 1)) ∧
    ((s.pin pinPps).stuck = false → s.clk.ppsEn = true →
      exec (.pinStuckTimeout pinPps) s = .next ((event pinPps 1).onPin pinPps (fun x => { x with stuck := true }))) ∧
    (∀ p, pinBrk ≤ p → p ≤ pinPps → ∃ t, exec (.pinExcessEdge p) s = .next t ∧ noted t ∧
      ((∃ w, (s.pin p).excessAt = some w ∧ s.since w < msU 1000) → (t.pin p).ignored = (s.pin p).ignored + 1)))

/-- R612, R615, R616: the PCIe link and the TAP. A link that goes down changes no device state; TRST_N holds the TAP in reset, with
IDCODE; an instruction that is loaded changes no device state and no dictionary value, and one that is not available acts as
BYPASS. -/
def Obligations.LinkAndTap : Prop :=
  ∀ (s : State),
    (exec .pcieLinkDown s = .next { s with pins := { s.pins with pcieUp := false } }) ∧
    (s.pkg.dev ≠ .cold → exec .pcieLinkUp s = .next { s with pins := { s.pins with pcieUp := true } }) ∧
    (exec .trstNAssert s = .next { s with pins := { s.pins with tapReset := true, tap := .idcode } }) ∧
    (exec .trstNRelease s = .next { s with pins := { s.pins with tapReset := false } }) ∧
    (s.pins.tapReset = false →
      let loads := fun (i act : TapInstr) => exec (.tapInstruction i) s = .next { s with pins := { s.pins with tap := act } }
      loads .bypass .bypass ∧ loads .idcode .idcode ∧ loads .sample .sample ∧
      (s.pins.perst = true → s.pins.railsUp = true →
        loads .extest .extest ∧ loads .extestPulse .extestPulse ∧ loads .extestTrain .extestTrain) ∧
      (s.pins.perst = false ∨ s.pins.railsUp = false →
        loads .extest .bypass ∧ loads .extestPulse .bypass ∧ loads .extestTrain .bypass) ∧
      (s.errs.prodLock = true → ∀ k, loads (.stackedDie k) .bypass ∧ loads (.hbm k) .bypass) ∧
      (s.errs.prodLock = false → ∀ k, (k < 8 → loads (.stackedDie k) (.stackedDie k)) ∧ (k < 24 → loads (.hbm k) (.hbm k))))

/-! ### Check values and the Moraine -/

/-- R533 to R537, R539: the check-value units. A load that returns OK is fed; one that fails ends the scan with its status; a scan whose
last byte is fed folds VALUE in: a GENERATE scan ends OK, with VALUE one higher under AUTO_INC; a COMPARE scan that agrees ends OK
with LAST set to VALUE, and one that differs ends with MISMATCH and is counted.
R540, R541, R543, R546, R548: the Moraine. A dip is counted by its depth; a snapshot falls due every ten minutes; a write that ends well is
in the store, and one that fails is tried again in the next slot, or after three in a row the store is FAILED; a freeze that has lasted 1 s
ends with its deltas merged in; a sample is taken once a second, and leaves what is not the Moraine's alone. -/
def Obligations.CheckValuesAndMoraine : Prop :=
  (∀ (s : State) (c : BitVec 4),
    let u := s.cvuAt c
    (∀ (l : CvuLoad) rest st data ok, u.flight = l :: rest → l.res = some (st, data, ok) → u.en = true → u.storing = false →
      let w := s.onCvu c.toNat (fun x => { x with flight := rest })
      (st ≠ scOk → st ≠ scPoisoned → exec (.cvuLoadComplete c) s = .next (w.cvuFinish c st u.value)) ∧
      (st = scOk → u.stopping = false →
        exec (.cvuLoadComplete c) s = .next (cvuIssue c 64 (w.onCvu c.toNat (fun x => x.feed data)))) ∧
      (st = scOk → u.stopping = true → rest = [] →
        exec (.cvuLoadComplete c) s = .next ((w.onCvu c.toNat (fun x => x.feed data)).cvuFinish c 0x23 u.value))) ∧
    (u.en = true → u.storing = false → u.stopping = false → u.flight = [] → u.len.toNat ≤ u.pos.toNat →
      let w := s.onCvu c.toNat (fun x => { x with run := u.fold })
      (u.mode ≠ 1 → exec (.cvuScanEnd c) s = .next ((w.onCvu c.toNat (fun x =>
        { x with value := if u.autoInc then u.value + 1 else u.value })).cvuFinish c 0 u.value)) ∧
      (u.mode = 1 → s.errs.inj = none →
        (u.fold = u.expect →
          exec (.cvuScanEnd c) s = .next ((w.onCvu c.toNat (fun x => { x with last := u.value })).cvuFinish c 0 u.value)) ∧
        (u.fold ≠ u.expect → ∃ t, exec (.cvuScanEnd c) s = .next t ∧ (t.cvuAt c).result = 0x20 ∧ (t.cvuAt c).last = u.last ∧
          t.errs.mismatches = satInc s.errs.mismatches)))) ∧
  (∀ (s : State),
    (s.mor.en = true → (∀ hs es, ∃ m, exec (.moraineSample hs es) s = .next { s with mor := m } ∧ m.frozen = s.mor.frozen ∧
        m.cycles = s.mor.cycles ∧ m.optime = s.mor.optime ∧ (s.mor.frozen.isSome = true → m.d = s.mor.d)) ∧
      (∀ d, 15 < d → s.mor.frozen = none → exec (.vddSrcDip d) s = .next { s with
        mor := { s.mor with d := s.mor.d.add 44 (min ((d - 15) / 5) 31) 1 } }) ∧
      exec .snapshotDue s = .next s.dueSnap) ∧
    (∀ x, s.mor.writing = some x → s.errs.inj = none →
      (exec (.snapshotWriteComplete true) s = .next (s.snapWritten x).startSnap) ∧
      (s.mor.failRun < 2 → ∃ t, exec (.snapshotWriteComplete false) s = .next t ∧ t.mor.failRun = s.mor.failRun + 1 ∧
        t.mor.writing = some { x with seq := x.seq + 1 } ∧ t.mor.store = s.mor.store) ∧
      (2 ≤ s.mor.failRun → ∃ t, exec (.snapshotWriteComplete false) s = .next t ∧ t.mor.store = 2 ∧ t.mor.writing = none)) ∧
    (s.mor.frozen.isSome = true → exec .morFreezeExpire s = .next (s.onMor (fun m =>
      { m with frozen := none, d := m.d.merge m.shadow, shadow := MorData.reset })).startSnap))

/-! ### The block as a whole -/

namespace Sys2Proof.Claims

/-- What extensions by values, each with its register, make of the measurement registers (R562). -/
def extended (m : RF 4 (List Byte)) (vs : List (BitVec 4 × List Byte)) : RF 4 (List Byte) :=
  vs.foldl (fun m p => RF.put m p.1 (sha3 (RF.at m p.1 ++ p.2))) m

/-- The commands by which a power-on reset, PERST_N or a soft reset clears the device (R3, R602, R610). -/
def clears : Instr → Prop
  | .perstNAssert => True
  | .powerLoss => True
  | .railOutOfTolerance _ => True
  | .softResetBegin => True
  | _ => False

end Sys2Proof.Claims

/-- A step takes the command at the front of the queue and runs it with the queue's rest; with no command waiting it is a tick of the
timebase (the model's choice, log entry 10), and never stops: where no Serac clock runs and no interrupt waits, the local count
advances by one cycle of 250 ps, 16 units, unless the device is COLD (R379), and nothing but the clocks, the Moraine's operating time
(R544) and the counts published every 10 ms (R286, R322) changes. -/
def Obligations.StepRunsQueue : Prop :=
  (∀ (c : Instr) (s : State) (rest : List Instr), s.pending = c :: rest → step s = exec c { s with pending := rest }) ∧
  (∀ s : State, s.pending = [] → (∃ t, step s = .next t) ∧
    (s.firm.mbx.irqDue = false → s.pkg.dev = .cold ∨ (∀ t : BitVec 2, s.pll t.toNat ≠ .locked) → ∃ c m fec cnt,
      step s = .next { s with clk := c, mor := m, floe := { s.floe with fecPub := fec }, fab := { s.fab with cntPub := cnt } } ∧
      (s.pkg.dev ≠ .cold → c.ftLocal = s.clk.ftLocal + 16) ∧ (s.pkg.dev = .cold → c = s.clk) ∧
      (s.clk.ftState = .unset → c.ft = s.clk.ft) ∧ m.d = s.mor.d ∧ m.stored = s.mor.stored))

/-- R3, R183, R217, R230, R275, R286, R322, R346, R392, R433, R474, R475, R481, R538, R541, R562, R571: the values that the spec gives for reset: THAW, no time,
no program, no command, the default periods, roles, caps and timeouts, and the measurement registers zero. -/
def Obligations.ResetValues : Prop :=
  let s := State.reset
  s.pkg.dev = .thaw ∧ s.pending = [] ∧ s.sched.progs = [] ∧ s.sched.en = false ∧ s.sched.preemptEn = true ∧
  s.hbm.scrubPeriod = 24 ∧ s.floe.svcPeriod = 40 ∧ s.floe.roles = List.replicate 6 ⟨10, 3, 2, 1⟩ ∧ s.fab.shape = 5 ∧
  s.mem.timeout = 50 ∧ s.mem.retention = 1000 ∧ s.mem.memFence = false ∧ s.mem.collTimeout = 100 ∧ s.clk.ftState = .unset ∧
  s.pow.brkK = 16 ∧ s.pow.brkCap = 1200 ∧ s.firm.mbx.driftPeriod = 600 ∧ s.firm.lease.gen = 1 ∧ s.firm.dm.holder = 0xFF ∧
  s.firm.dm.swapPeriod = 24 ∧ s.firm.log.minSev = 1 ∧ s.dict.lock = false ∧ s.errs.slots = [] ∧
  (∀ c : BitVec 4, (RF.at s.cvu c).result = 0xFF ∧ (RF.at s.cvu c).en = false) ∧
  (∀ i : BitVec 4, RF.at s.sec.meas i = List.replicate 32 0) ∧ s.sec.keyIndex = 0xFF ∧ s.sec.hostEn = true ∧ s.cal.replanEn = true

/-- Every byte memory of the machine after reset is in its canonical form. -/
def Obligations.ResetMemoryCanonical : Prop := State.reset.memWf = true

/-- A step keeps every byte memory in its canonical form, the HBM, the Firn scratch and the tile SRAMs, so that equal contents are equal
data. -/
def Obligations.StepKeepsMemoryCanonical : Prop :=
  ∀ s t : State, s.memWf = true → step s = .next t → t.memWf = true

/-- R530, R555, R560, R561: fuses move one way. Whatever a step does, the production lock that is set stays set, a revoked key stays revoked, the fused
security version does not fall, the key hashes and the secret stay as they are, and so does what is fixed per part; and a step takes at
most the command at the front of the queue. -/
def Obligations.FusesMoveOneWay : Prop :=
  ∀ s t : State, step s = .next t →
    (s.errs.prodLock = true → t.errs.prodLock = true) ∧ s.sec.keyRevoked &&& t.sec.keyRevoked = s.sec.keyRevoked ∧
    s.sec.svnFused ≤ t.sec.svnFused ∧ t.sec.keyHash = s.sec.keyHash ∧ t.sec.uds = s.sec.uds ∧ t.part = s.part ∧
    t.pending = s.pending.tail

/-- R562: the measurement registers. An extension by `v` sets a register to SHA3-256 of itself and `v`; a power-on reset, PERST_N and a soft
reset set every register to zero; an FLR does not change them; and nothing else changes one except extensions. -/
def Obligations.MeasurementRegisters : Prop :=
  (∀ (s : State) (i : BitVec 4) (v : List Byte), v.length = 32 →
    (s.extend i.toNat v).sec.meas = RF.put s.sec.meas i (sha3 (RF.at s.sec.meas i ++ v))) ∧
  (∀ (s t : State) (c : Instr) (rest : List Instr), s.pending = c :: rest → clears c → step s = .next t →
    (c = .softResetBegin → s.pkg.softReset = true ∧ s.mor.writing = none ∧ s.errs.entryDue = false ∧
      (s.pkg.dev = .thaw ∨ s.pkg.dev = .flow ∨ s.pkg.dev = .drift)) →
    t.sec.meas = RF.all 4 (List.replicate 32 0)) ∧
  (∀ s t : State, exec .flr s = .next t → t.sec.meas = s.sec.meas) ∧
  (∀ s t : State, step s = .next t →
    (∃ vs, t.sec.meas = extended s.sec.meas vs ∧ ∀ p ∈ vs, p.2.length = 32) ∨
    (t.sec.meas = RF.all 4 (List.replicate 32 0) ∧ ∃ c rest, s.pending = c :: rest ∧ clears c))
end

