-- ==== Sys2Proof/Laws/State.lean ====
section
/-! SUPPORT. What each update of State leaves in each field: one lemma per field and update, true by reflexivity, so that
no later proof unfolds a record update. -/

namespace Sys2Proof.Machine

variable (s : State)

/-! ### onCal -/

@[simp] theorem State.onCal_part (f : Cal → Cal) : (s.onCal f).part = s.part := rfl
@[simp] theorem State.onCal_pkg (f : Cal → Cal) : (s.onCal f).pkg = s.pkg := rfl
@[simp] theorem State.onCal_pins (f : Cal → Cal) : (s.onCal f).pins = s.pins := rfl
@[simp] theorem State.onCal_cal (f : Cal → Cal) : (s.onCal f).cal = f s.cal := rfl
@[simp] theorem State.onCal_sec (f : Cal → Cal) : (s.onCal f).sec = s.sec := rfl
@[simp] theorem State.onCal_firm (f : Cal → Cal) : (s.onCal f).firm = s.firm := rfl
@[simp] theorem State.onCal_sched (f : Cal → Cal) : (s.onCal f).sched = s.sched := rfl
@[simp] theorem State.onCal_serac (f : Cal → Cal) : (s.onCal f).serac = s.serac := rfl
@[simp] theorem State.onCal_firn (f : Cal → Cal) : (s.onCal f).firn = s.firn := rfl
@[simp] theorem State.onCal_hbm (f : Cal → Cal) : (s.onCal f).hbm = s.hbm := rfl
@[simp] theorem State.onCal_floe (f : Cal → Cal) : (s.onCal f).floe = s.floe := rfl
@[simp] theorem State.onCal_fab (f : Cal → Cal) : (s.onCal f).fab = s.fab := rfl
@[simp] theorem State.onCal_mem (f : Cal → Cal) : (s.onCal f).mem = s.mem := rfl
@[simp] theorem State.onCal_clk (f : Cal → Cal) : (s.onCal f).clk = s.clk := rfl
@[simp] theorem State.onCal_pow (f : Cal → Cal) : (s.onCal f).pow = s.pow := rfl
@[simp] theorem State.onCal_dict (f : Cal → Cal) : (s.onCal f).dict = s.dict := rfl
@[simp] theorem State.onCal_regs (f : Cal → Cal) : (s.onCal f).regs = s.regs := rfl
@[simp] theorem State.onCal_errs (f : Cal → Cal) : (s.onCal f).errs = s.errs := rfl
@[simp] theorem State.onCal_cvu (f : Cal → Cal) : (s.onCal f).cvu = s.cvu := rfl
@[simp] theorem State.onCal_mor (f : Cal → Cal) : (s.onCal f).mor = s.mor := rfl
@[simp] theorem State.onCal_pending (f : Cal → Cal) : (s.onCal f).pending = s.pending := rfl
@[simp] theorem State.onCal_free (f : Cal → Cal) : (s.onCal f).free = s.free := rfl
@[simp] theorem State.onCal_outbox (f : Cal → Cal) : (s.onCal f).outbox = s.outbox := rfl
@[simp] theorem State.onCal_onCal (f g : Cal → Cal) : (s.onCal f).onCal g = s.onCal (fun x => g (f x)) := rfl

/-! ### onSec -/

@[simp] theorem State.onSec_part (f : Sec → Sec) : (s.onSec f).part = s.part := rfl
@[simp] theorem State.onSec_pkg (f : Sec → Sec) : (s.onSec f).pkg = s.pkg := rfl
@[simp] theorem State.onSec_pins (f : Sec → Sec) : (s.onSec f).pins = s.pins := rfl
@[simp] theorem State.onSec_cal (f : Sec → Sec) : (s.onSec f).cal = s.cal := rfl
@[simp] theorem State.onSec_sec (f : Sec → Sec) : (s.onSec f).sec = f s.sec := rfl
@[simp] theorem State.onSec_firm (f : Sec → Sec) : (s.onSec f).firm = s.firm := rfl
@[simp] theorem State.onSec_sched (f : Sec → Sec) : (s.onSec f).sched = s.sched := rfl
@[simp] theorem State.onSec_serac (f : Sec → Sec) : (s.onSec f).serac = s.serac := rfl
@[simp] theorem State.onSec_firn (f : Sec → Sec) : (s.onSec f).firn = s.firn := rfl
@[simp] theorem State.onSec_hbm (f : Sec → Sec) : (s.onSec f).hbm = s.hbm := rfl
@[simp] theorem State.onSec_floe (f : Sec → Sec) : (s.onSec f).floe = s.floe := rfl
@[simp] theorem State.onSec_fab (f : Sec → Sec) : (s.onSec f).fab = s.fab := rfl
@[simp] theorem State.onSec_mem (f : Sec → Sec) : (s.onSec f).mem = s.mem := rfl
@[simp] theorem State.onSec_clk (f : Sec → Sec) : (s.onSec f).clk = s.clk := rfl
@[simp] theorem State.onSec_pow (f : Sec → Sec) : (s.onSec f).pow = s.pow := rfl
@[simp] theorem State.onSec_dict (f : Sec → Sec) : (s.onSec f).dict = s.dict := rfl
@[simp] theorem State.onSec_regs (f : Sec → Sec) : (s.onSec f).regs = s.regs := rfl
@[simp] theorem State.onSec_errs (f : Sec → Sec) : (s.onSec f).errs = s.errs := rfl
@[simp] theorem State.onSec_cvu (f : Sec → Sec) : (s.onSec f).cvu = s.cvu := rfl
@[simp] theorem State.onSec_mor (f : Sec → Sec) : (s.onSec f).mor = s.mor := rfl
@[simp] theorem State.onSec_pending (f : Sec → Sec) : (s.onSec f).pending = s.pending := rfl
@[simp] theorem State.onSec_free (f : Sec → Sec) : (s.onSec f).free = s.free := rfl
@[simp] theorem State.onSec_outbox (f : Sec → Sec) : (s.onSec f).outbox = s.outbox := rfl
@[simp] theorem State.onSec_onSec (f g : Sec → Sec) : (s.onSec f).onSec g = s.onSec (fun x => g (f x)) := rfl

/-! ### onSched -/

@[simp] theorem State.onSched_part (f : Sched → Sched) : (s.onSched f).part = s.part := rfl
@[simp] theorem State.onSched_pkg (f : Sched → Sched) : (s.onSched f).pkg = s.pkg := rfl
@[simp] theorem State.onSched_pins (f : Sched → Sched) : (s.onSched f).pins = s.pins := rfl
@[simp] theorem State.onSched_cal (f : Sched → Sched) : (s.onSched f).cal = s.cal := rfl
@[simp] theorem State.onSched_sec (f : Sched → Sched) : (s.onSched f).sec = s.sec := rfl
@[simp] theorem State.onSched_firm (f : Sched → Sched) : (s.onSched f).firm = s.firm := rfl
@[simp] theorem State.onSched_sched (f : Sched → Sched) : (s.onSched f).sched = f s.sched := rfl
@[simp] theorem State.onSched_serac (f : Sched → Sched) : (s.onSched f).serac = s.serac := rfl
@[simp] theorem State.onSched_firn (f : Sched → Sched) : (s.onSched f).firn = s.firn := rfl
@[simp] theorem State.onSched_hbm (f : Sched → Sched) : (s.onSched f).hbm = s.hbm := rfl
@[simp] theorem State.onSched_floe (f : Sched → Sched) : (s.onSched f).floe = s.floe := rfl
@[simp] theorem State.onSched_fab (f : Sched → Sched) : (s.onSched f).fab = s.fab := rfl
@[simp] theorem State.onSched_mem (f : Sched → Sched) : (s.onSched f).mem = s.mem := rfl
@[simp] theorem State.onSched_clk (f : Sched → Sched) : (s.onSched f).clk = s.clk := rfl
@[simp] theorem State.onSched_pow (f : Sched → Sched) : (s.onSched f).pow = s.pow := rfl
@[simp] theorem State.onSched_dict (f : Sched → Sched) : (s.onSched f).dict = s.dict := rfl
@[simp] theorem State.onSched_regs (f : Sched → Sched) : (s.onSched f).regs = s.regs := rfl
@[simp] theorem State.onSched_errs (f : Sched → Sched) : (s.onSched f).errs = s.errs := rfl
@[simp] theorem State.onSched_cvu (f : Sched → Sched) : (s.onSched f).cvu = s.cvu := rfl
@[simp] theorem State.onSched_mor (f : Sched → Sched) : (s.onSched f).mor = s.mor := rfl
@[simp] theorem State.onSched_pending (f : Sched → Sched) : (s.onSched f).pending = s.pending := rfl
@[simp] theorem State.onSched_free (f : Sched → Sched) : (s.onSched f).free = s.free := rfl
@[simp] theorem State.onSched_outbox (f : Sched → Sched) : (s.onSched f).outbox = s.outbox := rfl
@[simp] theorem State.onSched_onSched (f g : Sched → Sched) : (s.onSched f).onSched g = s.onSched (fun x => g (f x)) := rfl

/-! ### onSerac -/

@[simp] theorem State.onSerac_part (f : Serac → Serac) : (s.onSerac f).part = s.part := rfl
@[simp] theorem State.onSerac_pkg (f : Serac → Serac) : (s.onSerac f).pkg = s.pkg := rfl
@[simp] theorem State.onSerac_pins (f : Serac → Serac) : (s.onSerac f).pins = s.pins := rfl
@[simp] theorem State.onSerac_cal (f : Serac → Serac) : (s.onSerac f).cal = s.cal := rfl
@[simp] theorem State.onSerac_sec (f : Serac → Serac) : (s.onSerac f).sec = s.sec := rfl
@[simp] theorem State.onSerac_firm (f : Serac → Serac) : (s.onSerac f).firm = s.firm := rfl
@[simp] theorem State.onSerac_sched (f : Serac → Serac) : (s.onSerac f).sched = s.sched := rfl
@[simp] theorem State.onSerac_serac (f : Serac → Serac) : (s.onSerac f).serac = f s.serac := rfl
@[simp] theorem State.onSerac_firn (f : Serac → Serac) : (s.onSerac f).firn = s.firn := rfl
@[simp] theorem State.onSerac_hbm (f : Serac → Serac) : (s.onSerac f).hbm = s.hbm := rfl
@[simp] theorem State.onSerac_floe (f : Serac → Serac) : (s.onSerac f).floe = s.floe := rfl
@[simp] theorem State.onSerac_fab (f : Serac → Serac) : (s.onSerac f).fab = s.fab := rfl
@[simp] theorem State.onSerac_mem (f : Serac → Serac) : (s.onSerac f).mem = s.mem := rfl
@[simp] theorem State.onSerac_clk (f : Serac → Serac) : (s.onSerac f).clk = s.clk := rfl
@[simp] theorem State.onSerac_pow (f : Serac → Serac) : (s.onSerac f).pow = s.pow := rfl
@[simp] theorem State.onSerac_dict (f : Serac → Serac) : (s.onSerac f).dict = s.dict := rfl
@[simp] theorem State.onSerac_regs (f : Serac → Serac) : (s.onSerac f).regs = s.regs := rfl
@[simp] theorem State.onSerac_errs (f : Serac → Serac) : (s.onSerac f).errs = s.errs := rfl
@[simp] theorem State.onSerac_cvu (f : Serac → Serac) : (s.onSerac f).cvu = s.cvu := rfl
@[simp] theorem State.onSerac_mor (f : Serac → Serac) : (s.onSerac f).mor = s.mor := rfl
@[simp] theorem State.onSerac_pending (f : Serac → Serac) : (s.onSerac f).pending = s.pending := rfl
@[simp] theorem State.onSerac_free (f : Serac → Serac) : (s.onSerac f).free = s.free := rfl
@[simp] theorem State.onSerac_outbox (f : Serac → Serac) : (s.onSerac f).outbox = s.outbox := rfl
@[simp] theorem State.onSerac_onSerac (f g : Serac → Serac) : (s.onSerac f).onSerac g = s.onSerac (fun x => g (f x)) := rfl

/-! ### onFirn -/

@[simp] theorem State.onFirn_part (f : Firn → Firn) : (s.onFirn f).part = s.part := rfl
@[simp] theorem State.onFirn_pkg (f : Firn → Firn) : (s.onFirn f).pkg = s.pkg := rfl
@[simp] theorem State.onFirn_pins (f : Firn → Firn) : (s.onFirn f).pins = s.pins := rfl
@[simp] theorem State.onFirn_cal (f : Firn → Firn) : (s.onFirn f).cal = s.cal := rfl
@[simp] theorem State.onFirn_sec (f : Firn → Firn) : (s.onFirn f).sec = s.sec := rfl
@[simp] theorem State.onFirn_firm (f : Firn → Firn) : (s.onFirn f).firm = s.firm := rfl
@[simp] theorem State.onFirn_sched (f : Firn → Firn) : (s.onFirn f).sched = s.sched := rfl
@[simp] theorem State.onFirn_serac (f : Firn → Firn) : (s.onFirn f).serac = s.serac := rfl
@[simp] theorem State.onFirn_firn (f : Firn → Firn) : (s.onFirn f).firn = f s.firn := rfl
@[simp] theorem State.onFirn_hbm (f : Firn → Firn) : (s.onFirn f).hbm = s.hbm := rfl
@[simp] theorem State.onFirn_floe (f : Firn → Firn) : (s.onFirn f).floe = s.floe := rfl
@[simp] theorem State.onFirn_fab (f : Firn → Firn) : (s.onFirn f).fab = s.fab := rfl
@[simp] theorem State.onFirn_mem (f : Firn → Firn) : (s.onFirn f).mem = s.mem := rfl
@[simp] theorem State.onFirn_clk (f : Firn → Firn) : (s.onFirn f).clk = s.clk := rfl
@[simp] theorem State.onFirn_pow (f : Firn → Firn) : (s.onFirn f).pow = s.pow := rfl
@[simp] theorem State.onFirn_dict (f : Firn → Firn) : (s.onFirn f).dict = s.dict := rfl
@[simp] theorem State.onFirn_regs (f : Firn → Firn) : (s.onFirn f).regs = s.regs := rfl
@[simp] theorem State.onFirn_errs (f : Firn → Firn) : (s.onFirn f).errs = s.errs := rfl
@[simp] theorem State.onFirn_cvu (f : Firn → Firn) : (s.onFirn f).cvu = s.cvu := rfl
@[simp] theorem State.onFirn_mor (f : Firn → Firn) : (s.onFirn f).mor = s.mor := rfl
@[simp] theorem State.onFirn_pending (f : Firn → Firn) : (s.onFirn f).pending = s.pending := rfl
@[simp] theorem State.onFirn_free (f : Firn → Firn) : (s.onFirn f).free = s.free := rfl
@[simp] theorem State.onFirn_outbox (f : Firn → Firn) : (s.onFirn f).outbox = s.outbox := rfl
@[simp] theorem State.onFirn_onFirn (f g : Firn → Firn) : (s.onFirn f).onFirn g = s.onFirn (fun x => g (f x)) := rfl

/-! ### onHbm -/

@[simp] theorem State.onHbm_part (f : Hbm → Hbm) : (s.onHbm f).part = s.part := rfl
@[simp] theorem State.onHbm_pkg (f : Hbm → Hbm) : (s.onHbm f).pkg = s.pkg := rfl
@[simp] theorem State.onHbm_pins (f : Hbm → Hbm) : (s.onHbm f).pins = s.pins := rfl
@[simp] theorem State.onHbm_cal (f : Hbm → Hbm) : (s.onHbm f).cal = s.cal := rfl
@[simp] theorem State.onHbm_sec (f : Hbm → Hbm) : (s.onHbm f).sec = s.sec := rfl
@[simp] theorem State.onHbm_firm (f : Hbm → Hbm) : (s.onHbm f).firm = s.firm := rfl
@[simp] theorem State.onHbm_sched (f : Hbm → Hbm) : (s.onHbm f).sched = s.sched := rfl
@[simp] theorem State.onHbm_serac (f : Hbm → Hbm) : (s.onHbm f).serac = s.serac := rfl
@[simp] theorem State.onHbm_firn (f : Hbm → Hbm) : (s.onHbm f).firn = s.firn := rfl
@[simp] theorem State.onHbm_hbm (f : Hbm → Hbm) : (s.onHbm f).hbm = f s.hbm := rfl
@[simp] theorem State.onHbm_floe (f : Hbm → Hbm) : (s.onHbm f).floe = s.floe := rfl
@[simp] theorem State.onHbm_fab (f : Hbm → Hbm) : (s.onHbm f).fab = s.fab := rfl
@[simp] theorem State.onHbm_mem (f : Hbm → Hbm) : (s.onHbm f).mem = s.mem := rfl
@[simp] theorem State.onHbm_clk (f : Hbm → Hbm) : (s.onHbm f).clk = s.clk := rfl
@[simp] theorem State.onHbm_pow (f : Hbm → Hbm) : (s.onHbm f).pow = s.pow := rfl
@[simp] theorem State.onHbm_dict (f : Hbm → Hbm) : (s.onHbm f).dict = s.dict := rfl
@[simp] theorem State.onHbm_regs (f : Hbm → Hbm) : (s.onHbm f).regs = s.regs := rfl
@[simp] theorem State.onHbm_errs (f : Hbm → Hbm) : (s.onHbm f).errs = s.errs := rfl
@[simp] theorem State.onHbm_cvu (f : Hbm → Hbm) : (s.onHbm f).cvu = s.cvu := rfl
@[simp] theorem State.onHbm_mor (f : Hbm → Hbm) : (s.onHbm f).mor = s.mor := rfl
@[simp] theorem State.onHbm_pending (f : Hbm → Hbm) : (s.onHbm f).pending = s.pending := rfl
@[simp] theorem State.onHbm_free (f : Hbm → Hbm) : (s.onHbm f).free = s.free := rfl
@[simp] theorem State.onHbm_outbox (f : Hbm → Hbm) : (s.onHbm f).outbox = s.outbox := rfl
@[simp] theorem State.onHbm_onHbm (f g : Hbm → Hbm) : (s.onHbm f).onHbm g = s.onHbm (fun x => g (f x)) := rfl

/-! ### onFloe -/

@[simp] theorem State.onFloe_part (f : Floe → Floe) : (s.onFloe f).part = s.part := rfl
@[simp] theorem State.onFloe_pkg (f : Floe → Floe) : (s.onFloe f).pkg = s.pkg := rfl
@[simp] theorem State.onFloe_pins (f : Floe → Floe) : (s.onFloe f).pins = s.pins := rfl
@[simp] theorem State.onFloe_cal (f : Floe → Floe) : (s.onFloe f).cal = s.cal := rfl
@[simp] theorem State.onFloe_sec (f : Floe → Floe) : (s.onFloe f).sec = s.sec := rfl
@[simp] theorem State.onFloe_firm (f : Floe → Floe) : (s.onFloe f).firm = s.firm := rfl
@[simp] theorem State.onFloe_sched (f : Floe → Floe) : (s.onFloe f).sched = s.sched := rfl
@[simp] theorem State.onFloe_serac (f : Floe → Floe) : (s.onFloe f).serac = s.serac := rfl
@[simp] theorem State.onFloe_firn (f : Floe → Floe) : (s.onFloe f).firn = s.firn := rfl
@[simp] theorem State.onFloe_hbm (f : Floe → Floe) : (s.onFloe f).hbm = s.hbm := rfl
@[simp] theorem State.onFloe_floe (f : Floe → Floe) : (s.onFloe f).floe = f s.floe := rfl
@[simp] theorem State.onFloe_fab (f : Floe → Floe) : (s.onFloe f).fab = s.fab := rfl
@[simp] theorem State.onFloe_mem (f : Floe → Floe) : (s.onFloe f).mem = s.mem := rfl
@[simp] theorem State.onFloe_clk (f : Floe → Floe) : (s.onFloe f).clk = s.clk := rfl
@[simp] theorem State.onFloe_pow (f : Floe → Floe) : (s.onFloe f).pow = s.pow := rfl
@[simp] theorem State.onFloe_dict (f : Floe → Floe) : (s.onFloe f).dict = s.dict := rfl
@[simp] theorem State.onFloe_regs (f : Floe → Floe) : (s.onFloe f).regs = s.regs := rfl
@[simp] theorem State.onFloe_errs (f : Floe → Floe) : (s.onFloe f).errs = s.errs := rfl
@[simp] theorem State.onFloe_cvu (f : Floe → Floe) : (s.onFloe f).cvu = s.cvu := rfl
@[simp] theorem State.onFloe_mor (f : Floe → Floe) : (s.onFloe f).mor = s.mor := rfl
@[simp] theorem State.onFloe_pending (f : Floe → Floe) : (s.onFloe f).pending = s.pending := rfl
@[simp] theorem State.onFloe_free (f : Floe → Floe) : (s.onFloe f).free = s.free := rfl
@[simp] theorem State.onFloe_outbox (f : Floe → Floe) : (s.onFloe f).outbox = s.outbox := rfl
@[simp] theorem State.onFloe_onFloe (f g : Floe → Floe) : (s.onFloe f).onFloe g = s.onFloe (fun x => g (f x)) := rfl

/-! ### onFab -/

@[simp] theorem State.onFab_part (f : Fab → Fab) : (s.onFab f).part = s.part := rfl
@[simp] theorem State.onFab_pkg (f : Fab → Fab) : (s.onFab f).pkg = s.pkg := rfl
@[simp] theorem State.onFab_pins (f : Fab → Fab) : (s.onFab f).pins = s.pins := rfl
@[simp] theorem State.onFab_cal (f : Fab → Fab) : (s.onFab f).cal = s.cal := rfl
@[simp] theorem State.onFab_sec (f : Fab → Fab) : (s.onFab f).sec = s.sec := rfl
@[simp] theorem State.onFab_firm (f : Fab → Fab) : (s.onFab f).firm = s.firm := rfl
@[simp] theorem State.onFab_sched (f : Fab → Fab) : (s.onFab f).sched = s.sched := rfl
@[simp] theorem State.onFab_serac (f : Fab → Fab) : (s.onFab f).serac = s.serac := rfl
@[simp] theorem State.onFab_firn (f : Fab → Fab) : (s.onFab f).firn = s.firn := rfl
@[simp] theorem State.onFab_hbm (f : Fab → Fab) : (s.onFab f).hbm = s.hbm := rfl
@[simp] theorem State.onFab_floe (f : Fab → Fab) : (s.onFab f).floe = s.floe := rfl
@[simp] theorem State.onFab_fab (f : Fab → Fab) : (s.onFab f).fab = f s.fab := rfl
@[simp] theorem State.onFab_mem (f : Fab → Fab) : (s.onFab f).mem = s.mem := rfl
@[simp] theorem State.onFab_clk (f : Fab → Fab) : (s.onFab f).clk = s.clk := rfl
@[simp] theorem State.onFab_pow (f : Fab → Fab) : (s.onFab f).pow = s.pow := rfl
@[simp] theorem State.onFab_dict (f : Fab → Fab) : (s.onFab f).dict = s.dict := rfl
@[simp] theorem State.onFab_regs (f : Fab → Fab) : (s.onFab f).regs = s.regs := rfl
@[simp] theorem State.onFab_errs (f : Fab → Fab) : (s.onFab f).errs = s.errs := rfl
@[simp] theorem State.onFab_cvu (f : Fab → Fab) : (s.onFab f).cvu = s.cvu := rfl
@[simp] theorem State.onFab_mor (f : Fab → Fab) : (s.onFab f).mor = s.mor := rfl
@[simp] theorem State.onFab_pending (f : Fab → Fab) : (s.onFab f).pending = s.pending := rfl
@[simp] theorem State.onFab_free (f : Fab → Fab) : (s.onFab f).free = s.free := rfl
@[simp] theorem State.onFab_outbox (f : Fab → Fab) : (s.onFab f).outbox = s.outbox := rfl
@[simp] theorem State.onFab_onFab (f g : Fab → Fab) : (s.onFab f).onFab g = s.onFab (fun x => g (f x)) := rfl

/-! ### onMem -/

@[simp] theorem State.onMem_part (f : MemSem → MemSem) : (s.onMem f).part = s.part := rfl
@[simp] theorem State.onMem_pkg (f : MemSem → MemSem) : (s.onMem f).pkg = s.pkg := rfl
@[simp] theorem State.onMem_pins (f : MemSem → MemSem) : (s.onMem f).pins = s.pins := rfl
@[simp] theorem State.onMem_cal (f : MemSem → MemSem) : (s.onMem f).cal = s.cal := rfl
@[simp] theorem State.onMem_sec (f : MemSem → MemSem) : (s.onMem f).sec = s.sec := rfl
@[simp] theorem State.onMem_firm (f : MemSem → MemSem) : (s.onMem f).firm = s.firm := rfl
@[simp] theorem State.onMem_sched (f : MemSem → MemSem) : (s.onMem f).sched = s.sched := rfl
@[simp] theorem State.onMem_serac (f : MemSem → MemSem) : (s.onMem f).serac = s.serac := rfl
@[simp] theorem State.onMem_firn (f : MemSem → MemSem) : (s.onMem f).firn = s.firn := rfl
@[simp] theorem State.onMem_hbm (f : MemSem → MemSem) : (s.onMem f).hbm = s.hbm := rfl
@[simp] theorem State.onMem_floe (f : MemSem → MemSem) : (s.onMem f).floe = s.floe := rfl
@[simp] theorem State.onMem_fab (f : MemSem → MemSem) : (s.onMem f).fab = s.fab := rfl
@[simp] theorem State.onMem_mem (f : MemSem → MemSem) : (s.onMem f).mem = f s.mem := rfl
@[simp] theorem State.onMem_clk (f : MemSem → MemSem) : (s.onMem f).clk = s.clk := rfl
@[simp] theorem State.onMem_pow (f : MemSem → MemSem) : (s.onMem f).pow = s.pow := rfl
@[simp] theorem State.onMem_dict (f : MemSem → MemSem) : (s.onMem f).dict = s.dict := rfl
@[simp] theorem State.onMem_regs (f : MemSem → MemSem) : (s.onMem f).regs = s.regs := rfl
@[simp] theorem State.onMem_errs (f : MemSem → MemSem) : (s.onMem f).errs = s.errs := rfl
@[simp] theorem State.onMem_cvu (f : MemSem → MemSem) : (s.onMem f).cvu = s.cvu := rfl
@[simp] theorem State.onMem_mor (f : MemSem → MemSem) : (s.onMem f).mor = s.mor := rfl
@[simp] theorem State.onMem_pending (f : MemSem → MemSem) : (s.onMem f).pending = s.pending := rfl
@[simp] theorem State.onMem_free (f : MemSem → MemSem) : (s.onMem f).free = s.free := rfl
@[simp] theorem State.onMem_outbox (f : MemSem → MemSem) : (s.onMem f).outbox = s.outbox := rfl
@[simp] theorem State.onMem_onMem (f g : MemSem → MemSem) : (s.onMem f).onMem g = s.onMem (fun x => g (f x)) := rfl

/-! ### onClk -/

@[simp] theorem State.onClk_part (f : Clk → Clk) : (s.onClk f).part = s.part := rfl
@[simp] theorem State.onClk_pkg (f : Clk → Clk) : (s.onClk f).pkg = s.pkg := rfl
@[simp] theorem State.onClk_pins (f : Clk → Clk) : (s.onClk f).pins = s.pins := rfl
@[simp] theorem State.onClk_cal (f : Clk → Clk) : (s.onClk f).cal = s.cal := rfl
@[simp] theorem State.onClk_sec (f : Clk → Clk) : (s.onClk f).sec = s.sec := rfl
@[simp] theorem State.onClk_firm (f : Clk → Clk) : (s.onClk f).firm = s.firm := rfl
@[simp] theorem State.onClk_sched (f : Clk → Clk) : (s.onClk f).sched = s.sched := rfl
@[simp] theorem State.onClk_serac (f : Clk → Clk) : (s.onClk f).serac = s.serac := rfl
@[simp] theorem State.onClk_firn (f : Clk → Clk) : (s.onClk f).firn = s.firn := rfl
@[simp] theorem State.onClk_hbm (f : Clk → Clk) : (s.onClk f).hbm = s.hbm := rfl
@[simp] theorem State.onClk_floe (f : Clk → Clk) : (s.onClk f).floe = s.floe := rfl
@[simp] theorem State.onClk_fab (f : Clk → Clk) : (s.onClk f).fab = s.fab := rfl
@[simp] theorem State.onClk_mem (f : Clk → Clk) : (s.onClk f).mem = s.mem := rfl
@[simp] theorem State.onClk_clk (f : Clk → Clk) : (s.onClk f).clk = f s.clk := rfl
@[simp] theorem State.onClk_pow (f : Clk → Clk) : (s.onClk f).pow = s.pow := rfl
@[simp] theorem State.onClk_dict (f : Clk → Clk) : (s.onClk f).dict = s.dict := rfl
@[simp] theorem State.onClk_regs (f : Clk → Clk) : (s.onClk f).regs = s.regs := rfl
@[simp] theorem State.onClk_errs (f : Clk → Clk) : (s.onClk f).errs = s.errs := rfl
@[simp] theorem State.onClk_cvu (f : Clk → Clk) : (s.onClk f).cvu = s.cvu := rfl
@[simp] theorem State.onClk_mor (f : Clk → Clk) : (s.onClk f).mor = s.mor := rfl
@[simp] theorem State.onClk_pending (f : Clk → Clk) : (s.onClk f).pending = s.pending := rfl
@[simp] theorem State.onClk_free (f : Clk → Clk) : (s.onClk f).free = s.free := rfl
@[simp] theorem State.onClk_outbox (f : Clk → Clk) : (s.onClk f).outbox = s.outbox := rfl
@[simp] theorem State.onClk_onClk (f g : Clk → Clk) : (s.onClk f).onClk g = s.onClk (fun x => g (f x)) := rfl

/-! ### onPow -/

@[simp] theorem State.onPow_part (f : Power → Power) : (s.onPow f).part = s.part := rfl
@[simp] theorem State.onPow_pkg (f : Power → Power) : (s.onPow f).pkg = s.pkg := rfl
@[simp] theorem State.onPow_pins (f : Power → Power) : (s.onPow f).pins = s.pins := rfl
@[simp] theorem State.onPow_cal (f : Power → Power) : (s.onPow f).cal = s.cal := rfl
@[simp] theorem State.onPow_sec (f : Power → Power) : (s.onPow f).sec = s.sec := rfl
@[simp] theorem State.onPow_firm (f : Power → Power) : (s.onPow f).firm = s.firm := rfl
@[simp] theorem State.onPow_sched (f : Power → Power) : (s.onPow f).sched = s.sched := rfl
@[simp] theorem State.onPow_serac (f : Power → Power) : (s.onPow f).serac = s.serac := rfl
@[simp] theorem State.onPow_firn (f : Power → Power) : (s.onPow f).firn = s.firn := rfl
@[simp] theorem State.onPow_hbm (f : Power → Power) : (s.onPow f).hbm = s.hbm := rfl
@[simp] theorem State.onPow_floe (f : Power → Power) : (s.onPow f).floe = s.floe := rfl
@[simp] theorem State.onPow_fab (f : Power → Power) : (s.onPow f).fab = s.fab := rfl
@[simp] theorem State.onPow_mem (f : Power → Power) : (s.onPow f).mem = s.mem := rfl
@[simp] theorem State.onPow_clk (f : Power → Power) : (s.onPow f).clk = s.clk := rfl
@[simp] theorem State.onPow_pow (f : Power → Power) : (s.onPow f).pow = f s.pow := rfl
@[simp] theorem State.onPow_dict (f : Power → Power) : (s.onPow f).dict = s.dict := rfl
@[simp] theorem State.onPow_regs (f : Power → Power) : (s.onPow f).regs = s.regs := rfl
@[simp] theorem State.onPow_errs (f : Power → Power) : (s.onPow f).errs = s.errs := rfl
@[simp] theorem State.onPow_cvu (f : Power → Power) : (s.onPow f).cvu = s.cvu := rfl
@[simp] theorem State.onPow_mor (f : Power → Power) : (s.onPow f).mor = s.mor := rfl
@[simp] theorem State.onPow_pending (f : Power → Power) : (s.onPow f).pending = s.pending := rfl
@[simp] theorem State.onPow_free (f : Power → Power) : (s.onPow f).free = s.free := rfl
@[simp] theorem State.onPow_outbox (f : Power → Power) : (s.onPow f).outbox = s.outbox := rfl
@[simp] theorem State.onPow_onPow (f g : Power → Power) : (s.onPow f).onPow g = s.onPow (fun x => g (f x)) := rfl

/-! ### onDict -/

@[simp] theorem State.onDict_part (f : Dict → Dict) : (s.onDict f).part = s.part := rfl
@[simp] theorem State.onDict_pkg (f : Dict → Dict) : (s.onDict f).pkg = s.pkg := rfl
@[simp] theorem State.onDict_pins (f : Dict → Dict) : (s.onDict f).pins = s.pins := rfl
@[simp] theorem State.onDict_cal (f : Dict → Dict) : (s.onDict f).cal = s.cal := rfl
@[simp] theorem State.onDict_sec (f : Dict → Dict) : (s.onDict f).sec = s.sec := rfl
@[simp] theorem State.onDict_firm (f : Dict → Dict) : (s.onDict f).firm = s.firm := rfl
@[simp] theorem State.onDict_sched (f : Dict → Dict) : (s.onDict f).sched = s.sched := rfl
@[simp] theorem State.onDict_serac (f : Dict → Dict) : (s.onDict f).serac = s.serac := rfl
@[simp] theorem State.onDict_firn (f : Dict → Dict) : (s.onDict f).firn = s.firn := rfl
@[simp] theorem State.onDict_hbm (f : Dict → Dict) : (s.onDict f).hbm = s.hbm := rfl
@[simp] theorem State.onDict_floe (f : Dict → Dict) : (s.onDict f).floe = s.floe := rfl
@[simp] theorem State.onDict_fab (f : Dict → Dict) : (s.onDict f).fab = s.fab := rfl
@[simp] theorem State.onDict_mem (f : Dict → Dict) : (s.onDict f).mem = s.mem := rfl
@[simp] theorem State.onDict_clk (f : Dict → Dict) : (s.onDict f).clk = s.clk := rfl
@[simp] theorem State.onDict_pow (f : Dict → Dict) : (s.onDict f).pow = s.pow := rfl
@[simp] theorem State.onDict_dict (f : Dict → Dict) : (s.onDict f).dict = f s.dict := rfl
@[simp] theorem State.onDict_regs (f : Dict → Dict) : (s.onDict f).regs = s.regs := rfl
@[simp] theorem State.onDict_errs (f : Dict → Dict) : (s.onDict f).errs = s.errs := rfl
@[simp] theorem State.onDict_cvu (f : Dict → Dict) : (s.onDict f).cvu = s.cvu := rfl
@[simp] theorem State.onDict_mor (f : Dict → Dict) : (s.onDict f).mor = s.mor := rfl
@[simp] theorem State.onDict_pending (f : Dict → Dict) : (s.onDict f).pending = s.pending := rfl
@[simp] theorem State.onDict_free (f : Dict → Dict) : (s.onDict f).free = s.free := rfl
@[simp] theorem State.onDict_outbox (f : Dict → Dict) : (s.onDict f).outbox = s.outbox := rfl
@[simp] theorem State.onDict_onDict (f g : Dict → Dict) : (s.onDict f).onDict g = s.onDict (fun x => g (f x)) := rfl

/-! ### onRegs -/

@[simp] theorem State.onRegs_part (f : Regs → Regs) : (s.onRegs f).part = s.part := rfl
@[simp] theorem State.onRegs_pkg (f : Regs → Regs) : (s.onRegs f).pkg = s.pkg := rfl
@[simp] theorem State.onRegs_pins (f : Regs → Regs) : (s.onRegs f).pins = s.pins := rfl
@[simp] theorem State.onRegs_cal (f : Regs → Regs) : (s.onRegs f).cal = s.cal := rfl
@[simp] theorem State.onRegs_sec (f : Regs → Regs) : (s.onRegs f).sec = s.sec := rfl
@[simp] theorem State.onRegs_firm (f : Regs → Regs) : (s.onRegs f).firm = s.firm := rfl
@[simp] theorem State.onRegs_sched (f : Regs → Regs) : (s.onRegs f).sched = s.sched := rfl
@[simp] theorem State.onRegs_serac (f : Regs → Regs) : (s.onRegs f).serac = s.serac := rfl
@[simp] theorem State.onRegs_firn (f : Regs → Regs) : (s.onRegs f).firn = s.firn := rfl
@[simp] theorem State.onRegs_hbm (f : Regs → Regs) : (s.onRegs f).hbm = s.hbm := rfl
@[simp] theorem State.onRegs_floe (f : Regs → Regs) : (s.onRegs f).floe = s.floe := rfl
@[simp] theorem State.onRegs_fab (f : Regs → Regs) : (s.onRegs f).fab = s.fab := rfl
@[simp] theorem State.onRegs_mem (f : Regs → Regs) : (s.onRegs f).mem = s.mem := rfl
@[simp] theorem State.onRegs_clk (f : Regs → Regs) : (s.onRegs f).clk = s.clk := rfl
@[simp] theorem State.onRegs_pow (f : Regs → Regs) : (s.onRegs f).pow = s.pow := rfl
@[simp] theorem State.onRegs_dict (f : Regs → Regs) : (s.onRegs f).dict = s.dict := rfl
@[simp] theorem State.onRegs_regs (f : Regs → Regs) : (s.onRegs f).regs = f s.regs := rfl
@[simp] theorem State.onRegs_errs (f : Regs → Regs) : (s.onRegs f).errs = s.errs := rfl
@[simp] theorem State.onRegs_cvu (f : Regs → Regs) : (s.onRegs f).cvu = s.cvu := rfl
@[simp] theorem State.onRegs_mor (f : Regs → Regs) : (s.onRegs f).mor = s.mor := rfl
@[simp] theorem State.onRegs_pending (f : Regs → Regs) : (s.onRegs f).pending = s.pending := rfl
@[simp] theorem State.onRegs_free (f : Regs → Regs) : (s.onRegs f).free = s.free := rfl
@[simp] theorem State.onRegs_outbox (f : Regs → Regs) : (s.onRegs f).outbox = s.outbox := rfl
@[simp] theorem State.onRegs_onRegs (f g : Regs → Regs) : (s.onRegs f).onRegs g = s.onRegs (fun x => g (f x)) := rfl

/-! ### onErrs -/

@[simp] theorem State.onErrs_part (f : Errs → Errs) : (s.onErrs f).part = s.part := rfl
@[simp] theorem State.onErrs_pkg (f : Errs → Errs) : (s.onErrs f).pkg = s.pkg := rfl
@[simp] theorem State.onErrs_pins (f : Errs → Errs) : (s.onErrs f).pins = s.pins := rfl
@[simp] theorem State.onErrs_cal (f : Errs → Errs) : (s.onErrs f).cal = s.cal := rfl
@[simp] theorem State.onErrs_sec (f : Errs → Errs) : (s.onErrs f).sec = s.sec := rfl
@[simp] theorem State.onErrs_firm (f : Errs → Errs) : (s.onErrs f).firm = s.firm := rfl
@[simp] theorem State.onErrs_sched (f : Errs → Errs) : (s.onErrs f).sched = s.sched := rfl
@[simp] theorem State.onErrs_serac (f : Errs → Errs) : (s.onErrs f).serac = s.serac := rfl
@[simp] theorem State.onErrs_firn (f : Errs → Errs) : (s.onErrs f).firn = s.firn := rfl
@[simp] theorem State.onErrs_hbm (f : Errs → Errs) : (s.onErrs f).hbm = s.hbm := rfl
@[simp] theorem State.onErrs_floe (f : Errs → Errs) : (s.onErrs f).floe = s.floe := rfl
@[simp] theorem State.onErrs_fab (f : Errs → Errs) : (s.onErrs f).fab = s.fab := rfl
@[simp] theorem State.onErrs_mem (f : Errs → Errs) : (s.onErrs f).mem = s.mem := rfl
@[simp] theorem State.onErrs_clk (f : Errs → Errs) : (s.onErrs f).clk = s.clk := rfl
@[simp] theorem State.onErrs_pow (f : Errs → Errs) : (s.onErrs f).pow = s.pow := rfl
@[simp] theorem State.onErrs_dict (f : Errs → Errs) : (s.onErrs f).dict = s.dict := rfl
@[simp] theorem State.onErrs_regs (f : Errs → Errs) : (s.onErrs f).regs = s.regs := rfl
@[simp] theorem State.onErrs_errs (f : Errs → Errs) : (s.onErrs f).errs = f s.errs := rfl
@[simp] theorem State.onErrs_cvu (f : Errs → Errs) : (s.onErrs f).cvu = s.cvu := rfl
@[simp] theorem State.onErrs_mor (f : Errs → Errs) : (s.onErrs f).mor = s.mor := rfl
@[simp] theorem State.onErrs_pending (f : Errs → Errs) : (s.onErrs f).pending = s.pending := rfl
@[simp] theorem State.onErrs_free (f : Errs → Errs) : (s.onErrs f).free = s.free := rfl
@[simp] theorem State.onErrs_outbox (f : Errs → Errs) : (s.onErrs f).outbox = s.outbox := rfl
@[simp] theorem State.onErrs_onErrs (f g : Errs → Errs) : (s.onErrs f).onErrs g = s.onErrs (fun x => g (f x)) := rfl

/-! ### onMor -/

@[simp] theorem State.onMor_part (f : Moraine → Moraine) : (s.onMor f).part = s.part := rfl
@[simp] theorem State.onMor_pkg (f : Moraine → Moraine) : (s.onMor f).pkg = s.pkg := rfl
@[simp] theorem State.onMor_pins (f : Moraine → Moraine) : (s.onMor f).pins = s.pins := rfl
@[simp] theorem State.onMor_cal (f : Moraine → Moraine) : (s.onMor f).cal = s.cal := rfl
@[simp] theorem State.onMor_sec (f : Moraine → Moraine) : (s.onMor f).sec = s.sec := rfl
@[simp] theorem State.onMor_firm (f : Moraine → Moraine) : (s.onMor f).firm = s.firm := rfl
@[simp] theorem State.onMor_sched (f : Moraine → Moraine) : (s.onMor f).sched = s.sched := rfl
@[simp] theorem State.onMor_serac (f : Moraine → Moraine) : (s.onMor f).serac = s.serac := rfl
@[simp] theorem State.onMor_firn (f : Moraine → Moraine) : (s.onMor f).firn = s.firn := rfl
@[simp] theorem State.onMor_hbm (f : Moraine → Moraine) : (s.onMor f).hbm = s.hbm := rfl
@[simp] theorem State.onMor_floe (f : Moraine → Moraine) : (s.onMor f).floe = s.floe := rfl
@[simp] theorem State.onMor_fab (f : Moraine → Moraine) : (s.onMor f).fab = s.fab := rfl
@[simp] theorem State.onMor_mem (f : Moraine → Moraine) : (s.onMor f).mem = s.mem := rfl
@[simp] theorem State.onMor_clk (f : Moraine → Moraine) : (s.onMor f).clk = s.clk := rfl
@[simp] theorem State.onMor_pow (f : Moraine → Moraine) : (s.onMor f).pow = s.pow := rfl
@[simp] theorem State.onMor_dict (f : Moraine → Moraine) : (s.onMor f).dict = s.dict := rfl
@[simp] theorem State.onMor_regs (f : Moraine → Moraine) : (s.onMor f).regs = s.regs := rfl
@[simp] theorem State.onMor_errs (f : Moraine → Moraine) : (s.onMor f).errs = s.errs := rfl
@[simp] theorem State.onMor_cvu (f : Moraine → Moraine) : (s.onMor f).cvu = s.cvu := rfl
@[simp] theorem State.onMor_mor (f : Moraine → Moraine) : (s.onMor f).mor = f s.mor := rfl
@[simp] theorem State.onMor_pending (f : Moraine → Moraine) : (s.onMor f).pending = s.pending := rfl
@[simp] theorem State.onMor_free (f : Moraine → Moraine) : (s.onMor f).free = s.free := rfl
@[simp] theorem State.onMor_outbox (f : Moraine → Moraine) : (s.onMor f).outbox = s.outbox := rfl
@[simp] theorem State.onMor_onMor (f g : Moraine → Moraine) : (s.onMor f).onMor g = s.onMor (fun x => g (f x)) := rfl

/-! ### onCores -/

@[simp] theorem State.onCores_part (f : RF 3 Core → RF 3 Core) : (s.onCores f).part = s.part := rfl
@[simp] theorem State.onCores_pkg (f : RF 3 Core → RF 3 Core) : (s.onCores f).pkg = s.pkg := rfl
@[simp] theorem State.onCores_pins (f : RF 3 Core → RF 3 Core) : (s.onCores f).pins = s.pins := rfl
@[simp] theorem State.onCores_cal (f : RF 3 Core → RF 3 Core) : (s.onCores f).cal = s.cal := rfl
@[simp] theorem State.onCores_sec (f : RF 3 Core → RF 3 Core) : (s.onCores f).sec = s.sec := rfl
@[simp] theorem State.onCores_sched (f : RF 3 Core → RF 3 Core) : (s.onCores f).sched = s.sched := rfl
@[simp] theorem State.onCores_serac (f : RF 3 Core → RF 3 Core) : (s.onCores f).serac = s.serac := rfl
@[simp] theorem State.onCores_firn (f : RF 3 Core → RF 3 Core) : (s.onCores f).firn = s.firn := rfl
@[simp] theorem State.onCores_hbm (f : RF 3 Core → RF 3 Core) : (s.onCores f).hbm = s.hbm := rfl
@[simp] theorem State.onCores_floe (f : RF 3 Core → RF 3 Core) : (s.onCores f).floe = s.floe := rfl
@[simp] theorem State.onCores_fab (f : RF 3 Core → RF 3 Core) : (s.onCores f).fab = s.fab := rfl
@[simp] theorem State.onCores_mem (f : RF 3 Core → RF 3 Core) : (s.onCores f).mem = s.mem := rfl
@[simp] theorem State.onCores_clk (f : RF 3 Core → RF 3 Core) : (s.onCores f).clk = s.clk := rfl
@[simp] theorem State.onCores_pow (f : RF 3 Core → RF 3 Core) : (s.onCores f).pow = s.pow := rfl
@[simp] theorem State.onCores_dict (f : RF 3 Core → RF 3 Core) : (s.onCores f).dict = s.dict := rfl
@[simp] theorem State.onCores_regs (f : RF 3 Core → RF 3 Core) : (s.onCores f).regs = s.regs := rfl
@[simp] theorem State.onCores_errs (f : RF 3 Core → RF 3 Core) : (s.onCores f).errs = s.errs := rfl
@[simp] theorem State.onCores_cvu (f : RF 3 Core → RF 3 Core) : (s.onCores f).cvu = s.cvu := rfl
@[simp] theorem State.onCores_mor (f : RF 3 Core → RF 3 Core) : (s.onCores f).mor = s.mor := rfl
@[simp] theorem State.onCores_pending (f : RF 3 Core → RF 3 Core) : (s.onCores f).pending = s.pending := rfl
@[simp] theorem State.onCores_free (f : RF 3 Core → RF 3 Core) : (s.onCores f).free = s.free := rfl
@[simp] theorem State.onCores_outbox (f : RF 3 Core → RF 3 Core) : (s.onCores f).outbox = s.outbox := rfl
@[simp] theorem State.onCores_firm_cores (f : RF 3 Core → RF 3 Core) : (s.onCores f).firm.cores = f s.firm.cores := rfl
@[simp] theorem State.onCores_firm_load (f : RF 3 Core → RF 3 Core) : (s.onCores f).firm.load = s.firm.load := rfl
@[simp] theorem State.onCores_firm_mbx (f : RF 3 Core → RF 3 Core) : (s.onCores f).firm.mbx = s.firm.mbx := rfl
@[simp] theorem State.onCores_firm_log (f : RF 3 Core → RF 3 Core) : (s.onCores f).firm.log = s.firm.log := rfl
@[simp] theorem State.onCores_firm_lease (f : RF 3 Core → RF 3 Core) : (s.onCores f).firm.lease = s.firm.lease := rfl
@[simp] theorem State.onCores_firm_dm (f : RF 3 Core → RF 3 Core) : (s.onCores f).firm.dm = s.firm.dm := rfl
@[simp] theorem State.onCores_onCores (f g : RF 3 Core → RF 3 Core) : (s.onCores f).onCores g = s.onCores (fun x => g (f x)) := rfl

/-! ### onLoad -/

@[simp] theorem State.onLoad_part (f : Load → Load) : (s.onLoad f).part = s.part := rfl
@[simp] theorem State.onLoad_pkg (f : Load → Load) : (s.onLoad f).pkg = s.pkg := rfl
@[simp] theorem State.onLoad_pins (f : Load → Load) : (s.onLoad f).pins = s.pins := rfl
@[simp] theorem State.onLoad_cal (f : Load → Load) : (s.onLoad f).cal = s.cal := rfl
@[simp] theorem State.onLoad_sec (f : Load → Load) : (s.onLoad f).sec = s.sec := rfl
@[simp] theorem State.onLoad_sched (f : Load → Load) : (s.onLoad f).sched = s.sched := rfl
@[simp] theorem State.onLoad_serac (f : Load → Load) : (s.onLoad f).serac = s.serac := rfl
@[simp] theorem State.onLoad_firn (f : Load → Load) : (s.onLoad f).firn = s.firn := rfl
@[simp] theorem State.onLoad_hbm (f : Load → Load) : (s.onLoad f).hbm = s.hbm := rfl
@[simp] theorem State.onLoad_floe (f : Load → Load) : (s.onLoad f).floe = s.floe := rfl
@[simp] theorem State.onLoad_fab (f : Load → Load) : (s.onLoad f).fab = s.fab := rfl
@[simp] theorem State.onLoad_mem (f : Load → Load) : (s.onLoad f).mem = s.mem := rfl
@[simp] theorem State.onLoad_clk (f : Load → Load) : (s.onLoad f).clk = s.clk := rfl
@[simp] theorem State.onLoad_pow (f : Load → Load) : (s.onLoad f).pow = s.pow := rfl
@[simp] theorem State.onLoad_dict (f : Load → Load) : (s.onLoad f).dict = s.dict := rfl
@[simp] theorem State.onLoad_regs (f : Load → Load) : (s.onLoad f).regs = s.regs := rfl
@[simp] theorem State.onLoad_errs (f : Load → Load) : (s.onLoad f).errs = s.errs := rfl
@[simp] theorem State.onLoad_cvu (f : Load → Load) : (s.onLoad f).cvu = s.cvu := rfl
@[simp] theorem State.onLoad_mor (f : Load → Load) : (s.onLoad f).mor = s.mor := rfl
@[simp] theorem State.onLoad_pending (f : Load → Load) : (s.onLoad f).pending = s.pending := rfl
@[simp] theorem State.onLoad_free (f : Load → Load) : (s.onLoad f).free = s.free := rfl
@[simp] theorem State.onLoad_outbox (f : Load → Load) : (s.onLoad f).outbox = s.outbox := rfl
@[simp] theorem State.onLoad_firm_cores (f : Load → Load) : (s.onLoad f).firm.cores = s.firm.cores := rfl
@[simp] theorem State.onLoad_firm_load (f : Load → Load) : (s.onLoad f).firm.load = f s.firm.load := rfl
@[simp] theorem State.onLoad_firm_mbx (f : Load → Load) : (s.onLoad f).firm.mbx = s.firm.mbx := rfl
@[simp] theorem State.onLoad_firm_log (f : Load → Load) : (s.onLoad f).firm.log = s.firm.log := rfl
@[simp] theorem State.onLoad_firm_lease (f : Load → Load) : (s.onLoad f).firm.lease = s.firm.lease := rfl
@[simp] theorem State.onLoad_firm_dm (f : Load → Load) : (s.onLoad f).firm.dm = s.firm.dm := rfl
@[simp] theorem State.onLoad_onLoad (f g : Load → Load) : (s.onLoad f).onLoad g = s.onLoad (fun x => g (f x)) := rfl

/-! ### onMbx -/

@[simp] theorem State.onMbx_part (f : Mbx → Mbx) : (s.onMbx f).part = s.part := rfl
@[simp] theorem State.onMbx_pkg (f : Mbx → Mbx) : (s.onMbx f).pkg = s.pkg := rfl
@[simp] theorem State.onMbx_pins (f : Mbx → Mbx) : (s.onMbx f).pins = s.pins := rfl
@[simp] theorem State.onMbx_cal (f : Mbx → Mbx) : (s.onMbx f).cal = s.cal := rfl
@[simp] theorem State.onMbx_sec (f : Mbx → Mbx) : (s.onMbx f).sec = s.sec := rfl
@[simp] theorem State.onMbx_sched (f : Mbx → Mbx) : (s.onMbx f).sched = s.sched := rfl
@[simp] theorem State.onMbx_serac (f : Mbx → Mbx) : (s.onMbx f).serac = s.serac := rfl
@[simp] theorem State.onMbx_firn (f : Mbx → Mbx) : (s.onMbx f).firn = s.firn := rfl
@[simp] theorem State.onMbx_hbm (f : Mbx → Mbx) : (s.onMbx f).hbm = s.hbm := rfl
@[simp] theorem State.onMbx_floe (f : Mbx → Mbx) : (s.onMbx f).floe = s.floe := rfl
@[simp] theorem State.onMbx_fab (f : Mbx → Mbx) : (s.onMbx f).fab = s.fab := rfl
@[simp] theorem State.onMbx_mem (f : Mbx → Mbx) : (s.onMbx f).mem = s.mem := rfl
@[simp] theorem State.onMbx_clk (f : Mbx → Mbx) : (s.onMbx f).clk = s.clk := rfl
@[simp] theorem State.onMbx_pow (f : Mbx → Mbx) : (s.onMbx f).pow = s.pow := rfl
@[simp] theorem State.onMbx_dict (f : Mbx → Mbx) : (s.onMbx f).dict = s.dict := rfl
@[simp] theorem State.onMbx_regs (f : Mbx → Mbx) : (s.onMbx f).regs = s.regs := rfl
@[simp] theorem State.onMbx_errs (f : Mbx → Mbx) : (s.onMbx f).errs = s.errs := rfl
@[simp] theorem State.onMbx_cvu (f : Mbx → Mbx) : (s.onMbx f).cvu = s.cvu := rfl
@[simp] theorem State.onMbx_mor (f : Mbx → Mbx) : (s.onMbx f).mor = s.mor := rfl
@[simp] theorem State.onMbx_pending (f : Mbx → Mbx) : (s.onMbx f).pending = s.pending := rfl
@[simp] theorem State.onMbx_free (f : Mbx → Mbx) : (s.onMbx f).free = s.free := rfl
@[simp] theorem State.onMbx_outbox (f : Mbx → Mbx) : (s.onMbx f).outbox = s.outbox := rfl
@[simp] theorem State.onMbx_firm_cores (f : Mbx → Mbx) : (s.onMbx f).firm.cores = s.firm.cores := rfl
@[simp] theorem State.onMbx_firm_load (f : Mbx → Mbx) : (s.onMbx f).firm.load = s.firm.load := rfl
@[simp] theorem State.onMbx_firm_mbx (f : Mbx → Mbx) : (s.onMbx f).firm.mbx = f s.firm.mbx := rfl
@[simp] theorem State.onMbx_firm_log (f : Mbx → Mbx) : (s.onMbx f).firm.log = s.firm.log := rfl
@[simp] theorem State.onMbx_firm_lease (f : Mbx → Mbx) : (s.onMbx f).firm.lease = s.firm.lease := rfl
@[simp] theorem State.onMbx_firm_dm (f : Mbx → Mbx) : (s.onMbx f).firm.dm = s.firm.dm := rfl
@[simp] theorem State.onMbx_onMbx (f g : Mbx → Mbx) : (s.onMbx f).onMbx g = s.onMbx (fun x => g (f x)) := rfl

/-! ### onLog -/

@[simp] theorem State.onLog_part (f : Log → Log) : (s.onLog f).part = s.part := rfl
@[simp] theorem State.onLog_pkg (f : Log → Log) : (s.onLog f).pkg = s.pkg := rfl
@[simp] theorem State.onLog_pins (f : Log → Log) : (s.onLog f).pins = s.pins := rfl
@[simp] theorem State.onLog_cal (f : Log → Log) : (s.onLog f).cal = s.cal := rfl
@[simp] theorem State.onLog_sec (f : Log → Log) : (s.onLog f).sec = s.sec := rfl
@[simp] theorem State.onLog_sched (f : Log → Log) : (s.onLog f).sched = s.sched := rfl
@[simp] theorem State.onLog_serac (f : Log → Log) : (s.onLog f).serac = s.serac := rfl
@[simp] theorem State.onLog_firn (f : Log → Log) : (s.onLog f).firn = s.firn := rfl
@[simp] theorem State.onLog_hbm (f : Log → Log) : (s.onLog f).hbm = s.hbm := rfl
@[simp] theorem State.onLog_floe (f : Log → Log) : (s.onLog f).floe = s.floe := rfl
@[simp] theorem State.onLog_fab (f : Log → Log) : (s.onLog f).fab = s.fab := rfl
@[simp] theorem State.onLog_mem (f : Log → Log) : (s.onLog f).mem = s.mem := rfl
@[simp] theorem State.onLog_clk (f : Log → Log) : (s.onLog f).clk = s.clk := rfl
@[simp] theorem State.onLog_pow (f : Log → Log) : (s.onLog f).pow = s.pow := rfl
@[simp] theorem State.onLog_dict (f : Log → Log) : (s.onLog f).dict = s.dict := rfl
@[simp] theorem State.onLog_regs (f : Log → Log) : (s.onLog f).regs = s.regs := rfl
@[simp] theorem State.onLog_errs (f : Log → Log) : (s.onLog f).errs = s.errs := rfl
@[simp] theorem State.onLog_cvu (f : Log → Log) : (s.onLog f).cvu = s.cvu := rfl
@[simp] theorem State.onLog_mor (f : Log → Log) : (s.onLog f).mor = s.mor := rfl
@[simp] theorem State.onLog_pending (f : Log → Log) : (s.onLog f).pending = s.pending := rfl
@[simp] theorem State.onLog_free (f : Log → Log) : (s.onLog f).free = s.free := rfl
@[simp] theorem State.onLog_outbox (f : Log → Log) : (s.onLog f).outbox = s.outbox := rfl
@[simp] theorem State.onLog_firm_cores (f : Log → Log) : (s.onLog f).firm.cores = s.firm.cores := rfl
@[simp] theorem State.onLog_firm_load (f : Log → Log) : (s.onLog f).firm.load = s.firm.load := rfl
@[simp] theorem State.onLog_firm_mbx (f : Log → Log) : (s.onLog f).firm.mbx = s.firm.mbx := rfl
@[simp] theorem State.onLog_firm_log (f : Log → Log) : (s.onLog f).firm.log = f s.firm.log := rfl
@[simp] theorem State.onLog_firm_lease (f : Log → Log) : (s.onLog f).firm.lease = s.firm.lease := rfl
@[simp] theorem State.onLog_firm_dm (f : Log → Log) : (s.onLog f).firm.dm = s.firm.dm := rfl
@[simp] theorem State.onLog_onLog (f g : Log → Log) : (s.onLog f).onLog g = s.onLog (fun x => g (f x)) := rfl

/-! ### onLease -/

@[simp] theorem State.onLease_part (f : Lease → Lease) : (s.onLease f).part = s.part := rfl
@[simp] theorem State.onLease_pkg (f : Lease → Lease) : (s.onLease f).pkg = s.pkg := rfl
@[simp] theorem State.onLease_pins (f : Lease → Lease) : (s.onLease f).pins = s.pins := rfl
@[simp] theorem State.onLease_cal (f : Lease → Lease) : (s.onLease f).cal = s.cal := rfl
@[simp] theorem State.onLease_sec (f : Lease → Lease) : (s.onLease f).sec = s.sec := rfl
@[simp] theorem State.onLease_sched (f : Lease → Lease) : (s.onLease f).sched = s.sched := rfl
@[simp] theorem State.onLease_serac (f : Lease → Lease) : (s.onLease f).serac = s.serac := rfl
@[simp] theorem State.onLease_firn (f : Lease → Lease) : (s.onLease f).firn = s.firn := rfl
@[simp] theorem State.onLease_hbm (f : Lease → Lease) : (s.onLease f).hbm = s.hbm := rfl
@[simp] theorem State.onLease_floe (f : Lease → Lease) : (s.onLease f).floe = s.floe := rfl
@[simp] theorem State.onLease_fab (f : Lease → Lease) : (s.onLease f).fab = s.fab := rfl
@[simp] theorem State.onLease_mem (f : Lease → Lease) : (s.onLease f).mem = s.mem := rfl
@[simp] theorem State.onLease_clk (f : Lease → Lease) : (s.onLease f).clk = s.clk := rfl
@[simp] theorem State.onLease_pow (f : Lease → Lease) : (s.onLease f).pow = s.pow := rfl
@[simp] theorem State.onLease_dict (f : Lease → Lease) : (s.onLease f).dict = s.dict := rfl
@[simp] theorem State.onLease_regs (f : Lease → Lease) : (s.onLease f).regs = s.regs := rfl
@[simp] theorem State.onLease_errs (f : Lease → Lease) : (s.onLease f).errs = s.errs := rfl
@[simp] theorem State.onLease_cvu (f : Lease → Lease) : (s.onLease f).cvu = s.cvu := rfl
@[simp] theorem State.onLease_mor (f : Lease → Lease) : (s.onLease f).mor = s.mor := rfl
@[simp] theorem State.onLease_pending (f : Lease → Lease) : (s.onLease f).pending = s.pending := rfl
@[simp] theorem State.onLease_free (f : Lease → Lease) : (s.onLease f).free = s.free := rfl
@[simp] theorem State.onLease_outbox (f : Lease → Lease) : (s.onLease f).outbox = s.outbox := rfl
@[simp] theorem State.onLease_firm_cores (f : Lease → Lease) : (s.onLease f).firm.cores = s.firm.cores := rfl
@[simp] theorem State.onLease_firm_load (f : Lease → Lease) : (s.onLease f).firm.load = s.firm.load := rfl
@[simp] theorem State.onLease_firm_mbx (f : Lease → Lease) : (s.onLease f).firm.mbx = s.firm.mbx := rfl
@[simp] theorem State.onLease_firm_log (f : Lease → Lease) : (s.onLease f).firm.log = s.firm.log := rfl
@[simp] theorem State.onLease_firm_lease (f : Lease → Lease) : (s.onLease f).firm.lease = f s.firm.lease := rfl
@[simp] theorem State.onLease_firm_dm (f : Lease → Lease) : (s.onLease f).firm.dm = s.firm.dm := rfl
@[simp] theorem State.onLease_onLease (f g : Lease → Lease) : (s.onLease f).onLease g = s.onLease (fun x => g (f x)) := rfl

/-! ### onDm -/

@[simp] theorem State.onDm_part (f : Dm → Dm) : (s.onDm f).part = s.part := rfl
@[simp] theorem State.onDm_pkg (f : Dm → Dm) : (s.onDm f).pkg = s.pkg := rfl
@[simp] theorem State.onDm_pins (f : Dm → Dm) : (s.onDm f).pins = s.pins := rfl
@[simp] theorem State.onDm_cal (f : Dm → Dm) : (s.onDm f).cal = s.cal := rfl
@[simp] theorem State.onDm_sec (f : Dm → Dm) : (s.onDm f).sec = s.sec := rfl
@[simp] theorem State.onDm_sched (f : Dm → Dm) : (s.onDm f).sched = s.sched := rfl
@[simp] theorem State.onDm_serac (f : Dm → Dm) : (s.onDm f).serac = s.serac := rfl
@[simp] theorem State.onDm_firn (f : Dm → Dm) : (s.onDm f).firn = s.firn := rfl
@[simp] theorem State.onDm_hbm (f : Dm → Dm) : (s.onDm f).hbm = s.hbm := rfl
@[simp] theorem State.onDm_floe (f : Dm → Dm) : (s.onDm f).floe = s.floe := rfl
@[simp] theorem State.onDm_fab (f : Dm → Dm) : (s.onDm f).fab = s.fab := rfl
@[simp] theorem State.onDm_mem (f : Dm → Dm) : (s.onDm f).mem = s.mem := rfl
@[simp] theorem State.onDm_clk (f : Dm → Dm) : (s.onDm f).clk = s.clk := rfl
@[simp] theorem State.onDm_pow (f : Dm → Dm) : (s.onDm f).pow = s.pow := rfl
@[simp] theorem State.onDm_dict (f : Dm → Dm) : (s.onDm f).dict = s.dict := rfl
@[simp] theorem State.onDm_regs (f : Dm → Dm) : (s.onDm f).regs = s.regs := rfl
@[simp] theorem State.onDm_errs (f : Dm → Dm) : (s.onDm f).errs = s.errs := rfl
@[simp] theorem State.onDm_cvu (f : Dm → Dm) : (s.onDm f).cvu = s.cvu := rfl
@[simp] theorem State.onDm_mor (f : Dm → Dm) : (s.onDm f).mor = s.mor := rfl
@[simp] theorem State.onDm_pending (f : Dm → Dm) : (s.onDm f).pending = s.pending := rfl
@[simp] theorem State.onDm_free (f : Dm → Dm) : (s.onDm f).free = s.free := rfl
@[simp] theorem State.onDm_outbox (f : Dm → Dm) : (s.onDm f).outbox = s.outbox := rfl
@[simp] theorem State.onDm_firm_cores (f : Dm → Dm) : (s.onDm f).firm.cores = s.firm.cores := rfl
@[simp] theorem State.onDm_firm_load (f : Dm → Dm) : (s.onDm f).firm.load = s.firm.load := rfl
@[simp] theorem State.onDm_firm_mbx (f : Dm → Dm) : (s.onDm f).firm.mbx = s.firm.mbx := rfl
@[simp] theorem State.onDm_firm_log (f : Dm → Dm) : (s.onDm f).firm.log = s.firm.log := rfl
@[simp] theorem State.onDm_firm_lease (f : Dm → Dm) : (s.onDm f).firm.lease = s.firm.lease := rfl
@[simp] theorem State.onDm_firm_dm (f : Dm → Dm) : (s.onDm f).firm.dm = f s.firm.dm := rfl
@[simp] theorem State.onDm_onDm (f g : Dm → Dm) : (s.onDm f).onDm g = s.onDm (fun x => g (f x)) := rfl

/-! ### emit -/

@[simp] theorem State.emit_part (o : Output) : (s.emit o).part = s.part := rfl
@[simp] theorem State.emit_pkg (o : Output) : (s.emit o).pkg = s.pkg := rfl
@[simp] theorem State.emit_pins (o : Output) : (s.emit o).pins = s.pins := rfl
@[simp] theorem State.emit_cal (o : Output) : (s.emit o).cal = s.cal := rfl
@[simp] theorem State.emit_sec (o : Output) : (s.emit o).sec = s.sec := rfl
@[simp] theorem State.emit_firm (o : Output) : (s.emit o).firm = s.firm := rfl
@[simp] theorem State.emit_sched (o : Output) : (s.emit o).sched = s.sched := rfl
@[simp] theorem State.emit_serac (o : Output) : (s.emit o).serac = s.serac := rfl
@[simp] theorem State.emit_firn (o : Output) : (s.emit o).firn = s.firn := rfl
@[simp] theorem State.emit_hbm (o : Output) : (s.emit o).hbm = s.hbm := rfl
@[simp] theorem State.emit_floe (o : Output) : (s.emit o).floe = s.floe := rfl
@[simp] theorem State.emit_fab (o : Output) : (s.emit o).fab = s.fab := rfl
@[simp] theorem State.emit_mem (o : Output) : (s.emit o).mem = s.mem := rfl
@[simp] theorem State.emit_clk (o : Output) : (s.emit o).clk = s.clk := rfl
@[simp] theorem State.emit_pow (o : Output) : (s.emit o).pow = s.pow := rfl
@[simp] theorem State.emit_dict (o : Output) : (s.emit o).dict = s.dict := rfl
@[simp] theorem State.emit_regs (o : Output) : (s.emit o).regs = s.regs := rfl
@[simp] theorem State.emit_errs (o : Output) : (s.emit o).errs = s.errs := rfl
@[simp] theorem State.emit_cvu (o : Output) : (s.emit o).cvu = s.cvu := rfl
@[simp] theorem State.emit_mor (o : Output) : (s.emit o).mor = s.mor := rfl
@[simp] theorem State.emit_pending (o : Output) : (s.emit o).pending = s.pending := rfl
@[simp] theorem State.emit_free (o : Output) : (s.emit o).free = s.free := rfl
@[simp] theorem State.emit_outbox (o : Output) : (s.emit o).outbox = s.outbox ++ [o] := rfl

/-! ### onStack -/

@[simp] theorem State.onStack_part (i : Nat) (f : HbmStack → HbmStack) : (s.onStack i f).part = s.part := rfl
@[simp] theorem State.onStack_pkg (i : Nat) (f : HbmStack → HbmStack) : (s.onStack i f).pkg = s.pkg := rfl
@[simp] theorem State.onStack_pins (i : Nat) (f : HbmStack → HbmStack) : (s.onStack i f).pins = s.pins := rfl
@[simp] theorem State.onStack_cal (i : Nat) (f : HbmStack → HbmStack) : (s.onStack i f).cal = s.cal := rfl
@[simp] theorem State.onStack_sec (i : Nat) (f : HbmStack → HbmStack) : (s.onStack i f).sec = s.sec := rfl
@[simp] theorem State.onStack_firm (i : Nat) (f : HbmStack → HbmStack) : (s.onStack i f).firm = s.firm := rfl
@[simp] theorem State.onStack_sched (i : Nat) (f : HbmStack → HbmStack) : (s.onStack i f).sched = s.sched := rfl
@[simp] theorem State.onStack_serac (i : Nat) (f : HbmStack → HbmStack) : (s.onStack i f).serac = s.serac := rfl
@[simp] theorem State.onStack_firn (i : Nat) (f : HbmStack → HbmStack) : (s.onStack i f).firn = s.firn := rfl
@[simp] theorem State.onStack_floe (i : Nat) (f : HbmStack → HbmStack) : (s.onStack i f).floe = s.floe := rfl
@[simp] theorem State.onStack_fab (i : Nat) (f : HbmStack → HbmStack) : (s.onStack i f).fab = s.fab := rfl
@[simp] theorem State.onStack_mem (i : Nat) (f : HbmStack → HbmStack) : (s.onStack i f).mem = s.mem := rfl
@[simp] theorem State.onStack_clk (i : Nat) (f : HbmStack → HbmStack) : (s.onStack i f).clk = s.clk := rfl
@[simp] theorem State.onStack_pow (i : Nat) (f : HbmStack → HbmStack) : (s.onStack i f).pow = s.pow := rfl
@[simp] theorem State.onStack_dict (i : Nat) (f : HbmStack → HbmStack) : (s.onStack i f).dict = s.dict := rfl
@[simp] theorem State.onStack_regs (i : Nat) (f : HbmStack → HbmStack) : (s.onStack i f).regs = s.regs := rfl
@[simp] theorem State.onStack_errs (i : Nat) (f : HbmStack → HbmStack) : (s.onStack i f).errs = s.errs := rfl
@[simp] theorem State.onStack_cvu (i : Nat) (f : HbmStack → HbmStack) : (s.onStack i f).cvu = s.cvu := rfl
@[simp] theorem State.onStack_mor (i : Nat) (f : HbmStack → HbmStack) : (s.onStack i f).mor = s.mor := rfl
@[simp] theorem State.onStack_pending (i : Nat) (f : HbmStack → HbmStack) : (s.onStack i f).pending = s.pending := rfl
@[simp] theorem State.onStack_free (i : Nat) (f : HbmStack → HbmStack) : (s.onStack i f).free = s.free := rfl
@[simp] theorem State.onStack_outbox (i : Nat) (f : HbmStack → HbmStack) : (s.onStack i f).outbox = s.outbox := rfl

/-! ### setTile -/

@[simp] theorem State.setTile_part (n : Nat) (t : Tile) : (s.setTile n t).part = s.part := rfl
@[simp] theorem State.setTile_pkg (n : Nat) (t : Tile) : (s.setTile n t).pkg = s.pkg := rfl
@[simp] theorem State.setTile_pins (n : Nat) (t : Tile) : (s.setTile n t).pins = s.pins := rfl
@[simp] theorem State.setTile_cal (n : Nat) (t : Tile) : (s.setTile n t).cal = s.cal := rfl
@[simp] theorem State.setTile_sec (n : Nat) (t : Tile) : (s.setTile n t).sec = s.sec := rfl
@[simp] theorem State.setTile_firm (n : Nat) (t : Tile) : (s.setTile n t).firm = s.firm := rfl
@[simp] theorem State.setTile_sched (n : Nat) (t : Tile) : (s.setTile n t).sched = s.sched := rfl
@[simp] theorem State.setTile_firn (n : Nat) (t : Tile) : (s.setTile n t).firn = s.firn := rfl
@[simp] theorem State.setTile_hbm (n : Nat) (t : Tile) : (s.setTile n t).hbm = s.hbm := rfl
@[simp] theorem State.setTile_floe (n : Nat) (t : Tile) : (s.setTile n t).floe = s.floe := rfl
@[simp] theorem State.setTile_fab (n : Nat) (t : Tile) : (s.setTile n t).fab = s.fab := rfl
@[simp] theorem State.setTile_mem (n : Nat) (t : Tile) : (s.setTile n t).mem = s.mem := rfl
@[simp] theorem State.setTile_clk (n : Nat) (t : Tile) : (s.setTile n t).clk = s.clk := rfl
@[simp] theorem State.setTile_pow (n : Nat) (t : Tile) : (s.setTile n t).pow = s.pow := rfl
@[simp] theorem State.setTile_dict (n : Nat) (t : Tile) : (s.setTile n t).dict = s.dict := rfl
@[simp] theorem State.setTile_regs (n : Nat) (t : Tile) : (s.setTile n t).regs = s.regs := rfl
@[simp] theorem State.setTile_errs (n : Nat) (t : Tile) : (s.setTile n t).errs = s.errs := rfl
@[simp] theorem State.setTile_cvu (n : Nat) (t : Tile) : (s.setTile n t).cvu = s.cvu := rfl
@[simp] theorem State.setTile_mor (n : Nat) (t : Tile) : (s.setTile n t).mor = s.mor := rfl
@[simp] theorem State.setTile_pending (n : Nat) (t : Tile) : (s.setTile n t).pending = s.pending := rfl
@[simp] theorem State.setTile_free (n : Nat) (t : Tile) : (s.setTile n t).free = s.free := rfl
@[simp] theorem State.setTile_outbox (n : Nat) (t : Tile) : (s.setTile n t).outbox = s.outbox := rfl

/-! ### onProg -/

@[simp] theorem State.onProg_part (tag : W32) (f : Prog → Prog) : (s.onProg tag f).part = s.part := rfl
@[simp] theorem State.onProg_pkg (tag : W32) (f : Prog → Prog) : (s.onProg tag f).pkg = s.pkg := rfl
@[simp] theorem State.onProg_pins (tag : W32) (f : Prog → Prog) : (s.onProg tag f).pins = s.pins := rfl
@[simp] theorem State.onProg_cal (tag : W32) (f : Prog → Prog) : (s.onProg tag f).cal = s.cal := rfl
@[simp] theorem State.onProg_sec (tag : W32) (f : Prog → Prog) : (s.onProg tag f).sec = s.sec := rfl
@[simp] theorem State.onProg_firm (tag : W32) (f : Prog → Prog) : (s.onProg tag f).firm = s.firm := rfl
@[simp] theorem State.onProg_serac (tag : W32) (f : Prog → Prog) : (s.onProg tag f).serac = s.serac := rfl
@[simp] theorem State.onProg_firn (tag : W32) (f : Prog → Prog) : (s.onProg tag f).firn = s.firn := rfl
@[simp] theorem State.onProg_hbm (tag : W32) (f : Prog → Prog) : (s.onProg tag f).hbm = s.hbm := rfl
@[simp] theorem State.onProg_floe (tag : W32) (f : Prog → Prog) : (s.onProg tag f).floe = s.floe := rfl
@[simp] theorem State.onProg_fab (tag : W32) (f : Prog → Prog) : (s.onProg tag f).fab = s.fab := rfl
@[simp] theorem State.onProg_mem (tag : W32) (f : Prog → Prog) : (s.onProg tag f).mem = s.mem := rfl
@[simp] theorem State.onProg_clk (tag : W32) (f : Prog → Prog) : (s.onProg tag f).clk = s.clk := rfl
@[simp] theorem State.onProg_pow (tag : W32) (f : Prog → Prog) : (s.onProg tag f).pow = s.pow := rfl
@[simp] theorem State.onProg_dict (tag : W32) (f : Prog → Prog) : (s.onProg tag f).dict = s.dict := rfl
@[simp] theorem State.onProg_regs (tag : W32) (f : Prog → Prog) : (s.onProg tag f).regs = s.regs := rfl
@[simp] theorem State.onProg_errs (tag : W32) (f : Prog → Prog) : (s.onProg tag f).errs = s.errs := rfl
@[simp] theorem State.onProg_cvu (tag : W32) (f : Prog → Prog) : (s.onProg tag f).cvu = s.cvu := rfl
@[simp] theorem State.onProg_mor (tag : W32) (f : Prog → Prog) : (s.onProg tag f).mor = s.mor := rfl
@[simp] theorem State.onProg_pending (tag : W32) (f : Prog → Prog) : (s.onProg tag f).pending = s.pending := rfl
@[simp] theorem State.onProg_free (tag : W32) (f : Prog → Prog) : (s.onProg tag f).free = s.free := rfl
@[simp] theorem State.onProg_outbox (tag : W32) (f : Prog → Prog) : (s.onProg tag f).outbox = s.outbox := rfl

/-! ### onPort -/

@[simp] theorem State.onPort_part (q : BitVec 4) (f : FabPort → FabPort) : (s.onPort q f).part = s.part := rfl
@[simp] theorem State.onPort_pkg (q : BitVec 4) (f : FabPort → FabPort) : (s.onPort q f).pkg = s.pkg := rfl
@[simp] theorem State.onPort_pins (q : BitVec 4) (f : FabPort → FabPort) : (s.onPort q f).pins = s.pins := rfl
@[simp] theorem State.onPort_cal (q : BitVec 4) (f : FabPort → FabPort) : (s.onPort q f).cal = s.cal := rfl
@[simp] theorem State.onPort_sec (q : BitVec 4) (f : FabPort → FabPort) : (s.onPort q f).sec = s.sec := rfl
@[simp] theorem State.onPort_firm (q : BitVec 4) (f : FabPort → FabPort) : (s.onPort q f).firm = s.firm := rfl
@[simp] theorem State.onPort_sched (q : BitVec 4) (f : FabPort → FabPort) : (s.onPort q f).sched = s.sched := rfl
@[simp] theorem State.onPort_serac (q : BitVec 4) (f : FabPort → FabPort) : (s.onPort q f).serac = s.serac := rfl
@[simp] theorem State.onPort_firn (q : BitVec 4) (f : FabPort → FabPort) : (s.onPort q f).firn = s.firn := rfl
@[simp] theorem State.onPort_hbm (q : BitVec 4) (f : FabPort → FabPort) : (s.onPort q f).hbm = s.hbm := rfl
@[simp] theorem State.onPort_floe (q : BitVec 4) (f : FabPort → FabPort) : (s.onPort q f).floe = s.floe := rfl
@[simp] theorem State.onPort_mem (q : BitVec 4) (f : FabPort → FabPort) : (s.onPort q f).mem = s.mem := rfl
@[simp] theorem State.onPort_clk (q : BitVec 4) (f : FabPort → FabPort) : (s.onPort q f).clk = s.clk := rfl
@[simp] theorem State.onPort_pow (q : BitVec 4) (f : FabPort → FabPort) : (s.onPort q f).pow = s.pow := rfl
@[simp] theorem State.onPort_dict (q : BitVec 4) (f : FabPort → FabPort) : (s.onPort q f).dict = s.dict := rfl
@[simp] theorem State.onPort_regs (q : BitVec 4) (f : FabPort → FabPort) : (s.onPort q f).regs = s.regs := rfl
@[simp] theorem State.onPort_errs (q : BitVec 4) (f : FabPort → FabPort) : (s.onPort q f).errs = s.errs := rfl
@[simp] theorem State.onPort_cvu (q : BitVec 4) (f : FabPort → FabPort) : (s.onPort q f).cvu = s.cvu := rfl
@[simp] theorem State.onPort_mor (q : BitVec 4) (f : FabPort → FabPort) : (s.onPort q f).mor = s.mor := rfl
@[simp] theorem State.onPort_pending (q : BitVec 4) (f : FabPort → FabPort) : (s.onPort q f).pending = s.pending := rfl
@[simp] theorem State.onPort_free (q : BitVec 4) (f : FabPort → FabPort) : (s.onPort q f).free = s.free := rfl
@[simp] theorem State.onPort_outbox (q : BitVec 4) (f : FabPort → FabPort) : (s.onPort q f).outbox = s.outbox := rfl

/-! ### pop -/

@[simp] theorem State.pop_part (q : BitVec 4) (ch : BitVec 2) : (s.pop q ch).part = s.part := rfl
@[simp] theorem State.pop_pkg (q : BitVec 4) (ch : BitVec 2) : (s.pop q ch).pkg = s.pkg := rfl
@[simp] theorem State.pop_pins (q : BitVec 4) (ch : BitVec 2) : (s.pop q ch).pins = s.pins := rfl
@[simp] theorem State.pop_cal (q : BitVec 4) (ch : BitVec 2) : (s.pop q ch).cal = s.cal := rfl
@[simp] theorem State.pop_sec (q : BitVec 4) (ch : BitVec 2) : (s.pop q ch).sec = s.sec := rfl
@[simp] theorem State.pop_firm (q : BitVec 4) (ch : BitVec 2) : (s.pop q ch).firm = s.firm := rfl
@[simp] theorem State.pop_sched (q : BitVec 4) (ch : BitVec 2) : (s.pop q ch).sched = s.sched := rfl
@[simp] theorem State.pop_serac (q : BitVec 4) (ch : BitVec 2) : (s.pop q ch).serac = s.serac := rfl
@[simp] theorem State.pop_firn (q : BitVec 4) (ch : BitVec 2) : (s.pop q ch).firn = s.firn := rfl
@[simp] theorem State.pop_hbm (q : BitVec 4) (ch : BitVec 2) : (s.pop q ch).hbm = s.hbm := rfl
@[simp] theorem State.pop_floe (q : BitVec 4) (ch : BitVec 2) : (s.pop q ch).floe = s.floe := rfl
@[simp] theorem State.pop_mem (q : BitVec 4) (ch : BitVec 2) : (s.pop q ch).mem = s.mem := rfl
@[simp] theorem State.pop_clk (q : BitVec 4) (ch : BitVec 2) : (s.pop q ch).clk = s.clk := rfl
@[simp] theorem State.pop_pow (q : BitVec 4) (ch : BitVec 2) : (s.pop q ch).pow = s.pow := rfl
@[simp] theorem State.pop_dict (q : BitVec 4) (ch : BitVec 2) : (s.pop q ch).dict = s.dict := rfl
@[simp] theorem State.pop_regs (q : BitVec 4) (ch : BitVec 2) : (s.pop q ch).regs = s.regs := rfl
@[simp] theorem State.pop_errs (q : BitVec 4) (ch : BitVec 2) : (s.pop q ch).errs = s.errs := rfl
@[simp] theorem State.pop_cvu (q : BitVec 4) (ch : BitVec 2) : (s.pop q ch).cvu = s.cvu := rfl
@[simp] theorem State.pop_mor (q : BitVec 4) (ch : BitVec 2) : (s.pop q ch).mor = s.mor := rfl
@[simp] theorem State.pop_pending (q : BitVec 4) (ch : BitVec 2) : (s.pop q ch).pending = s.pending := rfl
@[simp] theorem State.pop_free (q : BitVec 4) (ch : BitVec 2) : (s.pop q ch).free = s.free := rfl
@[simp] theorem State.pop_outbox (q : BitVec 4) (ch : BitVec 2) : (s.pop q ch).outbox = s.outbox := rfl
@[simp] theorem State.pop_devid (q : BitVec 4) (ch : BitVec 2) : (s.pop q ch).fab.devid = s.fab.devid := rfl
@[simp] theorem State.pop_domain (q : BitVec 4) (ch : BitVec 2) : (s.pop q ch).fab.domain = s.fab.domain := rfl

/-! ### onReq -/

@[simp] theorem State.onReq_part (id : Nat) (f : Req → Req) : (s.onReq id f).part = s.part := rfl
@[simp] theorem State.onReq_pkg (id : Nat) (f : Req → Req) : (s.onReq id f).pkg = s.pkg := rfl
@[simp] theorem State.onReq_pins (id : Nat) (f : Req → Req) : (s.onReq id f).pins = s.pins := rfl
@[simp] theorem State.onReq_cal (id : Nat) (f : Req → Req) : (s.onReq id f).cal = s.cal := rfl
@[simp] theorem State.onReq_sec (id : Nat) (f : Req → Req) : (s.onReq id f).sec = s.sec := rfl
@[simp] theorem State.onReq_firm (id : Nat) (f : Req → Req) : (s.onReq id f).firm = s.firm := rfl
@[simp] theorem State.onReq_sched (id : Nat) (f : Req → Req) : (s.onReq id f).sched = s.sched := rfl
@[simp] theorem State.onReq_serac (id : Nat) (f : Req → Req) : (s.onReq id f).serac = s.serac := rfl
@[simp] theorem State.onReq_firn (id : Nat) (f : Req → Req) : (s.onReq id f).firn = s.firn := rfl
@[simp] theorem State.onReq_hbm (id : Nat) (f : Req → Req) : (s.onReq id f).hbm = s.hbm := rfl
@[simp] theorem State.onReq_floe (id : Nat) (f : Req → Req) : (s.onReq id f).floe = s.floe := rfl
@[simp] theorem State.onReq_fab (id : Nat) (f : Req → Req) : (s.onReq id f).fab = s.fab := rfl
@[simp] theorem State.onReq_clk (id : Nat) (f : Req → Req) : (s.onReq id f).clk = s.clk := rfl
@[simp] theorem State.onReq_pow (id : Nat) (f : Req → Req) : (s.onReq id f).pow = s.pow := rfl
@[simp] theorem State.onReq_dict (id : Nat) (f : Req → Req) : (s.onReq id f).dict = s.dict := rfl
@[simp] theorem State.onReq_regs (id : Nat) (f : Req → Req) : (s.onReq id f).regs = s.regs := rfl
@[simp] theorem State.onReq_errs (id : Nat) (f : Req → Req) : (s.onReq id f).errs = s.errs := rfl
@[simp] theorem State.onReq_cvu (id : Nat) (f : Req → Req) : (s.onReq id f).cvu = s.cvu := rfl
@[simp] theorem State.onReq_mor (id : Nat) (f : Req → Req) : (s.onReq id f).mor = s.mor := rfl
@[simp] theorem State.onReq_pending (id : Nat) (f : Req → Req) : (s.onReq id f).pending = s.pending := rfl
@[simp] theorem State.onReq_free (id : Nat) (f : Req → Req) : (s.onReq id f).free = s.free := rfl
@[simp] theorem State.onReq_outbox (id : Nat) (f : Req → Req) : (s.onReq id f).outbox = s.outbox := rfl

/-! ### onPair -/

@[simp] theorem State.onPair_part (e d : Nat) (f : SrcPair → SrcPair) : (s.onPair e d f).part = s.part := rfl
@[simp] theorem State.onPair_pkg (e d : Nat) (f : SrcPair → SrcPair) : (s.onPair e d f).pkg = s.pkg := rfl
@[simp] theorem State.onPair_pins (e d : Nat) (f : SrcPair → SrcPair) : (s.onPair e d f).pins = s.pins := rfl
@[simp] theorem State.onPair_cal (e d : Nat) (f : SrcPair → SrcPair) : (s.onPair e d f).cal = s.cal := rfl
@[simp] theorem State.onPair_sec (e d : Nat) (f : SrcPair → SrcPair) : (s.onPair e d f).sec = s.sec := rfl
@[simp] theorem State.onPair_firm (e d : Nat) (f : SrcPair → SrcPair) : (s.onPair e d f).firm = s.firm := rfl
@[simp] theorem State.onPair_sched (e d : Nat) (f : SrcPair → SrcPair) : (s.onPair e d f).sched = s.sched := rfl
@[simp] theorem State.onPair_serac (e d : Nat) (f : SrcPair → SrcPair) : (s.onPair e d f).serac = s.serac := rfl
@[simp] theorem State.onPair_firn (e d : Nat) (f : SrcPair → SrcPair) : (s.onPair e d f).firn = s.firn := rfl
@[simp] theorem State.onPair_hbm (e d : Nat) (f : SrcPair → SrcPair) : (s.onPair e d f).hbm = s.hbm := rfl
@[simp] theorem State.onPair_floe (e d : Nat) (f : SrcPair → SrcPair) : (s.onPair e d f).floe = s.floe := rfl
@[simp] theorem State.onPair_fab (e d : Nat) (f : SrcPair → SrcPair) : (s.onPair e d f).fab = s.fab := rfl
@[simp] theorem State.onPair_clk (e d : Nat) (f : SrcPair → SrcPair) : (s.onPair e d f).clk = s.clk := rfl
@[simp] theorem State.onPair_pow (e d : Nat) (f : SrcPair → SrcPair) : (s.onPair e d f).pow = s.pow := rfl
@[simp] theorem State.onPair_dict (e d : Nat) (f : SrcPair → SrcPair) : (s.onPair e d f).dict = s.dict := rfl
@[simp] theorem State.onPair_regs (e d : Nat) (f : SrcPair → SrcPair) : (s.onPair e d f).regs = s.regs := rfl
@[simp] theorem State.onPair_errs (e d : Nat) (f : SrcPair → SrcPair) : (s.onPair e d f).errs = s.errs := rfl
@[simp] theorem State.onPair_cvu (e d : Nat) (f : SrcPair → SrcPair) : (s.onPair e d f).cvu = s.cvu := rfl
@[simp] theorem State.onPair_mor (e d : Nat) (f : SrcPair → SrcPair) : (s.onPair e d f).mor = s.mor := rfl
@[simp] theorem State.onPair_pending (e d : Nat) (f : SrcPair → SrcPair) : (s.onPair e d f).pending = s.pending := rfl
@[simp] theorem State.onPair_free (e d : Nat) (f : SrcPair → SrcPair) : (s.onPair e d f).free = s.free := rfl
@[simp] theorem State.onPair_outbox (e d : Nat) (f : SrcPair → SrcPair) : (s.onPair e d f).outbox = s.outbox := rfl

/-! ### onCvu -/

@[simp] theorem State.onCvu_part (c : Nat) (f : Cvu → Cvu) : (s.onCvu c f).part = s.part := rfl
@[simp] theorem State.onCvu_pkg (c : Nat) (f : Cvu → Cvu) : (s.onCvu c f).pkg = s.pkg := rfl
@[simp] theorem State.onCvu_pins (c : Nat) (f : Cvu → Cvu) : (s.onCvu c f).pins = s.pins := rfl
@[simp] theorem State.onCvu_cal (c : Nat) (f : Cvu → Cvu) : (s.onCvu c f).cal = s.cal := rfl
@[simp] theorem State.onCvu_sec (c : Nat) (f : Cvu → Cvu) : (s.onCvu c f).sec = s.sec := rfl
@[simp] theorem State.onCvu_firm (c : Nat) (f : Cvu → Cvu) : (s.onCvu c f).firm = s.firm := rfl
@[simp] theorem State.onCvu_sched (c : Nat) (f : Cvu → Cvu) : (s.onCvu c f).sched = s.sched := rfl
@[simp] theorem State.onCvu_serac (c : Nat) (f : Cvu → Cvu) : (s.onCvu c f).serac = s.serac := rfl
@[simp] theorem State.onCvu_firn (c : Nat) (f : Cvu → Cvu) : (s.onCvu c f).firn = s.firn := rfl
@[simp] theorem State.onCvu_hbm (c : Nat) (f : Cvu → Cvu) : (s.onCvu c f).hbm = s.hbm := rfl
@[simp] theorem State.onCvu_floe (c : Nat) (f : Cvu → Cvu) : (s.onCvu c f).floe = s.floe := rfl
@[simp] theorem State.onCvu_fab (c : Nat) (f : Cvu → Cvu) : (s.onCvu c f).fab = s.fab := rfl
@[simp] theorem State.onCvu_mem (c : Nat) (f : Cvu → Cvu) : (s.onCvu c f).mem = s.mem := rfl
@[simp] theorem State.onCvu_clk (c : Nat) (f : Cvu → Cvu) : (s.onCvu c f).clk = s.clk := rfl
@[simp] theorem State.onCvu_pow (c : Nat) (f : Cvu → Cvu) : (s.onCvu c f).pow = s.pow := rfl
@[simp] theorem State.onCvu_dict (c : Nat) (f : Cvu → Cvu) : (s.onCvu c f).dict = s.dict := rfl
@[simp] theorem State.onCvu_regs (c : Nat) (f : Cvu → Cvu) : (s.onCvu c f).regs = s.regs := rfl
@[simp] theorem State.onCvu_errs (c : Nat) (f : Cvu → Cvu) : (s.onCvu c f).errs = s.errs := rfl
@[simp] theorem State.onCvu_mor (c : Nat) (f : Cvu → Cvu) : (s.onCvu c f).mor = s.mor := rfl
@[simp] theorem State.onCvu_pending (c : Nat) (f : Cvu → Cvu) : (s.onCvu c f).pending = s.pending := rfl
@[simp] theorem State.onCvu_free (c : Nat) (f : Cvu → Cvu) : (s.onCvu c f).free = s.free := rfl
@[simp] theorem State.onCvu_outbox (c : Nat) (f : Cvu → Cvu) : (s.onCvu c f).outbox = s.outbox := rfl

/-! ### onChan -/

@[simp] theorem State.onChan_part (k : Nat) (f : Chan → Chan) : (s.onChan k f).part = s.part := rfl
@[simp] theorem State.onChan_pkg (k : Nat) (f : Chan → Chan) : (s.onChan k f).pkg = s.pkg := rfl
@[simp] theorem State.onChan_pins (k : Nat) (f : Chan → Chan) : (s.onChan k f).pins = s.pins := rfl
@[simp] theorem State.onChan_cal (k : Nat) (f : Chan → Chan) : (s.onChan k f).cal = s.cal := rfl
@[simp] theorem State.onChan_sec (k : Nat) (f : Chan → Chan) : (s.onChan k f).sec = s.sec := rfl
@[simp] theorem State.onChan_firm (k : Nat) (f : Chan → Chan) : (s.onChan k f).firm = s.firm := rfl
@[simp] theorem State.onChan_sched (k : Nat) (f : Chan → Chan) : (s.onChan k f).sched = s.sched := rfl
@[simp] theorem State.onChan_serac (k : Nat) (f : Chan → Chan) : (s.onChan k f).serac = s.serac := rfl
@[simp] theorem State.onChan_firn (k : Nat) (f : Chan → Chan) : (s.onChan k f).firn = s.firn := rfl
@[simp] theorem State.onChan_hbm (k : Nat) (f : Chan → Chan) : (s.onChan k f).hbm = s.hbm := rfl
@[simp] theorem State.onChan_fab (k : Nat) (f : Chan → Chan) : (s.onChan k f).fab = s.fab := rfl
@[simp] theorem State.onChan_mem (k : Nat) (f : Chan → Chan) : (s.onChan k f).mem = s.mem := rfl
@[simp] theorem State.onChan_clk (k : Nat) (f : Chan → Chan) : (s.onChan k f).clk = s.clk := rfl
@[simp] theorem State.onChan_pow (k : Nat) (f : Chan → Chan) : (s.onChan k f).pow = s.pow := rfl
@[simp] theorem State.onChan_dict (k : Nat) (f : Chan → Chan) : (s.onChan k f).dict = s.dict := rfl
@[simp] theorem State.onChan_regs (k : Nat) (f : Chan → Chan) : (s.onChan k f).regs = s.regs := rfl
@[simp] theorem State.onChan_errs (k : Nat) (f : Chan → Chan) : (s.onChan k f).errs = s.errs := rfl
@[simp] theorem State.onChan_cvu (k : Nat) (f : Chan → Chan) : (s.onChan k f).cvu = s.cvu := rfl
@[simp] theorem State.onChan_mor (k : Nat) (f : Chan → Chan) : (s.onChan k f).mor = s.mor := rfl
@[simp] theorem State.onChan_pending (k : Nat) (f : Chan → Chan) : (s.onChan k f).pending = s.pending := rfl
@[simp] theorem State.onChan_free (k : Nat) (f : Chan → Chan) : (s.onChan k f).free = s.free := rfl
@[simp] theorem State.onChan_outbox (k : Nat) (f : Chan → Chan) : (s.onChan k f).outbox = s.outbox := rfl

/-! ### onPho -/

@[simp] theorem State.onPho_part (q : Nat) (f : Port → Port) : (s.onPho q f).part = s.part := rfl
@[simp] theorem State.onPho_pkg (q : Nat) (f : Port → Port) : (s.onPho q f).pkg = s.pkg := rfl
@[simp] theorem State.onPho_pins (q : Nat) (f : Port → Port) : (s.onPho q f).pins = s.pins := rfl
@[simp] theorem State.onPho_cal (q : Nat) (f : Port → Port) : (s.onPho q f).cal = s.cal := rfl
@[simp] theorem State.onPho_sec (q : Nat) (f : Port → Port) : (s.onPho q f).sec = s.sec := rfl
@[simp] theorem State.onPho_firm (q : Nat) (f : Port → Port) : (s.onPho q f).firm = s.firm := rfl
@[simp] theorem State.onPho_sched (q : Nat) (f : Port → Port) : (s.onPho q f).sched = s.sched := rfl
@[simp] theorem State.onPho_serac (q : Nat) (f : Port → Port) : (s.onPho q f).serac = s.serac := rfl
@[simp] theorem State.onPho_firn (q : Nat) (f : Port → Port) : (s.onPho q f).firn = s.firn := rfl
@[simp] theorem State.onPho_hbm (q : Nat) (f : Port → Port) : (s.onPho q f).hbm = s.hbm := rfl
@[simp] theorem State.onPho_fab (q : Nat) (f : Port → Port) : (s.onPho q f).fab = s.fab := rfl
@[simp] theorem State.onPho_mem (q : Nat) (f : Port → Port) : (s.onPho q f).mem = s.mem := rfl
@[simp] theorem State.onPho_clk (q : Nat) (f : Port → Port) : (s.onPho q f).clk = s.clk := rfl
@[simp] theorem State.onPho_pow (q : Nat) (f : Port → Port) : (s.onPho q f).pow = s.pow := rfl
@[simp] theorem State.onPho_dict (q : Nat) (f : Port → Port) : (s.onPho q f).dict = s.dict := rfl
@[simp] theorem State.onPho_regs (q : Nat) (f : Port → Port) : (s.onPho q f).regs = s.regs := rfl
@[simp] theorem State.onPho_errs (q : Nat) (f : Port → Port) : (s.onPho q f).errs = s.errs := rfl
@[simp] theorem State.onPho_cvu (q : Nat) (f : Port → Port) : (s.onPho q f).cvu = s.cvu := rfl
@[simp] theorem State.onPho_mor (q : Nat) (f : Port → Port) : (s.onPho q f).mor = s.mor := rfl
@[simp] theorem State.onPho_pending (q : Nat) (f : Port → Port) : (s.onPho q f).pending = s.pending := rfl
@[simp] theorem State.onPho_free (q : Nat) (f : Port → Port) : (s.onPho q f).free = s.free := rfl
@[simp] theorem State.onPho_outbox (q : Nat) (f : Port → Port) : (s.onPho q f).outbox = s.outbox := rfl

/-! ### onEmitter -/

@[simp] theorem State.onEmitter_part (bank e : Nat) (f : Emitter → Emitter) : (s.onEmitter bank e f).part = s.part := rfl
@[simp] theorem State.onEmitter_pkg (bank e : Nat) (f : Emitter → Emitter) : (s.onEmitter bank e f).pkg = s.pkg := rfl
@[simp] theorem State.onEmitter_pins (bank e : Nat) (f : Emitter → Emitter) : (s.onEmitter bank e f).pins = s.pins := rfl
@[simp] theorem State.onEmitter_cal (bank e : Nat) (f : Emitter → Emitter) : (s.onEmitter bank e f).cal = s.cal := rfl
@[simp] theorem State.onEmitter_sec (bank e : Nat) (f : Emitter → Emitter) : (s.onEmitter bank e f).sec = s.sec := rfl
@[simp] theorem State.onEmitter_firm (bank e : Nat) (f : Emitter → Emitter) : (s.onEmitter bank e f).firm = s.firm := rfl
@[simp] theorem State.onEmitter_sched (bank e : Nat) (f : Emitter → Emitter) : (s.onEmitter bank e f).sched = s.sched := rfl
@[simp] theorem State.onEmitter_serac (bank e : Nat) (f : Emitter → Emitter) : (s.onEmitter bank e f).serac = s.serac := rfl
@[simp] theorem State.onEmitter_firn (bank e : Nat) (f : Emitter → Emitter) : (s.onEmitter bank e f).firn = s.firn := rfl
@[simp] theorem State.onEmitter_hbm (bank e : Nat) (f : Emitter → Emitter) : (s.onEmitter bank e f).hbm = s.hbm := rfl
@[simp] theorem State.onEmitter_fab (bank e : Nat) (f : Emitter → Emitter) : (s.onEmitter bank e f).fab = s.fab := rfl
@[simp] theorem State.onEmitter_mem (bank e : Nat) (f : Emitter → Emitter) : (s.onEmitter bank e f).mem = s.mem := rfl
@[simp] theorem State.onEmitter_clk (bank e : Nat) (f : Emitter → Emitter) : (s.onEmitter bank e f).clk = s.clk := rfl
@[simp] theorem State.onEmitter_pow (bank e : Nat) (f : Emitter → Emitter) : (s.onEmitter bank e f).pow = s.pow := rfl
@[simp] theorem State.onEmitter_dict (bank e : Nat) (f : Emitter → Emitter) : (s.onEmitter bank e f).dict = s.dict := rfl
@[simp] theorem State.onEmitter_regs (bank e : Nat) (f : Emitter → Emitter) : (s.onEmitter bank e f).regs = s.regs := rfl
@[simp] theorem State.onEmitter_errs (bank e : Nat) (f : Emitter → Emitter) : (s.onEmitter bank e f).errs = s.errs := rfl
@[simp] theorem State.onEmitter_cvu (bank e : Nat) (f : Emitter → Emitter) : (s.onEmitter bank e f).cvu = s.cvu := rfl
@[simp] theorem State.onEmitter_mor (bank e : Nat) (f : Emitter → Emitter) : (s.onEmitter bank e f).mor = s.mor := rfl
@[simp] theorem State.onEmitter_pending (bank e : Nat) (f : Emitter → Emitter) : (s.onEmitter bank e f).pending = s.pending := rfl
@[simp] theorem State.onEmitter_free (bank e : Nat) (f : Emitter → Emitter) : (s.onEmitter bank e f).free = s.free := rfl
@[simp] theorem State.onEmitter_outbox (bank e : Nat) (f : Emitter → Emitter) : (s.onEmitter bank e f).outbox = s.outbox := rfl

/-! ### onOwner -/

@[simp] theorem State.onOwner_part (o : Nat) (f : Owner → Owner) : (s.onOwner o f).part = s.part := rfl
@[simp] theorem State.onOwner_pkg (o : Nat) (f : Owner → Owner) : (s.onOwner o f).pkg = s.pkg := rfl
@[simp] theorem State.onOwner_pins (o : Nat) (f : Owner → Owner) : (s.onOwner o f).pins = s.pins := rfl
@[simp] theorem State.onOwner_cal (o : Nat) (f : Owner → Owner) : (s.onOwner o f).cal = s.cal := rfl
@[simp] theorem State.onOwner_sec (o : Nat) (f : Owner → Owner) : (s.onOwner o f).sec = s.sec := rfl
@[simp] theorem State.onOwner_firm (o : Nat) (f : Owner → Owner) : (s.onOwner o f).firm = s.firm := rfl
@[simp] theorem State.onOwner_sched (o : Nat) (f : Owner → Owner) : (s.onOwner o f).sched = s.sched := rfl
@[simp] theorem State.onOwner_serac (o : Nat) (f : Owner → Owner) : (s.onOwner o f).serac = s.serac := rfl
@[simp] theorem State.onOwner_firn (o : Nat) (f : Owner → Owner) : (s.onOwner o f).firn = s.firn := rfl
@[simp] theorem State.onOwner_hbm (o : Nat) (f : Owner → Owner) : (s.onOwner o f).hbm = s.hbm := rfl
@[simp] theorem State.onOwner_fab (o : Nat) (f : Owner → Owner) : (s.onOwner o f).fab = s.fab := rfl
@[simp] theorem State.onOwner_mem (o : Nat) (f : Owner → Owner) : (s.onOwner o f).mem = s.mem := rfl
@[simp] theorem State.onOwner_clk (o : Nat) (f : Owner → Owner) : (s.onOwner o f).clk = s.clk := rfl
@[simp] theorem State.onOwner_pow (o : Nat) (f : Owner → Owner) : (s.onOwner o f).pow = s.pow := rfl
@[simp] theorem State.onOwner_dict (o : Nat) (f : Owner → Owner) : (s.onOwner o f).dict = s.dict := rfl
@[simp] theorem State.onOwner_regs (o : Nat) (f : Owner → Owner) : (s.onOwner o f).regs = s.regs := rfl
@[simp] theorem State.onOwner_errs (o : Nat) (f : Owner → Owner) : (s.onOwner o f).errs = s.errs := rfl
@[simp] theorem State.onOwner_cvu (o : Nat) (f : Owner → Owner) : (s.onOwner o f).cvu = s.cvu := rfl
@[simp] theorem State.onOwner_mor (o : Nat) (f : Owner → Owner) : (s.onOwner o f).mor = s.mor := rfl
@[simp] theorem State.onOwner_pending (o : Nat) (f : Owner → Owner) : (s.onOwner o f).pending = s.pending := rfl
@[simp] theorem State.onOwner_free (o : Nat) (f : Owner → Owner) : (s.onOwner o f).free = s.free := rfl
@[simp] theorem State.onOwner_outbox (o : Nat) (f : Owner → Owner) : (s.onOwner o f).outbox = s.outbox := rfl

/-! ### onVb -/

@[simp] theorem State.onVb_part (t : BitVec 2) (n : Nat) (f : Vb → Vb) : (s.onVb t n f).part = s.part := rfl
@[simp] theorem State.onVb_pkg (t : BitVec 2) (n : Nat) (f : Vb → Vb) : (s.onVb t n f).pkg = s.pkg := rfl
@[simp] theorem State.onVb_pins (t : BitVec 2) (n : Nat) (f : Vb → Vb) : (s.onVb t n f).pins = s.pins := rfl
@[simp] theorem State.onVb_cal (t : BitVec 2) (n : Nat) (f : Vb → Vb) : (s.onVb t n f).cal = s.cal := rfl
@[simp] theorem State.onVb_sec (t : BitVec 2) (n : Nat) (f : Vb → Vb) : (s.onVb t n f).sec = s.sec := rfl
@[simp] theorem State.onVb_firm (t : BitVec 2) (n : Nat) (f : Vb → Vb) : (s.onVb t n f).firm = s.firm := rfl
@[simp] theorem State.onVb_sched (t : BitVec 2) (n : Nat) (f : Vb → Vb) : (s.onVb t n f).sched = s.sched := rfl
@[simp] theorem State.onVb_serac (t : BitVec 2) (n : Nat) (f : Vb → Vb) : (s.onVb t n f).serac = s.serac := rfl
@[simp] theorem State.onVb_hbm (t : BitVec 2) (n : Nat) (f : Vb → Vb) : (s.onVb t n f).hbm = s.hbm := rfl
@[simp] theorem State.onVb_floe (t : BitVec 2) (n : Nat) (f : Vb → Vb) : (s.onVb t n f).floe = s.floe := rfl
@[simp] theorem State.onVb_fab (t : BitVec 2) (n : Nat) (f : Vb → Vb) : (s.onVb t n f).fab = s.fab := rfl
@[simp] theorem State.onVb_mem (t : BitVec 2) (n : Nat) (f : Vb → Vb) : (s.onVb t n f).mem = s.mem := rfl
@[simp] theorem State.onVb_clk (t : BitVec 2) (n : Nat) (f : Vb → Vb) : (s.onVb t n f).clk = s.clk := rfl
@[simp] theorem State.onVb_pow (t : BitVec 2) (n : Nat) (f : Vb → Vb) : (s.onVb t n f).pow = s.pow := rfl
@[simp] theorem State.onVb_dict (t : BitVec 2) (n : Nat) (f : Vb → Vb) : (s.onVb t n f).dict = s.dict := rfl
@[simp] theorem State.onVb_regs (t : BitVec 2) (n : Nat) (f : Vb → Vb) : (s.onVb t n f).regs = s.regs := rfl
@[simp] theorem State.onVb_errs (t : BitVec 2) (n : Nat) (f : Vb → Vb) : (s.onVb t n f).errs = s.errs := rfl
@[simp] theorem State.onVb_cvu (t : BitVec 2) (n : Nat) (f : Vb → Vb) : (s.onVb t n f).cvu = s.cvu := rfl
@[simp] theorem State.onVb_mor (t : BitVec 2) (n : Nat) (f : Vb → Vb) : (s.onVb t n f).mor = s.mor := rfl
@[simp] theorem State.onVb_pending (t : BitVec 2) (n : Nat) (f : Vb → Vb) : (s.onVb t n f).pending = s.pending := rfl
@[simp] theorem State.onVb_free (t : BitVec 2) (n : Nat) (f : Vb → Vb) : (s.onVb t n f).free = s.free := rfl
@[simp] theorem State.onVb_outbox (t : BitVec 2) (n : Nat) (f : Vb → Vb) : (s.onVb t n f).outbox = s.outbox := rfl

/-! ### onStk -/

@[simp] theorem State.onStk_part (t : BitVec 2) (f : StackPow → StackPow) : (s.onStk t f).part = s.part := rfl
@[simp] theorem State.onStk_pkg (t : BitVec 2) (f : StackPow → StackPow) : (s.onStk t f).pkg = s.pkg := rfl
@[simp] theorem State.onStk_pins (t : BitVec 2) (f : StackPow → StackPow) : (s.onStk t f).pins = s.pins := rfl
@[simp] theorem State.onStk_cal (t : BitVec 2) (f : StackPow → StackPow) : (s.onStk t f).cal = s.cal := rfl
@[simp] theorem State.onStk_sec (t : BitVec 2) (f : StackPow → StackPow) : (s.onStk t f).sec = s.sec := rfl
@[simp] theorem State.onStk_firm (t : BitVec 2) (f : StackPow → StackPow) : (s.onStk t f).firm = s.firm := rfl
@[simp] theorem State.onStk_sched (t : BitVec 2) (f : StackPow → StackPow) : (s.onStk t f).sched = s.sched := rfl
@[simp] theorem State.onStk_serac (t : BitVec 2) (f : StackPow → StackPow) : (s.onStk t f).serac = s.serac := rfl
@[simp] theorem State.onStk_firn (t : BitVec 2) (f : StackPow → StackPow) : (s.onStk t f).firn = s.firn := rfl
@[simp] theorem State.onStk_hbm (t : BitVec 2) (f : StackPow → StackPow) : (s.onStk t f).hbm = s.hbm := rfl
@[simp] theorem State.onStk_floe (t : BitVec 2) (f : StackPow → StackPow) : (s.onStk t f).floe = s.floe := rfl
@[simp] theorem State.onStk_fab (t : BitVec 2) (f : StackPow → StackPow) : (s.onStk t f).fab = s.fab := rfl
@[simp] theorem State.onStk_mem (t : BitVec 2) (f : StackPow → StackPow) : (s.onStk t f).mem = s.mem := rfl
@[simp] theorem State.onStk_clk (t : BitVec 2) (f : StackPow → StackPow) : (s.onStk t f).clk = s.clk := rfl
@[simp] theorem State.onStk_dict (t : BitVec 2) (f : StackPow → StackPow) : (s.onStk t f).dict = s.dict := rfl
@[simp] theorem State.onStk_regs (t : BitVec 2) (f : StackPow → StackPow) : (s.onStk t f).regs = s.regs := rfl
@[simp] theorem State.onStk_errs (t : BitVec 2) (f : StackPow → StackPow) : (s.onStk t f).errs = s.errs := rfl
@[simp] theorem State.onStk_cvu (t : BitVec 2) (f : StackPow → StackPow) : (s.onStk t f).cvu = s.cvu := rfl
@[simp] theorem State.onStk_mor (t : BitVec 2) (f : StackPow → StackPow) : (s.onStk t f).mor = s.mor := rfl
@[simp] theorem State.onStk_pending (t : BitVec 2) (f : StackPow → StackPow) : (s.onStk t f).pending = s.pending := rfl
@[simp] theorem State.onStk_free (t : BitVec 2) (f : StackPow → StackPow) : (s.onStk t f).free = s.free := rfl
@[simp] theorem State.onStk_outbox (t : BitVec 2) (f : StackPow → StackPow) : (s.onStk t f).outbox = s.outbox := rfl

/-! ### setPll -/

@[simp] theorem State.setPll_part (d : Nat) (st : PllSt) : (s.setPll d st).part = s.part := rfl
@[simp] theorem State.setPll_pkg (d : Nat) (st : PllSt) : (s.setPll d st).pkg = s.pkg := rfl
@[simp] theorem State.setPll_pins (d : Nat) (st : PllSt) : (s.setPll d st).pins = s.pins := rfl
@[simp] theorem State.setPll_cal (d : Nat) (st : PllSt) : (s.setPll d st).cal = s.cal := rfl
@[simp] theorem State.setPll_sec (d : Nat) (st : PllSt) : (s.setPll d st).sec = s.sec := rfl
@[simp] theorem State.setPll_firm (d : Nat) (st : PllSt) : (s.setPll d st).firm = s.firm := rfl
@[simp] theorem State.setPll_sched (d : Nat) (st : PllSt) : (s.setPll d st).sched = s.sched := rfl
@[simp] theorem State.setPll_serac (d : Nat) (st : PllSt) : (s.setPll d st).serac = s.serac := rfl
@[simp] theorem State.setPll_firn (d : Nat) (st : PllSt) : (s.setPll d st).firn = s.firn := rfl
@[simp] theorem State.setPll_hbm (d : Nat) (st : PllSt) : (s.setPll d st).hbm = s.hbm := rfl
@[simp] theorem State.setPll_floe (d : Nat) (st : PllSt) : (s.setPll d st).floe = s.floe := rfl
@[simp] theorem State.setPll_fab (d : Nat) (st : PllSt) : (s.setPll d st).fab = s.fab := rfl
@[simp] theorem State.setPll_mem (d : Nat) (st : PllSt) : (s.setPll d st).mem = s.mem := rfl
@[simp] theorem State.setPll_pow (d : Nat) (st : PllSt) : (s.setPll d st).pow = s.pow := rfl
@[simp] theorem State.setPll_dict (d : Nat) (st : PllSt) : (s.setPll d st).dict = s.dict := rfl
@[simp] theorem State.setPll_regs (d : Nat) (st : PllSt) : (s.setPll d st).regs = s.regs := rfl
@[simp] theorem State.setPll_errs (d : Nat) (st : PllSt) : (s.setPll d st).errs = s.errs := rfl
@[simp] theorem State.setPll_cvu (d : Nat) (st : PllSt) : (s.setPll d st).cvu = s.cvu := rfl
@[simp] theorem State.setPll_mor (d : Nat) (st : PllSt) : (s.setPll d st).mor = s.mor := rfl
@[simp] theorem State.setPll_pending (d : Nat) (st : PllSt) : (s.setPll d st).pending = s.pending := rfl
@[simp] theorem State.setPll_free (d : Nat) (st : PllSt) : (s.setPll d st).free = s.free := rfl
@[simp] theorem State.setPll_outbox (d : Nat) (st : PllSt) : (s.setPll d st).outbox = s.outbox := rfl

/-! ### onPin -/

@[simp] theorem State.onPin_part (p : Nat) (f : PinSt → PinSt) : (s.onPin p f).part = s.part := rfl
@[simp] theorem State.onPin_pkg (p : Nat) (f : PinSt → PinSt) : (s.onPin p f).pkg = s.pkg := rfl
@[simp] theorem State.onPin_cal (p : Nat) (f : PinSt → PinSt) : (s.onPin p f).cal = s.cal := rfl
@[simp] theorem State.onPin_sec (p : Nat) (f : PinSt → PinSt) : (s.onPin p f).sec = s.sec := rfl
@[simp] theorem State.onPin_firm (p : Nat) (f : PinSt → PinSt) : (s.onPin p f).firm = s.firm := rfl
@[simp] theorem State.onPin_sched (p : Nat) (f : PinSt → PinSt) : (s.onPin p f).sched = s.sched := rfl
@[simp] theorem State.onPin_serac (p : Nat) (f : PinSt → PinSt) : (s.onPin p f).serac = s.serac := rfl
@[simp] theorem State.onPin_firn (p : Nat) (f : PinSt → PinSt) : (s.onPin p f).firn = s.firn := rfl
@[simp] theorem State.onPin_hbm (p : Nat) (f : PinSt → PinSt) : (s.onPin p f).hbm = s.hbm := rfl
@[simp] theorem State.onPin_floe (p : Nat) (f : PinSt → PinSt) : (s.onPin p f).floe = s.floe := rfl
@[simp] theorem State.onPin_fab (p : Nat) (f : PinSt → PinSt) : (s.onPin p f).fab = s.fab := rfl
@[simp] theorem State.onPin_mem (p : Nat) (f : PinSt → PinSt) : (s.onPin p f).mem = s.mem := rfl
@[simp] theorem State.onPin_clk (p : Nat) (f : PinSt → PinSt) : (s.onPin p f).clk = s.clk := rfl
@[simp] theorem State.onPin_pow (p : Nat) (f : PinSt → PinSt) : (s.onPin p f).pow = s.pow := rfl
@[simp] theorem State.onPin_dict (p : Nat) (f : PinSt → PinSt) : (s.onPin p f).dict = s.dict := rfl
@[simp] theorem State.onPin_regs (p : Nat) (f : PinSt → PinSt) : (s.onPin p f).regs = s.regs := rfl
@[simp] theorem State.onPin_errs (p : Nat) (f : PinSt → PinSt) : (s.onPin p f).errs = s.errs := rfl
@[simp] theorem State.onPin_cvu (p : Nat) (f : PinSt → PinSt) : (s.onPin p f).cvu = s.cvu := rfl
@[simp] theorem State.onPin_mor (p : Nat) (f : PinSt → PinSt) : (s.onPin p f).mor = s.mor := rfl
@[simp] theorem State.onPin_pending (p : Nat) (f : PinSt → PinSt) : (s.onPin p f).pending = s.pending := rfl
@[simp] theorem State.onPin_free (p : Nat) (f : PinSt → PinSt) : (s.onPin p f).free = s.free := rfl
@[simp] theorem State.onPin_outbox (p : Nat) (f : PinSt → PinSt) : (s.onPin p f).outbox = s.outbox := rfl

/-! ### drawFree_snd -/

@[simp] theorem State.drawFree_snd_part (w : Nat) : ((s.drawFree w).2).part = s.part := rfl
@[simp] theorem State.drawFree_snd_pkg (w : Nat) : ((s.drawFree w).2).pkg = s.pkg := rfl
@[simp] theorem State.drawFree_snd_pins (w : Nat) : ((s.drawFree w).2).pins = s.pins := rfl
@[simp] theorem State.drawFree_snd_cal (w : Nat) : ((s.drawFree w).2).cal = s.cal := rfl
@[simp] theorem State.drawFree_snd_sec (w : Nat) : ((s.drawFree w).2).sec = s.sec := rfl
@[simp] theorem State.drawFree_snd_firm (w : Nat) : ((s.drawFree w).2).firm = s.firm := rfl
@[simp] theorem State.drawFree_snd_sched (w : Nat) : ((s.drawFree w).2).sched = s.sched := rfl
@[simp] theorem State.drawFree_snd_serac (w : Nat) : ((s.drawFree w).2).serac = s.serac := rfl
@[simp] theorem State.drawFree_snd_firn (w : Nat) : ((s.drawFree w).2).firn = s.firn := rfl
@[simp] theorem State.drawFree_snd_hbm (w : Nat) : ((s.drawFree w).2).hbm = s.hbm := rfl
@[simp] theorem State.drawFree_snd_floe (w : Nat) : ((s.drawFree w).2).floe = s.floe := rfl
@[simp] theorem State.drawFree_snd_fab (w : Nat) : ((s.drawFree w).2).fab = s.fab := rfl
@[simp] theorem State.drawFree_snd_mem (w : Nat) : ((s.drawFree w).2).mem = s.mem := rfl
@[simp] theorem State.drawFree_snd_clk (w : Nat) : ((s.drawFree w).2).clk = s.clk := rfl
@[simp] theorem State.drawFree_snd_pow (w : Nat) : ((s.drawFree w).2).pow = s.pow := rfl
@[simp] theorem State.drawFree_snd_dict (w : Nat) : ((s.drawFree w).2).dict = s.dict := rfl
@[simp] theorem State.drawFree_snd_regs (w : Nat) : ((s.drawFree w).2).regs = s.regs := rfl
@[simp] theorem State.drawFree_snd_errs (w : Nat) : ((s.drawFree w).2).errs = s.errs := rfl
@[simp] theorem State.drawFree_snd_cvu (w : Nat) : ((s.drawFree w).2).cvu = s.cvu := rfl
@[simp] theorem State.drawFree_snd_mor (w : Nat) : ((s.drawFree w).2).mor = s.mor := rfl
@[simp] theorem State.drawFree_snd_pending (w : Nat) : ((s.drawFree w).2).pending = s.pending := rfl
@[simp] theorem State.drawFree_snd_outbox (w : Nat) : ((s.drawFree w).2).outbox = s.outbox := rfl

/-! ### drawBytes_snd -/

@[simp] theorem State.drawBytes_snd_part (n : Nat) : ((s.drawBytes n).2).part = s.part := rfl
@[simp] theorem State.drawBytes_snd_pkg (n : Nat) : ((s.drawBytes n).2).pkg = s.pkg := rfl
@[simp] theorem State.drawBytes_snd_pins (n : Nat) : ((s.drawBytes n).2).pins = s.pins := rfl
@[simp] theorem State.drawBytes_snd_cal (n : Nat) : ((s.drawBytes n).2).cal = s.cal := rfl
@[simp] theorem State.drawBytes_snd_sec (n : Nat) : ((s.drawBytes n).2).sec = s.sec := rfl
@[simp] theorem State.drawBytes_snd_firm (n : Nat) : ((s.drawBytes n).2).firm = s.firm := rfl
@[simp] theorem State.drawBytes_snd_sched (n : Nat) : ((s.drawBytes n).2).sched = s.sched := rfl
@[simp] theorem State.drawBytes_snd_serac (n : Nat) : ((s.drawBytes n).2).serac = s.serac := rfl
@[simp] theorem State.drawBytes_snd_firn (n : Nat) : ((s.drawBytes n).2).firn = s.firn := rfl
@[simp] theorem State.drawBytes_snd_hbm (n : Nat) : ((s.drawBytes n).2).hbm = s.hbm := rfl
@[simp] theorem State.drawBytes_snd_floe (n : Nat) : ((s.drawBytes n).2).floe = s.floe := rfl
@[simp] theorem State.drawBytes_snd_fab (n : Nat) : ((s.drawBytes n).2).fab = s.fab := rfl
@[simp] theorem State.drawBytes_snd_mem (n : Nat) : ((s.drawBytes n).2).mem = s.mem := rfl
@[simp] theorem State.drawBytes_snd_clk (n : Nat) : ((s.drawBytes n).2).clk = s.clk := rfl
@[simp] theorem State.drawBytes_snd_pow (n : Nat) : ((s.drawBytes n).2).pow = s.pow := rfl
@[simp] theorem State.drawBytes_snd_dict (n : Nat) : ((s.drawBytes n).2).dict = s.dict := rfl
@[simp] theorem State.drawBytes_snd_regs (n : Nat) : ((s.drawBytes n).2).regs = s.regs := rfl
@[simp] theorem State.drawBytes_snd_errs (n : Nat) : ((s.drawBytes n).2).errs = s.errs := rfl
@[simp] theorem State.drawBytes_snd_cvu (n : Nat) : ((s.drawBytes n).2).cvu = s.cvu := rfl
@[simp] theorem State.drawBytes_snd_mor (n : Nat) : ((s.drawBytes n).2).mor = s.mor := rfl
@[simp] theorem State.drawBytes_snd_pending (n : Nat) : ((s.drawBytes n).2).pending = s.pending := rfl
@[simp] theorem State.drawBytes_snd_outbox (n : Nat) : ((s.drawBytes n).2).outbox = s.outbox := rfl

end Sys2Proof.Machine
end

