-- ==== Sys2Proof/Laws/Bundle.lean ====
section
/-! SUPPORT. What a tile's sequencer does with the bundle that it stands at: nothing, a fault, or its four slots (R41, R42, R46). -/

namespace Sys2Proof.Machine

variable (s : State) (n : Nat)

/-- A slot has the effect that exec gives its operation. -/
theorem State.runSlot_next {i : Instr} {t : State} (h : exec i s = .next t) : s.runSlot i = t := by
  simp [State.runSlot, h]

/-- A tile that does not run issues nothing. -/
theorem State.issueBundle_idle (h : (s.tile n).st ≠ .running) : s.issueBundle n = s := by
  simp [State.issueBundle, h]

/-- R46: a reserved opcode in any slot stops the tile. -/
theorem State.issueBundle_reserved (h : (s.tile n).st = .running) (hb : decodeBundle n (s.tile n).bundleBits = none) :
    s.issueBundle n = s.tileFault n faultIllegalOp := by
  simp [State.issueBundle, h, hb]

/-- R42: where a slot is held back no slot issues. -/
theorem State.issueBundle_held {b : Bundle} (h : (s.tile n).st = .running)
    (hb : decodeBundle n (s.tile n).bundleBits = some b) (hm : s.mayIssue n b = false) : s.issueBundle n = s := by
  simp [State.issueBundle, h, hb, hm]

/-- R42, R107: the four slots issue, the matrix slot before the vector slot and the control slot last. -/
theorem State.issueBundle_issues {b : Bundle} (h : (s.tile n).st = .running)
    (hb : decodeBundle n (s.tile n).bundleBits = some b) (hm : s.mayIssue n b = true) :
    s.issueBundle n = (((s.runSlot b.mat).runSlot b.vec).runSlot b.str).runSlot b.ctl := by
  simp [State.issueBundle, h, hb, hm]

/-- What a sequencer can do in a cycle, in one statement. -/
theorem State.issueBundle_cases : s.issueBundle n = s ∨ s.issueBundle n = s.tileFault n faultIllegalOp ∨
    ∃ b, decodeBundle n (s.tile n).bundleBits = some b ∧ s.mayIssue n b = true ∧
      s.issueBundle n = (((s.runSlot b.mat).runSlot b.vec).runSlot b.str).runSlot b.ctl := by
  by_cases h : (s.tile n).st = .running
  · cases hb : decodeBundle n (s.tile n).bundleBits with
    | none => exact .inr (.inl (s.issueBundle_reserved n h hb))
    | some b =>
      cases hm : s.mayIssue n b with
      | false => exact .inl (s.issueBundle_held n h hb hm)
      | true => exact .inr (.inr ⟨b, rfl, hm, s.issueBundle_issues n h hb hm⟩)
  · exact .inl (s.issueBundle_idle n h)

end Sys2Proof.Machine
end

