-- ==== Sys2Proof/Laws/Dispatch.lean ====
section
/-! SUPPORT. What exec does with each command: the one meaning that its arm calls. -/

namespace Sys2Proof.Machine

@[simp] theorem exec_powerOnResetRelease {floe0} (s : State) : exec (.powerOnResetRelease floe0) s = execPowerOnResetRelease floe0 s := rfl
@[simp] theorem exec_powerLoss (s : State) : exec .powerLoss s = execPowerLoss s := rfl
@[simp] theorem exec_railOutOfTolerance {rail} (s : State) : exec (.railOutOfTolerance rail) s = execRailOutOfTolerance rail s := rfl
@[simp] theorem exec_perstNAssert (s : State) : exec .perstNAssert s = execPerstNAssert s := rfl
@[simp] theorem exec_perstNRelease {rackpos floe0} (s : State) : exec (.perstNRelease rackpos floe0) s = execPerstNRelease rackpos floe0 s := rfl
@[simp] theorem exec_discovery {found} (s : State) : exec (.discovery found) s = execDiscovery found s := rfl
@[simp] theorem exec_discoveryTimeout (s : State) : exec .discoveryTimeout s = execDiscoveryTimeout s := rfl
@[simp] theorem exec_loadChunkSubmit {ctrl bytes} (s : State) : exec (.loadChunkSubmit ctrl bytes) s = execLoadChunkSubmit ctrl bytes s := rfl
@[simp] theorem exec_loadChunkTake (s : State) : exec .loadChunkTake s = execLoadChunkTake s := rfl
@[simp] theorem exec_loadChunkTimeout (s : State) : exec .loadChunkTimeout s = execLoadChunkTimeout s := rfl
@[simp] theorem exec_imageVerify {sigOk} (s : State) : exec (.imageVerify sigOk) s = execImageVerify sigOk s := rfl
@[simp] theorem exec_aliasKeyReady (s : State) : exec .aliasKeyReady s = execAliasKeyReady s := rfl
@[simp] theorem exec_thawProceed {src} (s : State) : exec (.thawProceed src) s = execThawProceed src s := rfl
@[simp] theorem exec_thawProceedTimeout (s : State) : exec .thawProceedTimeout s = execThawProceedTimeout s := rfl
@[simp] theorem exec_calRestore {src} (s : State) : exec (.calRestore src) s = execCalRestore src s := rfl
@[simp] theorem exec_calRunComplete {item elem run order discard ends} (s : State) : exec (.calRunComplete item elem run order discard ends) s = execCalRunComplete item elem run order discard ends s := rfl
@[simp] theorem exec_restoreCheckRun {item elem run ends} (s : State) : exec (.restoreCheckRun item elem run ends) s = execRestoreCheckRun item elem run ends s := rfl
@[simp] theorem exec_marginPlan {ageD sweep targets eyes} (s : State) : exec (.marginPlan ageD sweep targets eyes) s = execMarginPlan ageD sweep targets eyes s := rfl
@[simp] theorem exec_thawEnd (s : State) : exec .thawEnd s = execThawEnd s := rfl
@[simp] theorem exec_softReset {src} (s : State) : exec (.softReset src) s = execSoftReset src s := rfl
@[simp] theorem exec_softResetBegin (s : State) : exec .softResetBegin s = execSoftResetBegin s := rfl
@[simp] theorem exec_flr (s : State) : exec .flr s = execFlr s := rfl
@[simp] theorem exec_pcieHotReset (s : State) : exec .pcieHotReset s = execPcieHotReset s := rfl
@[simp] theorem exec_pcieLinkDown (s : State) : exec .pcieLinkDown s = execPcieLinkDown s := rfl
@[simp] theorem exec_iceboundEntry (s : State) : exec .iceboundEntry s = execIceboundEntry s := rfl
@[simp] theorem exec_lastFatalWrite (s : State) : exec .lastFatalWrite s = execLastFatalWrite s := rfl
@[simp] theorem exec_mbxPoll {head msgs} (s : State) : exec (.mbxPoll head msgs) s = execMbxPoll head msgs s := rfl
@[simp] theorem exec_mbxD2hTailWrite {tail} (s : State) : exec (.mbxD2hTailWrite tail) s = execMbxD2hTailWrite tail s := rfl
@[simp] theorem exec_heartbeat (s : State) : exec .heartbeat s = execHeartbeat s := rfl
@[simp] theorem exec_heartbeatTimeout (s : State) : exec .heartbeatTimeout s = execHeartbeatTimeout s := rfl
@[simp] theorem exec_driftPeriodExpire (s : State) : exec .driftPeriodExpire s = execDriftPeriodExpire s := rfl
@[simp] theorem exec_attach (s : State) : exec .attach s = execAttach s := rfl
@[simp] theorem exec_submit (s : State) : exec .submit s = execSubmit s := rfl
@[simp] theorem exec_abort (s : State) : exec .abort s = execAbort s := rfl
@[simp] theorem exec_schedCycleStart (s : State) : exec .schedCycleStart s = execSchedCycleStart s := rfl
@[simp] theorem exec_programStart {tag} (s : State) : exec (.programStart tag) s = execProgramStart tag s := rfl
@[simp] theorem exec_startReserve {tag} (s : State) : exec (.startReserve tag) s = execStartReserve tag s := rfl
@[simp] theorem exec_startFtimeReached {tag} (s : State) : exec (.startFtimeReached tag) s = execStartFtimeReached tag s := rfl
@[simp] theorem exec_sliceReportsComplete {tag} (s : State) : exec (.sliceReportsComplete tag) s = execSliceReportsComplete tag s := rfl
@[simp] theorem exec_preemptAllHeld {tag} (s : State) : exec (.preemptAllHeld tag) s = execPreemptAllHeld tag s := rfl
@[simp] theorem exec_contextSaveComplete {tag} (s : State) : exec (.contextSaveComplete tag) s = execContextSaveComplete tag s := rfl
@[simp] theorem exec_sliceTimeout {tag} (s : State) : exec (.sliceTimeout tag) s = execSliceTimeout tag s := rfl
@[simp] theorem exec_programResume {tag} (s : State) : exec (.programResume tag) s = execProgramResume tag s := rfl
@[simp] theorem exec_phaseBarrierRelease {tag} (s : State) : exec (.phaseBarrierRelease tag) s = execPhaseBarrierRelease tag s := rfl
@[simp] theorem exec_governorPhaseUpdate {tag energy} (s : State) : exec (.governorPhaseUpdate tag energy) s = execGovernorPhaseUpdate tag energy s := rfl
@[simp] theorem exec_governorBarrierTimeout {tag} (s : State) : exec (.governorBarrierTimeout tag) s = execGovernorBarrierTimeout tag s := rfl
@[simp] theorem exec_programEnd {tag cycles} (s : State) : exec (.programEnd tag cycles) s = execProgramEnd tag cycles s := rfl
@[simp] theorem exec_firnDrainWalkEnd {slot} (s : State) : exec (.firnDrainWalkEnd slot) s = execFirnDrainWalkEnd slot s := rfl
@[simp] theorem exec_tileAbort {tag} (s : State) : exec (.tileAbort tag) s = execTileAbort tag s := rfl
@[simp] theorem exec_tileFault {tile code} (s : State) : exec (.tileFault tile code) s = execTileFault tile code s := rfl
@[simp] theorem exec_schedLeaseStop (s : State) : exec .schedLeaseStop s = execSchedLeaseStop s := rfl
@[simp] theorem exec_schedLeaseExpiry (s : State) : exec .schedLeaseExpiry s = execSchedLeaseExpiry s := rfl
@[simp] theorem exec_schedJournalRecord {entry} (s : State) : exec (.schedJournalRecord entry) s = execSchedJournalRecord entry s := rfl
@[simp] theorem exec_schedStateCopy {agrees} (s : State) : exec (.schedStateCopy agrees) s = execSchedStateCopy agrees s := rfl
@[simp] theorem exec_schedSwap {src} (s : State) : exec (.schedSwap src) s = execSchedSwap src s := rfl
@[simp] theorem exec_schedHandoverCopy (s : State) : exec .schedHandoverCopy s = execSchedHandoverCopy s := rfl
@[simp] theorem exec_coreFailure {core cause digestOk} (s : State) : exec (.coreFailure core cause digestOk) s = execCoreFailure core cause digestOk s := rfl
@[simp] theorem exec_coreRestartComplete {core} (s : State) : exec (.coreRestartComplete core) s = execCoreRestartComplete core s := rfl
@[simp] theorem exec_dictRead (s : State) : exec .dictRead s = execDictRead s := rfl
@[simp] theorem exec_dictWrite (s : State) : exec .dictWrite s = execDictWrite s := rfl
@[simp] theorem exec_dictSessionAbandon {key} (s : State) : exec (.dictSessionAbandon key) s = execDictSessionAbandon key s := rfl
@[simp] theorem exec_dictLock {src} (s : State) : exec (.dictLock src) s = execDictLock src s := rfl
@[simp] theorem exec_mctpSvaogMessage {ep msg} (s : State) : exec (.mctpSvaogMessage ep msg) s = execMctpSvaogMessage ep msg s := rfl
@[simp] theorem exec_bar0RegisterWrite {addr size acc} (s : State) : exec (.bar0RegisterWrite addr size acc) s = execBar0RegisterWrite addr size acc s := rfl
@[simp] theorem exec_voteScrub {found} (s : State) : exec (.voteScrub found) s = execVoteScrub found s := rfl
@[simp] theorem exec_hostBar4BaseHiWrite {al v} (s : State) : exec (.hostBar4BaseHiWrite al v) s = execHostBar4BaseHiWrite al v s := rfl
@[simp] theorem exec_cnop {tile c} (s : State) : exec (.cnop tile c) s = execCnop tile c s := rfl
@[simp] theorem exec_seta {tile c} (s : State) : exec (.seta tile c) s = execSeta tile c s := rfl
@[simp] theorem exec_adda {tile c} (s : State) : exec (.adda tile c) s = execAdda tile c s := rfl
@[simp] theorem exec_sets {tile c} (s : State) : exec (.sets tile c) s = execSets tile c s := rfl
@[simp] theorem exec_shis {tile c} (s : State) : exec (.shis tile c) s = execShis tile c s := rfl
@[simp] theorem exec_adds {tile c} (s : State) : exec (.adds tile c) s = execAdds tile c s := rfl
@[simp] theorem exec_lds {tile c} (s : State) : exec (.lds tile c) s = execLds tile c s := rfl
@[simp] theorem exec_sts {tile c} (s : State) : exec (.sts tile c) s = execSts tile c s := rfl
@[simp] theorem exec_mova {tile c} (s : State) : exec (.mova tile c) s = execMova tile c s := rfl
@[simp] theorem exec_movs {tile c} (s : State) : exec (.movs tile c) s = execMovs tile c s := rfl
@[simp] theorem exec_br {tile c} (s : State) : exec (.br tile c) s = execBr tile c s := rfl
@[simp] theorem exec_loop {tile c} (s : State) : exec (.loop tile c) s = execLoop tile c s := rfl
@[simp] theorem exec_wait {tile c} (s : State) : exec (.wait tile c) s = execWait tile c s := rfl
@[simp] theorem exec_ccset {tile c} (s : State) : exec (.ccset tile c) s = execCcset tile c s := rfl
@[simp] theorem exec_ccst {tile c} (s : State) : exec (.ccst tile c) s = execCcst tile c s := rfl
@[simp] theorem exec_tfence {tile c} (s : State) : exec (.tfence tile c) s = execTfence tile c s := rfl
@[simp] theorem exec_ldmd {tile c} (s : State) : exec (.ldmd tile c) s = execLdmd tile c s := rfl
@[simp] theorem exec_setrnd {tile c} (s : State) : exec (.setrnd tile c) s = execSetrnd tile c s := rfl
@[simp] theorem exec_blk {tile c} (s : State) : exec (.blk tile c) s = execBlk tile c s := rfl
@[simp] theorem exec_phase {tile c} (s : State) : exec (.phase tile c) s = execPhase tile c s := rfl
@[simp] theorem exec_slice {tile c} (s : State) : exec (.slice tile c) s = execSlice tile c s := rfl
@[simp] theorem exec_phaseDone {tile c} (s : State) : exec (.phaseDone tile c) s = execPhaseDone tile c s := rfl
@[simp] theorem exec_halt {tile c} (s : State) : exec (.halt tile c) s = execHalt tile c s := rfl
@[simp] theorem exec_trap {tile c} (s : State) : exec (.trap tile c) s = execTrap tile c s := rfl
@[simp] theorem exec_mnop {tile m} (s : State) : exec (.mnop tile m) s = execMnop tile m s := rfl
@[simp] theorem exec_mma {tile m} (s : State) : exec (.mma tile m) s = execMma tile m s := rfl
@[simp] theorem exec_mmaz {tile m} (s : State) : exec (.mmaz tile m) s = execMmaz tile m s := rfl
@[simp] theorem exec_mout {tile m} (s : State) : exec (.mout tile m) s = execMout tile m s := rfl
@[simp] theorem exec_moutz {tile m} (s : State) : exec (.moutz tile m) s = execMoutz tile m s := rfl
@[simp] theorem exec_mzero {tile m} (s : State) : exec (.mzero tile m) s = execMzero tile m s := rfl
@[simp] theorem exec_mload {tile m} (s : State) : exec (.mload tile m) s = execMload tile m s := rfl
@[simp] theorem exec_matrixStepAdmit {tile} (s : State) : exec (.matrixStepAdmit tile) s = execMatrixStepAdmit tile s := rfl
@[simp] theorem exec_vnop {tile v} (s : State) : exec (.vnop tile v) s = execVnop tile v s := rfl
@[simp] theorem exec_vld {tile v} (s : State) : exec (.vld tile v) s = execVld tile v s := rfl
@[simp] theorem exec_vst {tile v} (s : State) : exec (.vst tile v) s = execVst tile v s := rfl
@[simp] theorem exec_vadd {tile v} (s : State) : exec (.vadd tile v) s = execVadd tile v s := rfl
@[simp] theorem exec_vsub {tile v} (s : State) : exec (.vsub tile v) s = execVsub tile v s := rfl
@[simp] theorem exec_vmul {tile v} (s : State) : exec (.vmul tile v) s = execVmul tile v s := rfl
@[simp] theorem exec_vfma {tile v} (s : State) : exec (.vfma tile v) s = execVfma tile v s := rfl
@[simp] theorem exec_vmin {tile v} (s : State) : exec (.vmin tile v) s = execVmin tile v s := rfl
@[simp] theorem exec_vmax {tile v} (s : State) : exec (.vmax tile v) s = execVmax tile v s := rfl
@[simp] theorem exec_vabs {tile v} (s : State) : exec (.vabs tile v) s = execVabs tile v s := rfl
@[simp] theorem exec_vneg {tile v} (s : State) : exec (.vneg tile v) s = execVneg tile v s := rfl
@[simp] theorem exec_vrcp {tile v} (s : State) : exec (.vrcp tile v) s = execVrcp tile v s := rfl
@[simp] theorem exec_vrsq {tile v} (s : State) : exec (.vrsq tile v) s = execVrsq tile v s := rfl
@[simp] theorem exec_vexp2 {tile v} (s : State) : exec (.vexp2 tile v) s = execVexp2 tile v s := rfl
@[simp] theorem exec_vlog2 {tile v} (s : State) : exec (.vlog2 tile v) s = execVlog2 tile v s := rfl
@[simp] theorem exec_vcmp {tile v} (s : State) : exec (.vcmp tile v) s = execVcmp tile v s := rfl
@[simp] theorem exec_vsel {tile v} (s : State) : exec (.vsel tile v) s = execVsel tile v s := rfl
@[simp] theorem exec_vand {tile v} (s : State) : exec (.vand tile v) s = execVand tile v s := rfl
@[simp] theorem exec_vor {tile v} (s : State) : exec (.vor tile v) s = execVor tile v s := rfl
@[simp] theorem exec_vxor {tile v} (s : State) : exec (.vxor tile v) s = execVxor tile v s := rfl
@[simp] theorem exec_vshl {tile v} (s : State) : exec (.vshl tile v) s = execVshl tile v s := rfl
@[simp] theorem exec_vshr {tile v} (s : State) : exec (.vshr tile v) s = execVshr tile v s := rfl
@[simp] theorem exec_vcvti {tile v} (s : State) : exec (.vcvti tile v) s = execVcvti tile v s := rfl
@[simp] theorem exec_vcvto {tile v} (s : State) : exec (.vcvto tile v) s = execVcvto tile v s := rfl
@[simp] theorem exec_vred {tile v} (s : State) : exec (.vred tile v) s = execVred tile v s := rfl
@[simp] theorem exec_vperm {tile v} (s : State) : exec (.vperm tile v) s = execVperm tile v s := rfl
@[simp] theorem exec_vbcast {tile v} (s : State) : exec (.vbcast tile v) s = execVbcast tile v s := rfl
@[simp] theorem exec_snop {tile x} (s : State) : exec (.snop tile x) s = execSnop tile x s := rfl
@[simp] theorem exec_ssend {tile x} (s : State) : exec (.ssend tile x) s = execSsend tile x s := rfl
@[simp] theorem exec_srecv {tile x} (s : State) : exec (.srecv tile x) s = execSrecv tile x s := rfl
@[simp] theorem exec_spass {tile x} (s : State) : exec (.spass tile x) s = execSpass tile x s := rfl
@[simp] theorem exec_spassw {tile x} (s : State) : exec (.spassw tile x) s = execSpassw tile x s := rfl
@[simp] theorem exec_frd {tile x} (s : State) : exec (.frd tile x) s = execFrd tile x s := rfl
@[simp] theorem exec_fwr {tile x} (s : State) : exec (.fwr tile x) s = execFwr tile x s := rfl
@[simp] theorem exec_gld {tile x} (s : State) : exec (.gld tile x) s = execGld tile x s := rfl
@[simp] theorem exec_gst {tile x} (s : State) : exec (.gst tile x) s = execGst tile x s := rfl
@[simp] theorem exec_gat {tile x} (s : State) : exec (.gat tile x) s = execGat tile x s := rfl
@[simp] theorem exec_gstf {tile x} (s : State) : exec (.gstf tile x) s = execGstf tile x s := rfl
@[simp] theorem exec_ffl {tile x} (s : State) : exec (.ffl tile x) s = execFfl tile x s := rfl
@[simp] theorem exec_fiv {tile x} (s : State) : exec (.fiv tile x) s = execFiv tile x s := rfl
@[simp] theorem exec_flitArrive {tile dir} (s : State) : exec (.flitArrive tile dir) s = execFlitArrive tile dir s := rfl
@[simp] theorem exec_streamOpComplete {tile} (s : State) : exec (.streamOpComplete tile) s = execStreamOpComplete tile s := rfl
@[simp] theorem exec_runaheadIssue {tile} (s : State) : exec (.runaheadIssue tile) s = execRunaheadIssue tile s := rfl
@[simp] theorem exec_runaheadReply {tile req} (s : State) : exec (.runaheadReply tile req) s = execRunaheadReply tile req s := rfl
@[simp] theorem exec_tileZeroComplete {tile} (s : State) : exec (.tileZeroComplete tile) s = execTileZeroComplete tile s := rfl
@[simp] theorem exec_firnRequest {tile runAhead ecc} (s : State) : exec (.firnRequest tile runAhead ecc) s = execFirnRequest tile runAhead ecc s := rfl
@[simp] theorem exec_firnMergeWindowClose {stack line} (s : State) : exec (.firnMergeWindowClose stack line) s = execFirnMergeWindowClose stack line s := rfl
@[simp] theorem exec_firnFillComplete {stack line} (s : State) : exec (.firnFillComplete stack line) s = execFirnFillComplete stack line s := rfl
@[simp] theorem exec_firnSliceZeroComplete {slice} (s : State) : exec (.firnSliceZeroComplete slice) s = execFirnSliceZeroComplete slice s := rfl
@[simp] theorem exec_firnFlush (s : State) : exec .firnFlush s = execFirnFlush s := rfl
@[simp] theorem exec_frnMaintFlush {stack mask} (s : State) : exec (.frnMaintFlush stack mask) s = execFrnMaintFlush stack mask s := rfl
@[simp] theorem exec_frnMaintFlushInvalidate {stack mask} (s : State) : exec (.frnMaintFlushInvalidate stack mask) s = execFrnMaintFlushInvalidate stack mask s := rfl
@[simp] theorem exec_frnMaintEnd {stack} (s : State) : exec (.frnMaintEnd stack) s = execFrnMaintEnd stack s := rfl
@[simp] theorem exec_vbBeatReplay {stack bundle pos} (s : State) : exec (.vbBeatReplay stack bundle pos) s = execVbBeatReplay stack bundle pos s := rfl
@[simp] theorem exec_vbEyeMeasure {stack bundle pos eye} (s : State) : exec (.vbEyeMeasure stack bundle pos eye) s = execVbEyeMeasure stack bundle pos eye s := rfl
@[simp] theorem exec_vbChannelFailing {stack bundle pos} (s : State) : exec (.vbChannelFailing stack bundle pos) s = execVbChannelFailing stack bundle pos s := rfl
@[simp] theorem exec_vbRemapComplete {stack bundle} (s : State) : exec (.vbRemapComplete stack bundle) s = execVbRemapComplete stack bundle s := rfl
@[simp] theorem exec_retiredListStoreWrite (s : State) : exec .retiredListStoreWrite s = execRetiredListStoreWrite s := rfl
@[simp] theorem exec_tileRetiredListWrite {src} (s : State) : exec (.tileRetiredListWrite src) s = execTileRetiredListWrite src s := rfl
@[simp] theorem exec_hbmAccess {stack addr op found} (s : State) : exec (.hbmAccess stack addr op found) s = execHbmAccess stack addr op found s := rfl
@[simp] theorem exec_hbmTempRead {stack temp} (s : State) : exec (.hbmTempRead stack temp) s = execHbmTempRead stack temp s := rfl
@[simp] theorem exec_hbmRefresh {stack bank} (s : State) : exec (.hbmRefresh stack bank) s = execHbmRefresh stack bank s := rfl
@[simp] theorem exec_hbmScrubRead {stack found} (s : State) : exec (.hbmScrubRead stack found) s = execHbmScrubRead stack found s := rfl
@[simp] theorem exec_hbmStackFail {stack} (s : State) : exec (.hbmStackFail stack) s = execHbmStackFail stack s := rfl
@[simp] theorem exec_hbmPortSilentTimeout {stack} (s : State) : exec (.hbmPortSilentTimeout stack) s = execHbmPortSilentTimeout stack s := rfl
@[simp] theorem exec_hbmPhyRelockTimeout {stack} (s : State) : exec (.hbmPhyRelockTimeout stack) s = execHbmPhyRelockTimeout stack s := rfl
@[simp] theorem exec_emitterSample {bank em meas margins} (s : State) : exec (.emitterSample bank em meas margins) s = execEmitterSample bank em meas margins s := rfl
@[simp] theorem exec_emitterSpareLocked {bank spare} (s : State) : exec (.emitterSpareLocked bank spare) s = execEmitterSpareLocked bank spare s := rfl
@[simp] theorem exec_swapSlot {owner} (s : State) : exec (.swapSlot owner) s = execSwapSlot owner s := rfl
@[simp] theorem exec_emitterSwapComplete {bank em} (s : State) : exec (.emitterSwapComplete bank em) s = execEmitterSwapComplete bank em s := rfl
@[simp] theorem exec_serviceEmitterFail {bank} (s : State) : exec (.serviceEmitterFail bank) s = execServiceEmitterFail bank s := rfl
@[simp] theorem exec_ringTrackingError {chan rx} (s : State) : exec (.ringTrackingError chan rx) s = execRingTrackingError chan rx s := rfl
@[simp] theorem exec_serviceSlotStart {owner} (s : State) : exec (.serviceSlotStart owner) s = execServiceSlotStart owner s := rfl
@[simp] theorem exec_slotNotice {ev} (s : State) : exec (.slotNotice ev) s = execSlotNotice ev s := rfl
@[simp] theorem exec_serviceSlotJudge {chan rx vals margin} (s : State) : exec (.serviceSlotJudge chan rx vals margin) s = execServiceSlotJudge chan rx vals margin s := rfl
@[simp] theorem exec_serviceSlotEnd {chan rx} (s : State) : exec (.serviceSlotEnd chan rx) s = execServiceSlotEnd chan rx s := rfl
@[simp] theorem exec_slotRequest {h chan} (s : State) : exec (.slotRequest h chan) s = execSlotRequest h chan s := rfl
@[simp] theorem exec_marginReport {ev} (s : State) : exec (.marginReport ev) s = execMarginReport ev s := rfl
@[simp] theorem exec_lightLoss {port fibreB} (s : State) : exec (.lightLoss port fibreB) s = execLightLoss port fibreB s := rfl
@[simp] theorem exec_fibreDown {port fibreB} (s : State) : exec (.fibreDown port fibreB) s = execFibreDown port fibreB s := rfl
@[simp] theorem exec_launchGateClose {port fibreB silent} (s : State) : exec (.launchGateClose port fibreB silent) s = execLaunchGateClose port fibreB silent s := rfl
@[simp] theorem exec_launchGateClosed {port fibreB} (s : State) : exec (.launchGateClosed port fibreB) s = execLaunchGateClosed port fibreB s := rfl
@[simp] theorem exec_lightReturn {port fibreB} (s : State) : exec (.lightReturn port fibreB) s = execLightReturn port fibreB s := rfl
@[simp] theorem exec_probeBurst {port fibreB} (s : State) : exec (.probeBurst port fibreB) s = execProbeBurst port fibreB s := rfl
@[simp] theorem exec_probe {h heard} (s : State) : exec (.probe h heard) s = execProbe h heard s := rfl
@[simp] theorem exec_ident {h dev port fibreB dom} (s : State) : exec (.ident h dev port fibreB dom) s = execIdent h dev port fibreB dom s := rfl
@[simp] theorem exec_wiringRecheck {port} (s : State) : exec (.wiringRecheck port) s = execWiringRecheck port s := rfl
@[simp] theorem exec_linkTrainingComplete {port margins sites} (s : State) : exec (.linkTrainingComplete port margins sites) s = execLinkTrainingComplete port margins sites s := rfl
@[simp] theorem exec_phoSteerGo {src} (s : State) : exec (.phoSteerGo src) s = execPhoSteerGo src s := rfl
@[simp] theorem exec_phoSteerCmdGo {al v} (s : State) : exec (.phoSteerCmdGo al v) s = execPhoSteerCmdGo al v s := rfl
@[simp] theorem exec_steerPropose {h gen t groups} (s : State) : exec (.steerPropose h gen t groups) s = execSteerPropose h gen t groups s := rfl
@[simp] theorem exec_steerAnswer {h gen accept} (s : State) : exec (.steerAnswer h gen accept) s = execSteerAnswer h gen accept s := rfl
@[simp] theorem exec_steerDecide (s : State) : exec .steerDecide s = execSteerDecide s := rfl
@[simp] theorem exec_steerApply (s : State) : exec .steerApply s = execSteerApply s := rfl
@[simp] theorem exec_groupStart {group} (s : State) : exec (.groupStart group) s = execGroupStart group s := rfl
@[simp] theorem exec_lsrIntlkNAssert (s : State) : exec .lsrIntlkNAssert s = execLsrIntlkNAssert s := rfl
@[simp] theorem exec_lsrIntlkNRelease (s : State) : exec .lsrIntlkNRelease s = execLsrIntlkNRelease s := rfl
@[simp] theorem exec_frameReceive {lane errs hdr items} (s : State) : exec (.frameReceive lane errs hdr items) s = execFrameReceive lane errs hdr items s := rfl
@[simp] theorem exec_frameSkipTimeout {stream} (s : State) : exec (.frameSkipTimeout stream) s = execFrameSkipTimeout stream s := rfl
@[simp] theorem exec_creditFlit {port} (s : State) : exec (.creditFlit port) s = execCreditFlit port s := rfl
@[simp] theorem exec_creditSend {port} (s : State) : exec (.creditSend port) s = execCreditSend port s := rfl
@[simp] theorem exec_credit {hdr flit} (s : State) : exec (.credit hdr flit) s = execCredit hdr flit s := rfl
@[simp] theorem exec_packetStart {port idle stallNs darkNs} (s : State) : exec (.packetStart port idle stallNs darkNs) s = execPacketStart port idle stallNs darkNs s := rfl
@[simp] theorem exec_packetForward {port ch} (s : State) : exec (.packetForward port ch) s = execPacketForward port ch s := rfl
@[simp] theorem exec_headBusyTimeout {port ch} (s : State) : exec (.headBusyTimeout port ch) s = execHeadBusyTimeout port ch s := rfl
@[simp] theorem exec_ldReq {req} (s : State) : exec (.ldReq req) s = execLdReq req s := rfl
@[simp] theorem exec_ldRspS {port ch} (s : State) : exec (.ldRspS port ch) s = execLdRspS port ch s := rfl
@[simp] theorem exec_ldRsp {port ch} (s : State) : exec (.ldRsp port ch) s = execLdRsp port ch s := rfl
@[simp] theorem exec_stS {req} (s : State) : exec (.stS req) s = execStS req s := rfl
@[simp] theorem exec_stReq {req} (s : State) : exec (.stReq req) s = execStReq req s := rfl
@[simp] theorem exec_stfS {req} (s : State) : exec (.stfS req) s = execStfS req s := rfl
@[simp] theorem exec_stf {req} (s : State) : exec (.stf req) s = execStf req s := rfl
@[simp] theorem exec_ack {port ch} (s : State) : exec (.ack port ch) s = execAck port ch s := rfl
@[simp] theorem exec_atomic {req} (s : State) : exec (.atomic req) s = execAtomic req s := rfl
@[simp] theorem exec_syncQuery {port ch} (s : State) : exec (.syncQuery port ch) s = execSyncQuery port ch s := rfl
@[simp] theorem exec_atRsp {port ch} (s : State) : exec (.atRsp port ch) s = execAtRsp port ch s := rfl
@[simp] theorem exec_xput {port ch} (s : State) : exec (.xput port ch) s = execXput port ch s := rfl
@[simp] theorem exec_xputAck {port ch} (s : State) : exec (.xputAck port ch) s = execXputAck port ch s := rfl
@[simp] theorem exec_xget {port ch} (s : State) : exec (.xget port ch) s = execXget port ch s := rfl
@[simp] theorem exec_xgetRsp {port ch} (s : State) : exec (.xgetRsp port ch) s = execXgetRsp port ch s := rfl
@[simp] theorem exec_xmsg {port ch} (s : State) : exec (.xmsg port ch) s = execXmsg port ch s := rfl
@[simp] theorem exec_xmsgAck {port ch} (s : State) : exec (.xmsgAck port ch) s = execXmsgAck port ch s := rfl
@[simp] theorem exec_coll {req} (s : State) : exec (.coll req) s = execColl req s := rfl
@[simp] theorem exec_collCtl {req} (s : State) : exec (.collCtl req) s = execCollCtl req s := rfl
@[simp] theorem exec_mgmt {ev} (s : State) : exec (.mgmt ev) s = execMgmt ev s := rfl
@[simp] theorem exec_mgmtRsp {port ch} (s : State) : exec (.mgmtRsp port ch) s = execMgmtRsp port ch s := rfl
@[simp] theorem exec_mgmtResendTimeout {tag} (s : State) : exec (.mgmtResendTimeout tag) s = execMgmtResendTimeout tag s := rfl
@[simp] theorem exec_requestTimeout {id} (s : State) : exec (.requestTimeout id) s = execRequestTimeout id s := rfl
@[simp] theorem exec_requestLastChance {id} (s : State) : exec (.requestLastChance id) s = execRequestLastChance id s := rfl
@[simp] theorem exec_busyResend {id} (s : State) : exec (.busyResend id) s = execBusyResend id s := rfl
@[simp] theorem exec_resyncQuerySend {eng dest} (s : State) : exec (.resyncQuerySend eng dest) s = execResyncQuerySend eng dest s := rfl
@[simp] theorem exec_resyncDuplicateResend {id} (s : State) : exec (.resyncDuplicateResend id) s = execResyncDuplicateResend id s := rfl
@[simp] theorem exec_flaggedStoreSend {id} (s : State) : exec (.flaggedStoreSend id) s = execFlaggedStoreSend id s := rfl
@[simp] theorem exec_neighbourPortsDown {dev} (s : State) : exec (.neighbourPortsDown dev) s = execNeighbourPortsDown dev s := rfl
@[simp] theorem exec_neighbourLostLocal {dev} (s : State) : exec (.neighbourLostLocal dev) s = execNeighbourLostLocal dev s := rfl
@[simp] theorem exec_peerDown {hdr payload} (s : State) : exec (.peerDown hdr payload) s = execPeerDown hdr payload s := rfl
@[simp] theorem exec_routeUpdate {hdr payload} (s : State) : exec (.routeUpdate hdr payload) s = execRouteUpdate hdr payload s := rfl
@[simp] theorem exec_routeAck {hdr payload} (s : State) : exec (.routeAck hdr payload) s = execRouteAck hdr payload s := rfl
@[simp] theorem exec_routeSegmentResend (s : State) : exec .routeSegmentResend s = execRouteSegmentResend s := rfl
@[simp] theorem exec_routeUpdateActivate (s : State) : exec .routeUpdateActivate s = execRouteUpdateActivate s := rfl
@[simp] theorem exec_mgmtAliveSend (s : State) : exec .mgmtAliveSend s = execMgmtAliveSend s := rfl
@[simp] theorem exec_mgmtAlive {hdr payload} (s : State) : exec (.mgmtAlive hdr payload) s = execMgmtAlive hdr payload s := rfl
@[simp] theorem exec_mgmtSilentTimeout {dev} (s : State) : exec (.mgmtSilentTimeout dev) s = execMgmtSilentTimeout dev s := rfl
@[simp] theorem exec_dmClaimSend (s : State) : exec .dmClaimSend s = execDmClaimSend s := rfl
@[simp] theorem exec_dmClaim {hdr payload} (s : State) : exec (.dmClaim hdr payload) s = execDmClaim hdr payload s := rfl
@[simp] theorem exec_dmAck {hdr payload} (s : State) : exec (.dmAck hdr payload) s = execDmAck hdr payload s := rfl
@[simp] theorem exec_dmRenewSend (s : State) : exec .dmRenewSend s = execDmRenewSend s := rfl
@[simp] theorem exec_dmRenew {hdr payload} (s : State) : exec (.dmRenew hdr payload) s = execDmRenew hdr payload s := rfl
@[simp] theorem exec_dmRenewAck {hdr payload} (s : State) : exec (.dmRenewAck hdr payload) s = execDmRenewAck hdr payload s := rfl
@[simp] theorem exec_dmHolderExpiry (s : State) : exec .dmHolderExpiry s = execDmHolderExpiry s := rfl
@[simp] theorem exec_dmMgmtCycle (s : State) : exec .dmMgmtCycle s = execDmMgmtCycle s := rfl
@[simp] theorem exec_dmCopy {hdr payload agrees} (s : State) : exec (.dmCopy hdr payload agrees) s = execDmCopy hdr payload agrees s := rfl
@[simp] theorem exec_dmCopyReport {hdr payload} (s : State) : exec (.dmCopyReport hdr payload) s = execDmCopyReport hdr payload s := rfl
@[simp] theorem exec_dmSwap {src} (s : State) : exec (.dmSwap src) s = execDmSwap src s := rfl
@[simp] theorem exec_dmSwapPeriodExpire (s : State) : exec .dmSwapPeriodExpire s = execDmSwapPeriodExpire s := rfl
@[simp] theorem exec_timeExchangeSend {port} (s : State) : exec (.timeExchangeSend port) s = execTimeExchangeSend port s := rfl
@[simp] theorem exec_timeReq {h turn} (s : State) : exec (.timeReq h turn) s = execTimeReq h turn s := rfl
@[simp] theorem exec_timeResp {h t2 t3 ftState hops} (s : State) : exec (.timeResp h t2 t3 ftState hops) s = execTimeResp h t2 t3 ftState hops s := rfl
@[simp] theorem exec_calTrimUpdate {tb plls} (s : State) : exec (.calTrimUpdate tb plls) s = execCalTrimUpdate tb plls s := rfl
@[simp] theorem exec_syncPpsEdge (s : State) : exec .syncPpsEdge s = execSyncPpsEdge s := rfl
@[simp] theorem exec_ftWrapTest {src} (s : State) : exec (.ftWrapTest src) s = execFtWrapTest src s := rfl
@[simp] theorem exec_freqAnnounce {src} (s : State) : exec (.freqAnnounce src) s = execFreqAnnounce src s := rfl
@[simp] theorem exec_freqAck {src} (s : State) : exec (.freqAck src) s = execFreqAck src s := rfl
@[simp] theorem exec_freqSupplyCommand (s : State) : exec .freqSupplyCommand s = execFreqSupplyCommand s := rfl
@[simp] theorem exec_freqChangeStart (s : State) : exec .freqChangeStart s = execFreqChangeStart s := rfl
@[simp] theorem exec_freqChangeEnd (s : State) : exec .freqChangeEnd s = execFreqChangeEnd s := rfl
@[simp] theorem exec_pllLossOfLock {d} (s : State) : exec (.pllLossOfLock d) s = execPllLossOfLock d s := rfl
@[simp] theorem exec_pllRelock {d ns} (s : State) : exec (.pllRelock d ns) s = execPllRelock d ns s := rfl
@[simp] theorem exec_pllLockTimeout {d} (s : State) : exec (.pllLockTimeout d) s = execPllLockTimeout d s := rfl
@[simp] theorem exec_refclkLoss {pcie} (s : State) : exec (.refclkLoss pcie) s = execRefclkLoss pcie s := rfl
@[simp] theorem exec_replicaAlarm {t} (s : State) : exec (.replicaAlarm t) s = execReplicaAlarm t s := rfl
@[simp] theorem exec_replicaAlarmEnd {t} (s : State) : exec (.replicaAlarmEnd t) s = execReplicaAlarmEnd t s := rfl
@[simp] theorem exec_replicaWarn {t} (s : State) : exec (.replicaWarn t) s = execReplicaWarn t s := rfl
@[simp] theorem exec_limitReportSend (s : State) : exec .limitReportSend s = execLimitReportSend s := rfl
@[simp] theorem exec_limitReport {src} (s : State) : exec (.limitReport src) s = execLimitReport src s := rfl
@[simp] theorem exec_budgetCycle {fixed power} (s : State) : exec (.budgetCycle fixed power) s = execBudgetCycle fixed power s := rfl
@[simp] theorem exec_stackBudgetReceive {t} (s : State) : exec (.stackBudgetReceive t) s = execStackBudgetReceive t s := rfl
@[simp] theorem exec_stackBudgetTimeout {t} (s : State) : exec (.stackBudgetTimeout t) s = execStackBudgetTimeout t s := rfl
@[simp] theorem exec_limiterLoopStep {t power} (s : State) : exec (.limiterLoopStep t power) s = execLimiterLoopStep t power s := rfl
@[simp] theorem exec_thermalStepping (s : State) : exec .thermalStepping s = execThermalStepping s := rfl
@[simp] theorem exec_stackRuleEval {t smp} (s : State) : exec (.stackRuleEval t smp) s = execStackRuleEval t smp s := rfl
@[simp] theorem exec_sensorSuspect {t sensor} (s : State) : exec (.sensorSuspect t sensor) s = execSensorSuspect t sensor s := rfl
@[simp] theorem exec_firnSensorsSuspect {t} (s : State) : exec (.firnSensorsSuspect t) s = execFirnSensorsSuspect t s := rfl
@[simp] theorem exec_thermalTrip {t sensor} (s : State) : exec (.thermalTrip t sensor) s = execThermalTrip t sensor s := rfl
@[simp] theorem exec_capUnreachableSet (s : State) : exec .capUnreachableSet s = execCapUnreachableSet s := rfl
@[simp] theorem exec_pwrbrkNAssert (s : State) : exec .pwrbrkNAssert s = execPwrbrkNAssert s := rfl
@[simp] theorem exec_pwrbrkNRelease (s : State) : exec .pwrbrkNRelease s = execPwrbrkNRelease s := rfl
@[simp] theorem exec_fenceNAssert (s : State) : exec .fenceNAssert s = execFenceNAssert s := rfl
@[simp] theorem exec_rackposChange {strap} (s : State) : exec (.rackposChange strap) s = execRackposChange strap s := rfl
@[simp] theorem exec_trstNAssert (s : State) : exec .trstNAssert s = execTrstNAssert s := rfl
@[simp] theorem exec_pinStuckTimeout {pin} (s : State) : exec (.pinStuckTimeout pin) s = execPinStuckTimeout pin s := rfl
@[simp] theorem exec_pinExcessEdge {pin} (s : State) : exec (.pinExcessEdge pin) s = execPinExcessEdge pin s := rfl
@[simp] theorem exec_tapInstruction {op} (s : State) : exec (.tapInstruction op) s = execTapInstruction op s := rfl
@[simp] theorem exec_bar4Read {off len} (s : State) : exec (.bar4Read off len) s = execBar4Read off len s := rfl
@[simp] theorem exec_bar4Write {off bs ep} (s : State) : exec (.bar4Write off bs ep) s = execBar4Write off bs ep s := rfl
@[simp] theorem exec_hdmaPoll {eng} (s : State) : exec (.hdmaPoll eng) s = execHdmaPoll eng s := rfl
@[simp] theorem exec_hdmaDescriptorStart {eng num} (s : State) : exec (.hdmaDescriptorStart eng num) s = execHdmaDescriptorStart eng num s := rfl
@[simp] theorem exec_hdmaDescriptorComplete {eng num} (s : State) : exec (.hdmaDescriptorComplete eng num) s = execHdmaDescriptorComplete eng num s := rfl
@[simp] theorem exec_collPoll {cu} (s : State) : exec (.collPoll cu) s = execCollPoll cu s := rfl
@[simp] theorem exec_collDescriptorTake {cu} (s : State) : exec (.collDescriptorTake cu) s = execCollDescriptorTake cu s := rfl
@[simp] theorem exec_collStageComplete {cu id block} (s : State) : exec (.collStageComplete cu id block) s = execCollStageComplete cu id block s := rfl
@[simp] theorem exec_collComplete {cu id} (s : State) : exec (.collComplete cu id) s = execCollComplete cu id s := rfl
@[simp] theorem exec_collTimeout {cu id} (s : State) : exec (.collTimeout cu id) s = execCollTimeout cu id s := rfl
@[simp] theorem exec_memWindowsWrite {src} (s : State) : exec (.memWindowsWrite src) s = execMemWindowsWrite src s := rfl
@[simp] theorem exec_memFence {src} (s : State) : exec (.memFence src) s = execMemFence src s := rfl
@[simp] theorem exec_hostBar4Base {src} (s : State) : exec (.hostBar4Base src) s = execHostBar4Base src s := rfl
@[simp] theorem exec_errAck {src} (s : State) : exec (.errAck src) s = execErrAck src s := rfl
@[simp] theorem exec_errInject {src} (s : State) : exec (.errInject src) s = execErrInject src s := rfl
@[simp] theorem exec_errProdLockSet {src} (s : State) : exec (.errProdLockSet src) s = execErrProdLockSet src s := rfl
@[simp] theorem exec_fuseWriteComplete (s : State) : exec .fuseWriteComplete s = execFuseWriteComplete s := rfl
@[simp] theorem exec_secKeyRevoke {src} (s : State) : exec (.secKeyRevoke src) s = execSecKeyRevoke src s := rfl
@[simp] theorem exec_secSvnCommit {src} (s : State) : exec (.secSvnCommit src) s = execSecSvnCommit src s := rfl
@[simp] theorem exec_secMeasExtend {src} (s : State) : exec (.secMeasExtend src) s = execSecMeasExtend src s := rfl
@[simp] theorem exec_getVersion {conn} (s : State) : exec (.getVersion conn) s = execGetVersion conn s := rfl
@[simp] theorem exec_getCapabilities {conn ver} (s : State) : exec (.getCapabilities conn ver) s = execGetCapabilities conn ver s := rfl
@[simp] theorem exec_negotiateAlgorithms {conn ver mlDsa44 sha3 dmtf} (s : State) : exec (.negotiateAlgorithms conn ver mlDsa44 sha3 dmtf) s = execNegotiateAlgorithms conn ver mlDsa44 sha3 dmtf s := rfl
@[simp] theorem exec_getDigests {conn ver} (s : State) : exec (.getDigests conn ver) s = execGetDigests conn ver s := rfl
@[simp] theorem exec_getCertificate {conn ver slot off len} (s : State) : exec (.getCertificate conn ver slot off len) s = execGetCertificate conn ver slot off len s := rfl
@[simp] theorem exec_challenge {conn ver slot nonce summary signature} (s : State) : exec (.challenge conn ver slot nonce summary signature) s = execChallenge conn ver slot nonce summary signature s := rfl
@[simp] theorem exec_getMeasurements {conn ver index signature} (s : State) : exec (.getMeasurements conn ver index signature) s = execGetMeasurements conn ver index signature s := rfl
@[simp] theorem exec_chunkGet {conn ver handle num} (s : State) : exec (.chunkGet conn ver handle num) s = execChunkGet conn ver handle num s := rfl
@[simp] theorem exec_cvuStart {unit src} (s : State) : exec (.cvuStart unit src) s = execCvuStart unit src s := rfl
@[simp] theorem exec_cvuStop {unit src} (s : State) : exec (.cvuStop unit src) s = execCvuStop unit src s := rfl
@[simp] theorem exec_cvuLoadComplete {unit} (s : State) : exec (.cvuLoadComplete unit) s = execCvuLoadComplete unit s := rfl
@[simp] theorem exec_cvuScanEnd {unit} (s : State) : exec (.cvuScanEnd unit) s = execCvuScanEnd unit s := rfl
@[simp] theorem exec_moraineSample {hists exts} (s : State) : exec (.moraineSample hists exts) s = execMoraineSample hists exts s := rfl
@[simp] theorem exec_morFreeze {src} (s : State) : exec (.morFreeze src) s = execMorFreeze src s := rfl
@[simp] theorem exec_morFreezeExpire (s : State) : exec .morFreezeExpire s = execMorFreezeExpire s := rfl
@[simp] theorem exec_morFlush {src} (s : State) : exec (.morFlush src) s = execMorFlush src s := rfl
@[simp] theorem exec_snapshotDue (s : State) : exec .snapshotDue s = execSnapshotDue s := rfl
@[simp] theorem exec_snapshotWriteComplete {ok} (s : State) : exec (.snapshotWriteComplete ok) s = execSnapshotWriteComplete ok s := rfl
@[simp] theorem exec_operatingHour {ageD slack slope eye} (s : State) : exec (.operatingHour ageD slack slope eye) s = execOperatingHour ageD slack slope eye s := rfl
@[simp] theorem exec_emitterBiasStep (s : State) : exec .emitterBiasStep s = execEmitterBiasStep s := rfl
@[simp] theorem exec_calExportTake {src} (s : State) : exec (.calExportTake src) s = execCalExportTake src s := rfl
@[simp] theorem exec_matrixOpStart {tile} (s : State) : exec (.matrixOpStart tile) s = execMatrixOpStart tile s := rfl
@[simp] theorem exec_vectorResultWrite {tile idx} (s : State) : exec (.vectorResultWrite tile idx) s = execVectorResultWrite tile idx s := rfl
@[simp] theorem exec_firnModeChangeEnd {slice} (s : State) : exec (.firnModeChangeEnd slice) s = execFirnModeChangeEnd slice s := rfl
@[simp] theorem exec_hbmPhyLossOfLock {stack} (s : State) : exec (.hbmPhyLossOfLock stack) s = execHbmPhyLossOfLock stack s := rfl
@[simp] theorem exec_hbmPhyRetrained {stack} (s : State) : exec (.hbmPhyRetrained stack) s = execHbmPhyRetrained stack s := rfl
@[simp] theorem exec_hbmZeroComplete (s : State) : exec .hbmZeroComplete s = execHbmZeroComplete s := rfl
@[simp] theorem exec_collHoldExpire {cu} (s : State) : exec (.collHoldExpire cu) s = execCollHoldExpire cu s := rfl
@[simp] theorem exec_collSteerWaitEnd {cu id} (s : State) : exec (.collSteerWaitEnd cu id) s = execCollSteerWaitEnd cu id s := rfl
@[simp] theorem exec_hdmaHostReadCompletion {eng num off res} (s : State) : exec (.hdmaHostReadCompletion eng num off res) s = execHdmaHostReadCompletion eng num off res s := rfl
@[simp] theorem exec_bar4Resize {log} (s : State) : exec (.bar4Resize log) s = execBar4Resize log s := rfl
@[simp] theorem exec_pcieLinkUp (s : State) : exec .pcieLinkUp s = execPcieLinkUp s := rfl
@[simp] theorem exec_replicaWarnEnd {t} (s : State) : exec (.replicaWarnEnd t) s = execReplicaWarnEnd t s := rfl
@[simp] theorem exec_capUnreachableClear (s : State) : exec .capUnreachableClear s = execCapUnreachableClear s := rfl
@[simp] theorem exec_fabricTimeWrap (s : State) : exec .fabricTimeWrap s = execFabricTimeWrap s := rfl
@[simp] theorem exec_vddSrcDip {depth} (s : State) : exec (.vddSrcDip depth) s = execVddSrcDip depth s := rfl
@[simp] theorem exec_spdmUnsupportedRequest {conn} (s : State) : exec (.spdmUnsupportedRequest conn) s = execSpdmUnsupportedRequest conn s := rfl
@[simp] theorem exec_fenceNRelease (s : State) : exec .fenceNRelease s = execFenceNRelease s := rfl
@[simp] theorem exec_trstNRelease (s : State) : exec .trstNRelease s = execTrstNRelease s := rfl

end Sys2Proof.Machine
end

