-- ==== Sys2Proof/Laws/Store.lean ====
section
/-! SUPPORT. Laws of the sparse maps and byte memories: reading after writing, writing twice, and the canonical form. -/

namespace Sys2Proof.Machine

variable {α : Type}

/-! ### Reading after writing -/

theorem SMap.get_ins_same (d v : α) (k : Nat) (m : SMap α) (h : ∀ p ∈ m, p.1 ≠ k) : SMap.get d (SMap.ins k v m) k = v := by
  induction m with
  | nil => simp [SMap.ins, SMap.get]
  | cons p m ih =>
    obtain ⟨k', v'⟩ := p
    have h' : k' ≠ k := h (k', v') (by simp)
    have hm : ∀ p ∈ m, p.1 ≠ k := fun p hp => h p (by simp [hp])
    by_cases hlt : k < k' <;> simp [SMap.ins, SMap.get, hlt, h', ih hm]

theorem SMap.get_ins_other (d v : α) (k j : Nat) (h : j ≠ k) (m : SMap α) :
    SMap.get d (SMap.ins k v m) j = SMap.get d m j := by
  induction m with
  | nil => simp [SMap.ins, SMap.get, h.symm]
  | cons p m ih =>
    obtain ⟨k', v'⟩ := p
    by_cases hlt : k < k'
    · simp [SMap.ins, SMap.get, hlt, h.symm]
    · simp [SMap.ins, SMap.get, hlt, ih]

theorem SMap.mem_del (k : Nat) (m : SMap α) : ∀ p ∈ SMap.del k m, p.1 ≠ k := by
  induction m with
  | nil => simp [SMap.del]
  | cons p m ih =>
    obtain ⟨k', v'⟩ := p
    by_cases h : k' = k
    · simpa [SMap.del, h] using ih
    · simp only [SMap.del, h, if_false, List.mem_cons]
      rintro q (rfl | hq)
      · exact h
      · exact ih q hq

theorem SMap.get_del_same (d : α) (k : Nat) (m : SMap α) : SMap.get d (SMap.del k m) k = d := by
  induction m with
  | nil => simp [SMap.del, SMap.get]
  | cons p m ih =>
    obtain ⟨k', v'⟩ := p
    by_cases h : k' = k <;> simp [SMap.del, SMap.get, h, ih]

theorem SMap.get_del_other (d : α) (k j : Nat) (hj : j ≠ k) (m : SMap α) :
    SMap.get d (SMap.del k m) j = SMap.get d m j := by
  induction m with
  | nil => simp [SMap.del]
  | cons p m ih =>
    obtain ⟨k', v'⟩ := p
    by_cases h : k' = k
    · subst h
      simp [SMap.del, SMap.get, ih, hj.symm]
    · simp [SMap.del, SMap.get, h, ih]

@[simp] theorem SMap.get_set_same [DecidableEq α] (d v : α) (k : Nat) (m : SMap α) :
    SMap.get d (SMap.set d m k v) k = v := by
  by_cases h : v = d
  · simp [SMap.set, h, SMap.get_del_same]
  · simp [SMap.set, h, SMap.get_ins_same d v k _ (SMap.mem_del k m)]

theorem SMap.get_set_other [DecidableEq α] (d v : α) (k j : Nat) (h : j ≠ k) (m : SMap α) :
    SMap.get d (SMap.set d m k v) j = SMap.get d m j := by
  by_cases hv : v = d
  · simp [SMap.set, hv, SMap.get_del_other d k j h]
  · simp [SMap.set, hv, SMap.get_ins_other d v k j h, SMap.get_del_other d k j h]

/-! ### Writing twice -/

theorem SMap.del_del (k : Nat) (m : SMap α) : SMap.del k (SMap.del k m) = SMap.del k m := by
  induction m with
  | nil => simp [SMap.del]
  | cons p m ih =>
    obtain ⟨k', v'⟩ := p
    by_cases h : k' = k <;> simp [SMap.del, h, ih]

theorem SMap.del_ins (k : Nat) (v : α) (m : SMap α) : SMap.del k (SMap.ins k v m) = SMap.del k m := by
  induction m with
  | nil => simp [SMap.ins, SMap.del]
  | cons p m ih =>
    obtain ⟨k', v'⟩ := p
    by_cases hlt : k < k'
    · simp [SMap.ins, SMap.del, hlt]
    · by_cases h : k' = k <;> simp [SMap.ins, SMap.del, hlt, h, ih]

@[simp] theorem SMap.set_set [DecidableEq α] (d v w : α) (k : Nat) (m : SMap α) :
    SMap.set d (SMap.set d m k v) k w = SMap.set d m k w := by
  have h : SMap.del k (SMap.set d m k v) = SMap.del k m := by
    by_cases hv : v = d <;> simp [SMap.set, hv, SMap.del_del, SMap.del_ins]
  show (if w = d then SMap.del k (SMap.set d m k v) else SMap.ins k w (SMap.del k (SMap.set d m k v))) = SMap.set d m k w
  rw [h]; rfl

/-! ### The canonical form -/

theorem SMap.rising_weaken (lo lo' : Option Nat) (h : ∀ l, lo' = some l → ∃ l', lo = some l' ∧ l ≤ l') :
    ∀ m : SMap α, SMap.rising lo m = true → SMap.rising lo' m = true
  | [], _ => by simp [SMap.rising]
  | (k, v) :: m, hr => by
    simp only [SMap.rising, Bool.and_eq_true] at hr ⊢
    refine ⟨?_, hr.2⟩
    cases lo' with
    | none => rfl
    | some l =>
      obtain ⟨l', rfl, hl⟩ := h l rfl
      have := hr.1
      simp only [decide_eq_true_eq] at this ⊢
      omega

theorem SMap.rising_del (k : Nat) : ∀ (lo : Option Nat) (m : SMap α), SMap.rising lo m = true →
    SMap.rising lo (SMap.del k m) = true
  | _, [], _ => by simp [SMap.del, SMap.rising]
  | lo, (k', v') :: m, hr => by
    simp only [SMap.rising, Bool.and_eq_true] at hr
    by_cases h : k' = k
    · simp only [SMap.del, h, if_true]
      refine SMap.rising_del k lo m (SMap.rising_weaken (some k') lo ?_ m hr.2)
      intro l hl
      subst hl
      have := hr.1
      simp only [decide_eq_true_eq] at this
      exact ⟨k', rfl, by omega⟩
    · simp only [SMap.del, h, if_false, SMap.rising, Bool.and_eq_true]
      exact ⟨hr.1, SMap.rising_del k (some k') m hr.2⟩

theorem SMap.rising_ins (k : Nat) (v : α) : ∀ (lo : Option Nat) (m : SMap α), SMap.rising lo m = true →
    (∀ l, lo = some l → l < k) → (∀ p ∈ m, p.1 ≠ k) → SMap.rising lo (SMap.ins k v m) = true
  | lo, [], _, hl, _ => by
    cases lo with
    | none => simp [SMap.ins, SMap.rising]
    | some l => simpa [SMap.ins, SMap.rising] using hl l rfl
  | lo, (k', v') :: m, hr, hl, hm => by
    simp only [SMap.rising, Bool.and_eq_true] at hr
    have hne : k' ≠ k := hm (k', v') (by simp)
    by_cases hlt : k < k'
    · simp only [SMap.ins, hlt, if_true, SMap.rising, Bool.and_eq_true, decide_eq_true_eq, true_and]
      refine ⟨?_, hr.2⟩
      cases lo with
      | none => rfl
      | some l => simpa using hl l rfl
    · simp only [SMap.ins, hlt, if_false, SMap.rising, Bool.and_eq_true]
      refine ⟨hr.1, SMap.rising_ins k v (some k') m hr.2 ?_ (fun p hp => hm p (by simp [hp]))⟩
      intro l hl'
      cases hl'
      omega

theorem SMap.mem_del_mem (k : Nat) (m : SMap α) (p : Nat × α) (h : p ∈ SMap.del k m) : p ∈ m := by
  induction m with
  | nil => simp [SMap.del] at h
  | cons q m ih =>
    obtain ⟨k', v'⟩ := q
    by_cases hk : k' = k
    · simp only [SMap.del, hk, if_true] at h
      exact List.mem_cons_of_mem _ (ih h)
    · simp only [SMap.del, hk, if_false, List.mem_cons] at h
      rcases h with rfl | h
      · simp
      · exact List.mem_cons_of_mem _ (ih h)

theorem SMap.mem_ins (k : Nat) (v : α) (m : SMap α) (p : Nat × α) (h : p ∈ SMap.ins k v m) : p = (k, v) ∨ p ∈ m := by
  induction m with
  | nil => simpa [SMap.ins] using h
  | cons q m ih =>
    obtain ⟨k', v'⟩ := q
    by_cases hlt : k < k'
    · simpa [SMap.ins, hlt] using h
    · simp only [SMap.ins, hlt, if_false, List.mem_cons] at h
      rcases h with rfl | h
      · simp
      · rcases ih h with h | h
        · exact .inl h
        · exact .inr (List.mem_cons_of_mem _ h)

/-- A write keeps the canonical form. -/
theorem SMap.wf_set [DecidableEq α] (d v : α) (k : Nat) (m : SMap α) (h : SMap.wf d m = true) :
    SMap.wf d (SMap.set d m k v) = true := by
  simp only [SMap.wf, Bool.and_eq_true, List.all_eq_true, decide_eq_true_eq] at h ⊢
  by_cases hv : v = d
  · simp only [SMap.set, hv, if_true]
    exact ⟨SMap.rising_del k none m h.1, fun p hp => h.2 p (SMap.mem_del_mem k m p hp)⟩
  · simp only [SMap.set, hv, if_false]
    refine ⟨SMap.rising_ins k v none _ (SMap.rising_del k none m h.1) (by simp) (SMap.mem_del k m), fun p hp => ?_⟩
    rcases SMap.mem_ins k v _ p hp with rfl | hp
    · exact hv
    · exact h.2 p (SMap.mem_del_mem k m p hp)

theorem SMap.rising_filter (f : Nat × α → Bool) : ∀ (lo : Option Nat) (m : SMap α), SMap.rising lo m = true →
    SMap.rising lo (m.filter f) = true
  | _, [], _ => by simp [SMap.rising]
  | lo, (k, v) :: m, hr => by
    simp only [SMap.rising, Bool.and_eq_true] at hr
    by_cases h : f (k, v) = true
    · simp only [List.filter_cons, h, if_true, SMap.rising, Bool.and_eq_true]
      exact ⟨hr.1, SMap.rising_filter f (some k) m hr.2⟩
    · simp only [List.filter_cons, h]
      refine SMap.rising_filter f lo m (SMap.rising_weaken (some k) lo ?_ m hr.2)
      intro l hl
      subst hl
      have := hr.1
      simp only [decide_eq_true_eq] at this
      exact ⟨k, rfl, by omega⟩

/-- Dropping entries keeps the canonical form. -/
theorem SMap.wf_filter [DecidableEq α] (d : α) (f : Nat × α → Bool) (m : SMap α) (h : SMap.wf d m = true) :
    SMap.wf d (m.filter f) = true := by
  simp only [SMap.wf, Bool.and_eq_true, List.all_eq_true, decide_eq_true_eq] at h ⊢
  exact ⟨SMap.rising_filter f none m h.1, fun p hp => h.2 p (List.mem_filter.mp hp).1⟩

/-! ### Byte memories -/

@[simp] theorem Mem.rd_wr_same (m : Mem) (a : Nat) (b : Byte) : Mem.rd (Mem.wr m a b) a = b := SMap.get_set_same 0#8 b a m

theorem Mem.rd_wr_other (m : Mem) (a c : Nat) (b : Byte) (h : c ≠ a) : Mem.rd (Mem.wr m a b) c = Mem.rd m c :=
  SMap.get_set_other 0#8 b a c h m

theorem Mem.wf_wr (m : Mem) (a : Nat) (b : Byte) (h : Memory.wf m = true) : Memory.wf (Mem.wr m a b) = true :=
  SMap.wf_set 0#8 b a m h

theorem Mem.wf_wrBytes (bs : List Byte) : ∀ (m : Mem) (a : Nat), Memory.wf m = true → Memory.wf (Mem.wrBytes m a bs) = true := by
  induction bs with
  | nil => intro m a h; exact h
  | cons b bs ih => intro m a h; exact ih _ _ (Mem.wf_wr m a b h)

theorem Mem.wf_zero (m : Mem) (lo n : Nat) (h : Memory.wf m = true) : Memory.wf (Mem.zero m lo n) = true :=
  SMap.wf_filter 0#8 _ m h

theorem Mem.rd_wrBytes_outside (bs : List Byte) : ∀ (m : Mem) (a c : Nat), (c < a ∨ a + bs.length ≤ c) →
    Mem.rd (Mem.wrBytes m a bs) c = Mem.rd m c := by
  induction bs with
  | nil => intro m a c _; rfl
  | cons b bs ih =>
    intro m a c h
    simp only [List.length_cons] at h
    rw [Mem.wrBytes, ih _ _ _ (by omega), Mem.rd_wr_other _ _ _ _ (by omega)]

end Sys2Proof.Machine
end

