-- ==== Sys2Proof/Laws/Tiles.lean ====
section
/-! SUPPORT. Laws of the operations on tiles: what a written tile reads as, and what a bundle's end leaves alone. -/

namespace Sys2Proof.Machine

@[simp] theorem State.tile_setTile (s : State) (n : Nat) (t : Tile) : (s.setTile n t).tile n = t := by
  simp [State.tile, State.setTile, State.onSerac]

theorem State.tile_setTile_other (s : State) (n m : Nat) (t : Tile) (h : m ≠ n) : (s.setTile n t).tile m = s.tile m := by
  simp [State.tile, State.setTile, State.onSerac, SMap.get_set_other _ _ _ _ h]

@[simp] theorem State.setTile_setTile (s : State) (n : Nat) (t u : Tile) : (s.setTile n t).setTile n u = s.setTile n u := by
  simp [State.setTile, State.onSerac]

@[simp] theorem State.tile_onProg (s : State) (tag : W32) (f : Prog → Prog) (n : Nat) : (s.onProg tag f).tile n = s.tile n := rfl
@[simp] theorem State.tile_onSched (s : State) (f : Sched → Sched) (n : Nat) : (s.onSched f).tile n = s.tile n := rfl

/-- With no injection armed no check of one acts. -/
theorem State.injects_none (s : State) (h : s.errs.inj = none) (unit cause : W16) (a g : Nat) :
    s.injects unit cause a g = false := by
  simp [State.injects, h]

theorem State.sramCe_none (s : State) (h : s.errs.inj = none) (n a len : Nat) : s.sramCe n a len = s := by
  simp only [State.sramCe]
  induction (List.range ((a % 16 + len + 15) / 16)) with
  | nil => rfl
  | cons i l ih =>
    rw [List.foldl_cons, State.injects_none s h]
    exact ih

/-- R38, R43: the next bundle is fetched from the code region. -/
theorem State.fetchNext_ok (s : State) (n : Nat) (t : Tile) (h : s.errs.inj = none)
    (hc : 16 * t.bundle + 16 ≤ t.codeBytes) (hb : t.bad (16 * t.bundle) 16 = false) :
    (s.setTile n t).fetchNext n = s.setTile n t.fetchLine := by
  have hl : ¬ t.codeBytes < 16 * t.bundle + 16 := by omega
  have h0 : (s.setTile n t).errs.inj = none := by simpa using h
  have hi : (s.setTile n t.fetchLine).errs.inj = none := by simpa using h
  simp [State.fetchNext, hl, hb, State.sramCe_none _ h0, State.injects_none _ hi]

/-- Going on from a bundle keeps what is not the bundle number and the loops. -/
theorem Tile.goAfter_codeBytes (t : Tile) (b : Nat) : (t.goAfter b).codeBytes = t.codeBytes := rfl

theorem Tile.goAfter_bad (t : Tile) (b a n : Nat) : (t.goAfter b).bad a n = t.bad a n := rfl

theorem Tile.goAfter_bundle_congr (t u : Tile) (b : Nat) (h : u.loops = t.loops) :
    (u.goAfter b).bundle = (t.goAfter b).bundle := by
  simp [Tile.goAfter, h]

/-- The end of a bundle in sequence, where the next bundle lies in the code region and can be read. -/
theorem State.ctlNext_ok (s : State) (n : Nat) (t u : Tile) (h : s.errs.inj = none) (hl : u.loops = t.loops)
    (hb : u.bundle = t.bundle) (hc : u.codeBytes = t.codeBytes)
    (hr : 16 * (t.goAfter t.bundle).bundle + 16 ≤ t.codeBytes)
    (hu : u.bad (16 * (t.goAfter t.bundle).bundle) 16 = false) :
    s.ctlNext n u = s.setTile n (u.goAfter u.bundle).fetchLine := by
  have hx : 16 * (u.goAfter u.bundle).bundle + 16 ≤ (u.goAfter u.bundle).codeBytes := by
    rw [Tile.goAfter_codeBytes, hc, hb, Tile.goAfter_bundle_congr t u t.bundle hl]
    exact hr
  refine State.fetchNext_ok s n _ h hx ?_
  rw [Tile.goAfter_bad, hb, Tile.goAfter_bundle_congr t u t.bundle hl]
  exact hu

end Sys2Proof.Machine
end

