-- ==== Sys2Proof/Tests/Slice0.lean ====
section
/-! SUPPORT. Tests: ill-formed commands that the check refuses, a state that meets the hypotheses of each clause of each statement,
and small checks of single steps against values worked out from the spec. -/

namespace Sys2Proof.Tests

open Sys2Proof Sys2Proof.Machine Sys2Proof.Claims

set_option Elab.async false

/-! ### Small states -/

/-- A device in FLOW whose cores run. -/
def base : State := { State.reset with
  pkg := { Pkg.reset with dev := .flow, discovered := true }
  firm := { Firm.reset with cores := RF.all 3 ⟨.running, 0, 0, none⟩, load := { Load.reset with st := .done } } }

def tile0 : Tile := { Tile.reset with st := .running, prog := some 7, codeBytes := 4096 }

/-- `base` with a running tile 0. -/
def tileS (f : Tile → Tile) : State := base.setTile 0 (f tile0)

def img0 : ImageInfo :=
  { span := false, priv := false, preemptible := true, size := 4096, mapKind := 0, mapDigest := 0, sects := [], segReqs := [],
    relocs := [], lives := [], raDepth := 0, blockTable := 8192, blockCount := 2, stageBytes := 0, codeBytes := 4096, ctxSize := 0,
    place := [], phases := [⟨1, 2, 0, false⟩] }

def prog0 : Prog :=
  { tag := 7, prio := 0, quantum := 10, quantumLeft := 10, notifyTrap := false, imageAddr := 0, ctxAddr := 0, startFtime := 0,
    jobMembers := 0, jobId := 0, ctxUnits := 0, segs := RF.all 4 ⟨true, true, true, false, true, true, true, 16, 0⟩, img := img0,
    st := .running, slot := some 0, since := 0, preemptOk := true, reserved := false, phase := 0, phaseDone := 0, phaseAt := 0, phaseK := RF.all 2 (0, 0), doneAt := RF.all 2 0, reports := [],
    preempting := false, sliceT := none, attempts := 0, atBarrierSaved := false, govHold := false, driftHold := false,
    haltedTiles := [], resuming := false, raDepths := RF.all 2 0, savedScratch := [], preemptions := 0, startTime := 0,
    endTime := 0, trapSent := false, scratch := [], privCh := none, ending := none, cleared := false }

/-- `base` with a program and a running tile 0 of its own. -/
def progS (p : Prog → Prog) (f : Tile → Tile) : State :=
  State.setTile { base with sched := { Sched.reset with progs := [p prog0], en := true } } 0 (f tile0)

/-- A packet of device 5 for device 0. -/
def pkt0 : Packet :=
  { hcrc := 0, addr := 0, seq := 0, tag := 0, opcode := 1, status := 0, mask := 0, dstDom := 0, srcDom := 0, dst := 0, src := 5,
    srcEng := 0, len8 := 0, atop := 0, flow := 0, pflits := 0, rsvd := 0, retry := 0, pch := 0, priv := false, poison := false,
    mc := false, mcdir := false, ord := false, cfirst := false, hop := false, ftValid := false, injTime := 0, fkind := 0,
    ext := List.replicate 32 0, body := [] }

/-- `base` with a packet at the head of channel 0 of port 0. -/
def headS (p : Packet) (f : State → State := fun s => s) : State :=
  (f base).onPort 0 (fun x => { x with inq := RF.put x.inq 0 [p] })

def ctl (reg : BitVec 4) (sub : BitVec 2) (imm : BitVec 20) : CtlSlot := ⟨reg, sub, imm⟩
def vec (f : BitVec 4) (vd va vb vc : BitVec 5) : VecSlot := ⟨f, vd, va, vb, vc, 0⟩
def str (dir dir2 : BitVec 2) (count : BitVec 6) (atop : BitVec 4) : StrSlot := ⟨dir, dir2, 1, 0, 2, count, false, atop⟩
def matOp (k : MatKind) (desc : BitVec 256) : MatOp := ⟨k, desc, 0, 0, 0, 0, 1, 0, 0⟩
def hdr : SvcHdr := ⟨0, false, true, 5, 0, false, true, false, 0⟩

/-! ### Ill-formed commands -/

theorem test_wf_die : (Instr.discovery [(41, 0, 0)]).wf = false := by decide
theorem test_wf_item : (Instr.calRunComplete 9 0 ⟨0, []⟩ [] false false).wf = false := by decide
theorem test_wf_restore : (Instr.restoreCheckRun 0 (2 ^ 24) ⟨0, []⟩ false).wf = false := by decide
theorem test_wf_poll : (Instr.mbxPoll 0 [List.replicate 257 0]).wf = false := by simp [Instr.wf, -List.reduceReplicate]
theorem test_wf_tile_fault : (Instr.tileFault 0 10).wf = false := by decide
theorem test_wf_core : (Instr.coreFailure 6 1 true).wf = false := by decide
theorem test_wf_restart : (Instr.coreRestartComplete 6).wf = false := by decide
theorem test_wf_svaog : (Instr.mctpSvaogMessage 0 (List.replicate 248 0)).wf = false := by simp [Instr.wf, -List.reduceReplicate]
theorem test_wf_size : (Instr.bar0RegisterWrite 0 3 .read).wf = false := by decide
theorem test_wf_window : (Instr.firnMergeWindowClose 4 0).wf = false := by decide
theorem test_wf_bundle : (Instr.vbBeatReplay 0 384 0).wf = false := by decide
theorem test_wf_eye : (Instr.vbEyeMeasure 0 0 0 101).wf = false := by decide
theorem test_wf_stack : (Instr.hbmAccess 24 0 .read (.word 0 0)).wf = false := by decide
theorem test_wf_word : (Instr.hbmAccess 0 32 (.write (List.replicate 33 0) false) (.word 0 0)).wf = false := by decide
theorem test_wf_emitter : (Instr.emitterSample 0 34 none []).wf = false := by decide
theorem test_wf_mgmt : (Instr.mgmt (.sent 0 [])).wf = false := by decide
theorem test_wf_resync : (Instr.resyncQuerySend 46 0).wf = false := by decide
theorem test_wf_pll : (Instr.pllRelock 25 0).wf = false := by decide
theorem test_wf_sensor : (Instr.sensorSuspect 0 98).wf = false := by decide
theorem test_wf_trip : (Instr.thermalTrip 0 104).wf = false := by decide
theorem test_wf_strap : (Instr.rackposChange 6).wf = false := by decide
theorem test_wf_bar4 : (Instr.bar4Read 0 0).wf = false := by decide
theorem test_wf_bar4_end : (Instr.bar4Write (2 ^ 40) [0] false).wf = false := by decide
theorem test_wf_resize : (Instr.bar4Resize 7).wf = false := by decide
theorem test_wf_block : (Instr.collStageComplete 0 0 (2 ^ 24)).wf = false := by decide
theorem test_wf_nonce : (Instr.challenge 0 0 0 [] false []).wf = false := by decide
theorem test_wf_sample : (Instr.moraineSample [(48, 0)] []).wf = false := by decide
theorem test_wf_vector : (Instr.vectorResultWrite 1024 0).wf = false := by decide
theorem test_wf_read : (Instr.hdmaHostReadCompletion 0 0 0 (.data [0])).wf = false := by decide
theorem test_wf_good : (Instr.wait 1023 ⟨0, 0, 0⟩).wf = true := by decide
theorem test_wf_bank : (Instr.hbmRefresh 0 64).wf = false := by decide
theorem test_wf_element : (Instr.calRunComplete 0 (2 ^ 24) ⟨0, []⟩ [] false false).wf = false := by decide
theorem test_wf_restore_item : (Instr.restoreCheckRun 9 0 ⟨0, []⟩ false).wf = false := by decide
theorem test_wf_chunk : (Instr.loadChunkSubmit 0 (List.replicate 65537 0)).wf = false := by simp [Instr.wf, -List.reduceReplicate]
theorem test_wf_poll_count : (Instr.mbxPoll 0 (List.replicate 65 [])).wf = false := by simp [Instr.wf, -List.reduceReplicate]
theorem test_wf_fault_code : (Instr.tileFault 0 0).wf = false := by decide
theorem test_wf_fault_tile : (Instr.tileFault 1024 1).wf = false := by decide
theorem test_wf_cause : (Instr.coreFailure 0 4 true).wf = false := by decide
theorem test_wf_fill : (Instr.firnFillComplete 4 0).wf = false := by decide
theorem test_wf_eye_bundle : (Instr.vbEyeMeasure 0 384 0 50).wf = false := by decide
theorem test_wf_channel : (Instr.vbChannelFailing 0 384 0).wf = false := by decide
theorem test_wf_remap : (Instr.vbRemapComplete 0 384).wf = false := by decide
theorem test_wf_hbm_end : (Instr.hbmAccess 0 (24 * 2 ^ 30) .read (.word 0 0)).wf = false := by decide
theorem test_wf_empty_word : (Instr.hbmAccess 0 0 (.write [] false) (.word 0 0)).wf = false := by decide
theorem test_wf_spare : (Instr.emitterSpareLocked 0 34).wf = false := by decide
theorem test_wf_swap : (Instr.emitterSwapComplete 0 34).wf = false := by decide
theorem test_wf_resync_dest : (Instr.resyncQuerySend 0 64).wf = false := by decide
theorem test_wf_bar4_long : (Instr.bar4Read 0 4097).wf = false := by decide
theorem test_wf_extreme : (Instr.moraineSample [] [(64, 0)]).wf = false := by decide
theorem test_wf_control : (Instr.cnop 1024 ⟨0, 0, 0⟩).wf = false := by decide
theorem test_wf_hbm_temp : (Instr.hbmTempRead 24 none).wf = false := by decide
theorem test_wf_payload : (Instr.dmClaim hdr (List.replicate 117 0)).wf = false := by simp [Instr.wf, payloadOk, -List.reduceReplicate]

/-! ### States that meet the hypotheses of the statements: tiles -/

theorem meets_ControlRegisterWrites :
    (Runs (tileS id) 0 ∧ Room (tileS id) 0 ∧ (ctl 15 0 0xFFFFF).sub = 0) ∧ (ctl 3 1 4).sub.toNat < 2 ∧ (ctl 3 1 4).imm.toNat ≤ 4 := by
  unfold Runs Room; decide

theorem meets_ControlLoads :
    let s := tileS (fun t => { t with sram := [(0, 0x11), (1, 1)] })
    (Runs s 0 ∧ Room s 0 ∧ (ctl 0 0 0).sub = 0 ∧ (s.tile 0).uc = []) ∧
    (RF.at (s.tile 0).a ((ctl 0 0 0).imm.setWidth 4)).toNat % 8 = 0 ∧ descOk (BitVec.ofNat 256 ((s.tile 0).read 0 32)) = true := by
  unfold Runs Room; decide

theorem meets_ControlFlow :
    let s := tileS (fun t => { t with s := RF.put t.s 1 5 })
    let t := s.tile 0
    (Runs s 0 ∧ Room s 0) ∧ (RF.at t.s 1 ≠ 0 ∧ RF.at t.s 0 = 0) ∧
    (16 * (BitVec.ofNat 20 t.bundle + (ctl 1 2 255).imm).toNat + 16 ≤ t.codeBytes ∧
      t.bad (16 * (BitVec.ofNat 20 t.bundle + (ctl 1 2 255).imm).toNat) 16 = false) ∧
    (t.loops = RF.all 2 none ∧ (ctl 1 2 255).imm ≠ 0 ∧ 16 * t.bundle + 32 ≤ t.codeBytes ∧ t.bad (16 * (t.bundle + 1)) 16 = false) ∧
    (16 * (t.bundle + (ctl 0 2 254).imm.toNat + 1) + 16 ≤ t.codeBytes ∧
      t.bad (16 * (t.bundle + (ctl 0 2 254).imm.toNat + 1)) 16 = false) := by
  unfold Runs Room; decide

theorem meets_ControlWaitsAndMarkers :
    let s := progS id (fun t => { t with cc := RF.put t.cc 1 ⟨3, 2, 1, false⟩, matQ := [] })
    let h := progS (fun p => { p with notifyTrap := true }) (fun t => { t with holdReq := true, matQ := [matOp .mma 0] })
    let d := progS (fun p => { p with notifyTrap := true, trapSent := true }) (fun t => { t with holdReq := true })
    (Runs s 0 ∧ Room s 0) ∧ (Runs h 0 ∧ Room h 0) ∧ (Runs d 0 ∧ Room d 0) ∧
    ((ctl 0 0 0).imm.toNat ≤ (RF.at (s.tile 0).cc 0).count.toNat ∧ (RF.at (s.tile 0).cc 0).bad = 0) ∧
    (RF.at (s.tile 0).cc 1).count.toNat < (ctl 1 0 4).imm.toNat ∧
    ((ctl 1 0 3).imm.toNat ≤ (RF.at (s.tile 0).cc 1).count.toNat ∧ (RF.at (s.tile 0).cc 1).bad ≠ 0 ∧
      (RF.at (s.tile 0).cc 1).tolerant = false) ∧
    ((s.tile 0).matrixIdle = true ∧ (s.tile 0).streamIdle = true) ∧ (h.tile 0).matrixIdle = false ∧
    s.tileProg 0 = some prog0 ∧ h.tileProg 0 = some { prog0 with notifyTrap := true } ∧
    d.tileProg 0 = some { prog0 with notifyTrap := true, trapSent := true } ∧
    ((ctl 0 0 1).imm.toNat < prog0.img.blockCount ∧ (s.tile 0).uc = [] ∧ (s.tile 0).epochBusy = false) ∧
    (ctl 0 0 0).imm.toNat < prog0.img.phases.length ∧ (s.tile 0).holdReq = false ∧
    ((d.tile 0).holdReq = true ∧ (d.tile 0).holdAt = none ∧ (d.tile 0).drained = true) := by
  unfold Runs Room; decide

/-- A BLK that run-ahead did not expect, while the epoch that it opens still has a request outstanding. -/
theorem meets_ControlWaitsAndMarkers_busy :
    let s := progS id (fun t => { t with ra := { t.ra with
      block := some 0, out := [⟨0, 1, 0, 0, 64, 0, false, true, true, none⟩] } })
    (s.tile 0).misses prog0.img.blockTable 1 = true ∧ (s.tile 0).epochBusy = true ∧ Runs s 0 ∧ Room s 0 := by
  unfold Runs Room; decide

theorem meets_MatrixIssue :
    ((tileS id).tile 0).st = .running ∧ ((tileS id).tile 0).matQ.length < 2 ∧
    2 ≤ ((tileS (fun t => { t with matQ := [matOp .mma 0, matOp .mout 0] })).tile 0).matQ.length := by decide

/-- FP64 operands and output, rows 32 B apart. -/
def d0 : BitVec 256 := 32#256 <<< 128

/-- `tileS` with its stack's limiter at `k`. -/
def slotS (k : Nat) (f : Tile → Tile) : State := (tileS f).onStk 0 (fun x => { x with k := k })

theorem meets_MatrixEngine :
    let s := fun k => slotS 64 (fun t => { t with matQ := [matOp k d0], acc := RF.all 1 { AccSet.zero with fp64 := true } })
    (((slotS 0 id).tile 0).st = .running ∧ (slotS 0 id).slotGranted 0 = false) ∧
    (Runs (s .mma) 0 ∧ ((s .mma).tile 0).uc = [] ∧ (s .mma).slotGranted 0 = true ∧ ((s .mma).tile 0).matQ = [matOp .mma d0] ∧
      (RF.at ((s .mma).tile 0).acc 0).fp64 = descFp64 d0 ∧
      ((matOp .mma d0).aa.toNat + (matOp .mma d0).done * stepBytes (descFmtA d0)) % 2 ^ 20 % 32 = 0 ∧
      ((matOp .mma d0).ab.toNat + (matOp .mma d0).done * stepBytes (descFmtB d0)) % 2 ^ 20 % 32 = 0) ∧
    (AccSet.zeroed d0).fp64 = descFp64 d0 ∧
    (((s .mload).tile 0).st = .running ∧
      rowsAligned (if descFp64 d0 then 0 else 14) (matOp .mload d0).aa.toNat (descWord d0 4).toNat = true) ∧
    ((RF.at ((s .mout).tile 0).acc 0).fp64 = descFp64 d0 ∧ rowsAligned (descFmtOut d0) (matOp .mout d0).ac.toNat (descWord d0 4).toNat = true) ∧
    (RF.at ((s .moutz).tile 0).acc 0).fp64 = descFp64 d0 := by
  unfold Runs; decide

theorem meets_VectorArithmetic :
    let s := tileS (fun t => { t with vPend := [.reg 31 5, .pred 3 7] })
    (((tileS id).tile 0).st = .running ∧ ((tileS id).tile 0).vPend = [] ∧ (vec 0 0 1 2 3).vfmt = 0 ∧ (vec 11 31 1 2 3).vfmt = 11) ∧
    (s.tile 0).vPend[0]? = some (.reg 31 5) ∧ (s.tile 0).vPend[1]? = some (.pred 3 7) ∧ (s.tile 0).st = .running ∧
    (s.tile 0).vPending (vec 0 31 1 2 3).vd = true ∧ (s.tile 0).vPending (vec 0 0 31 2 3).va = true ∧
    (s.tile 0).vPending (vec 0 0 1 31 3).vb = true := by
  exact ⟨by decide, rfl, rfl, rfl, rfl, rfl, rfl⟩

theorem meets_VectorLaneOperations :
    (((tileS id).tile 0).st = .running ∧ ((tileS id).tile 0).vPend = []) ∧ ((vec 11 0 1 31 0).vb.toNat < laneCount 11) ∧
    (vec 1 31 1 2 3).vfmt = 1 := by decide

theorem meets_VectorCompareConvertMove :
    (Runs (tileS id) 0 ∧ ((tileS id).tile 0).vPend = [] ∧ ((tileS id).tile 0).uc = []) ∧
    ((vec 1 1 2 3 6).vc.toNat % 8 ≠ 7 ∧ ((vec 1 1 2 3 6).vd.setWidth 2 : BitVec 2) ≠ 0 ∧ ((vec 1 4 2 3 6).vd.setWidth 2 : BitVec 2) = 0) ∧
    (convLegal (vec 3 0 1 1 0) = true ∧ (vec 3 0 1 1 0).vfmt ≠ 10 ∧ (vec 3 0 1 1 0).vb.toNat < cvtiRange (vec 3 0 1 1 0)) ∧
    (isMxFmt ((vec 10 0 1 0 10).vc.toNat / 2) false = true ∧ (vec 10 0 1 0 10).vc.getLsbD 0 = false) ∧
    (convLegal (vec 3 0 1 0 0) = true ∧ (vec 3 0 1 0 0).vc.getLsbD 0 = false ∧ (vec 3 0 1 0 0).vb.toNat < groupsOf 3) ∧
    ((vec 13 0 0 0 0).vfmt ≠ 14 ∧ ((tileS id).tile 0).vecAddr (vec 13 0 0 0 0) % 128 = 0) := by
  unfold Runs; decide

theorem meets_TileFaults :
    let s := fun k => slotS 64 (fun t => { t with
      loops := RF.put t.loops 3 (some ⟨1, 2, 3⟩), matQ := [matOp k 0], acc := RF.all 1 { AccSet.zero with fp64 := true } })
    let m := slotS 64 (fun t => { t with matQ := [matOp .mout 0, matOp .mma 0] })
    let a := fun k => tileS (fun t => { t with
      matQ := [{ matOp k 0 with aa := 8, ac := 8 }], acc := RF.all 1 { AccSet.zero with fp64 := true } })
    ((s .mma).tile 0).st = .running ∧ RF.at ((s .mma).tile 0).loops (ctl 0 3 0).sub ≠ none ∧
    (5 ≤ ((ctl 0 0 5).imm.extractLsb' 0 3).toNat ∧ (ctl 0 1 8).imm.extractLsb' 3 17 ≠ 0) ∧ (vec 2 0 0 0 0).vfmt ≠ 0 ∧
    ((m.tile 0).matQ = [matOp .mout 0, matOp .mma 0] ∧ (RF.at (m.tile 0).acc 0).fp64 ≠ descFp64 0) ∧
    ((slotS 64 (fun t => { t with matQ := [matOp .mma 0] })).slotGranted 0 = true ∧ (matOp .mma 0).done = 0 ∧
      (RF.at ((slotS 64 (fun t => { t with matQ := [matOp .mma 0] })).tile 0).acc 0).fp64 ≠ descFp64 0) ∧
    (0 % 16 = 0 ∧ 255 / 16 % 16 = 15) ∧
    rowsAligned (if descFp64 0 then 0 else 14) ((8 : BitVec 20)).toNat 0 = false ∧
    ((RF.at ((a .mout).tile 0).acc 0).fp64 = descFp64 0 ∧ rowsAligned (descFmtOut 0) (8 : BitVec 20).toNat 0 = false) := by decide

theorem meets_LinkIssue :
    let t := (tileS id).tile 0
    let x := str 0 1 0 0
    t.st = .running ∧ x.sreg = 0 ∧ x.atop = 0 ∧ nbr 0 x.dir ≠ none ∧ (str 0 0 0 0).dir2 = 0 ∧ (RF.at t.a x.areg).toNat % 64 = 0 ∧
    RF.at t.sendCh x.dir = .idle ∧ RF.at t.recvCh x.dir = none ∧ nbr 0 x.dir2 ≠ none ∧ RF.at t.sendCh x.dir2 = .idle := by decide

theorem meets_LinkFlits :
    let s := tileS (fun t => { t with
      wire := RF.put t.wire 1 [⟨0, false⟩], doneOps := [(.cc 15, 3)], sendCh := RF.put t.sendCh 0 (.send ⟨0, 0, 1⟩) })
    RF.at (s.tile 0).wire 1 = [⟨0, false⟩] ∧ (s.tile 0).doneOps = [(.cc 15, 3)] ∧ s.errs.inj = none ∧ s.isBridge 0 = false ∧
    (s.tile 0).uc = [] ∧ nbr 0 0 = some 16 ∧ RF.at (s.tile 0).sendCh 0 = .send ⟨0, 0, 1⟩ ∧ RF.at (s.tile 0).credit 0 ≠ 0 := by
  exact ⟨rfl, rfl, rfl, rfl, rfl, rfl, rfl, by decide⟩

theorem meets_MemoryIssue :
    let s := progS id id
    let t := s.tile 0
    let off := (RF.at t.s (str 0 0 0 0).sreg).toNat % 2 ^ 40
    t.st = .running ∧ s.tileProg 0 = some prog0 ∧ (str 0 0 0 0).dir2 = 0 ∧ t.memQ.length < 16 ∧ (str 0 0 0 0).atop = 0 ∧
    off % 256 = 0 ∧ (RF.at t.a (str 0 0 0 0).areg).toNat % 256 = 0 ∧
    ((str 0 0 0 11).atop.toNat ≤ 11 ∧ (str 0 0 0 11).atop ≠ 2 ∧ (str 0 0 0 11).atop ≠ 4) ∧ (str 0 0 1 4).count = 1 ∧
    ((str 0 0 2 4).count = 2 ∧ (str 0 0 2 4).atop = 4) := by decide


theorem meets_RunAhead :
    let e : RaEntry := ⟨0, 0, 0, 0, 64, 0, 0, 0, 0, []⟩
    let q : RaReq := ⟨3, 1, 0, 0, 64, 0, false, false, true, some ⟨0, [], []⟩⟩
    let s := progS id (fun t => { t with ra := { t.ra with block := some 0, entries := [e], out := [q] } })
    let t := reachMore prog0.img.blockTable prog0.img.blockCount 4 (s.tile 0)
    (s.tileProg 0 = some prog0 ∧ (s.tile 0).st = .running) ∧
    ((s.tile 0).ra.out.length < 32 ∧ t.ra.entries = [e] ∧ t.ra.block = some e.block ∧ e.redo = [] ∧ e.shapeOk = true ∧
      (RF.at prog0.segs e.seg).ok .rd e.off.toNat e.len = true ∧ (let seg := RF.at prog0.segs e.seg
       e.part seg true (seg.fc || s.portScratch 0 (seg.base.toNat + e.off.toNat + e.sent)) = some (0, 64))) ∧
    ((s.tile 0).ra.out.find? (fun q => q.id == 3) = some q ∧ q.rsp = some ⟨0, [], []⟩ ∧ q.epoch ≠ (s.tile 0).ra.epoch ∧ s.errs.inj = none) := by decide


/-! ### A program image (R151 to R159) -/

/-- One placement entry: tile 17, CODE 0, no DATA and no LIVE. -/
def imgPlace : List Byte := [17, 0, 0, 0, 0xFF, 0xFF, 0xFF, 0xFF]

/-- One phase entry: GOV_KEY 7. -/
def imgPhase : List Byte := [7, 0, 0, 0, 0, 0, 0, 0, 0, 0, 0, 0, 0, 0, 0, 0]

/-- A section table entry of type `t` and index 0. -/
def imgSect (t off size : Nat) (crc : W32) : List Byte :=
  natLE 8 t ++ natLE 8 off ++ natLE 8 size ++ natLE 4 crc.toNat ++ natLE 4 0

/-- PLACE, CODE (16 bytes at 512), PHASE and SEGREQ. -/
def imgTable : List Byte :=
  imgSect 1 256 8 0xf6fa7221 ++ imgSect 2 512 16 0 ++ imgSect 4 264 16 0x978c56f2 ++ imgSect 5 280 128 0x082764db

/-- Header bytes 0x00 to 0x7B: 4 KiB, map-portable TT24-B, one tile, one phase, one block, no staging, 4 KiB of code. -/
def imgHead : List Byte :=
  [0x54, 0x54, 0x32, 0x34, 1, 0, 0, 0] ++ natLE 8 4096 ++ natLE 4 128 ++ natLE 2 4 ++ [2, 0] ++ natLE 4 0 ++ natLE 2 1 ++
  natLE 2 1 ++ natLE 4 8192 ++ natLE 4 1 ++ [0, 1] ++ List.replicate 82 0#8

/-- The image up to the end of SEGREQ. -/
def imgBytes : List Byte := imgHead ++ natLE 4 0x917f0e05 ++ imgTable ++ imgPlace ++ imgPhase ++ List.replicate 128 0#8

/-- The SUBMIT that names it: PROG_TAG 9, job of device 0 alone, image and context area at 0. -/
def submitMsg : List Byte :=
  [1, 0, 1, 1] ++ natLE 4 1 ++ natLE 4 256 ++ natLE 4 0 ++ natLE 8 9 ++ natLE 8 0 ++ natLE 8 0 ++ natLE 8 0 ++
  [1] ++ List.replicate 207 0#8

/-- `base` with one stack of HBM, which holds the image, and a message taken. -/
def imgS (m : List Byte) : State :=
  let s : State := { base with
    hbm := { base.hbm with stks := SMap.set HbmStack.reset base.hbm.stks 0 { HbmStack.reset with st := .inService }
                           map := defaultMap 1 }
    firm := { base.firm with mbx := { base.firm.mbx with taken := [m], attached := true } } }
  (s.memWrite 0 imgBytes false).1

def accepted? (v : Verdict) : Bool := match v with | .accept _ => true | .refuse _ _ => false

/-! ### Programs -/

/-- Places tile 17 with the CODE section of 16 zero bytes at 512. -/
def img17 : ImageInfo := { img0 with place := [⟨17, 0, 0xFFFF, 0xFFFF⟩], sects := [⟨2, 0, 512, 16, (crc32c (List.replicate 16 0)).toNat, 1⟩] }

/-- The device of `imgS` with a program on tile 17. -/
def onTile17 (m : List Byte) (p : Prog → Prog) (f : Tile → Tile) : State :=
  let s := imgS m
  State.setTile { s with sched := { s.sched with progs := [p { prog0 with img := img17, phaseDone := 1 }], en := true } } 17
    (f { tile0 with st := .ready, prog := some 7 })

set_option maxRecDepth 1000000 in
theorem meets_SubmitAndAbort_accept :
    Taken (imgS submitMsg) 0x0101 submitMsg [] ∧ accepted? (((imgS submitMsg).takeUp).judge (padTo 256 submitMsg)).1 = true := by
  unfold Taken; decide +kernel

/-- A SUBMIT or ABORT message of a type and PROG_TAG with PRIORITY 4. -/
def badMsg (type : Nat) (tag : Byte) : List Byte :=
  [1, 0] ++ natLE 2 type ++ natLE 4 1 ++ natLE 4 256 ++ natLE 4 0 ++ [tag, 0, 0, 0, 4]

theorem meets_SubmitAndAbort :
    let s := fun p => progS p (fun t => t)
    let ab := fun p => { s p with firm := { (s p).firm with mbx := { Mbx.reset with taken := [badMsg 0x0104 7], attached := true } } }
    let sub := { base with firm := { base.firm with mbx := { Mbx.reset with taken := [badMsg 0x0101 7], attached := true } } }
    (Taken sub 0x0101 (badMsg 0x0101 7) [] ∧
      (match (sub.takeUp.judge (padTo 256 (badMsg 0x0101 7))).1 with | .refuse st d => st == 1 && d == 20 | _ => false) = true) ∧
    (Taken (ab id) 0x0104 (badMsg 0x0104 7) [] ∧ sub.takeUp.prog? 7 = none ∧ (ab id).takeUp.prog? 7 = some prog0) ∧
    ({ prog0 with st := .queued } : Prog).st = .queued ∧ ({ prog0 with st := .loading } : Prog).st ≠ .running ∧
    (ab id).takeUp.allHalted { prog0 with img := img17 } = false ∧ (ab id).takeUp.allHalted prog0 = true := by
  unfold Taken; decide +kernel

theorem meets_ProgramStart :
    let p : Prog := { prog0 with img := img17, phaseDone := 1, st := .loading }
    let s := onTile17 [] (fun p => { p with st := .loading }) id
    let q : Prog := { p with st := .queued, startFtime := 5 }
    let t := onTile17 [] (fun p => { p with st := .queued, startFtime := 5 }) id
    let off := { t with sched := { t.sched with en := false } }
    let bad : Prog := { p with img := { img17 with sects := [⟨2, 0, 512, 16, 0, 1⟩] } }
    (s.prog? 7 = some p ∧ p.st = .loading ∧ p.resuming = false ∧ s.loadReady p = true ∧ s.retiredOf p = none ∧
      (loadAll p true p.img.place s).1 = none ∧ p.startFtime = 0 ∧ q.startFtime ≠ 0 ∧ (loadAll bad true bad.img.place s).1 = some 1) ∧
    (t.prog? 7 = some q ∧ q.st = .queued ∧ off.schedUp = true ∧ off.sched.en = false ∧ t.sched.en = true ∧ t.pkg.dev = .flow) := by
  decide +kernel

theorem meets_ProgramStart_missed :
    let q : Prog := { prog0 with img := img17, st := .queued, tag := 8, startFtime := 5 }
    let s := State.setTile { base with sched := { Sched.reset with progs := [{ prog0 with preemptOk := false }, q], en := true } } 17 tile0
    s.prog? 8 = some q ∧ q.st = .queued ∧ q.startFtime ≠ 0 ∧ s.sched.progs.any (fun r => s.blocks r q && !s.preemptible r) = true := by decide +kernel

theorem meets_Preemption :
    let p : Prog := { prog0 with img := img17, phaseDone := 1, preempting := true }
    let s := onTile17 [] (fun p => { p with preempting := true }) (fun t => { t with st := .sliceHold, slice := 3, holdReq := true })
    let h := onTile17 [] (fun p => { p with preempting := true, sliceT := some 3 })
      (fun t => { t with st := .sliceHold, slice := 3, holdReq := true })
    let v := onTile17 [] (fun p => { p with st := .saving, savedScratch := [] }) id
    let r := onTile17 [] (fun p => { p with preempting := true, attempts := 2 }) (fun t => { t with st := .running, holdReq := true })
    (s.prog? 7 = some p ∧ p.st = .running ∧ p.preempting = true ∧ p.sliceT = none ∧ s.allHold p = true ∧ s.allHalted p = false) ∧
    (h.prog? 7 = some { p with sliceT := some 3 } ∧ h.heldForSave { p with sliceT := some 3 } = true ∧ p.tiles.any (fun n => (h.tile n).epochBusy) = false) ∧
    (v.prog? 7 = some { prog0 with img := img17, phaseDone := 1, st := .saving }) ∧
    (r.prog? 7 = some { p with attempts := 2 } ∧ p.tiles.any (fun n => (r.tile n).holdReq) = true ∧
      r.heldForSave { p with attempts := 2 } = false ∧ p.attempts < 2) := by decide +kernel

theorem meets_ResumeAndBarriers :
    let p : Prog := { prog0 with img := img17, phaseDone := 1, st := .loading, resuming := true }
    let s := onTile17 [] (fun p => { p with st := .loading, resuming := true }) id
    let b : Prog := { prog0 with img := img17, phaseDone := 1, st := .atBarrier }
    let t := onTile17 [] (fun p => { p with st := .atBarrier }) id
    let d : State := { t with pkg := { t.pkg with dev := .drift } }
    (s.prog? 7 = some p ∧ s.loadReady p = true ∧ s.retiredOf p = none ∧ (loadAll p false p.img.place s).1 = none ∧
      ((loadAll p false p.img.place s).2.restoreContext p).2 = false ∧
      (loadAll p false p.img.place s).2.contextInj p = none) ∧
    (t.prog? 7 = some b ∧ b.st = .atBarrier ∧ b.govHold = false ∧ b.preempting = false ∧ b.driftHold = false ∧
      t.driftHolds b = false ∧ d.driftHolds b = true ∧ d.prog? 7 = some b) := by
  decide +kernel

theorem meets_ProgramEnd :
    let p : Prog := { prog0 with img := img17, phaseDone := 1 }
    let s := onTile17 [] id (fun t => { t with st := .running })
    let z := onTile17 [] id (fun t => { t with st := .zeroing })
    let h := onTile17 [] id (fun t => { t with st := .halted })
    let e := onTile17 [] (fun p => { p with st := .ending, ending := some ⟨0x11, 0⟩ }) id
    let c := onTile17 [] (fun p => { p with st := .ending, cleared := true, ending := some ⟨0x11, 0⟩ }) id
    (s.prog? 7 = some p ∧ p.slot = some 0 ∧ (s.tile 17).st = .running) ∧ (z.prog? 7 = some p ∧ (z.tile 17).st = .zeroing) ∧
    (e.prog? 7 = some { p with st := .ending, ending := some ⟨0x11, 0⟩ } ∧ p.tiles.any (fun n => (e.tile n).epochBusy) = false) ∧
    (h.prog? 7 = some p ∧ h.schedUp = true ∧ p.st = .running ∧ h.allHalted p = true) ∧
    (c.prog? 7 = some { p with st := .ending, cleared := true, ending := some ⟨0x11, 0⟩ } ∧ c.schedUp = true ∧
      c.sched.walkSlots.contains 0 = false) := by decide +kernel


/-- `base` with messages taken and the mailbox attached. -/
def mbxS (taken : List (List Byte)) : State :=
  { base with firm := { base.firm with mbx := { Mbx.reset with taken := taken, attached := true, h2dTail := 5 } } }

theorem meets_HostLoadAndMessages :
    let l := fun (f : Load → Load) => { base with firm := { base.firm with load := f Load.reset } }
    let w := l (fun l => { l with st := .loading })
    let q := l (fun l => { l with queue := [⟨true, false, [1]⟩], st := .loading })
    let m := mbxS [[1, 0, 0x10, 0]]
    (((0xA000FFFF : W32).getLsbD 31 = true ∧ w.firm.load.st = .loading ∧ w.firm.load.busy true = false)) ∧
    (q.firm.load.queue = [⟨true, false, [1]⟩] ∧ q.firm.load.lastTaken = false ∧ q.coreUp 4 = true ∧ q.firm.load.st = .loading) ∧
    (m.schedUp = true ∧ m.pkg.dev ≠ .cold ∧ ((69 : W32) - m.firm.mbx.h2dTail).toNat ≤ 64) ∧
    ((0 : W32) - m.firm.mbx.d2hTail).toNat ≤ (m.firm.mbx.d2hHead - m.firm.mbx.d2hTail).toNat ∧
    Taken m 0x0010 [1, 0, 0x10, 0] [] ∧ m.pkg.dev = .flow := by
  unfold Taken; decide +kernel

theorem meets_AttachAndCycle :
    let a := mbxS [[1, 0, 0x11, 0]]
    let d : State := { a with pkg := { a.pkg with dev := .drift }, firm := { a.firm with mbx := { a.firm.mbx with driftPeriod := 1 } } }
    let e : PhaseEnt := ⟨1, 2, 0, false⟩
    let p : Nat → Prog := fun est => { prog0 with img := { img0 with phases := [e, ⟨1, BitVec.ofNat 32 est, 0, false⟩] }, st := .atBarrier }
    let g := fun est => progS (fun _ => p est) id
    let q : Prog := { prog0 with st := .atBarrier }
    let l : Prog := { prog0 with img := { img0 with span := true }, jobId := 4, jobMembers := 2 }
    let lost := (progS (fun _ => l) id).onFab (fun f => { f with routes := RF.put f.routes 1 (BitVec.ofNat 16 (2 * 2 ^ 13)) })
    Taken a 0x0011 [1, 0, 0x11, 0] [] ∧ a.pkg.dev = .flow ∧ a.errs.entryDue = false ∧ (d.pkg.dev = .drift ∧ d.firm.mbx.driftPeriod ≠ 0) ∧
    (base.schedUp = true ∧ base.leaseRuns = true ∧ base.handOver.firm.lease.handover = false) ∧
    ((progS (fun _ => q) id).prog? 7 = some q ∧ (progS (fun _ => q) id).coreUp 3 = true ∧ q.img.phases[q.phaseDone]? = some e ∧
      q.nextPhase = none) ∧
    ((g 119999).prog? 7 = some (p 119999) ∧ ((p 119999).nextPhase.map PhaseEnt.short = some true)) ∧
    ((g 120000).prog? 7 = some (p 120000) ∧ ((p 120000).nextPhase.map PhaseEnt.short = some false)) ∧
    ((base.land (dk 0x4100 5)).newInterval.leader = some 0) ∧ (lost.land (dk 0x4100 5)).newInterval.leader = none := by
  unfold Taken; decide +kernel

/-- A request of engine 3 for device 5. -/
def req0 : Req :=
  { id := 4, eng := 3, dest := 5, pkt := pkt0, owner := .fill 0 0, prog := none, sequenced := false, firstInj := 0, lastInj := 0,
    attempts := 1, waiting := false, dup := false, busy := false }

def reqS (r : Req → Req) (f : MemSem → MemSem := id) : State := { base with mem := f { MemSem.reset with reqs := [r req0] } }

theorem meets_RetryAndResync :
    let seq := fun r : Req => { r with sequenced := true }
    let syncing := reqS seq (fun m => { m with pairs := SMap.set SrcPair.reset m.pairs (pairKey 3 5) ⟨0, true, true, none, 0⟩ })
    let f : Flagged := ⟨0, req0, [], none⟩
    let g : Flagged := ⟨0, req0, [], some (1, 3)⟩
    let sent := fun f : Flagged => reqS id (fun m => { m with flagged := [f] })
    ((reqS id).trying 4 = some req0 ∧ req0.sequenced = false ∧ (reqS id).mayRetry req0 = true) ∧
    ((reqS seq).trying 4 = some (seq req0) ∧ ((reqS seq).oldestOf 3 5).map (·.id) = some 4) ∧
    ((reqS id).req? 4 = some req0 ∧ req0.attempts ≠ 0 ∧ req0.dup = false ∧ (reqS id).isLocal req0 = false) ∧
    ((reqS seq).req? 4 = some (seq req0) ∧ ((reqS seq).pair 3 5).resync = false) ∧
    ((reqS (fun r => { r with busy := true })).trying 4 = some { req0 with busy := true } ∧ (reqS id).destFails 5 = none) ∧
    ((syncing.pair 3 5).resync = true ∧ (syncing.pair 3 5).queried = true) ∧
    (reqS (fun r => { r with dup := true })).req? 4 = some { req0 with dup := true } ∧
    ((sent f).mem.flagged.find? (fun f => f.req.id == 4) = some f ∧
      ((sent f).onMem (fun m => { m with flagged := [] })).destFails f.req.dest = none) ∧
    (sent g).mem.flagged.find? (fun f => f.req.id == 4) = some g := by decide +kernel

/-! ### The fabric and memory requests -/

/-- `base` with port 0 up, its gates open, lit by group 0 and in sequence. -/
def fabS (f : Floe → Floe := id) : State :=
  { base with floe := f { base.floe with
      ports := RF.put base.floe.ports 0 { RF.at base.floe.ports 0 with
        st := .up, a := { (RF.at base.floe.ports 0).a with gate := false }, b := { (RF.at base.floe.ports 0).b with gate := false } }
      inForce := RF.put base.floe.inForce 0 0x80
      chans := (slotChans 0 0x80).foldl (fun c k => SMap.set Chan.reset c k { Chan.reset with ok := true }) base.floe.chans
      rx := RF.put base.floe.rx 0 ⟨7, true, []⟩ } }

/-- `fabS` with a packet of channel C1 to send on port 0. -/
def outS : State := fabS.onPort 0 (fun f => { f with out := [⟨{ pkt0 with dst := 1 }, 1, none⟩] })

theorem meets_FabricPorts :
    let c : CreditFlit := ⟨true, 0, 0, 0, 0, 0⟩
    let s := fabS
    let h : FrameHdr := ⟨0, 0, 0, 0, 7⟩
    let held := fabS (fun x => { x with rx := RF.put x.rx 0 ⟨7, true, [(9, []), (8, [])]⟩ })
    let away := headS { pkt0 with dst := 1 }
    let outer := base.onPort 14 (fun x => { x with inq := RF.put x.inq 0 [{ pkt0 with opcode := 0x10 }] })
    (frameDecodes [0, 8, 16, 24, 15, 22, 29] = false ∧ frameDecodes [0, 1, 2, 3, 4, 5, 6, 7] = true ∧ frameHdrOf (frameWord h) = some h) ∧
    (h.kind = 0 ∧ s.portUp 0 = true ∧ s.floe.rxReleased.contains (laneKey (.slot 0 false false)) = false ∧ (RF.at s.floe.rx 0).synced = true ∧
      (RF.at s.floe.rx 0).held = [] ∧ (RF.at s.floe.rx 0).expect = h.seq) ∧
    ((RF.at held.floe.rx 0).first = some 8) ∧
    (RF.at (s.onPort 0 (fun f => { f with creditIn := [c] })).fab.ports 0).creditIn = [c] ∧ s.portLit 0 = true ∧
    ((RF.at outS.fab.ports 0).pick 0 = some (0, ⟨{ pkt0 with dst := 1 }, 1, none⟩) ∧ outS.portUp 0 = true ∧ outS.portLit 0 = true) ∧
    (away.headOf 0 0 = some { pkt0 with dst := 1 } ∧ (1 : BitVec 6) ≠ away.fab.devid ∧ inShape away.shape 1 = true) ∧
    ((headS { pkt0 with dst := 1, hop := true }).headOf 0 0 = some { pkt0 with dst := 1, hop := true }) ∧
    ((headS pkt0).headOf 0 0 = some pkt0 ∧ pkt0.dst = (headS pkt0).fab.devid ∧ isReplyOp pkt0.opcode.toNat = false) ∧
    (outer.headOf 14 0 = some { pkt0 with opcode := 0x10 } ∧ isReplyOp 0x10 = false ∧ isOuterOp 0x10 = true) ∧
    (base.portsTo 1 ≠ [] ∧ fabS.portsTo 1 ≠ []) ∧
    (c.crcOk = true ∧ (s.svcIn hdr 0x30 (creditBytes c)).1 = true) := by decide +kernel

theorem meets_RequestsServed_room (s : State) (h : s.repliesWaiting = 0) : s.replyRoom = true := by
  simp [State.replyRoom, h]

theorem meets_RequestsServed :
    let p := fun op => { pkt0 with opcode := op, ftValid := false }
    let e := fun op => { pkt0 with opcode := op, seq := 5 }
    (∀ op ∈ ([0x01, 0x04, 0x05, 0x06, 0x07, 0x09] : List Byte), (headS (p op)).headOf 0 0 = some (p op) ∧
      (p op).dst = (headS (p op)).fab.devid ∧ (headS (p op)).tooOld (p op) = false ∧ (headS (p op)).headWaits 0 0 = false ∧
      ((headS (p op)).pop 0 0).turnOf (p op) = .now ∧ (headS (p op)).repliesWaiting = 0) ∧
    ((p 0x09).atop ≠ 15 ∧ ((headS (p 0x09)).pop 0 0).cacheRoom.isSome = true) ∧
    (((headS (e 0x05)).pop 0 0).turnOf (e 0x05) = .early ∧ (headS (e 0x05)).headOf 0 0 = some (e 0x05)) ∧
    ((headS { p 0x09 with atop := 15 }).headOf 0 0 = some { p 0x09 with atop := 15 } ∧
      (headS { p 0x09 with atop := 15 }).repliesWaiting = 0) ∧
    (∀ op ∈ ([opLd, opStS, opSt, opStfS, opStf, opAt] : List Nat),
      let r := { req0 with dest := 0, pkt := { pkt0 with opcode := BitVec.ofNat 8 op } }
      (reqS (fun _ => r)).ownReq 4 op = some r ∧ (match r.owner with | .writeBack _ _ _ => false | _ => true) = true) := by decide +kernel

/-- A reply of device 5 to engine 3 of device 0. -/
def rsp (op : Byte) : Packet := { pkt0 with opcode := op, srcEng := 3 }

theorem meets_RepliesEndRequests :
    let r := fun op : Byte => { req0 with pkt := { pkt0 with opcode := op, dst := 5 } }
    let s := fun op asks => headS (rsp op) (fun s => { s with mem := { s.mem with reqs := [r asks] } })
    let n := headS { rsp 0x0A with tag := syncTag } (fun s => { s with mem := { s.mem with
      pairs := SMap.set SrcPair.reset s.mem.pairs (pairKey 3 5) ⟨0, true, true, none, 0⟩ } })
    (((s 0x02 1).pop 0 0).asked (rsp 0x02) (fun r => r.op = opLd) = some (r 1) ∧ (s 0x02 1).headOf 0 0 = some (rsp 0x02) ∧
      (rsp 0x02).dst = (s 0x02 1).fab.devid) ∧
    ((s 0x03 1).pop 0 0).asked (rsp 0x03) (fun r => r.op = opLd) = some (r 1) ∧
    ((s 0x08 5).pop 0 0).asked (rsp 0x08) (fun r => r.isStore || r.op = opColl) = some (r 5) ∧
    (((s 0x0A 9).pop 0 0).asked (rsp 0x0A) (fun r => r.isAtomic) = some (r 9) ∧ (rsp 0x0A).tag ≠ syncTag) ∧
    (n.headOf 0 0 = some { rsp 0x0A with tag := syncTag } ∧ ((n.pop 0 0).pair 3 5).resync = true ∧ ((n.pop 0 0).pair 3 5).queried = true) ∧
    ((s 0x11 0x10).pop 0 0).asked (rsp 0x11) (fun r => r.op = opXput) = some (r 0x10) ∧
    ((s 0x13 0x12).pop 0 0).asked (rsp 0x13) (fun r => r.op = opXget) = some (r 0x12) ∧
    ((s 0x15 0x14).pop 0 0).asked (rsp 0x15) (fun r => r.op = opXmsg) = some (r 0x14) := by decide +kernel

theorem meets_OuterRequests :
    let p := fun op => { pkt0 with opcode := op, dstDom := 1, srcDom := 2 }
    let own := fun op => { pkt0 with opcode := op, srcDom := 2, ext := natLE 2 8 ++ List.replicate 30 0 }
    let at14 := fun (p : Packet) => base.onPort 14 (fun x => { x with inq := RF.put x.inq 0 [p] })
    let kept := (at14 (own 0x14)).onMem (fun m => { m with cache := [⟨pairAt (own 0x14), 0, 0, .xmsg, 0, [], 0⟩] })
    (base.repliesWaiting = 0 ∧ (at14 (p 0x10)).repliesWaiting = 0 ∧ (at14 (own 0x14)).repliesWaiting = 0 ∧ kept.headOf 14 0 = some (own 0x14)) ∧
    ((headS (p 0x10)).headOf 0 0 = some (p 0x10) ∧ (p 0x10).dst = (headS (p 0x10)).fab.devid) ∧
    ((at14 (p 0x10)).headOf 14 0 = some (p 0x10) ∧ (p 0x10).dstDom ≠ (at14 (p 0x10)).fab.domain) ∧
    ((at14 (own 0x10)).headOf 14 0 = some (own 0x10) ∧ (own 0x10).dstDom = (at14 (own 0x10)).fab.domain ∧
      gDev (own 0x10).addr.toNat = (at14 (own 0x10)).devid ∧ (at14 (own 0x10)).tooOld (own 0x10) = false ∧
      outerCount (own 0x10) = some 8) ∧
    (kept.pop 14 0).cached (own 0x14) .xmsg = some ⟨pairAt (own 0x14), 0, 0, .xmsg, 0, [], 0⟩ ∧
    (((at14 (own 0x14)).pop 14 0).cached (own 0x14) .xmsg = none ∧ ((at14 (own 0x14)).pop 14 0).cacheRoom.isSome = true ∧
      outerCount (own 0x14) = some 8) := by decide +kernel

theorem meets_ManagementOverFabric :
    let p := { pkt0 with opcode := 0x30 }
    let a := { pkt0 with opcode := 0x31 }
    let down := headS p (fun s => s.onCore 5 (fun c => { c with st := .failed }))
    let out := fun n => headS a (fun s => s.onDict (fun d => { d with mgmtOut := [⟨0, 5, [], 0, n⟩] }))
    ((headS p).headOf 0 0 = some p ∧ p.dst = (headS p).fab.devid ∧ ((headS p).pop 0 0).tooOld p = false ∧
      ((headS p).pop 0 0).n5Down = false) ∧
    (down.headOf 0 0 = some p ∧ (down.pop 0 0).tooOld p = false ∧ (down.pop 0 0).n5Down = true) ∧
    (base.coreUp 2 = true ∧ (5 : BitVec 6) ≠ base.fab.devid ∧ base.destFails 5 = none) ∧
    ((out 2).dict.mgmtOut.find? (fun r => r.tag = 0) = some ⟨0, 5, [], 0, 2⟩) ∧
    ((out 3).dict.mgmtOut.find? (fun r => r.tag = 0) = some ⟨0, 5, [], 0, 3⟩) ∧
    ((out 0).headOf 0 0 = some a ∧ (out 0).dict.mgmtOut.find? (fun r => r.tag = a.tag && r.dst = a.src) = some ⟨0, 5, [], 0, 0⟩) := by
  decide +kernel


/-! ### The Firn and HBM -/

/-- `base` with one stack of HBM in service and zeroed memory. -/
def hbmS (f : HbmStack → HbmStack := id) : State :=
  { base with hbm := { base.hbm with stks := SMap.set HbmStack.reset base.hbm.stks 0 (f { HbmStack.reset with st := .inService })
                                     map := defaultMap 1, placed := true, zeroed := true } }

/-- A memory operation of tile 0 on the line at 0. -/
def memOp (k : MemKind) : MemOp :=
  { id := 0, kind := k, addr := 0, ga := 0, fc := true, bytes := 256, cc := 0, atop := 0, sent := 0, done := 0, code := 0 }

def firnS (k : MemKind) (f : Firn → Firn := id) : State :=
  State.setTile { base with firn := f base.firn } 0 { tile0 with memQ := [memOp k] }

theorem meets_FirnRequests :
    let x : FLine := ⟨0, 0, 0, 0, 0⟩
    let p : Piece := { tile := 0, id := 0, runAhead := false, ga := 0, n := 256, at' := 0, sram := 0, fc := true, early := false }
    let hit := fun k => firnS k (fun f => { f with lines := [(wayKey 0 0 0, some x)] })
    let q : RaReq := ⟨3, 1, 0, 0, 64, 0, true, false, false, none⟩
    let r := tileS (fun t => { t with ra := { t.ra with out := [q] } })
    let far := State.setTile base 0 { tile0 with memQ := [{ memOp .frd with fc := false }] }
    let own : Fill := ⟨0, 0, [], some ⟨0, [], [], true⟩⟩
    let peer : Fill := ⟨0, 2 ^ 34, [], some ⟨0, [], [], false⟩⟩
    let fs := fun f : Fill => { base with firn := { base.firn with fills := [f], scratchMode := 0xFFFFFFFF } }
    (∀ k ∈ ([.frd, .gld, .fwr, .gst, .fiv] : List MemKind), (hit k).portWaits 0 = false ∧ ((hit k).nextPiece 0).map (·.1) = some k) ∧
    ((hit .fwr).errs.inj = none ∧ (hit .fwr).firn.upsets = [] ∧ gDev p.ga = (hit .fwr).devid ∧ (hit .fiv).filling p.stack p.line = false) ∧
    (far.portWaits 0 = false ∧ (far.nextPiece 0).map (·.2.2) = some { p with fc := false } ∧ far.cacheable { p with fc := false } = false ∧
      far.ownScratch { p with fc := false } = false ∧ gRegion p.ga ≠ 2) ∧
    (((hit .frd).nextPiece 0).map (·.2.2) = some p ∧ ((hit .frd).nextPiece 0).map (·.1) = some .frd ∧ (hit .frd).cacheable p = true ∧
      (hit .frd).firn.find p.stack p.line = some (wayKey 0 0 0, x) ∧ (hit .frd).errs.inj = none ∧ x.poison = 0) ∧
    (((hit .fiv).nextPiece 0).map (·.1) = some .fiv) ∧
    ((firnS .gld).firn.find p.stack p.line = none ∧ (firnS .gld).canIssue p.eng (gDev p.ga) opLd = true) ∧
    (r.portWaits 0 = false ∧ r.nextPiece 0 = none ∧ (r.nextRunAhead 0).isSome = true) ∧
    ((fs own).firn.fills.find? (fun f => f.stack = 0 && f.line = 0) = some own ∧ 0 / 2 ^ 34 = (fs own).devid) ∧
    ((fs peer).firn.fills.find? (fun f => f.stack = 0 && f.line = 2 ^ 34) = some peer ∧ 2 ^ 34 / 2 ^ 34 ≠ (fs peer).devid) := by decide +kernel

theorem meets_FirnMaintenance :
    let s := fun f => { base with firn := f base.firn }
    let z := s (fun f => { f with zeroing := [31] })
    let m := s (fun f => { f with maint := RF.put f.maint 3 (some ⟨1, 0xFF⟩) })
    let t := s (fun f => { f with toScratch := [31] })
    let w := s (fun f => { f with walks := [⟨2, 7, false⟩] })
    let d := s (fun f => { f with walks := [⟨2, 7, false⟩], lines := [(wayKey 0 0 0, some ⟨0, 0, 1, 0, 2⟩)] })
    (z.firn.zeroing.contains 31 = true ∧ z.remapping 3 = false) ∧ base.maintBusy 3 = false ∧
    (RF.at m.firn.maint 3 = some ⟨1, 0xFF⟩ ∧ m.stackWritingBack 3 = false ∧ m.remapping 3 = false) ∧
    (t.firn.toScratch.contains 31 = true ∧ t.stackWritingBack (31 / 8) = false ∧ t.remapping (31 / 8) = false ∧ t.firn.fills.any (fun f => homeOn f.stack f.line == 31) = false ∧
      (t.firn.framesOf (fun x => x == 31)).any (fun p => p.2.dirty != 0) = false) ∧
    (w.firn.walks.find? (fun w => w.slot == 2) = some ⟨2, 7, false⟩ ∧ w.walkBegun ⟨2, 7, false⟩ = true ∧ w.firn.walked 2 = [] ∧
      (∀ t : Nat, t < 4 → w.remapping t = false) ∧ ∀ t : Nat, t < 4 → w.stackWritingBack t = false) ∧
    (d.firn.walks.find? (fun w => w.slot == 2) = some ⟨2, 7, false⟩ ∧ d.walkBegun ⟨2, 7, false⟩ = true ∧ d.firn.walked 2 ≠ [] ∧
      ∀ t : Nat, t < 4 → d.remapping t = false) ∧
    d.walkBegun ⟨2, 7, true⟩ = true := by decide +kernel

theorem meets_VerticalBundles :
    let s := fun f => { base with firn := { base.firn with vb := SMap.set Vb.reset base.firn.vb (vbKey 3 383) (f { Vb.reset with st := .full }) } }
    let d := s (fun v => { v with due := [63], spares := RF.all 2 none })
    let e := s (fun v => { v with due := [63], spares := RF.all 2 (some 1), failed := [], remap := true })
    (d.vbLive 3 383 = true ∧ (d.vb 3 383).due.contains 63 = true ∧ (d.vb 3 383).st = .full ∧ RF.at (d.vb 3 383).spares 0 = none) ∧
    (e.vbLive 3 383 = true ∧ (e.vb 3 383).due.contains 63 = true ∧ (∀ i, RF.at (e.vb 3 383).spares i ≠ none) ∧
      (e.vb 3 383).failed = [] ∧ (e.vb 3 383).remap = true) ∧
    (base.coreUp 5 = true ∧ { base with mor := { base.mor with store := 1 } }.mor.store = 1) := by decide +kernel

theorem meets_HbmStacks :
    let f := hbmS (fun k => { k with st := .failed })
    let s := hbmS (fun k => { k with phyLost := true, parity := [(0, 4)], failDue := some 1 })
    let p : State := { hbmS with hbm := { hbmS.hbm with poison := [stackKey 0 0 / 64], zeroed := false } }
    (s.pkg.dev ≠ .cold ∧ s.pkg.discovered = true ∧ (s.hbm.stack 0).failDue = some 1 ∧ s.hbm.placed = true) ∧
    (f.hbm.stack 0).st = .failed ∧ ((s.hbm.stack 0).st ≠ .notFound ∧ (s.hbm.stack 0).st ≠ .retired ∧ s.errs.inj = none) ∧
    (p.hbm.placed = true ∧ p.hbm.zeroed = false) ∧ (s.hbm.stack 0).st = .inService ∧ s.hbm.poisoned 0 0 = false ∧
    (RF.at p.hbm.pause 0 = false ∧ (p.hbm.stack 0).scrubDone = false ∧ (p.hbm.stack 0).scrubAt + 64 < stackBytes ∧
      p.hbm.poisoned 0 (p.hbm.stack 0).scrubAt = true) ∧
    (s.hbm.stack 0).phyLost = true := by decide +kernel

/-! ### The host's access to memory and the collectives -/

def run0 : HdmaRun :=
  { num := 3, base := 8192, j := 3, raw := [], op := 0, irq := false, ordered := false, gateway := 0, outerPort := false, dstDom := 0,
    host := 0, dev := 0, aux := 0, len := 512, msgCtr := 0, compl := 0, tag := 0, started := false, issued := 0, outstanding := 0,
    reads := [], status := 0, complete := false, norec := false }

def hdmaS (r : HdmaRun) : State :=
  hbmS.onMem (fun m => { m with hdma := RF.put m.hdma 3 { RF.at m.hdma 3 with ringBase := 8192, runs := [r] } })

theorem meets_HostMemoryAccess :
    let ice : State := { hbmS with pkg := { hbmS.pkg with dev := .icebound } }
    let reading := { run0 with started := true, reads := [0], issued := 512, outstanding := 1 }
    let past := { run0 with started := true, issued := 512 }
    (base.bar4Takes 0 4096 = true ∧ base.bar4At 0 4096 = none) ∧ (hbmS.bar4Takes 0 4096 = true ∧ hbmS.bar4At 0 4096 = some 0) ∧
    (ice.bar4Takes 0 8 = true ∧ ice.pkg.dev = .icebound) ∧ (hbmS.hostReaches = true ∧ hbmS.pkg.dev ≠ .icebound) ∧
    (base.hdmaRuns = true ∧ (hdmaS run0).staged (dk 0x3200 0x13) = none ∧ ((hdmaS run0).hdmaAt 3).irqDue = false ∧
      ((hdmaS run0).hdmaAt 3).ringBase ≠ 0 ∧ ((hdmaS run0).hdmaAt 3).stopped = false) ∧
    ((hdmaS run0).run? 3 3 = some run0 ∧ run0.started = false ∧ run0.ordered = false) ∧
    ((hdmaS reading).run? 3 3 = some reading ∧ reading.reads.contains 0 = true ∧ min 512 (reading.len - 0) = 512) ∧
    ((hdmaS past).run? 3 3 = some past ∧ past.past = true ∧ past.norec = false ∧ past.irq = false) := by decide +kernel

/-- A BROADCAST of two FP32 elements from device 0 along row 0 to devices 0 and 1, of program 7. -/
def collDesc (fmt : Byte) : List Byte :=
  [1, 1, fmt, 0, 0, 0, 0, 0] ++ natLE 8 3 ++ natLE 4 9 ++ natLE 4 7 ++ natLE 8 0 ++ natLE 8 256 ++ natLE 8 4096 ++ natLE 4 2 ++
  List.replicate 12 0#8

/-- The unit 0 with such a descriptor at the front of its ring. -/
def collS (b : List Byte) : State :=
  let s := (hbmS.memWrite 8256 b false).1
  ({ s with sched := { s.sched with progs := [prog0] } }).onColl 0 (fun x => { x with ringBase := 8192 })

def collRun0 : CollRun := (hbmS.collParse (collDesc 1)).1

def collRunS (f : CollRun → CollRun) : State := hbmS.onColl 0 (fun x => { x with runs := [f collRun0] })

theorem meets_Collectives :
    let p : Packet := { pkt0 with opcode := 0x20, srcEng := 35 }
    let c : Packet := { pkt0 with opcode := 0x21, srcEng := 32 }
    let done := fun r : CollRun => { r with wrote := true }
    let w := fun r : CollRun => { r with rowWait := some (BitVec.ofNat 64 0) }
    let late := fun r : CollRun => { r with timeout := 0 }
    ((headS p).headOf 0 0 = some p ∧ p.dst = (headS p).fab.devid ∧ (headS p).tooOld p = false ∧ ((headS p).pop 0 0).turnOf p = .now) ∧
    ((headS c).headOf 0 0 = some c ∧ (headS c).tooOld c = false ∧ (headS c).repliesWaiting = 0 ∧ (headS p).repliesWaiting = 0) ∧
    (base.collRuns = true ∧ base.staged (dk 0x3300 1) = none) ∧
    ((collRunS id).collRun? 0 9 = some collRun0 ∧ collRun0.status = 0 ∧ 0 < collRun0.nblocks ∧ collRun0.allDone = false ∧
      ((collRunS id).collAt 0).mayStep collRun0 0 = true) ∧
    msU (late collRun0).timeout ≤ (collRunS late).since (late collRun0).taken ∧
    ((collRunS w).collRun? 0 9 = some (w collRun0) ∧ serBefore (collRunS w).ftime 0 = false ∧ (w collRun0).colWait = none) ∧
    (((collRunS done).collWatch 0 9).collRun? 0 9 = some (done collRun0) ∧ ((collRunS done).collWatch 0 9).collRuns = true ∧
      (done collRun0).past = true ∧ ((collRunS done).collWatch 0 9).collBusy 0 9 = false) := by decide +kernel

set_option maxRecDepth 100000 in
theorem meets_Collectives_take :
    let t := fun b => collS b
    let x := (collS (collDesc 1)).collAt 0
    let b := natLE 64 ((collS (collDesc 1)).peek (ringSlot x.ringBase x.take) 64)
    let b' := natLE 64 ((collS ([1] ++ List.replicate 63 0)).peek (ringSlot x.ringBase x.take) 64)
    let u := fun s : State => ((s.ringClear x.ringBase x.take).ringTail x.ringBase (x.take + 1)).onColl 0 (fun y => { y with take := y.take + 1 })
    (x.ringBase ≠ 0 ∧ fld b 0 1 = 1 ∧ x.runs.length < 64 ∧ x.runs.any (fun y => y.id = 9) = false ∧ b = collDesc 1 ∧
      (u (t (collDesc 1))).collOk b ((t (collDesc 1)).collParse b).1 ((t (collDesc 1)).collParse b).2 = true) ∧
    (fld b' 0 1 = 1 ∧ (u (t ([1] ++ List.replicate 63 0))).collOk b' ((t (collDesc 1)).collParse b').1 ((t (collDesc 1)).collParse b').2
      = false ∧ (segRef ((t (collDesc 1)).collParse b').2 b' 40).1.ok .f (segRef ((t (collDesc 1)).collParse b').2 b' 40).2 16 = false) := by
  decide +kernel


theorem leNat_zeros (n : Nat) : leNat (List.replicate n 0#8) = 0 := by
  induction n with
  | zero => rfl
  | succ n ih => rw [List.replicate_succ, leNat, ih]; rfl

/-- R584, R585: whatever FORMAT_MAJOR the firmware has, and whatever the part's serial number and dies, some blob is accepted. -/
theorem restore_blob_exists (f : W16) (serial : W64) (check : W32) :
    ∃ b : List Byte, b.length = 262144 ∧ fld b 0 4 = 0x4C414354 ∧ calCrcOk b = true ∧ fld b 8 8 = serial.toNat ∧ fld b 16 4 = check.toNat ∧ fld b 4 2 = f.toNat := by
  obtain ⟨z, hz⟩ : ∃ z, z = 262080 := ⟨_, rfl⟩
  obtain ⟨h, hh⟩ : ∃ h : List Byte, h = natLE 4 0x4C414354 ++ natLE 2 f.toNat ++ natLE 2 0 ++ natLE 8 serial.toNat ++
    natLE 4 check.toNat ++ zeros 40 := ⟨_, rfl⟩
  obtain ⟨c, hcrc⟩ : ∃ c, c = crc32c (h ++ zeros 4 ++ zeros z) := ⟨_, rfl⟩
  have hf := f.isLt; have hs := serial.isLt; have hc := check.isLt
  have h60 : h.length = 60 := by rw [hh]; rfl
  refine ⟨h ++ natLE 4 c.toNat ++ zeros z, ?_, ?_, ?_, ?_, ?_, ?_⟩
  · rw [List.length_append, List.length_append, h60, zeros, show (natLE 4 c.toNat).length = 4 from rfl, List.length_replicate, hz]
  · simp [hh, fld, natLE, leNat]
  · have h1 : (h ++ natLE 4 c.toNat ++ zeros z).take 60 = h := by
      rw [List.append_assoc, List.take_append_of_le_length (by omega), List.take_of_length_le (by omega)]
    have h2 : (h ++ natLE 4 c.toNat ++ zeros z).drop 64 = zeros z := by
      rw [List.drop_append_of_le_length (by simp [h60, natLE]), List.drop_of_length_le (by simp [h60, natLE]), List.nil_append]
    have h3 : fld (h ++ natLE 4 c.toNat ++ zeros z) 60 4 = c.toNat := by
      have hc' := c.isLt
      rw [fld, List.append_assoc, List.drop_append_of_le_length (by omega), List.drop_of_length_le (by omega)]
      simp [natLE, leNat]; omega
    have h4 : ∀ o n, 64 ≤ o → fld (h ++ natLE 4 c.toNat ++ zeros z) o n = leNat (((zeros z).drop (o - 64)).take n) := by
      intro o n ho
      rw [fld, show o = 64 + (o - 64) by omega, ← List.drop_drop, h2, Nat.add_sub_cancel_left]
    have h5 : ∀ i ∈ List.range 9, calSect (h ++ natLE 4 c.toNat ++ zeros z) i = (0, 0, 0) := by
      intro i hi
      have hi := List.mem_range.1 hi
      rw [calSect, h4 _ _ (by omega), h4 _ _ (by omega), h4 _ _ (by omega)]
      simp only [zeros, List.drop_replicate, List.take_replicate, leNat_zeros]
    simp only [calCrcOk, h1, h2, h3, Bool.and_eq_true, List.all_eq_true]
    refine ⟨by simp [hcrc, BitVec.ofNat_toNat], fun i hi => ?_⟩
    simp only [calSectBytes, h5 i hi, List.take_zero]
    decide
  · simp [hh, fld, natLE, leNat]; omega
  · simp [hh, fld, natLE, leNat]; omega
  · simp [hh, fld, natLE, leNat]; omega

/-- A blob that this device stages. -/
theorem restore_accepts (s : State) : ∃ v, v.length = 262144 ∧ s.restoreCause v = 1 := by
  obtain ⟨b, h0, h1, h2, h3, h4, h5⟩ := restore_blob_exists (Config.calFormat s.firm.release.toNat).1 s.idSerial s.dieCheck
  exact ⟨b, h0, by simp [State.restoreCause, h1, h2, h3, h4, h5]⟩



/-! ### Cores, the lease and the domain manager -/

def leaseS (f : Lease → Lease) : State := base.onLease f

theorem meets_CoresAndLease :
    let h := leaseS (fun l => { l with health := .healthy })
    let d := leaseS (fun l => { l with health := .down })
    let again := base.onCore 5 (fun c => { c with lastFail := some 0 })
    let hand := leaseS (fun l => { l with handover := true })
    let r := base.onCore 5 (fun c => { c with st := .restarting })
    ((base.core 5).st = .running ∧ base.firm.load.st = .done ∧ (base.core 5).lastFail = none) ∧
    ((again.core 5).st = .running ∧ (again.core 5).lastFail = some 0 ∧ again.since 0 ≤ 10 * msU 1000) ∧
    (h.leaseRuns = true ∧ h.firm.lease.health = .healthy ∧ h.coreUp h.firm.lease.standby.toNat = true) ∧
    (d.leaseRuns = true ∧ d.firm.lease.health ≠ .healthy) ∧
    (hand.firm.lease.handover = true ∧ hand.coreUp hand.firm.lease.standby.toNat = true) ∧ (r.core 5).st = .restarting := by
  decide +kernel

def dmS (f : Dm → Dm) : State := base.onDm f

/-- Receiving a service message 0x60 or higher: the state that acts on it. -/
def heard (s : State) (type : Byte) (b : List Byte) : Bool × State := s.svcIn hdr type b

theorem meets_DomainManagerRole :
    let h := dmS (fun m => { m with role := .holder, sending := some ⟨1, 0, []⟩ })
    let c := dmS (fun m => { m with claim := some ⟨3, 0, []⟩ })
    let t := dmS (fun m => { m with role := .standby })
    let q := dmS (fun m => { m with claim := some ⟨3, 0, List.range 40⟩ })
    let old := dmS (fun m => { m with seenGen := 4 })
    let ack := natLE 4 3 ++ [0]
    (base.dmUp = true ∧ base.neighbours.contains 1 = true) ∧ (h.isHolder = true ∧ h.firm.dm.sending ≠ none ∧ h.firm.dm.role = .holder) ∧
    ((base.svcIn { hdr with src := 1 } 0x50 []).1 = true ∧ (base.svcIn { hdr with src := 1 } 0x50 []).2.neighbours.contains 1 = true ∧
      (base.svcIn { hdr with src := 1 } 0x50 []).2.coreUp 2 = true) ∧
    ((old.svcIn hdr 0x60 (natLE 4 3)).1 = true ∧ (old.svcIn hdr 0x60 (natLE 4 3)).2.dmUp = true ∧
      (old.svcIn hdr 0x60 (natLE 4 3)).2.claimAnswer 3 0 = 1) ∧
    ((c.svcIn hdr 0x61 ack).1 = true ∧ (c.svcIn hdr 0x61 ack).2.firm.dm.claim = some ⟨3, 0, []⟩ ∧
      (c.svcIn hdr 0x61 ack).2.since 0 ≤ msU 1 ∧ fld ack 4 1 = 0 ∧
      (NSet.add 5 []).length < (c.svcIn hdr 0x61 ack).2.quorum) ∧
    ((q.svcIn hdr 0x61 ack).2.quorum ≤ (NSet.add 5 (List.range 40)).length) ∧
    ((t.svcIn hdr 0x62 []).1 = true ∧ (t.svcIn hdr 0x62 []).2.dmUp = true ∧ (t.svcIn hdr 0x62 []).2.firm.dm.role ≠ .holder ∧
      serBefore (BitVec.ofNat 32 0) (t.svcIn hdr 0x62 []).2.firm.dm.seenGen = false) ∧
    ((h.svcIn hdr 0x63 []).1 = true ∧ (h.svcIn hdr 0x63 []).2.isHolder = true ∧ BitVec.ofNat 32 0 = (h.svcIn hdr 0x63 []).2.firm.dm.gen ∧
      (h.svcIn hdr 0x63 []).2.since (h.svcIn hdr 0x63 []).2.firm.dm.renewSent ≤ msU 1 ∧ (h.svcIn hdr 0x63 []).2.mode 5 ≠ modeLost) ∧
    ((t.svcIn hdr 0x64 []).1 = true ∧ (t.svcIn hdr 0x64 []).2.firm.dm.role = .standby ∧ (t.svcIn hdr 0x64 []).2.firm.dm.copyIn = none ∧
      serBefore (BitVec.ofNat 32 0) (t.svcIn hdr 0x64 []).2.firm.dm.gen = false ∧ (⟨0, 0, 0, [], 0⟩ : DmCopy).whole = none) ∧
    ((h.svcIn { hdr with src := 3 } 0x65 []).1 = true ∧
      ((h.svcIn { hdr with src := 3 } 0x65 []).2.dmList.takeWhile (· != 3)).length = 3 ∧
      3 < (h.svcIn { hdr with src := 3 } 0x65 []).2.dmList.length) := by decide +kernel

theorem meets_RouteUpdates :
    let h := dmS (fun m => { m with role := .holder, sending := some ⟨0, 0, []⟩ })
    let t := dmS (fun m => { m with role := .standby })
    let w := dmS (fun m => { m with role := .standby, incoming := some ⟨1, 0, 1, [(0, [7])]⟩ })
    let l := base.onFab (fun f => { f with silent := [1] })
    let seg := natLE 4 1 ++ natLE 8 0 ++ [0, 2, 0, 0]
    ((h.svcIn hdr 0x51 []).1 = true ∧ (h.svcIn hdr 0x51 []).2.isHolder = true ∧
      BitVec.ofNat 32 (fld [] 16 4) = (h.svcIn hdr 0x51 []).2.firm.dm.gen) ∧
    (l.fab.silent.contains 1 = true ∧ (l.declareLost 1).isHolder = false) ∧
    ((t.svcIn hdr 0x66 seg).1 = true ∧ (t.svcIn hdr 0x66 seg).2.dmUp = true ∧ (t.svcIn hdr 0x66 seg).2.firm.dm.role ≠ .holder ∧
      (t.svcIn hdr 0x66 seg).2.firm.dm.incoming = none ∧
      serBefore (t.svcIn hdr 0x66 seg).2.fab.routeGen (BitVec.ofNat 32 (fld seg 0 4)) = true ∧ fld seg 12 1 + 1 ≠ fld seg 13 1 ∧
      (⟨1, 0, 2, []⟩ : RouteIn).whole = none) ∧
    ((h.svcIn hdr 0x67 []).1 = true ∧ (h.svcIn hdr 0x67 []).2.firm.dm.sending = some ⟨0, 0, []⟩ ∧ BitVec.ofNat 32 (fld [] 0 4) = 0) ∧
    (h.firm.dm.sending = some ⟨0, 0, []⟩ ∧ h.isHolder = true) ∧
    (w.firm.dm.role = .standby ∧ w.firm.dm.incoming = some ⟨1, 0, 1, [(0, [7])]⟩ ∧ (⟨1, 0, 1, [(0, [7])]⟩ : RouteIn).whole = some [7] ∧
      w.coreUp 2 = true) := by decide +kernel

/-! ### Clocks, time, power -/

theorem meets_ClockDomains :
    let p := fun d st => base.setPll d st
    let own := fun b : List Byte => base.onPow (fun p => { p with own := [b] })
    let f : FreqChange := ⟨25, 0, 0, 0, false, false⟩
    let g : FreqChange := ⟨24, 0, 0, 0, false, true⟩
    let c := fun x => base.onClk (fun c => { c with pending := some x })
    let e := base.onClk (fun c => { c with pending := some g, changing := true })
    let w := base.onClk (fun c => { c with warnMs := RF.put c.warnMs 3 (some base.now), alarm := RF.put c.alarm 3 true })
    ((p 24 .locked).pll 24 = .locked ∧ (p 7 .locked).pll 7 = .locked ∧ (p 7 .locked).clk.changing = false ∧
      (p 20 .locking).pll 20 = .locking ∧ (p 21 .locked).pll 21 = .locked ∧ (p 21 .locking).pll 21 = .locking) ∧ base.pkg.dev = .flow ∧
    (RF.at base.clk.warnMs 3 = none ∧ RF.at base.clk.alarm 3 = false ∧ base.coreUp 3 = true) ∧
    (RF.at w.clk.warnMs 3 = some w.now ∧ (w.now - w.now).toNat < msU 1 ∧ RF.at w.clk.alarm 3 = true) ∧
    (((own [1]).takeBudget .own 0x01).1 = some (0, [1]) ∧ ((own [2]).takeBudget .own 0x02).1 = some (0, [2]) ∧
      BitVec.ofNat 16 (fld [2] 2 2) = ((own [2]).takeBudget .own 0x02).2.pow.freqSeq) ∧
    ((c f).clk.pending = some f ∧ f.supplied = false ∧ (c f).clk.jobStep < f.step) ∧
    ((c g).clk.changing = false ∧ (g.step ≤ (c g).clk.jobStep ∧ g.supplied = true)) ∧
    (e.clk.changing = true ∧ e.cal.pendingLimit = none) := by decide +kernel

theorem meets_FabricTime :
    let a := base.onClk (fun c => { c with ports := RF.put c.ports 13 { RF.at c.ports 13 with t1A := some 5 }, ftState := .acquiring })
    let h : SvcHdr := { hdr with port := 13 }
    (fabS.portUp 0 = true ∧ (base.svcIn hdr 0x40 []).1 = true) ∧
    ((a.svcIn h 0x41 []).1 = true ∧ h.fibreB = false ∧ (RF.at (a.svcIn h 0x41 []).2.clk.ports 13).t1A = some 5) ∧
    ((base.svcIn h 0x41 []).1 = true ∧ (RF.at (base.svcIn h 0x41 []).2.clk.ports 13).t1A = none) ∧
    base.clk.ftState = .unset ∧ a.clk.ftState ≠ .unset := by decide +kernel

/-- `base` with the last samples of stack 3. -/
def sampleS (f : Samples → Samples) (g : StackPow → StackPow := id) : State :=
  base.onStk 3 (fun k => { g k with last := f ⟨List.replicate 64 0, List.replicate 16 0, [], List.replicate 16 0, [0, 0], [], []⟩ })

theorem meets_PowerControl :
    let own : State := { base.onPow (fun p => { p with own := [[3]] }) with pkg := { base.pkg with dev := .icebound } }
    let fb := base.onPow (fun p => { p with fallback := true })
    let sent := base.onStk 3 (fun k => { k with sent := some (5, 20) })
    let firn := sampleS (fun x => { x with firn := List.replicate 15 0 ++ [200] })
    let floe := sampleS (fun x => { x with floe := List.replicate 15 0 ++ [200] }) (fun k => { k with suspFloe := [0, 1, 2, 3, 4, 5, 6, 7] })
    let trip := sampleS (fun x => { x with lb := [0, 1360] })
    let high := base.onPow (fun p => { p with pwrNow := 2100, cap := 2000, stks := RF.all 2 { RF.at p.stks 0 with k := 0 } })
    (base.coreUp 3 = true ∧ base.pkg.dev ≠ .icebound) ∧
    (base.pow.fallback = false ∧ fb.pow.fallback = true ∧ (sent.stk 3).sent = some (5, 20)) ∧
    ((firn.stk 3).median 79 = some 0 ∧ 96 < (sampleOf (firn.stk 3).last 79 - 0).natAbs ∧ (firn.stk 3).suspects 79 = false ∧
      (firn.stk 3).firnSuspect = false) ∧
    ((floe.stk 3).median 95 = some 0 ∧ 96 < (sampleOf (floe.stk 3).last 95 - 0).natAbs ∧ (floe.stk 3).suspects 95 = false ∧
      (floe.stk 3).suspFloe.length = 8) ∧
    (tripLimit 97 ≤ trip.tripValue 3 97 ∧ trip.pow.trip = false ∧ trip.pkg.dev ≠ .cold) ∧
    ((∀ k : BitVec 2, (high.stk k).k = 0) ∧ 102 * high.capE < 100 * high.pow.pwrNow) ∧ base.pow.pwrNow ≤ base.capE ∧
    (own.coreUp 3 = true ∧ (own.takeBudget .own 0x03).1 = some (0, [3]) ∧ BitVec.ofNat 32 (fld [3] 4 4) = (own.takeBudget .own 0x03).2.jobId ∧
      (own.takeBudget .own 0x03).2.members.contains 0 = true ∧ own.mayAnnounce = false) := by decide +kernel

/-- Whatever the calibrated resistances are, with no power drawn. -/
theorem meets_PowerControl_firn :
    let s := sampleS (fun x => { x with serac := List.replicate 64 2000 })
    (s.stk 3).firnSuspect = false ∧ 128 < s.inferred 3 (s.stk 3).last 15 - (s.stk 3).last.firn.getD 15 0 := by
  refine ⟨by decide, ?_⟩
  obtain ⟨c, h⟩ : ∃ c, (sampleS (fun x => { x with serac := List.replicate 64 2000 })).firnCoef 3 15 = c := ⟨_, rfl⟩
  have e : (sampleS (fun x => { x with serac := List.replicate 64 2000 })).inferred 3
      ((sampleS (fun x => { x with serac := List.replicate 64 2000 })).stk 3).last 15 =
      ((2000 + 0) * 1000000 + 16 * (c.1 * (0 + 0) - c.2 * 0)) / 2000000 := by rw [← h]; rfl
  simp only [e, Int.add_zero, Int.mul_zero, Int.sub_zero]; decide

/-! ### Photonics -/

def emS (b e : Nat) (f : Emitter → Emitter) (s : State := base) : State := s.onEmitter b e f

theorem meets_Emitters :
    let l := emS 3 32 (fun x => { x with st := .active, fade := .swap }) (emS 3 33 (fun x => { x with st := .spare }))
    let h := emS 3 32 (fun x => { x with st := .active, fade := .swap }) (emS 3 33 (fun x => { x with st := .spareHot }))
    let w := base.onOwner 27 (fun w => { w with swaps := [3500], running := [] })
    let n := fabS.onOwner 0 (fun w => { w with swaps := [5], noticed := some .swap })
    (l.emitter 3 33).st ≠ .active ∧ (h.emitter 3 32).st = .active ∧
    ((l.emitter 3 33).st = .spare ∧ (l.emitter 3 32).st = .active ∧ 2 ≤ (l.emitter 3 32).fade.code) ∧
    ((w.owner 27).swaps = [3500] ∧ (w.owner 27).running = [] ∧ w.hasNotice 27 .swap = true) ∧
    ((n.owner 0).swaps = [5] ∧ (n.owner 0).running = [] ∧ n.portUp 0 = true ∧ n.hasNotice 0 .swap = true) ∧
    ((h.emitter 3 33).st = .spareHot ∧ 2 ≤ (h.emitter 3 32).fade.code ∧ (h.emitter 3 33).st ≠ .failed) := by decide +kernel

theorem meets_ServiceSlots :
    let s := fabS (fun f => { f with en := true })
    let n := s.onOwner 0 (fun w => { w with noticed := some .scheduled })
    let x : Slot := ⟨.scheduled, 5, 0⟩
    let y : Slot := ⟨.immediate, 5, 0⟩
    let r := s.onOwner 0 (fun w => { w with running := [x] })
    let i := s.onOwner 0 (fun w => { w with running := [y] })
    let far := fabS (fun f => { f with peerSlots := [x] })
    (n.slotFree 0 = true ∧ n.hasNotice 0 .scheduled = true ∧ (n.slotOrder 0).head? = some 0 ∧ (n.owner 0).running = [] ∧
      n.staged (dk 0x3000 4) = none) ∧
    (s.portUp 0 = true ∧ s.nextSlot 0 = some (.scheduled, 0)) ∧
    (r.chanSlot 5 = some x ∧ x.kind = .scheduled ∧ ((r.judgeSlot 5 []).1.owner (chanOwner 5)).swaps.contains 5 = false) ∧
    (i.chanSlot 5 = some y ∧ i.floe.drained.contains 5 = false) ∧
    (far.floe.peerSlots.find? (fun x => x.chan == 5) = some x ∧ x.kind ≠ .swap) ∧
    (base.svcIn hdr 0x20 []).1 = true ∧ (base.svcIn hdr 0x21 []).1 = true := by decide +kernel

theorem meets_PortTraining :
    let p := fun (f : Port → Port) => base.onPho 0 f
    let t := p (fun x => { x with st := .training, wired := true })
    let m := p (fun x => { x with st := .miswired })
    let pr := p (fun x => { x with a := { x.a with probing := true }, b := { x.b with probing := true, heard := true } })
    let id := fun (u : State) dev port => u.onPho 0 (fun p => { p with peerDev := dev, peerPort := port, peerDom := 0 }.onFibre false
      (fun f => { f with ident := some (u.wiringOf 0 false dev port false 0) }))
    let u := (t.svcIn hdr 0x02 []).2
    let w := ((m.svcIn hdr 0x02 []).2)
    let both := u.onPho 0 (fun x => { x with b := { x.b with ident := some .training } })
    (((pr.phoPort 0).fibre false).probing = true ∧ pr.pkg.dev = .flow) ∧
    ((base.svcIn hdr 0x01 []).1 = true ∧ (base.svcIn hdr 0x01 []).2.mayHear 0 = true) ∧
    ((pr.svcIn hdr 0x01 []).1 = true ∧ hdr.fibreB = false ∧ (((pr.svcIn hdr 0x01 []).2.phoPort 0).fibre false).probing = true ∧
      (((pr.svcIn hdr 0x01 []).2.phoPort 0).fibre true).heard = true) ∧
    ((t.svcIn hdr 0x02 []).1 = true ∧ u.portSt 0 = .training ∧ u.errs.inj = none) ∧
    ((wiring u.shape u.devid 0).any (fun d => ((id u (BitVec.ofNat 6 d.1) (BitVec.ofNat 4 d.2)).phoPort 0).verdict == none &&
      ((id both (BitVec.ofNat 6 d.1) (BitVec.ofNat 4 d.2)).phoPort 0).verdict == some .training) = true) ∧
    (((id u 0 0).phoPort 0).verdict = some .miswired ∧ u.portSt 0 ≠ .miswired) ∧
    ((m.svcIn hdr 0x02 []).1 = true ∧ w.portSt 0 = .miswired ∧ ((id w 0 0).phoPort 0).verdict = some .miswired) ∧
    (m.portSt 0 = .miswired ∧ (m.phoPort 0).a.lost = false) ∧
    (t.portSt 0 = .training ∧ (t.phoPort 0).wired = true ∧ t.floe.intlk = false) := by decide +kernel

def steer0 : Steer := ⟨RF.all 5 0, 0, 1, .dictionary, 0, [], [], none, [], true, []⟩

theorem meets_SteeringAndLight :
    let s := fun (f : Floe → Floe) => base.onFloe f
    let a := base.onClk (fun c => { c with ftState := .acquiring })
    let site := a.onCal (fun c => { c with elems := SMap.set CalElem.reset c.elems (elemKey 6 4103) { CalElem.reset with degraded := true } })
    let los := a.onPho 0 (fun p => { p with b := { p.b with los := true } })
    let prop := [((0 : BitVec 5), (0x90 : Byte))]
    let i := s (fun f => { f with steers := [steer0] })
    let e := s (fun f => { f with steers := [{ steer0 with internal := false }] })
    let dec := { steer0 with decided := some (RF.all 5 0) }
    let d := s (fun f => { f with steers := [dec] })
    let bd : Bound := ⟨3, 0, 5, []⟩
    let bs := s (fun f => { f with steers := [{ steer0 with time := 6 }], bound := [⟨1, 0, 9, []⟩, bd] })
    let g := fabS (fun f => { f with starting := [0], deferred := [] })
    let fib := fun (f : Fibre → Fibre) => base.onPho 13 (fun p => { p with b := f p.b, st := .down })
    ((base.svcIn hdr 0x10 []).1 = true ∧ (base.svcIn hdr 0x10 []).2.clk.ftState = .unset) ∧
    ((a.svcIn hdr 0x10 []).1 = true ∧ (a.svcIn hdr 0x10 []).2.clk.ftState ≠ .unset ∧
      serBefore (BitVec.ofNat 64 (usU 30) - BitVec.ofNat 64 (usU 30)) (a.svcIn hdr 0x10 []).2.ftime = false ∧
      (a.svcIn hdr 0x10 []).2.siteFailed 0 prop = false ∧ (a.svcIn hdr 0x10 []).2.rxDown 0 prop = false) ∧
    (site.siteFailed 0 [(0, 0x80)] = true ∧ los.siteFailed 0 prop = false ∧ los.rxDown 0 prop = true) ∧
    (base.svcIn hdr 0x11 []).1 = true ∧ (i.floe.steers.find? (fun x => x.decided.isNone) = some steer0 ∧ steer0.internal = true) ∧
    (e.floe.steers.find? (fun x => x.decided.isNone) = some { steer0 with internal := false }) ∧
    (d.floe.steers = [dec] ∧ dec.decided = some (RF.all 5 0) ∧ d.floe.nextBound = none) ∧
    (bs.floe.nextBound = some bd ∧ bs.floe.steers.head? = some { steer0 with time := 6 } ∧ serBefore bd.time 6 = true) ∧
    (g.floe.starting.contains 0 = true ∧ g.floe.deferred = [] ∧ g.groupLit 0 = true ∧ g.portUp ((g.groupByte 0).toNat % 16) = true) ∧
    wiring base.shape base.devid 15 = none ∧
    (let x := fib (fun f => { f with lost := true, los := false, gate := false, closing := false })
     ((x.phoPort 13).fibre true).lost = true ∧ ((x.phoPort 13).fibre true).los = false ∧ ((x.phoPort 13).fibre true).gate = false ∧
      ((x.phoPort 13).fibre true).closing = false ∧ x.portSt 13 = .down ∧ x.portUp 13 = false ∧ x.floe.lostMoves = []) ∧
    (let x := fib (fun f => { f with closing := true })
     ((x.phoPort 13).fibre true).closing = true ∧ x.portSt 13 ≠ .disabled) := by decide +kernel

/-! ### Starting, resets and security -/

/-- A device in THAW. -/
def thawS (f : Cal → Cal := id) : State :=
  { base with pkg := { Pkg.reset with dev := .thaw }, cal := f Cal.reset }

theorem meets_ThawAndCalibration :
    let hold := thawS (fun c => { c with accepted := some 0 })
    let cal := thawS (fun c => { c with proceeded := true })
    let rest := thawS (fun c => { c with proceeded := true, restore := some [], restored := true })
    let its := (List.range 9).map (fun i => (i, { CalItem.reset with status := 2 }))
    let ended := fun st => thawS (fun c => { c with proceeded := true, stage := st, items := its })
    let last : State := { ended 14 with hbm := { (ended 14).hbm with zeroed := true } }
    (thawS.discovers = true ∧ [((0 : Nat), (0 : BitVec 64), (0 : Byte))].any (fun d => d.1 == 0) = true) ∧ hold.inHold = true ∧
    (cal.calibrates = true ∧ cal.elemLive 8 0 = true ∧ (cal.calElem (elemKey 8 0)).ended = false ∧ cal.runSpoiled 0 = false) ∧
    (rest.calibrates = true ∧ rest.elemLive 8 0 = true ∧ rest.cal.restore = some [] ∧ rest.cal.restored = true ∧ (rest.calElem (elemKey 8 0)).ended = false ∧
      (rest.calElem (elemKey 8 0)).restored = false ∧ (rest.calElem (elemKey 8 0)).runs = []) ∧
    ((ended 13).calibrates = true ∧ (ended 13).itemsEnded = true ∧ (ended 13).cal.stage < 14) ∧
    (last.calibrates = true ∧ last.itemsEnded = true ∧ last.cal.stage = 14 ∧ last.hbm.zeroed = true ∧ last.errs.entryDue = false) ∧ base.pkg.dev = .flow := by
  decide +kernel

theorem meets_Resets :
    let por : State := { base with pins := { base.pins with por := true } }
    let perst : State := { base with pins := { base.pins with perst := true, trip := false, por := false }, pkg := { base.pkg with dev := .cold } }
    let soft : State := { base with pkg := { base.pkg with softReset := true } }
    let due := base.onErrs (fun e => { e with entryDue := true })
    let fatal : State := { base.onErrs (fun e => { e with handling := true }) with pkg := { base.pkg with dev := .icebound } }
    por.pins.por = true ∧ (perst.pins.perst = true ∧ perst.pins.trip = false ∧ perst.pkg.dev = .cold ∧ perst.pins.railsUp = true) ∧
    (soft.pkg.softReset = true ∧ soft.mor.writing = none ∧ soft.errs.entryDue = false ∧ soft.pkg.dev = .flow) ∧
    (por.pkg.dev = .flow ∧ perst.pins.por = false) ∧ due.errs.entryDue = true ∧
    (fatal.errs.handling = true ∧ fatal.pkg.dev = .icebound ∧ fatal.coreUp 5 = true ∧ fatal.mor.store = 1) := by decide +kernel

theorem meets_Security :
    let img := { base with firm := { base.firm with load := { Load.reset with st := .loading, lastTaken := true } } }
    let fused := base.onSec (fun x => { x with fuse := some .prodLock })
    let conn := (base.onConn 3 (fun x => { x with started := true, version := 0x13, algs := true, large := some (.error 0 0), nextChunk := 0 })).onSec
      (fun x => { x with certChain := [1, 2, 3], aliasPub := [1] })
    (img.firm.load.lastTaken = true ∧ img.firm.load.st = .loading ∧ img.coreUp 4 = true ∧ img.imageCause [] true = some 3) ∧
    (base.firm.load.st = .done ∧ base.coreUp 4 = true ∧ base.sec.aliasPub = [] ∧
      base.mor.store = 1) ∧ fused.sec.fuse = some .prodLock ∧
    (((conn.spdmCount).conn 3).started = true ∧ spdmVersions.contains 0x13 = true) ∧
    ((conn.spdmCount).spdmRefusal false = none ∧ ((conn.spdmCount).conn 3).version = 0x13 ∧ (0x13 : Byte) ≠ 0 ∧
      ((conn.spdmCount).conn 3).large = some (.error 0 0) ∧ ((conn.spdmCount).conn 3).nextChunk = 0 ∧ ((conn.spdmCount).conn 3).algs = true ∧
      2 < conn.sec.certChain.length) := by decide +kernel

theorem meets_LinkAndTap :
    let free : State := { base with pins := { base.pins with tapReset := false } }
    base.pkg.dev ≠ .cold ∧ free.pins.tapReset = false ∧ base.pins.perst = false ∧ base.errs.prodLock = false ∧
    (base.onErrs (fun e => { e with prodLock := true })).errs.prodLock = true ∧
    ({ base with pins := { base.pins with perst := true } } : State).pins.railsUp = true := by decide +kernel

/-! ### The object dictionary -/

/-- A DICT_READ (0x0201) or DICT_WRITE (0x0202) message with a whole value. -/
def dictMsg (type idx sub : Nat) (v : List Byte) : List Byte :=
  [1, 0] ++ natLE 2 type ++ natLE 4 0 ++ natLE 4 256 ++ natLE 4 0 ++ natLE 4 0 ++ natLE 2 idx ++ natLE 1 sub ++ [1] ++ natLE 4 0 ++
    natLE 2 v.length ++ [0, 0] ++ natLE 4 v.length ++ natLE 4 0 ++ v

def putMsg (idx sub : Nat) (v : List Byte) : List Byte := dictMsg 0x0202 idx sub v

/-- `s` with a message taken. -/
def asked (s : State) (m : List Byte) : State := s.onMbx (fun x => { x with taken := [m], attached := true })

/-- The checks that make the message of `asked s m` a write of one whole value. -/
def mailOk (s : State) (m : List Byte) : Bool :=
  let r := mailReq true m
  let u := s.takeUp
  decide (s.firm.mbx.taken = [m]) && s.schedUp && decide (fld m 2 2 = 0x0202) && !s.n5Down && decide (r.idx < 0x8000) &&
  (match entryAt r.idx r.sub with
    | some e => !u.writeDenied e askMbx && !u.writeLocked (mailKey m) r.data && !lengthBad e r && !u.stateRefuses askMbx r &&
        decide (e.ty = .domain → s.session (mailKey m) = none ∧ r.off = 0 ∧ r.last = true)
    | none => false)

/-- Such a message is a write whose value is whole. -/
theorem mailOk_write (s : State) (m : List Byte) (h : mailOk s m = true) :
    ∃ e, MailWrite s m [] e (padTo e.len (mailReq true m).data) s.takeUp := by
  simp only [mailOk, Bool.and_eq_true, decide_eq_true_eq, Bool.not_eq_true'] at h
  obtain ⟨⟨⟨⟨⟨h1, h2⟩, h3⟩, h4⟩, h5⟩, h6⟩ := h
  split at h6
  · rename_i e he
    simp only [Bool.and_eq_true, decide_eq_true_eq, Bool.not_eq_true'] at h6
    obtain ⟨⟨⟨⟨a, b⟩, c⟩, d⟩, f⟩ := h6
    exact ⟨e, ⟨⟨h1, h2, h3⟩, h4, h5, he, a, b, c, d, .inl ⟨rfl, rfl, f⟩⟩⟩
  · simp at h6

/-- The message makes a write of the value `v` to the entry, taken up in `u`. -/
def puts (s : State) (idx sub : Nat) (v : List Byte) : Bool :=
  mailOk (asked s (putMsg idx sub v)) (putMsg idx sub v) && (entryAt idx sub).any (fun e => decide (padTo e.len (mailReq true (putMsg idx sub v)).data = v)) &&
    decide (mailKey (putMsg idx sub v) = dk idx sub)

theorem meets_DictionaryRequests :
    let w := fun idx sub v => asked base (putMsg idx sub v)
    let code := fun idx sub => (match entryAt idx sub with | some e => base.takeUp.writeDenied e askMbx | none => false)
    (Taken (w 0x7FFF 0 []) 0x0202 (putMsg 0x7FFF 0 []) [] ∧ (w 0x7FFF 0 []).n5Down = false ∧ entryAt 0x7FFF 0 = none) ∧
    code 0x1000 1 = true ∧
    (let s := base.onDict (fun d => { d with lock := true })
     (match entryAt 0x1200 3 with | some e => s.writeDenied e askMbx | none => true) = false ∧
       s.writeLocked (dk 0x1200 3) [1, 0, 0, 0] = true) ∧
    (match entryAt 0x1200 3 with | some e => lengthBad e (mailReq true (putMsg 0x1200 3 [1])) | none => false) = true ∧
    (puts base 0x1200 7 [0x5A] = true ∧ (base.takeUp.putEntry .u8 (dk 0x1200 7) [0x5A]).1 = 0 ∧
      (base.takeUp.putEntry .u8 (dk 0x1200 7) [0x59]).1 ≠ 0 ∧ puts base 0x1200 7 [0x59] = true) ∧
    (Taken (asked base (dictMsg 0x0201 0x1200 7 [])) 0x0201 (dictMsg 0x0201 0x1200 7 []) [] ∧
      (match entryAt 0x1200 7 with | some e => e.ty != .domain && e.ty != .str | none => false) = true ∧
      (asked base []).takeUp.stateRefuses askMbx (mailReq false (dictMsg 0x0201 0x1200 7 [])) = false) ∧
    (let d := (asked base (putMsg 0x1200 7 [0x5A])).onCore 5 (fun c => { c with st := .failed })
     d.n5Down = true ∧ Taken d 0x0202 (putMsg 0x1200 7 [0x5A]) []) ∧
    (let x := base.onDict (fun d => { d with sessions := [⟨7, 0, 8, [], 0⟩, ⟨9, 0, 8, [], BitVec.ofNat 64 (2 ^ 64 - msU 1000)⟩] })
     (x.session 9).isSome = true ∧ msU 1000 ≤ x.since (BitVec.ofNat 64 (2 ^ 64 - msU 1000))) ∧
    (base.pins.perst = false ∧ base.pkg.dev ≠ .cold ∧ base.mctpBody [] = none ∧ base.mctpBody (base.mctpHdr ++ [1, 2]) = some [1, 2] ∧
      fld [1, 2] 0 2 = 0x0201) := by
  unfold Taken; decide +kernel

theorem meets_DictionaryControl :
    let hold := thawS (fun c => { c with accepted := some 0 })
    let h := leaseS (fun l => { l with health := .healthy })
    let d := dmS (fun m => { m with role := .holder })
    let t := d.onClk (fun c => { c with ftState := .grandmaster, ft := BitVec.ofNat 64 (2 ^ 64 - 2 ^ 40) })
    let mem := hbmS
    (puts hold 0x6300 2 [1] = true ∧ hold.inHold = true) ∧ puts base 0x1200 7 [0x5A] = true ∧
    (puts h 0x5010 4 [1] = true ∧ h.firm.lease.health = .healthy) ∧ (puts d 0x5030 7 [1] = true ∧ d.isHolder = true) ∧
    puts base 0x1000 0x10 [1] = true ∧ (puts base 0x3000 7 [7] = true) ∧
    (puts t 0x4000 9 [10] = true ∧ t.errs.prodLock = false ∧
      serLe t.ftime (BitVec.ofNat 64 (2 ^ 64 - 10 * 64 * 10 ^ 9)) = true) ∧
    puts base 0x3200 2 [1] = true ∧ (puts mem 0x3200 0x0C (natLE 8 0) = true ∧ mem.bar4Ok 0 = true) ∧
    puts base 0x6300 5 [1] = true ∧
    (puts base 0x2000 9 (List.replicate 128 0) = true ∧ base.serac.retiredList = []) := by decide +kernel

theorem meets_DictionaryControl_restore : (thawS (fun c => { c with accepted := some 0 })).inHold = true ∧
    ∃ v, v.length = 262144 ∧ (thawS (fun c => { c with accepted := some 0 })).restoreCause v = 1 :=
  ⟨by decide, restore_accepts _⟩

/-- The last segment of a write of 1,024 bytes to MEM_WINDOWS, whose first 900 have come. -/
def windowsTail : List Byte :=
  [1, 0] ++ natLE 2 0x0202 ++ natLE 4 0 ++ natLE 4 256 ++ natLE 4 0 ++ natLE 4 0 ++ natLE 2 0x3200 ++ [1, 1] ++ natLE 4 900 ++
    natLE 2 124 ++ [0, 0] ++ natLE 4 1024 ++ natLE 4 0 ++ List.replicate 124 0#8

def windowsS : State :=
  (asked base windowsTail).onDict (fun d => { d with sessions := [⟨dk 0x3200 1, pathMbx, 1024, List.replicate 900 0, 0⟩] })

set_option maxRecDepth 100000 in
theorem meets_DictionaryControl_windows : ∃ e, MailWrite windowsS windowsTail [] e (List.replicate 1024 0)
      (windowsS.takeUp.endSession (dk 0x3200 1)) ∧
    ∀ i < 32, (Window.of (((List.replicate 1024 (0 : Byte)).drop (32 * i)).take 32)).region ≠ 3 := by
  refine ⟨⟨0x3200, 0x01, 0x01, "MEM_WINDOWS", .domain, 1024, .rw, .ro, .rw, .rw⟩, ⟨⟨rfl, rfl, by decide⟩, by decide, by decide, by decide,
    by decide, by decide, by decide, by decide, .inr ⟨rfl, by decide, ⟨dk 0x3200 1, pathMbx, 1024, List.replicate 900 0, 0⟩, by decide, rfl, by decide, by decide,
      by decide, rfl⟩⟩, by decide⟩

theorem meets_DictionaryRas :
    let unit : List Byte := List.replicate 44 0 ++ [1] ++ List.replicate 19 0
    let keys := base.onSec (fun x => { x with keyIndex := 0, keyHash := RF.all 2 [1] })
    let r : ErrRec := ⟨0, 3, .ce, false, false, false, false, 0, 0, 0, 0, 0, 0, 0, 0, 0, 0⟩
    let errs := base.onErrs (fun e => { e with slots := [(0, some ⟨false, r⟩)] })
    let inj := base.onErrs (fun e => { e with injEn := true })
    let sec := base.onSec (fun x => { x with svn := 3, svnFused := 1 })
    (puts errs 0x6000 3 (natLE 4 3) = true ∧ (errs.errAck 3).1 = true) ∧
    (puts keys 0x7000 3 [2] = true ∧ (keys.keyRevoke 2).1 = 0) ∧
    (puts base 0x6100 16 (unit ++ []) = true ∧ base.cvuFwOnly 15 = false ∧ fld unit 44 4 % 2 = 1) ∧
    (puts base 0x6100 1 (List.replicate 64 0) = true ∧ base.cvuFwOnly 0 = false) ∧
    (puts inj 0x6000 8 (List.replicate 16 0) = true ∧ (fld (List.replicate 16 0) 5 1).testBit 0 = false) ∧
    (let v : List Byte := natLE 2 0 ++ natLE 2 (causes.getD 0 0) ++ [1, 1] ++ List.replicate 10 0
     puts inj 0x6000 8 v = true ∧ causes.contains (fld v 2 2) = true ∧ fld v 4 1 ≠ 0 ∧ fld v 8 8 = 0) ∧
    (puts base 0x6000 0x0B [0xA5] = true ∧ base.sec.fuse = none) ∧
    (puts sec 0x7000 5 [1] = true ∧ sec.sec.svnFused < sec.sec.svn.toNat) ∧
    (puts base 0x7000 0x0A ([15] ++ List.replicate 32 7) = true) ∧
    (puts base 0x6200 4 [1] = true ∧ base.mor.frozen = none) ∧ puts base 0x6200 4 [0] = true ∧ puts base 0x6200 5 [1] = true := by
  decide +kernel


/-! ### Registers, pins, check values, the Moraine and the block as a whole -/

def lockedS (g n : Nat) : State := base.onBlock (blockKey g n) (fun b => { b with lock := true })

theorem meets_RegisterWrites :
    let sched : BitVec 27 := 0x0020000
    let hbm : BitVec 27 := 0x4040000
    let ice : State := { base with pkg := { base.pkg with dev := .icebound } }
    (base.hostReaches = true ∧ blockExists 0 2 = true ∧ regMask 0 2 0 ≠ 0 ∧ sched.toNat / 2 ^ 24 = 0 ∧ sched.toNat / 2 ^ 16 % 2 ^ 8 = 2 ∧
      (aliasVal 0 (base.reg 0 2 0) 3 (BitVec.ofNat 32 (regMask 0 2 0)) ^^^ base.reg 0 2 0) &&& BitVec.ofNat 32 (rsvMask 0 2 0) = 0 ∧
      (aliasVal 0 (base.reg 0 2 0) 4 (BitVec.ofNat 32 (regMask 0 2 0)) ^^^ base.reg 0 2 0) &&& BitVec.ofNat 32 (rsvMask 0 2 0) ≠ 0 ∧
      (base.block (blockKey 0 2)).lock = false ∧ ((lockedS 0 2).block (blockKey 0 2)).lock = true) ∧
    (blockExists 4 4 = true ∧ regMask 4 4 0 ≠ 0 ∧ hbm.toNat / 2 ^ 24 = 4 ∧ hbm.toNat / 2 ^ 16 % 2 ^ 8 = 4 ∧
      (aliasVal 0 (base.reg 4 4 0) 16 (BitVec.ofNat 32 (regMask 4 4 0)) ^^^ base.reg 4 4 0) &&& BitVec.ofNat 32 (rsvMask 4 4 0) = 0) ∧
    (sched + 1).toNat % 4 ≠ 0 ∧ ice.pkg.dev = .icebound ∧ ice.hostReaches = true ∧
    (hbmS.bar4Ok 0 = true ∧ SMap.get 0 hbmS.regs.loHeld (regAddr 0 3 0x10) = 0 ∧ SMap.get 0 hbmS.regs.test (regAddr 0 3 0x14) = 0 ∧
      SMap.get 0 hbmS.regs.test (regAddr 1 5 8) = 0) ∧ base.errs.inj = none := by decide +kernel

theorem meets_LockedFieldsHold :
    let s := lockedS 0 2
    let t := lockedS 4 3
    (match exec (.bar0RegisterWrite 0x0020000 4 (.write 3)) s with | .next _ => true | _ => false) = true ∧
    ((s.block (blockKey 0 2)).lock = true ∧ ((asked s (putMsg 0x5010 2 [1])).block (blockKey 0 2)).lock = true) ∧
    lockBy (dk 0x2100 1) = .tiles 3 ∧ (t.block (blockKey 4 3)).lock = true ∧
    (match entryAt 0x2100 1 with | some e => t.writeDenied e askMbx | none => true) = false ∧
    (asked t (putMsg 0x2100 1 (natLE 4 0))).n5Down = false ∧
    mailKey (putMsg 0x6000 7 [1]) = dk 0x6000 7 ∧ ((lockedS 0 7).block (blockKey 0 7)).lock = true ∧
    leNat (mailReq true (putMsg 0x6000 7 [1])).data = 1 ∧ 
    (match entryAt 0x6000 7 with | some e => base.writeDenied e askMbx | none => true) = false := by decide +kernel

theorem meets_DiscreteInputs :
    let on := fun p => base.onPin p (fun x => { x with since := some 0 })
    let flood := (on pinIntlk).onPin pinIntlk (fun x => { x with recent := List.replicate 10 0, lastAt := some 0 })
    let gm := base.onClk (fun c => { c with ppsEn := true, ftState := .grandmaster })
    base.powered = true ∧
    (((on pinBrk).pin pinBrk).since.isSome = true ∧ ((on pinBrk).pin pinBrk).stuck = false ∧ (on pinBrk).flooded pinBrk (msU 1000) 100 = false) ∧
    (((on pinIntlk).pin pinIntlk).since.isSome = true ∧ (on pinIntlk).flooded pinIntlk (10 * msU 1000) 10 = false) ∧
    ((flood.pin pinIntlk).since.isSome = true ∧ flood.flooded pinIntlk (10 * msU 1000) 10 = true) ∧
    (base.flooded pinFence (msU 1) 0 = false ∧ ((on pinFence).pin pinFence).since.isSome = true) ∧
    (gm.flooded pinPps (msU 900) 0 = false ∧ (gm.pin pinPps).stuck = false ∧ gm.clk.ppsEn = true ∧ gm.staged (dk 0x4000 8) = none ∧
      gm.clk.ftState = .grandmaster) ∧
    ((base.pin pinPps).stuck = false ∧ ((base.onPin pinFence (fun x => { x with excessAt := some 0 })).pin pinFence).excessAt = some 0 ∧ base.since 0 < msU 1000) := by decide +kernel

theorem meets_CheckValuesAndMoraine :
    let cv := fun (f : Cvu → Cvu) => base.onCvu 15 (fun x => f { x with en := true })
    let l : CvuLoad := ⟨0, 8, some (0, [], 0)⟩
    let bad : CvuLoad := ⟨0, 8, some (3, [], 0)⟩
    let fl := cv (fun x => { x with flight := [l] })
    let stop := cv (fun x => { x with flight := [l], stopping := true })
    let fe := cv (fun x => { x with flight := [bad] })
    let gen := cv (fun x => { x with len := 8, pos := 8, mode := 0 })
    let cmp := cv (fun x => { x with len := 8, pos := 8, mode := 1, expect := x.fold })
    let dif := cv (fun x => { x with len := 8, pos := 8, mode := 1, expect := x.fold + 1 })
    let m := fun (f : Moraine → Moraine) => base.onMor f
    let w := m (fun x => { x with writing := some ⟨1, x.d, 0, 0⟩ })
    ((fl.cvuAt 15).flight = [l] ∧ (fl.cvuAt 15).en = true ∧ (fl.cvuAt 15).storing = false ∧ (fl.cvuAt 15).stopping = false) ∧
    ((stop.cvuAt 15).flight = [l] ∧ (stop.cvuAt 15).stopping = true) ∧ ((fe.cvuAt 15).flight = [bad] ∧ (3 : Byte) ≠ scOk ∧ (3 : Byte) ≠ scPoisoned) ∧
    ((gen.cvuAt 15).flight = [] ∧ (gen.cvuAt 15).len.toNat ≤ (gen.cvuAt 15).pos.toNat ∧ (gen.cvuAt 15).mode ≠ 1) ∧
    ((cmp.cvuAt 15).fold = (cmp.cvuAt 15).expect ∧ (cmp.cvuAt 15).mode = 1) ∧ (dif.cvuAt 15).fold ≠ (dif.cvuAt 15).expect ∧
    (m (fun x => { x with en := true })).mor.en = true ∧ base.mor.frozen = none ∧
    (w.mor.writing = some ⟨1, w.mor.d, 0, 0⟩ ∧ w.mor.failRun < 2 ∧ w.errs.inj = none) ∧
    (m (fun x => { x with failRun := 2 })).mor.failRun = 2 ∧ (m (fun x => { x with frozen := some 0 })).mor.frozen.isSome = true := by
  decide +kernel

theorem meets_StepRunsQueue :
    ({ base with pending := [.heartbeat] } : State).pending = [.heartbeat] ∧ base.pending = [] ∧ base.pkg.dev ≠ .cold ∧
    base.clk.ftState = .unset := by decide +kernel

theorem meets_StepKeepsMemoryCanonical : State.reset.memWf = true ∧ (match step State.reset with | .next _ => true | _ => false) = true := by
  decide +kernel

theorem meets_FusesMoveOneWay :
    (match step ({ base with pending := [.heartbeat] }) with | .next t => decide (t.pending = []) | _ => false) = true := by decide +kernel

theorem meets_MeasurementRegisters :
    let s : State := { base with pending := [.perstNAssert] }
    (List.replicate 32 (7 : Byte)).length = 32 ∧ s.pending = [.perstNAssert] ∧ clears .perstNAssert ∧
    (match step s with | .next _ => true | _ => false) = true ∧ (match exec .flr base with | .next _ => true | _ => false) = true ∧
    (match step base with | .next _ => true | _ => false) = true := by
  refine ⟨rfl, rfl, trivial, ?_⟩
  decide +kernel


/-! ### Examples worked by the spec -/

/-- R531: the check value of the CRC-32C parameters, over the ASCII digits 1 to 9. -/
theorem test_crc32c : crc32c [0x31, 0x32, 0x33, 0x34, 0x35, 0x36, 0x37, 0x38, 0x39] = 0xE3069283#32 := by decide +kernel
/-- R531: the check value of the CRC-64 parameters. -/
theorem test_crc64 : crc64From 0 [0x31, 0x32, 0x33, 0x34, 0x35, 0x36, 0x37, 0x38, 0x39] = 0x6C40DF5F0B497347#64 := by
  decide +kernel
/-- The worked example of the segment table (R159). -/
theorem test_segment : segOf [0, 0, 0, 0x20, 1, 0x48, 0xFF, 0x3F, 0, 0xB0, 4, 0] =
    { v := true, f := false, fc := false, pf := true, at' := false, w := true, rd := true, limit := 0x3FFF#28,
      base := 0x480120000000#48 } := by decide +kernel
/-- The worked example of R187: home slice and set. -/
theorem test_home : (homeSlice 0x4801234567, lineSet 0x4801234567) = (5, 26796) := by decide +kernel
/-- The worked example of R226: a map of 480 interleaved regions and 24 affine to each Floe tile. -/
def exHbm : Hbm := { Hbm.reset with
  stks := (List.range 24).map (fun h => (h, { HbmStack.reset with st := .inService })),
  map := List.replicate 480 0 ++ List.replicate 24 1 ++ List.replicate 24 2 ++ List.replicate 24 3 ++ List.replicate 24 4 }
theorem test_hbm_interleaved : exHbm.decode 0x123456780 = some (6, 0x0C22E780) := by decide +kernel
theorem test_hbm_affine : exHbm.decode (530 * 2 ^ 30 + 0x1400) = some (13, 0x515555800) := by decide +kernel
theorem test_channel : pseudoChannel 0x0C22E780 = 24 := by decide +kernel
/-- The worked example of R105 and R106: three draws from the seed 1, and the lanes they round. -/
theorem test_draws : ([1, 2, 3] : List Nat).map (draws 1) = [0x00042021, 0x04080601, 0x9DCCA8C5] := by decide +kernel
theorem test_stochastic : ([1, 2, 3] : List Nat).map
    (fun k => roundVal 3 false false srm true (draws 1 k) false (decodeVal 1 false 0x3F80C000)) = [0x3F80, 0x3F80, 0x3F81] := by
  decide +kernel
/-- The worked example of R103: E4M3 with and without saturation. -/
theorem test_e4m3_sat : ([.fin false 455 0, .fin false 500 0, .inf true, .fin true 8589935 (-33)] : List Val).map
    (fun v => roundVal 5 false false rne true 0 false v) = [0x7E, 0x7E, 0xFE, 0x81] := by decide +kernel
theorem test_e4m3 : ([.fin false 455 0, .fin false 500 0, .inf true, .fin true 8589935 (-33)] : List Val).map
    (fun v => roundVal 5 false false rne false 0 false v) = [0x7E, 0x7F, 0x7F, 0x81] := by decide +kernel
/-- The worked example of R115: the scale of a block whose largest magnitude is 21, and its first four elements. -/
theorem test_mx_scale : mxScale 9 [.fin false 21 0, .fin false 3 0, decodeVal 1 false 0xBF333333, .fin false 0 0] = 0x81 := by
  decide +kernel
theorem test_e2m1 : ([.fin false 21 (-2), .fin false 3 (-2), (decodeVal 1 false 0xBF333333).scale (-2), .fin false 0 0] :
    List Val).map (fun v => roundVal 9 false true rne true 0 false v) = [7, 2, 8, 0] := by decide +kernel
/-- The worked example of R140 to R143: four windows at the anchor -53, and their sum rounded to FP32. -/
theorem test_windows : (xwOf (-53) (.fin false 3 0), xwOf (-53) (.fin false 1 (-23)), xwOf (-53) (.fin true 3 0)) =
    (0x0060000000000000#64, 0x0000000040000000#64, 0xFFA0000000000000#64) := by decide +kernel
theorem test_window_sum : xwOut (-53) 1 rne (xwAdd (xwAdd 0x0060000000000000 0x40000000)
    (xwAdd 0xFFA0000000000000 0x40000000)) = 0x34800000 := by decide +kernel
/-- The worked example of R300: the hash of a flow of ME5 towards DevID 0x18, and the wiring of its ports (R291). -/
theorem test_hash : flowHash 5 0x18 0 0 = 201 := by decide
theorem test_wiring : (wiring 3 0x0A 3, wiring 3 0x0A 6, wiring 3 0x08 12) = (some (0x08, 4), some (0x09, 6), some (0x18, 11)) := by
  decide +kernel
/-- The worked example of R381: an offset of -32 units and a delay of 12,800. -/
theorem test_exchange : timeExchange 1000000 1012768 1015968 1028800 0 = (-32, 12800) := by decide +kernel
/-- The worked examples of R516: UNIT of HBM stack 6 and of tile 9 of Serac 1. -/
theorem test_units : (hbmUnit 6, tileUnit 265) = (0x4400#16, 0x1409#16) := by decide
/-- The worked example of R124 and R131: 2^24 + 1 - 2^24 + 1 summed exactly is 2.0, whose image is byte 37 = 0x08. -/
def exSum : Xa := Xa.zero.step (([0x4B80, 0x3F80, 0xCB80, 0x3F80] : List Nat).map (fun a =>
  xaProduct (decodeVal 3 false a) (decodeVal 3 false 0x3F80) (.fin false 1 0) (.fin false 1 0)))
theorem test_exact_image : exSum.image = 8 * 256 ^ 37 := by decide +kernel
theorem test_exact_fp32 : roundVal 1 false false rne false 0 false exSum.val = 0x40000000 := by decide +kernel
/-- The stream slots of the worked example after R63. -/
theorem test_stream_words : ([0x08181200, 0x24181200, 0x14181200] : List W32).map (decodeStr 69) =
    [some (.ssend 69 ⟨0, 0, 3, 0, 2, 16, false, 0⟩), some (.spassw 69 ⟨2, 0, 3, 0, 2, 16, false, 0⟩),
     some (.srecv 69 ⟨2, 0, 3, 0, 2, 16, false, 0⟩)] := by decide
/-- R47: LOOP S5, level 2, IMM 7: COP 0x0B at [31:26], REG at [25:22], SUB at [21:20]. -/
theorem test_control_word : decodeCtl 0 0b00101101011000000000000000000111 = some (.loop 0 ⟨5, 2, 7⟩) := by decide
/-- R50: MMA with MD 3, AA 4, AB 5, AC 6, SET 1, POSTINC 1, COUNT 511. -/
theorem test_matrix_word : decodeMat 0 0b00001001101000101011011111111111 = some (.mma 0 ⟨3, 4, 5, 6, 1, true, 511⟩) := by decide
/-- R58: VFMA of VFMT 11, VD 1, VA 2, VB 3, VC 4, PRED 1. -/
theorem test_vector_word : decodeVec 0 0b00011010110000100010000110010001 = some (.vfma 0 ⟨11, 1, 2, 3, 4, 1⟩) := by decide
/-- R46: the first reserved opcode of each slot; R41: a bundle of zeros does nothing. -/
theorem test_reserved : (decodeCtl 0 0x60000000, decodeMat 0 0x38000000, decodeVec 0 0x6C000000, decodeStr 0 0x68000000) =
    (none, none, none, none) := by decide
theorem test_zero_bundle : decodeBundle 0 0 =
    some ⟨.mnop 0 ⟨0, 0, 0, 0, 0, false, 0⟩, .vnop 0 ⟨0, 0, 0, 0, 0, 0⟩, .snop 0 ⟨0, 0, 0, 0, 0, 0, false, 0⟩, .cnop 0 ⟨0, 0, 0⟩⟩ := by decide
/-- The worked example of R77: row 11 of Serac 2 is fused; the entry of tile (5,11), and where logical (5,11) lies. -/
def exMap : TileMap := TileMap.ofRows (RF.put (RF.all 2 []) 2 [11])
theorem test_map_entry : (exMap.word 693 true, exMap.physical 2 11 5) = (0x90B5, 709) := by decide +kernel
/-- The worked example of R404: 98 % of 1,800 W less 1,022 W is a pool of 742 W. -/
theorem test_pool : (match exec (.budgetCycle 1022000 0) (base.onPow (fun p => { p with cap := 1800 })) with
    | .next t => t.pow.pool | _ => 0) = 742000 := by decide +kernel
/-- The worked example of R509: MEM_CTRL reads 5, and 3 is written: PRIV_SW_EN stays, the write is counted, and the windows are fenced. -/
theorem test_mem_ctrl :
    let s := base.onMem (fun m => { m with en := true, privSw := true })
    (match exec (.bar0RegisterWrite 0x0030000 4 (.write 3)) s with
     | .next t => (s.reg 0 3 0, t.reg 0 3 0, (t.block (blockKey 0 3)).ignored, t.mem.cfgIgnored, t.fenced) | _ => (0, 0, 0, false, false)) =
    (5, 7, 1, true, true) := by decide +kernel
/-- The worked example of R560: with slots 0 and 1 provisioned and slot 1 in use, slot 0 may be revoked and slot 1 may not. -/
theorem test_key_revoke :
    let s := base.onSec (fun x => { x with keyHash := RF.put (RF.put (RF.all 2 (zeros 32)) 0 [1]) 1 [1], keyIndex := 1 })
    ((s.keyRevoke 1).1, (s.keyRevoke 2).1) = (0, 5) := by decide +kernel
/-- R501: reading a LO half latches its HI half. -/
theorem test_latch :
    let s := base.onMem (fun m => { m with bar4Base := 0x123400005678 })
    let t := (s.bar0Read (regAddr 0 3 0x10) 4).2.onMem (fun m => { m with bar4Base := 0 })
    (t.bar0Read (regAddr 0 3 0x14) 4).1 = [0x34, 0x12, 0, 0] := by decide +kernel
/-- R258: SYNC, LANE, KIND, GEN, ACTIVE and FLIT_SEQ in a frame's first eight bytes. -/
theorem test_frame_word : frameWord ⟨3, 2, 1, 0xABCD, 0x123456⟩ = 0xB81A1ABCD1234560 := by decide +kernel

end Sys2Proof.Tests
end

section
/-! SUPPORT. What the operations on light, packets, programs and slices leave alone. -/
namespace Sys2Proof.Machine

/-- A fold whose every step keeps a view of the state keeps it. -/
theorem foldl_keeps {α β γ : Type} (v : α → γ) {f : α → β → α} (h : ∀ a b, v (f a b) = v a) :
    ∀ (l : List β) (a : α), v (l.foldl f a) = v a
  | [], _ => rfl
  | b :: l, a => by rw [List.foldl_cons, foldl_keeps v h l, h]

/-- The state with everything blanked that light, traffic on the fabric and the loss of a port may change. -/
def State.quiet (s : State) : State :=
  { s with
    fab := { s.fab with ports := Fab.reset.ports, counters := [], outerPeers := Fab.reset.outerPeers, waiting := [] }
    floe := { Floe.reset with disable := s.floe.disable }
    clk := { s.clk with ports := Clk.reset.ports, upstream := none, hops := 0, inRow := 0, outRow := 0, ftState := .unset }
    cal := { s.cal with elems := [], slotOld := [] }
    outbox := [] }

variable (s : State)

@[simp] theorem State.emit_quiet (o : Output) : (s.emit o).quiet = s.quiet := rfl
@[simp] theorem State.onPort_quiet (q : BitVec 4) (f : FabPort → FabPort) : (s.onPort q f).quiet = s.quiet := rfl
@[simp] theorem State.onPho_quiet (q : Nat) (f : Port → Port) : (s.onPho q f).quiet = s.quiet := rfl
@[simp] theorem State.onChan_quiet (k : Nat) (f : Chan → Chan) : (s.onChan k f).quiet = s.quiet := rfl
@[simp] theorem State.onOwner_quiet (o : Nat) (f : Owner → Owner) : (s.onOwner o f).quiet = s.quiet := rfl
@[simp] theorem State.onElem_quiet (k : Nat) (f : CalElem → CalElem) : (s.onElem k f).quiet = s.quiet := rfl
@[simp] theorem State.enqueue_quiet (q : Nat) (x : Queued) : (s.enqueue q x).quiet = s.quiet := rfl
@[simp] theorem State.setGate_quiet (q : Nat) (b shut : Bool) : (s.setGate q b shut).quiet = s.quiet := rfl
@[simp] theorem State.settle_quiet (k : Nat) : (s.settle k).quiet = s.quiet := rfl
@[simp] theorem State.phoSend_quiet (q : Nat) (b : Bool) (t : Byte) (m : PhoMsg) : (s.phoSend q b t m).quiet = s.quiet := rfl

@[simp] theorem State.discard_quiet (p : Option (BitVec 4)) (i : Nat) : (s.discard p i).quiet = s.quiet := by
  cases p <;> rfl

@[simp] theorem State.emitFrame_quiet (f : Option (Lane × Nat × FrameHdr)) : (s.emitFrame f).quiet = s.quiet := by
  cases f <;> rfl

@[simp] theorem State.dealRole_quiet (dir role : Nat) (lanes : List LaneInfo) (m : Nat) (first : Bool) :
    (s.dealRole dir role lanes m first).quiet = s.quiet :=
  State.emitFrame_quiet _ _

@[simp] theorem State.crossPacket_quiet (t u m : Nat) : (s.crossPacket t u m).quiet = s.quiet := by
  unfold State.crossPacket
  split
  · rfl
  · split
    · simp
    · split <;> simp

@[simp] theorem State.sendTo_quiet (x : Queued) (tile : Nat) : (s.sendTo x tile).quiet = s.quiet := by
  unfold State.sendTo
  split
  · simp
  · split
    · simp
    · rfl
    · simp

@[simp] theorem State.sendOuter_quiet (p : Packet) (q : Option (BitVec 4)) : (s.sendOuter p q).quiet = s.quiet := by
  simp only [State.sendOuter]
  split
  · simp
  · split <;> simp

@[simp] theorem State.inject_quiet (p : Packet) (tile : Nat) : (s.inject p tile).quiet = s.quiet := by
  simp only [State.inject]
  split
  · simp
  · split <;> simp

@[simp] theorem State.retryWaiting_quiet : s.retryWaiting.quiet = s.quiet := by
  unfold State.retryWaiting
  rw [foldl_keeps State.quiet (fun s x => s.sendTo_quiet x x.tile)]
  rfl

@[simp] theorem State.requeue_quiet (q : BitVec 4) : (s.requeue q).quiet = s.quiet := by
  unfold State.requeue
  rw [foldl_keeps State.quiet, State.onPort_quiet]
  intro s x
  split <;> simp

@[simp] theorem State.pickUpstream_quiet : s.pickUpstream.quiet = s.quiet := by
  unfold State.pickUpstream
  split
  · rfl
  · split <;> rfl

@[simp] theorem State.forgetTime_quiet (q : BitVec 4) : (s.forgetTime q).quiet = s.quiet := by
  simp only [State.forgetTime]
  split
  · exact State.pickUpstream_quiet _
  · rfl

@[simp] theorem State.setOuter_quiet (q : Nat) (dom dev : Byte) : (s.setOuter q dom dev).quiet = s.quiet := by
  unfold State.setOuter
  split <;> rfl

@[simp] theorem State.portDown_quiet (q : BitVec 4) (st : PortSt) : (s.portDown q st).quiet = s.quiet := by
  simp [State.portDown]
  rfl

@[simp] theorem State.undoJudged_quiet (k : Nat) : (s.undoJudged k).quiet = s.quiet := by
  have h := foldl_keeps State.quiet (fun s (e : Nat × CalElem) => s.onElem_quiet e.1 (fun _ => e.2))
    ((s.cal.slotOld.filter (fun p => p.1 == k)).flatMap (·.2)) s
  exact h

@[simp] theorem State.abandonSlot_quiet (o : Nat) (x : Slot) : (s.abandonSlot o x).quiet = s.quiet := by
  simp [State.abandonSlot]

@[simp] theorem State.abandonOn_quiet (p : Nat → Bool) : (s.abandonOn p).quiet = s.quiet :=
  foldl_keeps State.quiet (fun s _ => foldl_keeps State.quiet (fun s x => s.abandonSlot_quiet _ x) _ s) _ s

@[simp] theorem State.startProbing_quiet (q : Nat) : (s.startProbing q).quiet = s.quiet := by
  unfold State.startProbing
  split <;> simp

@[simp] theorem State.shutAll_quiet : s.shutAll.quiet = s.quiet := by
  unfold State.shutAll
  rw [foldl_keeps State.quiet, State.abandonOn_quiet, foldl_keeps State.quiet]
  · intro s q
    split <;> simp
  · intro s q
    dsimp only
    split <;> simp

/-- What the closed gates leave dark: no packet waits and no fibre probes. -/
theorem State.onFab_waiting_quiet : (s.onFab (fun f => { f with waiting := [] })).quiet = s.quiet := rfl

theorem State.onFloe_quiet {f : Floe → Floe} (h : ∀ x, (f x).disable = x.disable) : (s.onFloe f).quiet = s.quiet := by
  simp [State.quiet, h]

@[simp] theorem State.closeGates_quiet : s.closeGates.quiet = s.quiet := by
  simp only [State.closeGates]
  rw [State.onFloe_quiet, State.onFab_waiting_quiet, State.shutAll_quiet]
  exact fun _ => rfl

@[simp] theorem State.lookDom_errs (k : Nat) (v : List Byte) (fresh : Bool) : (s.lookDom k v fresh).errs = s.errs := by
  unfold State.lookDom
  split
  · split <;> rfl
  · rfl

@[simp] theorem State.applyEntry_errs (k : Nat) (v : List Byte) : (s.applyEntry k v).errs = s.errs := by
  simp only [State.applyEntry, apply_ite State.errs, State.lookDom_errs]
  simp

@[simp] theorem State.land_errs (k : Nat) : (s.land k).errs = s.errs := by
  unfold State.land
  split
  · rfl
  · dsimp only
    split
    · rfl
    · rw [State.applyEntry_errs]
      rfl

@[simp] theorem State.landSlice_errs (k : Nat) : (s.landSlice k).errs = s.errs := by
  unfold State.landSlice
  split
  · rfl
  · dsimp only
    split
    · rfl
    · split <;> rfl

@[simp] theorem State.onTiles_errs (ns : List Nat) (f : Tile → Tile) : (s.onTiles ns f).errs = s.errs := by
  unfold State.onTiles
  rw [foldl_keeps State.errs]
  exact fun _ _ => rfl

@[simp] theorem State.settleSrc_errs : s.settleSrc.errs = s.errs := by
  simp only [State.settleSrc, apply_ite State.errs, State.land_errs, ite_self]
  rw [foldl_keeps State.errs]
  intro s t
  split <;> rfl

@[simp] theorem State.settleFrn_errs : s.settleFrn.errs = s.errs := by
  unfold State.settleFrn
  rw [foldl_keeps State.errs]
  intro s t
  split <;> rfl

@[simp] theorem State.freeTiles_errs (p : Prog) : (s.freeTiles p).errs = s.errs := by
  simp [State.freeTiles]

@[simp] theorem State.dropSlice_errs (tag : W32) (last : Bool) (k : Nat) : (s.dropSlice tag last k).errs = s.errs := by
  simp only [State.dropSlice, apply_ite State.errs]
  simp [State.toCache, State.clearSlice, State.onFirn]

@[simp] theorem State.stopPrograms_errs : s.stopPrograms.errs = s.errs := by
  have h : ∀ (u : State) (p : Prog), (p.scratch.foldl (fun s k => s.dropSlice p.tag true k) (u.freeTiles p)).errs = u.errs := by
    intro u p
    rw [foldl_keeps State.errs (fun s k => s.dropSlice_errs p.tag true k), State.freeTiles_errs]
  exact foldl_keeps State.errs h s.sched.progs s

@[simp] theorem State.thaw_errs : s.thaw.errs = s.errs := by
  unfold State.thaw State.startSnap
  split
  · rfl
  · dsimp only
    split <;> rfl

end Sys2Proof.Machine
end

section
/-! SUPPORT. What raises, requests, write-backs and scans leave alone. -/

namespace Sys2Proof.Machine

/-- The state with everything blanked that an error record, a request to memory, a write-back or a scan of a check-value unit may
change. The fields that a LOCK names and the register blocks stay. -/
def State.still (s : State) : State :=
  { s.quiet with
    errs := { Errs.reset with fwOnly := s.errs.fwOnly }
    firm := { s.firm with log := { Log.reset with minSev := s.firm.log.minSev } }
    mem := { MemSem.reset with privSw := s.mem.privSw }
    serac := { s.serac with tiles := [] }
    firn := { Firn.reset with scratchDefault := s.firn.scratchDefault }
    cvu := RF.all 4 Cvu.reset }

variable (s : State)

theorem State.quiet_still : s.quiet.still = s.still := rfl

theorem State.still_of_quiet {s t : State} (h : t.quiet = s.quiet) : t.still = s.still := by
  rw [← t.quiet_still, h, State.quiet_still]

/-! ### Errors -/

@[simp] theorem State.emit_still (o : Output) : (s.emit o).still = s.still := rfl
@[simp] theorem State.onReq_still (id : Nat) (f : Req → Req) : (s.onReq id f).still = s.still := rfl
@[simp] theorem State.onPair_still (eng dest : Nat) (f : SrcPair → SrcPair) : (s.onPair eng dest f).still = s.still := rfl
@[simp] theorem State.onTile_still (n : Nat) (f : Tile → Tile) : (s.onTile n f).still = s.still := rfl
@[simp] theorem State.onCvu_still (c : Nat) (f : Cvu → Cvu) : (s.onCvu c f).still = s.still := rfl
@[simp] theorem State.onHdma_still (e : Nat) (f : Hdma → Hdma) : (s.onHdma e f).still = s.still := rfl
@[simp] theorem State.onRun_still (e j : Nat) (f : HdmaRun → HdmaRun) : (s.onRun e j f).still = s.still := rfl
@[simp] theorem State.onCollRun_still (c : Nat) (id : W32) (f : CollRun → CollRun) : (s.onCollRun c id f).still = s.still := rfl
@[simp] theorem State.setLine_still (k : Nat) (x : Option FLine) : (s.setLine k x).still = s.still := rfl
@[simp] theorem State.upsetUsed_still (u : Upset) : (s.upsetUsed u).still = s.still := rfl
@[simp] theorem State.injUsed_still : s.injUsed.still = s.still := rfl

theorem State.onErrs_still {f : Errs → Errs} (h : ∀ e, (f e).fwOnly = e.fwOnly) : (s.onErrs f).still = s.still := by
  simp [State.still, State.quiet, State.onErrs, h]

theorem State.onMem_still {f : MemSem → MemSem} (h : ∀ m, (f m).privSw = m.privSw) : (s.onMem f).still = s.still := by
  simp [State.still, State.quiet, State.onMem, h]

theorem State.onFirn_still {f : Firn → Firn} (h : ∀ m, (f m).scratchDefault = m.scratchDefault) :
    (s.onFirn f).still = s.still := by
  simp [State.still, State.quiet, State.onFirn, h]

/-- What a raise that merges into no record leaves in the error state: its record, the counts, the UC raises remembered, and FE
handling begun where it is the first FE. -/
def Errs.enter (e : Errs) (now : W64) (r : Raise) (cls : ErrCls) (rcd : ErrRec) : Errs :=
  let x := ((e.place rcd).count cls).countInjected r.injected
  let y := if r.cls = .uc then
      { x with recent := ⟨r.unit, now, r.injected⟩ :: x.recent.filter (fun u => (now - u.at').toNat ≤ msU 1) }
    else x
  if e.during then y else y.startFe cls

/-- What a CE leaves that merges into the record of slot `i` (R519). -/
def Errs.mergeInto (e : Errs) (i : Nat) (rcd : ErrRec) (injected : Bool) : Errs :=
  ({ e with slots := SMap.set none e.slots i (some ⟨false, { rcd with repeats := satInc rcd.repeats }⟩) }.count .ce).countInjected
    injected

/-- The settings of the error state, which no raise changes: FW_ONLY, the injection that is armed, and the production lock. -/
def Errs.settings (e : Errs) : RF 2 (BitVec 4) × Option Inject × Bool := (e.fwOnly, e.inj, e.prodLock)

@[simp] theorem Errs.place_settings (e : Errs) (r : ErrRec) : (e.place r).settings = e.settings := by
  unfold Errs.place
  split <;> rfl

@[simp] theorem Errs.countInjected_settings (e : Errs) (b : Bool) : (e.countInjected b).settings = e.settings := by
  unfold Errs.countInjected
  split <;> rfl

@[simp] theorem Errs.startFe_settings (e : Errs) (c : ErrCls) : (e.startFe c).settings = e.settings := by
  unfold Errs.startFe
  split <;> rfl

theorem Errs.enter_settings (e : Errs) (now : W64) (r : Raise) (cls : ErrCls) (rcd : ErrRec) :
    (e.enter now r cls rcd).settings = e.settings := by
  have h : (((e.place rcd).count cls).countInjected r.injected).settings = e.settings := by
    rw [Errs.countInjected_settings]
    exact e.place_settings rcd
  simp only [Errs.enter]
  split
  · split <;> exact h
  · rw [Errs.startFe_settings]
    split <;> exact h


/-- R523: the class with which a raise is recorded: FE where it escalates. -/
def State.raiseCls (s : State) (r : Raise) : ErrCls := if s.errs.escalates s.now r then .fe else r.cls

/-- What a raise can do: it changes the error state but for its settings, and may write a log entry. -/
theorem State.raise_cases (r : Raise) : ∃ e, e.settings = (s.asInjected r).2.errs.settings ∧
    ((s.raise' r) = (s.asInjected r).2.onErrs (fun _ => e) ∨
      ∃ sev p, (s.raise' r) = ((s.asInjected r).2.onErrs (fun _ => e)).log 6 sev p) := by
  unfold State.raise' State.raise
  generalize s.asInjected r = x
  obtain ⟨r, u⟩ := x
  dsimp only
  split
  next i rcd _ =>
    exact ⟨u.errs.mergeInto i rcd r.injected, Errs.countInjected_settings _ _, .inl rfl⟩
  next =>
    refine ⟨u.errs.enter u.now r (u.raiseCls r) (u.errRecord r (u.raiseCls r) (u.errs.escalates u.now r)),
      Errs.enter_settings _ _ _ _ _, ?_⟩
    by_cases hp : (u.errs.pick (u.raiseCls r)).isSome = true
    · exact .inr ⟨_, _, if_pos hp⟩
    · exact .inl (if_neg hp)

@[simp] theorem State.log_still (core sev : Nat) (p : List Byte) (x : Bool) : (s.log core sev p x).still = s.still := by
  have h : ∀ e : LogEnt, (s.onLog (fun l => if s.coreUp 5 then l.push e else l.hold e)).still = s.still := by
    intro e
    have hm : ∀ l : Log, (if s.coreUp 5 then l.push e else l.hold e).minSev = l.minSev := by
      intro l
      unfold Log.push Log.hold
      split
      · rfl
      · split <;> rfl
    simp [State.still, State.quiet, State.onLog, hm]
  simp only [State.log]
  split
  · rfl
  · split
    · exact h _
    · exact h _

@[simp] theorem State.asInjected_still (r : Raise) : (s.asInjected r).2.still = s.still := by
  unfold State.asInjected
  split <;> rfl

@[simp] theorem State.raise'_still (r : Raise) : (s.raise' r).still = s.still := by
  obtain ⟨e, he, h | ⟨sev, p, h⟩⟩ := s.raise_cases r
  all_goals
    have hf : e.fwOnly = (s.asInjected r).2.errs.fwOnly := congrArg Prod.fst he
    have hs : ((s.asInjected r).2.onErrs (fun _ => e)).still = s.still := by
      rw [← s.asInjected_still r]
      simp [State.still, State.quiet, State.onErrs, hf]
    simp [h, hs]

/-! ### Requests -/

@[simp] theorem State.inject_still (p : Packet) (tile : Nat) : (s.inject p tile).still = s.still :=
  State.still_of_quiet (s.inject_quiet p tile)

@[simp] theorem State.takeSeq_still (r : Req) : (s.takeSeq r).2.still = s.still := by
  simp only [State.takeSeq]
  split <;> simp

@[simp] theorem State.sendReq_still (r : Req) : (s.sendReq r).still = s.still := by
  simp [State.sendReq]

@[simp] theorem State.firstInject_still (r : Req) : (s.firstInject r).still = s.still := by
  simp [State.firstInject]

@[simp] theorem releaseGo_still : ∀ (ids : List Nat) (s : State), (releaseGo ids s).still = s.still
  | [], _ => rfl
  | id :: ids, s => by
    unfold releaseGo
    split
    · exact releaseGo_still ids s
    · split
      · exact releaseGo_still ids s
      · rw [releaseGo_still ids, State.firstInject_still]

@[simp] theorem State.release_still : s.release.still = s.still := releaseGo_still _ s

@[simp] theorem State.issueRaw_still (p : Packet) (o : ReqOwner) (g : Option W32) : (s.issueRaw p o g).1.still = s.still := by
  unfold State.issueRaw
  dsimp only
  split
  · rfl
  · rw [State.release_still]
    rfl

@[simp] theorem State.fflCheck_still (t i : Nat) : (s.fflCheck t i).still = s.still := by
  unfold State.fflCheck
  dsimp only
  split
  · split <;> simp
  · rfl

@[simp] theorem State.hdmaAnswer_still (e j off op : Nat) (st : Byte) (data : List Byte) (p : Bool) :
    (s.hdmaAnswer e j off op st data p).still = s.still := by
  unfold State.hdmaAnswer
  split
  · rfl
  · dsimp only
    split
    · split <;> simp
    · split <;> simp

@[simp] theorem State.collAnswer_still (c : Nat) (id : W32) (l : Option Nat) (st : Byte) (data : List Byte) (p : Bool) :
    (s.collAnswer c id l st data p).still = s.still := rfl

@[simp] theorem State.cvuAnswer_still (c : Nat) (l : Option Nat) (ga : Nat) (a : Answer) :
    (s.cvuAnswer c l ga a).still = s.still := by
  cases l <;> rfl

@[simp] theorem State.tell_still (o : ReqOwner) (op ga n atop : Nat) (a : Answer) :
    (s.tell o op ga n atop a).still = s.still := by
  cases o with
  | fill t l => rfl
  | writeBack _ ffl _ =>
    cases ffl with
    | none => rfl
    | some x => exact s.fflCheck_still x.1 x.2
  | _ => simp [State.tell]

@[simp] theorem State.issue_still (p : Packet) (o : ReqOwner) (g : Option W32) : (s.issue p o g).still = s.still := by
  have h := s.issueRaw_still p o g
  unfold State.issue
  generalize s.issueRaw p o g = x at h
  obtain ⟨u, _ | st⟩ := x
  · exact h
  · simpa using h

/-! ### Write-backs -/

@[simp] theorem State.eccFound_still (t l : Nat) (e : FirnEcc) : (s.eccFound t l e).2.still = s.still := by
  unfold State.eccFound
  split
  · rfl
  · rfl
  · split <;> rfl

@[simp] theorem State.lineFix_still (t l : Nat) (i : Bool) : (s.lineFix t l i).still = s.still := by
  simp only [State.lineFix, State.raise'_still]
  rfl

@[simp] theorem State.lineSpoil_still (t k : Nat) (x : FLine) (i : Nat) (inj : Bool) :
    (s.lineSpoil t k x i inj).1.still = s.still := by
  simp [State.lineSpoil]

@[simp] theorem State.lineEcc_still (t k : Nat) (x : FLine) (off n : Nat) (e : FirnEcc) :
    (s.lineEcc t k x off n e).1.still = s.still := by
  have h := s.eccFound_still t x.line e
  unfold State.lineEcc
  dsimp only
  generalize s.eccFound t x.line e = y at h
  obtain ⟨e, u⟩ := y
  rw [← h]
  cases e with
  | single => simp
  | double i =>
    dsimp only
    split <;> simp
  | _ =>
    dsimp only
    split
    · simp
    · split <;> simp

@[simp] theorem State.issueWb_still (w : WbWait) : (s.issueWb w).still = s.still := by
  unfold State.issueWb
  split
  · rfl
  · simp

@[simp] theorem State.writeBack_still (k : Nat) (ffl : Option (Nat × Nat)) (e : FirnEcc) :
    (s.writeBack k ffl e).still = s.still := by
  unfold State.writeBack
  split
  · rfl
  next x _ =>
    split
    · rfl
    · have h := s.lineEcc_still (k / 16 / 49152 / 8) k x 0 256 e
      dsimp only
      generalize s.lineEcc (k / 16 / 49152 / 8) k x 0 256 e = y at h
      obtain ⟨u, _ | y⟩ := y
      · exact h
      · dsimp only
        rw [foldl_keeps State.still (fun s _ => s.issueWb_still _), State.setLine_still]
        exact h

@[simp] theorem State.flushSlices_still (f : Nat → Bool) : (s.flushSlices f).still = s.still := by
  unfold State.flushSlices
  rw [foldl_keeps State.still]
  rintro s ⟨k, x⟩
  dsimp only
  split <;> simp

@[simp] theorem State.maintStart_still (t : BitVec 2) (m : Byte) (op : Nat) : (s.maintStart t m op).still = s.still := by
  unfold State.maintStart
  split
  · rfl
  · rw [State.flushSlices_still]
    rfl

/-! ### Check-value units -/

@[simp] theorem cvuIssue_still (c : BitVec 4) : ∀ (n : Nat) (s : State), (cvuIssue c n s).still = s.still
  | 0, _ => rfl
  | n + 1, s => by
    simp only [cvuIssue]
    split
    · rw [cvuIssue_still c n]
      simp
    · rfl

@[simp] theorem State.cvuFinish_still (c : BitVec 4) (r : Byte) (v : W16) : (s.cvuFinish c r v).still = s.still := by
  simp only [State.cvuFinish]
  split
  · rfl
  · rw [State.issue_still]
    rfl

@[simp] theorem State.cvuBegin_still (c : BitVec 4) : (s.cvuBegin c).still = s.still := by
  simp only [State.cvuBegin]
  split
  · rfl
  · split
    · simp
    · split <;> simp

@[simp] theorem State.cvuCtrl_still (c : BitVec 4) (w : W32) : (s.cvuCtrl c w).still = s.still := by
  simp [State.cvuCtrl, apply_ite State.still]

/-! ### Steers -/

@[simp] theorem State.proposeSteer_quiet (set : RF 5 Byte) (t : W64) (src : SteerSrc) (i : Bool) (n : BitVec 3) :
    (s.proposeSteer set t src i n).quiet = s.quiet := by
  unfold State.proposeSteer
  dsimp only
  rw [foldl_keeps State.quiet (fun s p => s.phoSend_quiet p _ _ _)]
  rfl

@[simp] theorem State.ageSteers_quiet (src : SteerSrc) : (s.ageSteers src).quiet = s.quiet := by
  unfold State.ageSteers
  split <;> rfl

@[simp] theorem State.requestSteer_quiet (n : BitVec 3) (t : W64) (src : SteerSrc) :
    (s.requestSteer n t src).2.quiet = s.quiet := by
  have h : ∀ (u : State) (c : Byte), (u.steerResult src c []).quiet = u.quiet := fun _ _ => rfl
  simp only [State.requestSteer]
  generalize (if n = 0 then defaultSet else RF.at (s.ageSteers src).floe.sets n) = set
  split <;> simp [h]

end Sys2Proof.Machine
end

section
/-! PROOFS. Resets and fatal errors (R3, R355, R453, R524 to R526, R602, R610 to R612), and what reset leaves. -/

namespace Sys2Proof.Machine
variable (s : State)

/-! ### What a reset leaves (R3, R610) -/

@[simp] theorem State.goCold_dev : s.goCold.pkg.dev = .cold := rfl
@[simp] theorem State.goCold_pcieUp : s.goCold.pins.pcieUp = false := rfl
@[simp] theorem State.goCold_trip : s.goCold.pins.trip = s.pins.trip := rfl
@[simp] theorem State.auxLost_trip : s.auxLost.pins.trip = false := rfl

@[simp] theorem Pins.without_trip (p : Pins) (r : Rail) : (p.without r).trip = p.trip := by cases r <;> rfl
@[simp] theorem Pins.without_por (p : Pins) (r : Rail) : (p.without r).por = true := by cases r <;> rfl

/-! THAW begins with the DevID that RACKPOS gives; the pins, the Moraine, the clocks and the scheduler stay as they are (R3, R25). -/

@[simp] theorem State.enterThaw_pins : s.enterThaw.pins = s.pins := by
  simp only [State.enterThaw]
  split <;> rfl
@[simp] theorem State.enterThaw_mor : s.enterThaw.mor = s.mor := by
  simp only [State.enterThaw]
  split <;> rfl
@[simp] theorem State.enterThaw_clk : s.enterThaw.clk = s.clk := by
  simp only [State.enterThaw]
  split <;> rfl
@[simp] theorem State.enterThaw_sched : s.enterThaw.sched = s.sched := by
  simp only [State.enterThaw]
  split <;> rfl
@[simp] theorem State.enterThaw_dev : s.enterThaw.pkg.dev = .thaw := by
  simp only [State.enterThaw]
  split <;> rfl
@[simp] theorem State.enterThaw_devid : s.enterThaw.fab.devid = s.pins.rackpos := by
  simp only [State.enterThaw]
  split <;> rfl

/-! ### FLR -/

@[simp] theorem State.mbxChanged_firm : s.mbxChanged.firm = s.firm := by
  unfold State.mbxChanged
  split <;> rfl
@[simp] theorem State.mbxChanged_sched : s.mbxChanged.sched = s.sched := by
  unfold State.mbxChanged
  split <;> rfl

theorem State.dropRings_firm : s.dropRings.firm = s.firm := by
  unfold State.dropRings
  rw [foldl_keeps State.firm]
  exact fun _ _ => rfl

theorem State.dropRings_sched : s.dropRings.sched = s.sched := by
  unfold State.dropRings
  rw [foldl_keeps State.sched]
  exact fun _ _ => rfl

theorem State.flrMailbox_empty : s.flrMailbox.firm.mbx.attached = false ∧ s.flrMailbox.firm.mbx.h2dHead = 0 ∧
    s.flrMailbox.firm.mbx.d2hHead = 0 ∧ s.flrMailbox.sched = s.sched := by
  simp only [State.flrMailbox]
  split
  · simp [State.onMbx, State.onLoad]
  · exact ⟨rfl, rfl, rfl, rfl⟩

theorem State.flr_empties : s.flr.firm.mbx.attached = false ∧ s.flr.firm.mbx.h2dHead = 0 ∧
    s.flr.firm.mbx.d2hHead = 0 ∧ s.flr.sched = s.sched := by
  simp only [State.flr, State.dropRings_firm, State.dropRings_sched]
  exact s.flrMailbox_empty

/-! ### ICEBOUND (R524) -/

@[simp] theorem State.setDev_dev (d : DevSt) : (s.setDev d).pkg.dev = d := by
  unfold State.setDev
  split
  · assumption
  · unfold State.mbxChanged
    split <;> rfl

/-- The units that FE handling stops: programs, memory engines, Firn, clocks and the error bank. -/
def State.works (s : State) : Sched × MemSem × Firn × Option FreqChange × Errs := (s.sched, s.mem, s.firn, s.clk.pending, s.errs)

@[simp] theorem State.setDev_works (d : DevSt) : (s.setDev d).works = s.works := by
  unfold State.setDev State.mbxChanged
  split
  · rfl
  · split <;> rfl

@[simp] theorem State.thaw_works : s.thaw.works = s.works := by
  unfold State.thaw State.startSnap
  split
  · rfl
  · dsimp only
    split <;> rfl

@[simp] theorem State.sendFatal_works : s.sendFatal.works = s.works := by
  unfold State.sendFatal
  split <;> rfl

@[simp] theorem State.sendFatal_pkg : s.sendFatal.pkg = s.pkg := by
  unfold State.sendFatal
  split <;> rfl

theorem State.quiet_works : s.quiet.works = s.works := rfl
theorem State.quiet_pkg : s.quiet.pkg = s.pkg := rfl

@[simp] theorem State.closeGates_works : s.closeGates.works = s.works := by
  rw [← State.quiet_works, State.closeGates_quiet, State.quiet_works]
@[simp] theorem State.closeGates_pkg : s.closeGates.pkg = s.pkg := by
  rw [← State.quiet_pkg, State.closeGates_quiet, State.quiet_pkg]

/-- R524 steps 2 and 3: everything that FE handling stops. -/
def State.stopAll (s : State) : State := s.stopPrograms.stopEngines.loseFirn.dropPending

theorem State.stopAll_stops : s.stopAll.sched.progs = [] ∧ s.stopAll.mem.reqs = [] ∧ s.stopAll.firn.lines = [] ∧
    s.stopAll.clk.pending = none ∧ s.stopAll.errs = s.errs :=
  ⟨rfl, rfl, rfl, rfl, s.stopPrograms_errs⟩

/-- R3, R524: from a live state an FE leads to ICEBOUND. -/
theorem execIceboundEntry_enters (h : s.errs.entryDue = true) (hd : s.pkg.dev = .thaw ∨ s.pkg.dev = .flow ∨ s.pkg.dev = .drift) :
    execIceboundEntry s =
      .next (((s.onErrs (fun e => { e with entryDue := false })).stopAll.thaw.setDev .icebound).sendFatal.closeGates) := by
  have hl : (s.pkg.dev = .thaw || s.pkg.dev = .flow || s.pkg.dev = .drift) = true := by simpa [or_assoc] using hd
  simp [execIceboundEntry, h, hl, State.stopAll]

end Sys2Proof.Machine
open Sys2Proof Machine Claims

theorem iceboundEntry_stops (s : State) (h : s.errs.entryDue = true)
    (hd : s.pkg.dev = .thaw ∨ s.pkg.dev = .flow ∨ s.pkg.dev = .drift) : ∃ u, exec .iceboundEntry s = .next u ∧
      u.pkg.dev = .icebound ∧ u.sched.progs = [] ∧ u.mem.reqs = [] ∧ u.firn.lines = [] ∧ u.clk.pending = none ∧
      u.errs.entryDue = false := by
  refine ⟨_, execIceboundEntry_enters s h hd, by simp, ?_⟩
  have hw := ((s.onErrs (fun e => { e with entryDue := false })).stopAll.thaw.setDev .icebound).sendFatal.closeGates_works
  simp only [State.sendFatal_works, State.setDev_works, State.thaw_works] at hw
  obtain ⟨hs, hm, hf, hc, he⟩ := (s.onErrs (fun e => { e with entryDue := false })).stopAll_stops
  simp only [State.works, Prod.mk.injEq] at hw
  obtain ⟨h1, h2, h3, h4, h5⟩ := hw
  rw [h1, h2, h3, h4, h5, he]
  exact ⟨hs, hm, hf, hc, rfl⟩


theorem powerOnResetRelease_starts (s : State) (hp : s.pins.por = true) (floe0 : Bool) :
    ∃ u, exec (.powerOnResetRelease floe0) s = .next u ∧ u.mor.cycles = satInc s.mor.cycles ∧
      u.pins.por = false ∧ (s.pkg.dev = .cold → s.pins.perst = false → s.pins.trip = false →
        u.pkg.dev = if floe0 then .thaw else .cold) := by
  simp only [exec_powerOnResetRelease, execPowerOnResetRelease, hp, Bool.not_true, Bool.false_eq_true, if_false]
  refine ⟨_, rfl, ?_⟩
  split
  next h =>
    have hf : floe0 = true := (Bool.and_eq_true _ _ ▸ h).2
    simp [hf]
  next h =>
    refine ⟨rfl, rfl, fun hc hr ht => ?_⟩
    have hf : floe0 = false := by simpa [State.mayStart, Pins.railsUp, hc, hr, ht] using h
    simp [hf, hc]

theorem perstNRelease_starts (s : State) (r : BitVec 6) (floe0 : Bool) (hp : s.pins.perst = true) (ht : s.pins.trip = false)
    (hd : s.pkg.dev = .cold) (hr : s.pins.railsUp = true) :
    ∃ u, exec (.perstNRelease r floe0) s = .next u ∧ u.pkg.dev = (if floe0 then .thaw else .cold) ∧ u.pins.perst = false ∧
      u.pins.rackpos = r ∧ (floe0 = true → u.fab.devid = r) := by
  have hm : s.pins.aux = true ∧ s.pins.io = true ∧ s.pins.fle = true ∧ s.pins.por = false := by
    simpa [Pins.railsUp, and_assoc] using hr
  obtain ⟨ha, hi, hf, ho⟩ := hm
  simp only [exec_perstNRelease, execPerstNRelease, hp, ht]
  refine ⟨_, rfl, ?_⟩
  cases floe0 <;> simp [State.mayStart, Pins.railsUp, hd, ha, hi, hf, ho]

theorem softResetBegin_restarts (s : State) (h : s.pkg.softReset = true) (hw : s.mor.writing = none) (he : s.errs.entryDue = false)
    (hd : s.pkg.dev = .thaw ∨ s.pkg.dev = .flow ∨ s.pkg.dev = .drift) :
    ∃ u, exec .softResetBegin s = .next u ∧ u.pkg.dev = .thaw ∧ u.pins.pcieUp = s.pins.pcieUp ∧ u.sched.progs = [] ∧
      u.clk.ftLocal = s.clk.ftLocal := by
  have hl : (s.pkg.dev = .thaw || s.pkg.dev = .flow || s.pkg.dev = .drift) = true := by simpa [or_assoc] using hd
  refine ⟨s.softCleared.enterThaw.onFloe (fun x => x.abandoned s.floe), ?_, by simp, by simp; rfl, by simp; rfl, by simp; rfl⟩
  simp [execSoftResetBegin, h, hw, he, hl]

theorem lastFatalWrite_writes (s : State) (h : s.errs.handling = true) (hd : s.pkg.dev = .icebound)
    (hc : s.coreUp 5 = true ∨ s.coreUp 4 = true) :
    let u := s.onErrs (fun e => { e with handling := false })
    let v := u.onMor (fun m =>
      { m with snapDue := false, lfOld := m.lfNew, lfNew := some ⟨s.errs.feSeq, m.cycles, m.optime, s.errs.newRecs⟩ })
    exec .lastFatalWrite s =
      .next (if s.mor.store = 1 then v.snapWritten ⟨v.mor.nextSlot, v.mor.d, v.mor.cycles, v.mor.optime⟩ else u) := by
  have hu : (s.coreUp 5 || s.coreUp 4) = true := by simpa using hc
  by_cases hs : s.mor.store = 1 <;> simp [execLastFatalWrite, h, hd, hu, hs]

/-- Settles O45, one lemma for each reset. -/
theorem resets : Obligations.Resets := by
  unfold Obligations.Resets
  intro s
  refine ⟨⟨_, rfl, rfl, rfl, rfl⟩, ⟨_, rfl, rfl, rfl⟩, fun rail => ⟨_, rfl, rfl, Pins.without_por _ rail⟩,
    powerOnResetRelease_starts s, perstNRelease_starts s, softResetBegin_restarts s, ⟨rfl, rfl, s.flr_empties⟩,
    iceboundEntry_stops s, lastFatalWrite_writes s⟩

/-- Settles O56: every field of `State.reset` is the value of its chapter's reset; the units and the measurement registers hold
theirs at every index. -/
theorem resetValues : Obligations.ResetValues := by
  unfold Obligations.ResetValues
  refine ⟨rfl, rfl, rfl, rfl, rfl, rfl, rfl, rfl, rfl, rfl, rfl, rfl, rfl, rfl, rfl, rfl, rfl, rfl, rfl, rfl, rfl, rfl, rfl,
    fun c => ?_, fun i => ?_, rfl, rfl, rfl⟩
  · have hc : RF.at State.reset.cvu c = Cvu.reset := RF.at_all c Cvu.reset
    rw [hc]
    exact ⟨rfl, rfl⟩
  · exact RF.at_all i (List.replicate 32 0)

end

section
/-! PROOFS. The host's access to memory: BAR4 and the host DMA engines (R351 to R355). -/

namespace Sys2Proof.Machine
variable (s : State)

/-! ### BAR4 -/

theorem bar4Read_refused {off len : Nat} (ht : s.bar4Takes off len = true) (hl : len ≤ 4096) (ha : s.bar4At off len = none) :
    exec (.bar4Read off len) s = .next (s.bar4Refused.emit .bar4Ur) := by
  have hn : ¬ 4096 < len := by omega
  simp [execBar4Read, ht, hn, ha]

theorem bar4Read_answers {off len a : Nat} (ht : s.bar4Takes off len = true) (hl : len ≤ 4096) (ha : s.bar4At off len = some a) :
    exec (.bar4Read off len) s =
      .next ((s.memRead a len).1.emit (.bar4Data (s.memRead a len).2.data ((s.memRead a len).2.status = 4))) := by
  have hn : ¬ 4096 < len := by omega
  simp only [exec_bar4Read, execBar4Read, ht, hn, ha]
  rfl

theorem bar4Write_icebound {off : Nat} {bs : List Byte} (ep : Bool) (ht : s.bar4Takes off bs.length = true)
    (hd : s.pkg.dev = .icebound) : exec (.bar4Write off bs ep) s = .next s.bar4Refused := by
  simp [execBar4Write, ht, hd]

theorem bar4Write_applies {off a : Nat} {bs : List Byte} (ep : Bool) (ht : s.bar4Takes off bs.length = true)
    (hd : s.pkg.dev ≠ .icebound) (ha : s.bar4At off bs.length = some a) :
    exec (.bar4Write off bs ep) s = .next (s.memWrite a bs ep).1 := by
  simp [execBar4Write, ht, hd, ha]

theorem bar4Resize_sizes {log : Nat} (hr : s.hostReaches = true) (hl : log ≤ 6) :
    exec (.bar4Resize log) s = .next (s.onMem (fun m => { m with bar4Log := log })) := by
  simp [execBar4Resize, hr, hl]

/-! ### The host DMA engines -/

theorem hdmaPoll_takes {e : BitVec 2} (hr : s.hdmaRuns = true) (hs : s.staged (dk 0x3200 (0x10 + e.toNat)) = none)
    (hi : (s.hdmaAt e).irqDue = false) (hb : (s.hdmaAt e).ringBase ≠ 0) (hp : (s.hdmaAt e).stopped = false) :
    exec (.hdmaPoll e) s =
      .next ((((hdmaTake e 8 s).hdmaAt e).runs.map (·.num)).foldl (fun s n => hdmaIssue e n 512 s) (hdmaTake e 8 s)) := by
  have hland : s.hdmaLand e = s := by simp [State.hdmaLand, hs]
  have hirq : s.hdmaIrqDue e = s := by simp [State.hdmaIrqDue, hi]
  simp [execHdmaPoll, hr, hland, hirq, hb, hp]

theorem hdmaDescriptorStart_checks {e : BitVec 2} {num : Nat} {r : HdmaRun} (hr : s.hdmaRuns = true)
    (hf : s.run? e.toNat num = some r) (hs : r.started = false) (ho : r.ordered = false ∨ (s.hdmaAt e).first num = true) :
    exec (.hdmaDescriptorStart e num) s = .next (hdmaIssue e num 512 (s.onRun e.toNat num (fun x =>
      { x with started := true, status := s.hdmaCheck r }))) := by
  have hw : (r.ordered && !(s.hdmaAt e).first num) = false := by
    rcases ho with h | h <;> simp [h]
  simp [execHdmaDescriptorStart, hf, hr, hs, hw]

theorem hdmaHostReadCompletion_data {e : BitVec 2} {num off : Nat} {r : HdmaRun} {bs : List Byte}
    (hf : s.run? e.toNat num = some r) (ho : r.reads.contains off = true) (hn : bs.length = min 512 (r.len - off)) :
    exec (.hdmaHostReadCompletion e num off (.data bs)) s = .next (hdmaIssue e num 512
      ((s.onRun e.toNat num (fun x => { x with reads := NSet.del off x.reads })).hdmaData e r off bs)) := by
  simp only [exec_hdmaHostReadCompletion, execHdmaHostReadCompletion, hf, ho, hn]
  simp

theorem hdmaHostReadCompletion_error {e : BitVec 2} {num off : Nat} {r : HdmaRun}
    (hf : s.run? e.toNat num = some r) (ho : r.reads.contains off = true) :
    exec (.hdmaHostReadCompletion e num off .error) s = .next
      ((s.onRun e.toNat num (fun x => { x with reads := NSet.del off x.reads })).onRun e.toNat num (fun x => x.ended 0x04)) := by
  simp only [exec_hdmaHostReadCompletion, execHdmaHostReadCompletion, hf, ho]
  rfl

theorem hdmaDescriptorComplete_ends {e : BitVec 2} {num : Nat} {r : HdmaRun} (hf : s.run? e.toNat num = some r)
    (hp : r.past = true) (hn : r.norec = false) :
    let u := (((((s.hdmaRecord r).ringClear r.base r.j).onHdma e.toNat (fun h =>
      { h with last := r.status })).onRun e.toNat num (fun x => { x with complete := true })).hdmaTails e).hdmaCount (r.status = 0)
    exec (.hdmaDescriptorComplete e num) s = .next (if r.irq then u.hdmaIrq e else u) := by
  simp [execHdmaDescriptorComplete, hf, hp, hn]

end Sys2Proof.Machine

open Sys2Proof Machine Claims

/-- Settles O32, one lemma for each access and each step of a descriptor. -/
theorem hostMemoryAccess : Obligations.HostMemoryAccess := by
  unfold Obligations.HostMemoryAccess
  intro s
  refine ⟨fun off len ht hl => ⟨bar4Read_refused s ht hl, fun a => bar4Read_answers s ht hl⟩,
    fun off bs ep ht => ⟨bar4Write_icebound s ep ht, fun hd a => bar4Write_applies s ep ht hd⟩,
    fun log => bar4Resize_sizes s,
    fun e hr => ⟨hdmaPoll_takes s hr, fun num r => hdmaDescriptorStart_checks s hr⟩,
    fun e num r hf => ⟨fun off bs => hdmaHostReadCompletion_data s hf, fun off => hdmaHostReadCompletion_error s hf, fun hp hn => ?_⟩⟩
  have h := hdmaDescriptorComplete_ends s hf hp hn
  exact ⟨fun hi => by simpa [hi] using h, fun hi => by simpa [hi] using h⟩

end

section
/-! SUPPORT. What a write of BAR0 does (R500 to R508). -/

namespace Sys2Proof.Machine

/-- Register `off` of block `n` of group `g` takes a value. -/
def State.putReg (s : State) (g n off : Nat) (v : W32) : State :=
  match g with
  | 0 => s.putGlobal n off v
  | t + 1 => s.putTile t n off v

/-- R502: the value that a write of `v` gives a register, by itself (`al` 0) or as SET, CLEAR or TOGGLE. -/
def State.regNew (s : State) (al g n off : Nat) (v : W32) : W32 :=
  aliasVal al (s.reg g n off) v (BitVec.ofNat 32 (regMask g n off))

/-- R502: a write of `v` leaves the reserved bits of a register as they are. -/
def State.keepsReserved (s : State) (al g n off : Nat) (v : W32) : Prop :=
  (s.regNew al g n off v ^^^ s.reg g n off) &&& BitVec.ofNat 32 (rsvMask g n off) = 0

section
variable (s : State) {addr g n off : Nat} (v : W32) (hg : addr / 2 ^ 24 = g) (hn : addr / 2 ^ 16 % 2 ^ 8 = n)
include hg hn

theorem State.writeReg_absent (hx : blockExists g n = false) : s.writeReg addr v = s := by
  unfold State.writeReg
  dsimp only
  rw [hg, hn, if_pos (by simp [hx])]

variable (hx : blockExists g n = true)
include hx

/-- R4: in ICEBOUND every write is ignored. -/
theorem State.writeReg_icebound (hd : s.pkg.dev = .icebound) : s.writeReg addr v = s.ignored (blockKey g n) := by
  unfold State.writeReg
  dsimp only
  rw [hg, hn, if_neg (by simp [hx]), if_pos hd]

variable (hd : s.pkg.dev ≠ .icebound) (ho : addr % 2 ^ 14 = off)
include hd ho

theorem State.writeReg_readOnly (hl : 0x3FF0 ≤ off ∨ regMask g n off = 0) : s.writeReg addr v = s := by
  unfold State.writeReg
  dsimp only
  rw [hg, hn, ho, if_neg (by simp [hx]), if_neg hd, if_pos (by simpa using hl)]

variable (hl : off < 0x3FF0) (hm : regMask g n off ≠ 0)
include hl hm

theorem State.writeReg_kept (hk : s.keepsReserved (addr / 2 ^ 14 % 4) g n off v) :
    s.writeReg addr v = s.putReg g n off (s.regNew (addr / 2 ^ 14 % 4) g n off v &&& ~~~BitVec.ofNat 32 (rsvMask g n off)) := by
  have hc := bne_eq_false_iff_eq.mpr hk
  unfold State.regNew at hc
  unfold State.writeReg
  dsimp only
  rw [hg, hn, ho, if_neg (by simp [hx]), if_neg hd, if_neg (by simp [hm, hl])]
  simp only [hc]
  rfl

variable (hk : ¬ s.keepsReserved (addr / 2 ^ 14 % 4) g n off v)
include hk

/-- R506: a write that changes a reserved bit is ignored whole where the block is locked. -/
theorem State.writeReg_locked (hb : (s.block (blockKey g n)).lock = true) : s.writeReg addr v = s.ignored (blockKey g n) := by
  have hc := bne_iff_ne.mpr hk
  unfold State.regNew at hc
  unfold State.writeReg
  dsimp only
  rw [hg, hn, ho, if_neg (by simp [hx]), if_neg hd, if_neg (by simp [hm, hl])]
  simp only [hc, hb]
  rfl

theorem State.writeReg_reserved (hb : (s.block (blockKey g n)).lock = false) :
    s.writeReg addr v = (s.putReserved g n off).putReg g n off
      (s.regNew (addr / 2 ^ 14 % 4) g n off v &&& ~~~BitVec.ofNat 32 (rsvMask g n off)) := by
  have hc := bne_iff_ne.mpr hk
  unfold State.regNew at hc
  unfold State.writeReg
  dsimp only
  rw [hg, hn, ho, if_neg (by simp [hx]), if_neg hd, if_neg (by simp [hm, hl])]
  simp only [hc, hb]
  rfl

end

/-- What a write can do, in one statement: nothing, a count in a block, or a new value of a register of a block that exists. -/
theorem State.writeReg_cases (s : State) (addr : Nat) (v : W32) : s.writeReg addr v = s ∨ (∃ b, s.writeReg addr v = s.ignored b) ∨
    ∃ g n off w, blockExists g n = true ∧
      (s.writeReg addr v = s.putReg g n off w ∨ s.writeReg addr v = (s.putReserved g n off).putReg g n off w) := by
  by_cases hx : blockExists (addr / 2 ^ 24) (addr / 2 ^ 16 % 2 ^ 8) = true
  · by_cases hd : s.pkg.dev = .icebound
    · exact .inr (.inl ⟨_, s.writeReg_icebound v rfl rfl hx hd⟩)
    · by_cases hr : 0x3FF0 ≤ addr % 2 ^ 14 ∨ regMask (addr / 2 ^ 24) (addr / 2 ^ 16 % 2 ^ 8) (addr % 2 ^ 14) = 0
      · exact .inl (s.writeReg_readOnly v rfl rfl hx hd rfl hr)
      · obtain ⟨hl, hm⟩ := not_or.mp hr
        have hl := Nat.lt_of_not_le hl
        by_cases hk : s.keepsReserved (addr / 2 ^ 14 % 4) (addr / 2 ^ 24) (addr / 2 ^ 16 % 2 ^ 8) (addr % 2 ^ 14) v
        · exact .inr (.inr ⟨_, _, _, _, hx, .inl (s.writeReg_kept v rfl rfl hx hd rfl hl hm hk)⟩)
        · cases hb : (s.block (blockKey (addr / 2 ^ 24) (addr / 2 ^ 16 % 2 ^ 8))).lock with
          | true => exact .inr (.inl ⟨_, s.writeReg_locked v rfl rfl hx hd rfl hl hm hk hb⟩)
          | false => exact .inr (.inr ⟨_, _, _, _, hx, .inr (s.writeReg_reserved v rfl rfl hx hd rfl hl hm hk hb)⟩)
  · exact .inl (s.writeReg_absent v rfl rfl (by simpa using hx))

variable (s : State)

/-- An aligned access of 32 bits reaches the register. -/
theorem State.bar0Write_word {a : Nat} (v : W64) (hr : s.hostReaches = true) (hb : a < 2 ^ 27) (ha : a % 4 = 0) :
    s.bar0Write a 4 v = s.writeReg a (v.setWidth 32) := by
  have hlt : ¬ 2 ^ 27 ≤ a := by omega
  unfold State.bar0Write
  dsimp only
  rw [if_neg (by simpa [hr] using hb), if_pos (by simp [ha])]

/-- R500: an unaligned access of 32 bits is counted. -/
theorem State.bar0Write_unaligned {a g n : Nat} (v : W64) (hr : s.hostReaches = true) (hb : a < 2 ^ 27) (ha : a % 4 ≠ 0)
    (hg : a / 2 ^ 24 = g) (hn : a / 2 ^ 16 % 2 ^ 8 = n) (hx : blockExists g n = true) :
    s.bar0Write a 4 v = s.ignored (blockKey g n) := by
  unfold State.bar0Write
  dsimp only
  rw [hg, hn, if_neg (by simpa [hr] using hb), if_neg (by simp [ha]), if_neg (by simp), if_pos hx]

end Sys2Proof.Machine
end

section
/-! PROOFS. A locked field is written by neither level (R10, R508). -/

namespace Sys2Proof.Machine

/-- The LOCK bit of block `n` of group `g` is set. -/
def State.locked (s : State) (g n : Nat) : Prop := (s.block (blockKey g n)).lock = true

/-- R10, R508: no LOCK bit falls from `s` to `t`, and every field that the LOCK of a block names stays as it is where that bit is set. -/
structure LocksHold (s t : State) : Prop where
  lock : ∀ b, (s.block b).lock = true → (t.block b).lock = true
  sched : s.locked 0 2 → t.sched.sliceTimeout = s.sched.sliceTimeout ∧ t.sched.preemptEn = s.sched.preemptEn
  mem : s.locked 0 3 → t.mem.privSw = s.mem.privSw
  clk : s.locked 0 4 → t.clk.ppsEn = s.clk.ppsEn
  pow : s.locked 0 5 → t.pow.brkK = s.pow.brkK
  firm : s.locked 0 6 → t.firm.log.minSev = s.firm.log.minSev
  mor : s.locked 0 8 → t.mor.frozen = s.mor.frozen
  sec : s.locked 0 9 → t.sec.hostEn = s.sec.hostEn
  cal : s.locked 0 10 → t.cal.replanEn = s.cal.replanEn
  serac : ∀ k : BitVec 2, s.locked (k.toNat + 1) 2 →
    RF.at t.serac.raMax k = RF.at s.serac.raMax k ∧ RF.at t.serac.raEn k = RF.at s.serac.raEn k
  firn : ∀ k : BitVec 2, s.locked (k.toNat + 1) 3 →
    t.firn.scratchDefault.extractLsb' (8 * k.toNat) 8 = s.firn.scratchDefault.extractLsb' (8 * k.toNat) 8
  hbm : ∀ k : BitVec 2, s.locked (k.toNat + 1) 4 → RF.at t.hbm.refreshDouble k = RF.at s.hbm.refreshDouble k
  floe : ∀ k : BitVec 2, s.locked (k.toNat + 1) 5 →
    t.floe.disable.extractLsb' (4 * k.toNat) 4 = s.floe.disable.extractLsb' (4 * k.toNat) 4
  fab : ∀ k : BitVec 2, s.locked (k.toNat + 1) 6 → RF.at t.fab.seed k = RF.at s.fab.seed k
  stks : ∀ k : BitVec 2, s.locked (k.toNat + 1) 7 → (t.stk k).slopeLimit = (s.stk k).slopeLimit
  errs : ∀ k : BitVec 2, s.locked (k.toNat + 1) 8 → RF.at t.errs.fwOnly k = RF.at s.errs.fwOnly k

namespace LocksHold

theorem refl (s : State) : LocksHold s s :=
  ⟨fun _ h => h, fun _ => ⟨rfl, rfl⟩, fun _ => rfl, fun _ => rfl, fun _ => rfl, fun _ => rfl, fun _ => rfl, fun _ => rfl,
    fun _ => rfl, fun _ _ => ⟨rfl, rfl⟩, fun _ _ => rfl, fun _ _ => rfl, fun _ _ => rfl, fun _ _ => rfl, fun _ _ => rfl,
    fun _ _ => rfl⟩

theorem trans {s t u : State} (h : LocksHold s t) (g : LocksHold t u) : LocksHold s u where
  lock b hb := g.lock b (h.lock b hb)
  sched hb := ⟨(g.sched (h.lock _ hb)).1.trans (h.sched hb).1, (g.sched (h.lock _ hb)).2.trans (h.sched hb).2⟩
  mem hb := (g.mem (h.lock _ hb)).trans (h.mem hb)
  clk hb := (g.clk (h.lock _ hb)).trans (h.clk hb)
  pow hb := (g.pow (h.lock _ hb)).trans (h.pow hb)
  firm hb := (g.firm (h.lock _ hb)).trans (h.firm hb)
  mor hb := (g.mor (h.lock _ hb)).trans (h.mor hb)
  sec hb := (g.sec (h.lock _ hb)).trans (h.sec hb)
  cal hb := (g.cal (h.lock _ hb)).trans (h.cal hb)
  serac k hb := ⟨(g.serac k (h.lock _ hb)).1.trans (h.serac k hb).1, (g.serac k (h.lock _ hb)).2.trans (h.serac k hb).2⟩
  firn k hb := (g.firn k (h.lock _ hb)).trans (h.firn k hb)
  hbm k hb := (g.hbm k (h.lock _ hb)).trans (h.hbm k hb)
  floe k hb := (g.floe k (h.lock _ hb)).trans (h.floe k hb)
  fab k hb := (g.fab k (h.lock _ hb)).trans (h.fab k hb)
  stks k hb := (g.stks k (h.lock _ hb)).trans (h.stks k hb)
  errs k hb := (g.errs k (h.lock _ hb)).trans (h.errs k hb)

/-- What leaves all but the blanked parts alone writes no locked field. -/
theorem of_still {s t : State} (h : t.still = s.still) : LocksHold s t := by
  have hs : LocksHold s s.still := { refl s with }
  have ht : LocksHold t.still t := { refl t with }
  exact hs.trans (h ▸ ht)


theorem of_quiet {s t : State} (h : t.quiet = s.quiet) : LocksHold s t := of_still (State.still_of_quiet h)

theorem onFloe (s : State) {f : Floe → Floe} (h : ∀ x, (f x).disable = x.disable := by intro; rfl) :
    LocksHold s (s.onFloe f) :=
  of_quiet (s.onFloe_quiet h)

theorem onMem (s : State) {f : MemSem → MemSem} (h : ∀ m, (f m).privSw = m.privSw := by intro; rfl) :
    LocksHold s (s.onMem f) :=
  of_still (s.onMem_still h)

/-! ### The rules of LOCK and EN -/

theorem onBlock (s : State) (b : Nat) {f : RegBlock → RegBlock} (hf : ∀ x, x.lock = true → (f x).lock = true) :
    LocksHold s (s.onBlock b f) :=
  { refl s with
    lock := by
      intro c hc
      by_cases h : c = b
      · subst h
        simpa [State.block, State.onBlock, State.onRegs, SMap.upd] using hf _ hc
      · simpa [State.block, State.onBlock, State.onRegs, SMap.upd, SMap.get_set_other _ _ _ _ h] using hc }

theorem ignored (s : State) (b : Nat) : LocksHold s (s.ignored b) := onBlock s b fun _ h => h

theorem putLock {s u : State} (h : LocksHold s u) (b : Nat) (v : W32) : LocksHold s (u.putLock b v) := by
  unfold State.putLock
  split
  · exact h.trans (onBlock u b fun _ _ => rfl)
  · exact h

/-- A field that the LOCK of block `b` names is written only where that bit is clear. -/
theorem lockField (s : State) (b : Nat) (changed : Bool) {apply : State → State}
    (h : (s.block b).lock = false → LocksHold s (apply s)) : LocksHold s (s.lockField b changed apply) := by
  unfold State.lockField
  split
  · exact refl s
  · split
    · exact ignored s b
    next hl => exact h (by simpa using hl)

theorem cfgField (s : State) (b : Nat) (en changed : Bool) {mark apply : State → State}
    (hm : ∀ u, LocksHold u (mark u)) (h : (s.block b).lock = false → LocksHold s (apply s)) :
    LocksHold s (s.cfgField b en changed mark apply) := by
  refine lockField s b changed fun hl => ?_
  split
  · exact (ignored s b).trans (hm _)
  · exact h hl

/-! ### The registers of the global blocks -/

theorem putSchedCtrl (s : State) (v : W32) : LocksHold s (s.putSchedCtrl v) := by
  have hen : ∀ u : State, LocksHold u (u.onSched (fun x => { x with en := v.getLsbD 0, cfgIgnored := x.cfgIgnored && v.getLsbD 0 })) :=
    fun u => { refl u with }
  refine ((cfgField s _ _ _ (fun u => ?_) fun hl => ?_).trans (hen _)).putLock _ v
  · exact { refl u with }
  · exact { refl s with sched := fun h => absurd h (by simp [State.locked, hl]) }

theorem putMemReg (s : State) (off : Nat) (v : W32) : LocksHold s (s.putMemReg off v) := by
  simp only [State.putMemReg]
  split
  · refine ((cfgField s _ _ _ (fun u => onMem u) fun hl => ?_).trans (onMem _)).putLock _ v
    exact { refl s with mem := fun h => absurd h (by simp [State.locked, hl]) }
  · split
    · exact { refl s with }
    · split
      · exact onMem s
      · exact ignored s _

theorem putClkCtrl (s : State) (v : W32) : LocksHold s (s.putGlobal 4 0 v) := by
  refine (cfgField s _ _ _ (fun u => ?_) fun hl => ?_).putLock _ v
  · exact { refl u with }
  · exact { refl s with clk := fun h => absurd h (by simp [State.locked, hl]) }

theorem putPwrReg (s : State) (off : Nat) (v : W32) : LocksHold s (s.putPwrReg off v) := by
  unfold State.putPwrReg
  dsimp only
  split
  · exact { refl s with }
  · refine (cfgField s _ _ _ (fun u => ?_) fun hl => ?_).putLock _ v
    · exact { refl u with }
    · exact { refl s with pow := fun h => absurd h (by simp [State.locked, hl]) }

theorem putFwCtrl (s : State) (off : Nat) (v : W32) : LocksHold s (s.putGlobal 6 off v) := by
  refine (cfgField s _ _ _ (fun u => ?_) fun hl => ?_).putLock _ v
  · exact { refl u with }
  · exact { refl s with firm := fun h => absurd h (by simp [State.locked, hl]) }

theorem errAck (s : State) (v : W32) : LocksHold s (s.errAck v).2 := by
  unfold State.errAck
  dsimp only
  split
  · exact { refl s with }
  · exact refl s

theorem startSnap (s : State) : LocksHold s s.startSnap := by
  unfold State.startSnap
  dsimp only
  split
  · exact { refl s with }
  · exact refl s

theorem dueSnap (s : State) : LocksHold s s.dueSnap :=
  LocksHold.trans (t := s.onMor (fun m => { m with snapDue := true })) { refl s with } (startSnap _)

theorem morFreeze (s : State) (on : Bool) (hl : (s.block (blockKey 0 8)).lock = false) : LocksHold s (s.morFreeze on).2 := by
  have hfree : ¬ s.locked 0 8 := by simp [State.locked, hl]
  unfold State.morFreeze State.thaw
  split
  · dsimp only
    split
    · exact refl s
    · refine LocksHold.trans ?_ (startSnap _)
      exact { refl s with mor := fun h => absurd h hfree }
  · split
    · exact refl s
    · exact { refl s with mor := fun h => absurd h hfree }

theorem putMorReg (s : State) (v : W32) : LocksHold s (s.putMorReg v) := by
  have hf : LocksHold s (s.lockField (blockKey 0 8) (v.getLsbD 1 != s.mor.frozen.isSome) (fun s => (s.morFreeze (v.getLsbD 1)).2)) :=
    lockField s _ _ (morFreeze s _)
  unfold State.putMorReg
  refine LocksHold.putLock ?_ _ v
  split
  · exact hf.trans (dueSnap _)
  · exact hf

theorem putGlobal (s : State) (n off : Nat) (v : W32) : LocksHold s (s.putGlobal n off v) := by
  unfold State.putGlobal
  split
  · exact putSchedCtrl s v
  · exact putMemReg s off v
  · exact putClkCtrl s v
  · exact putPwrReg s off v
  · exact putFwCtrl s off v
  · split
    · exact errAck s v
    · exact (refl s).putLock _ v
  · exact putMorReg s v
  · refine (lockField s _ _ fun hl => ?_).putLock _ v
    exact { refl s with sec := fun h => absurd h (by simp [State.locked, hl]) }
  · refine (cfgField s _ _ _ (fun u => ?_) fun hl => ?_).putLock _ v
    · exact { refl u with }
    · exact { refl s with cal := fun h => absurd h (by simp [State.locked, hl]) }
  · exact refl s

/-! ### The registers of a Floe tile's blocks -/

/-- Where block `n` of tile `t` is not locked, a tile whose block `n` is locked is another. -/
theorem ne_of_locked {s : State} {t n : Nat} (ht : t < 4) (hl : (s.block (blockKey (t + 1) n)).lock = false) {k : BitVec 2}
    (hk : s.locked (k.toNat + 1) n) : k ≠ BitVec.ofNat 2 t := by
  rintro rfl
  have h : (BitVec.ofNat 2 t).toNat = t := by
    rw [BitVec.toNat_ofNat]
    omega
  rw [State.locked, h, hl] at hk
  cases hk

theorem cases_lt_four {n : Nat} (h : n < 4) : n = 0 ∨ n = 1 ∨ n = 2 ∨ n = 3 := by
  omega

/-- A field of 8 bits of a 32-bit word is replaced: the other fields stay. -/
theorem byte_replaced (x : BitVec 32) {t : Nat} (ht : t < 4) (new : Nat) (hn : new < 256) {k : BitVec 2}
    (hk : k ≠ BitVec.ofNat 2 t) :
    (BitVec.ofNat 32 (x.toNat - x.toNat / 2 ^ (8 * t) % 256 * 2 ^ (8 * t) + new * 2 ^ (8 * t))).extractLsb' (8 * k.toNat) 8 =
      x.extractLsb' (8 * k.toNat) 8 := by
  have hne : k.toNat ≠ t := fun h => hk (BitVec.eq_of_toNat_eq (by rw [BitVec.toNat_ofNat, h]; omega))
  have hx := x.isLt
  have hkl := k.isLt
  apply BitVec.eq_of_toNat_eq
  simp only [BitVec.extractLsb'_toNat, BitVec.toNat_ofNat, Nat.shiftRight_eq_div_pow]
  generalize k.toNat = j at hne hkl
  obtain rfl | rfl | rfl | rfl := cases_lt_four ht
  all_goals obtain rfl | rfl | rfl | rfl := cases_lt_four hkl
  all_goals omega

/-- A field of 4 bits of a 16-bit word is replaced: the other fields stay. -/
theorem nibble_replaced (x : BitVec 16) {t : Nat} (ht : t < 4) (new : Nat) (hn : new < 16) {k : BitVec 2}
    (hk : k ≠ BitVec.ofNat 2 t) :
    (BitVec.ofNat 16 (x.toNat - x.toNat / 2 ^ (4 * t) % 16 * 2 ^ (4 * t) + new * 2 ^ (4 * t))).extractLsb' (4 * k.toNat) 4 =
      x.extractLsb' (4 * k.toNat) 4 := by
  have hne : k.toNat ≠ t := fun h => hk (BitVec.eq_of_toNat_eq (by rw [BitVec.toNat_ofNat, h]; omega))
  have hx := x.isLt
  have hkl := k.isLt
  apply BitVec.eq_of_toNat_eq
  simp only [BitVec.extractLsb'_toNat, BitVec.toNat_ofNat, Nat.shiftRight_eq_div_pow]
  generalize k.toNat = j at hne hkl
  obtain rfl | rfl | rfl | rfl := cases_lt_four ht
  all_goals obtain rfl | rfl | rfl | rfl := cases_lt_four hkl
  all_goals omega

theorem putFrnReg (s : State) {t : Nat} (ht : t < 4) (off : Nat) (v : W32) : LocksHold s (s.putFrnReg t off v) := by
  simp only [State.putFrnReg]
  split
  · split
    · exact refl s
    · split
      · exact of_still (s.maintStart_still _ _ _)
      · exact { refl s with }
  · refine (cfgField s _ _ _ (fun u => ?_) fun hl => ?_).putLock _ v
    · exact { refl u with }
    · exact { refl s with firn := fun k hk => byte_replaced _ ht _ (BitVec.isLt _) (ne_of_locked ht hl hk) }

theorem putPhoReg (s : State) {t : Nat} (ht : t < 4) (off : Nat) (v : W32) : LocksHold s (s.putPhoReg t off v) := by
  have hset : LocksHold s (s.onFloe (fun f => { f with cmdSet := v.extractLsb' 0 3 })) := onFloe s
  simp only [State.putPhoReg]
  split
  · refine (cfgField s _ _ _ (fun u => ?_) fun hl => ?_).putLock _ v
    · exact { refl u with }
    · exact { refl s with floe := fun k hk => nibble_replaced _ ht _ (BitVec.isLt _) (ne_of_locked ht hl hk) }
  · split
    · split
      · exact hset.trans (of_quiet (State.requestSteer_quiet _ _ _ _))
      · exact hset
    · split
      · exact onFloe s
      · split
        · exact { refl s with }
        · exact onFloe s

theorem putCvuReg (s : State) {t : Nat} (ht : t < 4) (off : Nat) (v : W32) : LocksHold s (s.putCvuReg t off v) := by
  have hcvu : ∀ (u : State) (c : Nat) (f : Cvu → Cvu), LocksHold u (u.onCvu c f) := fun u c f => of_still (u.onCvu_still c f)
  simp only [State.putCvuReg]
  split
  · refine (lockField s _ _ fun hl => ?_).putLock _ v
    exact { refl s with errs := fun k hk => RF.at_put_other _ _ _ _ (ne_of_locked ht hl hk) }
  · split
    · exact ignored s _
    · split
      · refine LocksHold.trans ?_ (of_still (State.cvuCtrl_still _ _ _))
        split
        · exact ignored s _
        · exact refl s
      · split
        · exact { refl s with }
        · split
          · exact refl s
          · split
            · exact (ignored s _).trans (hcvu _ _ _)
            · exact hcvu s _ _

theorem onStk_mark (s : State) (k : BitVec 2) : LocksHold s (s.onStk k (fun x => { x with cfgIgnored := true })) :=
  { refl s with
    stks := fun j _ => by
      by_cases h : j = k
      · simp [State.stk, State.onStk, h]
      · simp [State.stk, State.onStk, RF.at_put_other _ _ _ _ h] }

theorem putTile (s : State) {t : Nat} (ht : t < 4) (n off : Nat) (v : W32) : LocksHold s (s.putTile t n off v) := by
  unfold State.putTile
  dsimp only
  split
  · refine (cfgField s _ _ _ (fun u => ?_) fun hl => ?_).putLock _ v
    · exact { refl u with }
    · exact { refl s with serac := fun k hk =>
        ⟨RF.at_put_other _ _ _ _ (ne_of_locked ht hl hk), RF.at_put_other _ _ _ _ (ne_of_locked ht hl hk)⟩ }
  · exact putFrnReg s ht off v
  · split
    · exact { refl s with }
    · refine (cfgField s _ _ _ (fun u => ?_) fun hl => ?_).putLock _ v
      · exact { refl u with }
      · exact { refl s with hbm := fun k hk => RF.at_put_other _ _ _ _ (ne_of_locked ht hl hk) }
  · exact putPhoReg s ht off v
  · refine (cfgField s _ _ _ (fun u => ?_) fun hl => ?_).putLock _ v
    · exact { refl u with }
    · exact { refl s with fab := fun k hk => RF.at_put_other _ _ _ _ (ne_of_locked ht hl hk) }
  · refine (cfgField s _ _ _ (fun u => ?_) fun hl => ?_).putLock _ v
    · exact onStk_mark u _
    · exact { refl s with stks := fun k hk => congrArg StackPow.slopeLimit (RF.at_put_other _ _ _ _ (ne_of_locked ht hl hk)) }
  · exact putCvuReg s ht off v
  · exact refl s

/-! ### A write -/

theorem putReg (s : State) {g n : Nat} (hx : blockExists g n = true) (off : Nat) (v : W32) : LocksHold s (s.putReg g n off v) := by
  cases g with
  | zero => exact putGlobal s n off v
  | succ t =>
    have ht : t < 4 := by
      simp [blockExists] at hx
      omega
    exact putTile s ht n off v

theorem writeReg (s : State) (addr : Nat) (v : W32) : LocksHold s (s.writeReg addr v) := by
  obtain h | ⟨b, h⟩ | ⟨g, n, off, w, hx, h | h⟩ := s.writeReg_cases addr v
  all_goals rw [h]
  · exact refl s
  · exact ignored s b
  · exact putReg s hx off w
  · have hr : LocksHold s (s.putReserved g n off) := { refl s with }
    exact hr.trans (putReg _ hx off w)

theorem bar0Write (s : State) (addr size : Nat) (v : W64) : LocksHold s (s.bar0Write addr size v) := by
  unfold State.bar0Write
  dsimp only
  split
  · exact refl s
  · split
    · exact writeReg s _ _
    · split
      · exact (writeReg s _ _).trans (writeReg _ _ _)
      · split
        · exact ignored s _
        · exact refl s

end LocksHold

/-! ### Dictionary writes -/

/-- R10, R484: what makes a write of an entry of the register blocks LOCKED. -/
theorem State.writeLocked_of_lock (s : State) {k : Nat} {data : List Byte}
    (h : (∃ n, lockBy k = .glob n ∧ (s.block (blockKey 0 n)).lock = true) ∨
      (∃ n g, lockBy k = .tiles n ∧ 1 ≤ g ∧ g ≤ 4 ∧ (s.block (blockKey g n)).lock = true) ∨
      (k = dk 0x6000 7 ∧ (s.block (blockKey 0 7)).lock = true ∧ leNat data = 1)) : s.writeLocked k data = true := by
  obtain ⟨n, hk, hl⟩ | ⟨n, g, hk, h1, h4, hl⟩ | ⟨hk, hl, hd⟩ := h
  · simp [State.writeLocked, State.entryLocked, hk, hl]
  · have hg : g = 1 ∨ g = 2 ∨ g = 3 ∨ g = 4 := by omega
    have he : s.entryLocked k = true := by
      simp only [State.entryLocked, hk, List.any_eq_true]
      exact ⟨g, by simpa using hg, hl⟩
    simp [State.writeLocked, he]
  · simp [State.writeLocked, hk, hl, hd]

/-- R485: a write of a locked entry that its class may write is refused LOCKED and changes nothing. -/
theorem State.dictWrite_locked (s : State) {who : Asker} {r : DictReq} {e : Entry} (hi : r.idx < 0x8000)
    (he : entryAt r.idx r.sub = some e) (hd : s.writeDenied e who = false) (hl : s.writeLocked (dk r.idx r.sub) r.data = true) :
    s.dictWrite who r = (3, s) := by
  have hn : ¬ (0x8000 ≤ r.idx) := by omega
  simp [State.dictWrite, hn, he, hd, hl]

theorem leNat_append_zeros (n : Nat) : ∀ l : List Byte, leNat (l ++ List.replicate n 0#8) = leNat l
  | [] => by
    induction n with
    | zero => rfl
    | succ n ih =>
      have h : leNat (List.replicate n 0#8) = 0 := ih
      simp [List.replicate_succ, leNat, h]
  | b :: l => by simp [leNat, leNat_append_zeros n l]

/-- A field inside a string is the same in the string brought to a length that holds it. -/
theorem fld_padTo (m : List Byte) {k off n : Nat} (h : off + n ≤ k) : fld (padTo k m) off n = fld m off n := by
  have hn : min n (k - off) = n := by omega
  simp only [fld, padTo, List.drop_take, List.take_take, hn, List.drop_append, List.drop_replicate, List.take_append,
    List.take_replicate]
  exact leNat_append_zeros _ _

theorem padTo_length (n : Nat) (m : List Byte) : (padTo n m).length = n := by
  simp [padTo]
  omega

theorem padTo_of_length {n : Nat} {m : List Byte} (h : m.length = n) : padTo n m = m := by
  rw [padTo, List.take_append_of_le_length (Nat.le_of_eq h.symm), List.take_of_length_le (Nat.le_of_eq h)]

end Sys2Proof.Machine

namespace Sys2Proof.Claims
open Machine

/-- R443, R492: N0 serves the oldest message of the mailbox as a write while N5 is up. -/
theorem dictWrite_serves {s : State} {m : List Byte} {rest : List (List Byte)} (ht : Taken s 0x0202 m rest)
    (hn : s.n5Down = false) : exec .dictWrite s = .next (s.takeUp.serveMbx true ((padTo 256 m).drop 16)) := by
  obtain ⟨hm, hu, hf⟩ := ht
  have hb : mbxBody (padTo 256 m) = natLE 2 0x0202 ++ (padTo 256 m).drop 16 := by
    rw [mbxBody, fld_padTo m (by omega), hf]
  have hw : fld (natLE 2 0x0202 ++ (padTo 256 m).drop 16) 0 2 = 0x0202 := rfl
  have hd : (natLE 2 0x0202 ++ (padTo 256 m).drop 16).drop 2 = (padTo 256 m).drop 16 := rfl
  have hp : padTo 240 ((padTo 256 m).drop 16) = (padTo 256 m).drop 16 := padTo_of_length (by simp [padTo_length])
  have hn' : s.takeUp.n5Down = false := hn
  simp only [exec_dictWrite, execDictWrite, State.onTaken, hm, hu, hf, State.askSvaog, hn', hb, State.serveSvaog, hw, hd, hp]
  rfl

theorem dictWrite_refusesLocked {s : State} {m : List Byte} {rest : List (List Byte)} {e : Entry} (ht : Taken s 0x0202 m rest)
    (hn : s.n5Down = false) (hi : (mailReq true m).idx < 0x8000) (he : entryAt (mailReq true m).idx (mailReq true m).sub = some e)
    (hd : s.takeUp.writeDenied e askMbx = false) (hl : s.takeUp.writeLocked (mailKey m) (mailReq true m).data = true) :
    exec .dictWrite s = .next (mailReply m (s.takeUp.bare e (mailKey m) 3 false) s.takeUp) := by
  have h := s.takeUp.dictWrite_locked hi he hd hl
  rw [dictWrite_serves ht hn]
  simp only [mailReq, mailKey, mailReply] at h he ⊢
  simp only [State.serveMbx, State.dictServe, h, he]
  rfl

end Sys2Proof.Claims

open Sys2Proof Machine Claims

/-- Settles O51: a write of BAR0 holds the locked fields register by register (`LocksHold`), and the dictionary refuses a locked entry
before it looks at the value. -/
theorem lockedFieldsHold : Obligations.LockedFieldsHold := by
  unfold Obligations.LockedFieldsHold
  refine ⟨fun s t addr size v h => ?_, fun s m rest e ht hn hi he hd hl => ?_, fun s who r e hi he hd hl => ?_⟩
  · have ht : s.bar0Write addr.toNat size v = t := by injection h
    subst ht
    have hl := LocksHold.bar0Write s addr.toNat size v
    exact ⟨hl.sched, hl.mem, hl.clk, hl.pow, hl.firm, hl.mor, hl.sec, hl.cal, fun k =>
      ⟨hl.serac k, hl.firn k, hl.hbm k, hl.floe k, hl.fab k, hl.stks k, hl.errs k⟩⟩
  · exact dictWrite_refusesLocked ht hn hi he hd (s.takeUp.writeLocked_of_lock hl)
  · exact s.dictWrite_locked hi he hd (s.writeLocked_of_lock hl)

end

section
/-! PROOFS. BAR0 register accesses and the scrub of the triplicated registers (R366, R500 to R508). -/

namespace Sys2Proof.Machine

/-! ### Masks -/

/-- A word below `2 ^ k` has no bit of a mask that begins at bit `k`. -/
theorem and_mask_of_lt {x : W32} {k : Nat} (m : Nat) (hx : x.toNat < 2 ^ k) : x &&& BitVec.ofNat 32 (2 ^ k * m) = 0 := by
  apply BitVec.eq_of_getLsbD_eq
  intro i hi
  rw [BitVec.getLsbD_and, BitVec.getLsbD_ofNat, Nat.testBit_two_pow_mul]
  by_cases hk : i < k
  · have h : decide (i ≥ k) = false := decide_eq_false (Nat.not_le_of_lt hk)
    rw [h, Bool.false_and, Bool.and_false, Bool.and_false]
    exact BitVec.getLsbD_zero.symm
  · have h : x.getLsbD i = false :=
      Nat.testBit_lt_two_pow (Nat.lt_of_lt_of_le hx (Nat.pow_le_pow_right (by omega) (by omega)))
    simp [h]

theorem getLsbD_of_and_eq_zero {x m : W32} (h : x &&& m = 0) (i : Nat) : (x.getLsbD i && m.getLsbD i) = false := by
  rw [← BitVec.getLsbD_and, h]
  exact BitVec.getLsbD_zero

theorem and_not_of_and_eq_zero {x m : W32} (h : x &&& m = 0) : x &&& ~~~m = x := by
  apply BitVec.eq_of_getLsbD_eq
  intro i hi
  have hb := getLsbD_of_and_eq_zero h i
  cases hx : x.getLsbD i <;> simp_all

theorem xor_and_of_and_eq_zero {x y m : W32} (hx : x &&& m = 0) (hy : y &&& m = 0) : (x ^^^ y) &&& m = 0 := by
  apply BitVec.eq_of_getLsbD_eq
  intro i _
  simp [Bool.and_xor_distrib_right, getLsbD_of_and_eq_zero hx i, getLsbD_of_and_eq_zero hy i]

variable (s : State)

theorem bar0RegisterWrite_word {addr : BitVec 27} (v : W32) (hr : s.hostReaches = true) (ha : addr.toNat % 4 = 0) :
    exec (.bar0RegisterWrite addr 4 (.write (v.setWidth 64))) s = .next (s.writeReg addr.toNat v) := by
  have hv : (v.setWidth 64).setWidth 32 = v := by simp
  rw [exec_bar0RegisterWrite, execBar0RegisterWrite, s.bar0Write_word _ hr addr.isLt ha, hv]

/-- A write by itself, where neither the value nor the register has a reserved bit set. -/
theorem State.writeReg_plain {addr g n off : Nat} {v : W32} (hg : addr / 2 ^ 24 = g) (hn : addr / 2 ^ 16 % 2 ^ 8 = n)
    (ho : addr % 2 ^ 14 = off) (hal : addr / 2 ^ 14 % 4 = 0) (hx : blockExists g n = true) (hd : s.pkg.dev ≠ .icebound)
    (hl : off < 0x3FF0) (hm : regMask g n off ≠ 0) (hv : v &&& BitVec.ofNat 32 (rsvMask g n off) = 0)
    (hc : s.reg g n off &&& BitVec.ofNat 32 (rsvMask g n off) = 0) : s.writeReg addr v = s.putReg g n off v := by
  have hnew : s.regNew (addr / 2 ^ 14 % 4) g n off v = v := by
    rw [hal]
    rfl
  have hk : s.keepsReserved (addr / 2 ^ 14 % 4) g n off v := by
    rw [State.keepsReserved, hnew]
    exact xor_and_of_and_eq_zero hv hc
  rw [s.writeReg_kept v hg hn hx hd ho hl hm hk, hnew, and_not_of_and_eq_zero hv]

/-- R351, R366: a write of the HI half with a base that may be taken. -/
theorem State.putMemReg_bar4Hi {v : W32} {d : BitVec 64} (hok : s.bar4Ok d.toNat = true)
    (hn : v.toNat % 2 ^ 16 * 2 ^ 32 + (SMap.get 0 s.regs.loHeld (regAddr 0 3 0x10)).toNat = d.toNat) :
    s.putMemReg 0x14 v = s.onMem (fun m => { m with bar4Base := d.setWidth 48 }) := by
  unfold State.putMemReg
  dsimp only
  rw [if_neg (by decide), if_neg (by decide), hn, if_pos hok, BitVec.ofNat_toNat]

/-- R366: HOST_BAR4_BASE takes effect with its HI half. -/
theorem hostBar4BaseHiWrite_lands {v : W32} {d : BitVec 64} (hr : s.hostReaches = true) (hd : s.pkg.dev ≠ .icebound)
    (hok : s.bar4Ok d.toNat = true) (hv : d.toNat / 2 ^ 32 = v.toNat)
    (hlo : SMap.get 0 s.regs.loHeld (regAddr 0 3 0x10) = d.setWidth 32) (ht : SMap.get 0 s.regs.test (regAddr 0 3 0x14) = 0) :
    exec (.hostBar4BaseHiWrite 0 v) s = .next (s.onMem (fun m => { m with bar4Base := d.setWidth 48 })) := by
  have hlt : d.toNat < 2 ^ 48 := by
    simp only [State.bar4Ok, Bool.and_eq_true, decide_eq_true_eq] at hok
    exact hok.1.1.1
  have hrsv : BitVec.ofNat 32 (rsvMask 0 3 0x14) = BitVec.ofNat 32 (2 ^ 16 * 0xFFFF) := rfl
  have hv0 : v &&& BitVec.ofNat 32 (rsvMask 0 3 0x14) = 0 := by
    rw [hrsv]
    exact and_mask_of_lt _ (by omega)
  have hc0 : s.reg 0 3 0x14 &&& BitVec.ofNat 32 (rsvMask 0 3 0x14) = 0 := by
    have hb := s.mem.bar4Base.isLt
    have hreg : s.reg 0 3 0x14 = BitVec.ofNat 32 (s.mem.bar4Base.toNat / 2 ^ 32) := by
      have hf : s.regFields 0 3 0x14 = BitVec.ofNat 32 (s.mem.bar4Base.toNat / 2 ^ 32) := by
        simp [State.regFields, State.regMem, blockExists, half]
      rw [State.reg, ht, hf]
      exact BitVec.or_zero
    rw [hreg, hrsv]
    refine and_mask_of_lt _ ?_
    rw [BitVec.toNat_ofNat]
    omega
  have hw : s.writeReg 0x30014 v = s.putReg 0 3 0x14 v :=
    s.writeReg_plain (by decide) (by decide) (by decide) (by decide) rfl hd (by decide) (by decide) hv0 hc0
  have hn : v.toNat % 2 ^ 16 * 2 ^ 32 + (SMap.get 0 s.regs.loHeld (regAddr 0 3 0x10)).toNat = d.toNat := by
    rw [hlo, BitVec.toNat_setWidth]
    omega
  have hp : s.putReg 0 3 0x14 v = s.onMem (fun m => { m with bar4Base := d.setWidth 48 }) := by
    simp only [State.putReg, State.putGlobal]
    exact s.putMemReg_bar4Hi hok hn
  have hv' : (v.setWidth 64).setWidth 32 = v := by simp
  have ha : regAddr 0 3 (0x4000 * (0 : BitVec 2).toNat + 0x14) = 0x30014 := rfl
  rw [exec_hostBar4BaseHiWrite, execHostBar4BaseHiWrite, ha, s.bar0Write_word _ hr (by omega) (by omega), hv', hw, hp]


/-! ### PHO_STEER_CMD -/

theorem or_and_eq_zero {x y m : W32} (hx : x &&& m = 0) (hy : y &&& m = 0) : (x ||| y) &&& m = 0 := by
  apply BitVec.eq_of_getLsbD_eq
  intro i _
  simp [Bool.and_or_distrib_right, getLsbD_of_and_eq_zero hx i, getLsbD_of_and_eq_zero hy i]

theorem State.reg_phoSteerCmd (ht : SMap.get 0 s.regs.test (regAddr 1 5 8) = 0) :
    s.reg 1 5 8 = BitVec.ofNat 32 (2 ^ 8 * s.floe.cmdResult.toNat) ||| BitVec.ofNat 32 s.floe.cmdSet.toNat := by
  have hf : s.regFields 1 5 8 = BitVec.ofNat 32 (s.floe.cmdResult.toNat * 256 + s.floe.cmdSet.toNat) := by
    simp [State.regFields, State.regPho, blockExists]
  have hn := Nat.two_pow_add_eq_or_of_lt (i := 8) (b := s.floe.cmdSet.toNat) (by omega) s.floe.cmdResult.toNat
  rw [State.reg, ht, hf, Nat.mul_comm, hn, BitVec.ofNat_or]
  exact BitVec.or_zero

/-- SET and RESULT of PHO_STEER_CMD are not among its reserved bits. -/
theorem State.reg_phoSteerCmd_reserved (ht : SMap.get 0 s.regs.test (regAddr 1 5 8) = 0) :
    s.reg 1 5 8 &&& BitVec.ofNat 32 (rsvMask 1 5 8) = 0 := by
  have hm : BitVec.ofNat 32 (rsvMask 1 5 8) = BitVec.ofNat 32 (2 ^ 16 * 0xFFFF) ||| 0x78#32 := rfl
  have hr := s.floe.cmdResult.isLt
  have hs := s.floe.cmdSet.isLt
  rw [s.reg_phoSteerCmd ht]
  refine or_and_eq_zero ?_ (and_mask_of_lt (k := 3) 0x1FFFE00F ?_)
  · rw [hm, BitVec.and_comm]
    refine or_and_eq_zero ?_ (and_mask_of_lt (k := 8) _ (by decide))
    rw [BitVec.and_comm]
    refine and_mask_of_lt _ ?_
    rw [BitVec.toNat_ofNat]
    omega
  · rw [BitVec.toNat_ofNat]
    omega

/-- A write of PHO_STEER_CMD whose value has no reserved bit. -/
theorem phoSteerCmdGo_puts {v : W32} (hr : s.hostReaches = true) (hd : s.pkg.dev ≠ .icebound)
    (ht : SMap.get 0 s.regs.test (regAddr 1 5 8) = 0) (hv : v &&& BitVec.ofNat 32 (rsvMask 1 5 8) = 0) :
    exec (.phoSteerCmdGo 0 v) s = .next (s.putPhoReg 0 8 v) := by
  have hw : s.writeReg 0x1050008 v = s.putReg 1 5 8 v :=
    s.writeReg_plain (by decide) (by decide) (by decide) (by decide) rfl hd (by decide) (by decide) hv
      (s.reg_phoSteerCmd_reserved ht)
  have hv' : (v.setWidth 64).setWidth 32 = v := by simp
  have ha : regAddr 1 5 (0x4000 * (0 : BitVec 2).toNat + 8) = 0x1050008 := rfl
  rw [exec_phoSteerCmdGo, execPhoSteerCmdGo, ha, s.bar0Write_word _ hr (by omega) (by omega), hv', hw]
  simp only [State.putReg, State.putTile]

theorem steerSet_reserved {v : W32} (hv : v.toNat < 8) : v &&& BitVec.ofNat 32 (rsvMask 1 5 8) = 0 :=
  and_mask_of_lt (k := 3) 0x1FFFE00F hv

/-- R280: without GO the write names the set alone. -/
theorem phoSteerCmdGo_sets {v : W32} (hr : s.hostReaches = true) (hd : s.pkg.dev ≠ .icebound)
    (ht : SMap.get 0 s.regs.test (regAddr 1 5 8) = 0) (hv : v.toNat < 8) :
    exec (.phoSteerCmdGo 0 v) s = .next (s.onFloe (fun f => { f with cmdSet := v.extractLsb' 0 3 })) := by
  have hgo : v.getLsbD 7 = false := Nat.testBit_lt_two_pow (by omega)
  rw [phoSteerCmdGo_puts s hr hd ht (steerSet_reserved hv)]
  simp only [State.putPhoReg, hgo]
  rfl

/-- R280, R287: with GO the write requests a steer of the set. -/
theorem phoSteerCmdGo_requests {v : W32} (hr : s.hostReaches = true) (hd : s.pkg.dev ≠ .icebound)
    (ht : SMap.get 0 s.regs.test (regAddr 1 5 8) = 0) (hv : v.toNat < 8) :
    exec (.phoSteerCmdGo 0 (v ||| 0x80)) s =
      .next ((s.onFloe (fun f => { f with cmdSet := v.extractLsb' 0 3 })).requestSteer (v.extractLsb' 0 3) s.floe.cmdT .register).2 := by
  have hgo : (v ||| 0x80).getLsbD 7 = true := by simp
  have hset : (v ||| 0x80).extractLsb' 0 3 = v.extractLsb' 0 3 := by
    rw [BitVec.extractLsb'_or]
    exact BitVec.or_zero
  rw [phoSteerCmdGo_puts s hr hd ht (or_and_eq_zero (steerSet_reserved hv) (by decide))]
  simp only [State.putPhoReg, hgo, hset]
  rfl

/-! ### A register access -/

section
variable {addr : BitVec 27} (v : W32) (hr : s.hostReaches = true)
  (hx : blockExists (addr.toNat / 2 ^ 24) (addr.toNat / 2 ^ 16 % 2 ^ 8) = true)
include hr

theorem bar0RegisterWrite_read (size : Nat) : exec (.bar0RegisterWrite addr size .read) s =
    .next ((s.bar0Read addr.toNat size).2.emit (.bar0Data (s.bar0Read addr.toNat size).1)) := by
  simp [execBar0RegisterWrite, hr]

include hx

theorem bar0RegisterWrite_unaligned (ha : addr.toNat % 4 ≠ 0) :
    exec (.bar0RegisterWrite addr 4 (.write (v.setWidth 64))) s =
      .next (s.ignored (blockKey (addr.toNat / 2 ^ 24) (addr.toNat / 2 ^ 16 % 2 ^ 8))) := by
  rw [exec_bar0RegisterWrite, execBar0RegisterWrite, s.bar0Write_unaligned _ hr addr.isLt ha rfl rfl hx]

variable (ha : addr.toNat % 4 = 0)
include ha

theorem bar0RegisterWrite_icebound (hd : s.pkg.dev = .icebound) :
    exec (.bar0RegisterWrite addr 4 (.write (v.setWidth 64))) s =
      .next (s.ignored (blockKey (addr.toNat / 2 ^ 24) (addr.toNat / 2 ^ 16 % 2 ^ 8))) := by
  rw [bar0RegisterWrite_word s v hr ha, s.writeReg_icebound v rfl rfl hx hd]

end

theorem State.putReg_global {g n off : Nat} {v : W32} (hg : g = 0) : s.putReg g n off v = s.putGlobal n off v := by
  subst hg
  rfl

theorem State.putReg_tile {g n off t : Nat} {v : W32} (hg : g = t + 1) : s.putReg g n off v = s.putTile t n off v := by
  subst hg
  rfl

/-! ### The scrub of the triplicated registers -/

@[simp] theorem State.block_onBlock_same (b : Nat) (f : RegBlock → RegBlock) : (s.onBlock b f).block b = f (s.block b) :=
  SMap.get_set_same _ _ _ _

theorem State.block_onBlock_other {b c : Nat} (h : c ≠ b) (f : RegBlock → RegBlock) : (s.onBlock b f).block c = s.block c :=
  SMap.get_set_other _ _ _ _ h _

theorem State.raise'_block (r : Raise) (b : Nat) : (s.raise' r).block b = s.block b := by
  have h := congrArg State.regs (s.raise'_still r)
  exact congrArg (fun x : Regs => SMap.get RegBlock.reset x.blocks b) h

theorem State.log_errs (core sev : Nat) (p : List Byte) (x : Bool) : (s.log core sev p x).errs = s.errs := by
  simp only [State.log]
  split
  · rfl
  · split <;> rfl

/-- A raise leaves the state disarmed where no injection is armed. -/
theorem State.raise'_inj (r : Raise) (h : s.errs.inj = none) : (s.raise' r).errs.inj = none := by
  have ha : (s.asInjected r).2 = s := by simp [State.asInjected, State.injects, h]
  obtain ⟨e, he, hc⟩ := s.raise_cases r
  rw [ha] at he hc
  have hi : e.inj = none := (congrArg (fun p => p.2.1) he).trans h
  obtain hc | ⟨sev, p, hc⟩ := hc
  · rw [hc]
    exact hi
  · rw [hc, State.log_errs]
    exact hi

@[simp] theorem State.onBlock_since (b : Nat) (f : RegBlock → RegBlock) (t : W64) : (s.onBlock b f).since t = s.since t := rfl

/-- R507: fewer than 1 s ago a correction in block `b` was reported. -/
def State.reportedLately (s : State) (b : Nat) : Prop := ∃ w, (s.block b).voteAt = some w ∧ s.since w < msU 1000

/-- R507: what corrected fields of a block do: they count, and are reported unless a report was made lately. -/
theorem State.voted_cases (g n a : Nat) (l : List Nat) :
    let u := s.onBlock (blockKey g n) (fun x => { x with votes := satAdd x.votes (l.length + 1) })
    s.voted g n (a :: l) = u ∨ ¬ s.reportedLately (blockKey g n) ∧
      ∃ r, s.voted g n (a :: l) = (u.onBlock (blockKey g n) (fun x => { x with voteAt := some s.now })).raise' r := by
  unfold State.voted
  dsimp only
  rw [List.length_cons, State.block_onBlock_same]
  split
  next w hw =>
    by_cases hs : s.since w < msU 1000
    · exact .inl (if_pos ((Bool.not_eq_true' _).mpr (decide_eq_false (Nat.not_le_of_lt hs))))
    · refine .inr ⟨fun ⟨w', hw', hs'⟩ => hs ?_, _, if_neg fun hn => hs (Nat.lt_of_not_le (of_decide_eq_false ((Bool.not_eq_true' _).mp hn)))⟩
      rwa [Option.some.inj (hw.symm.trans hw')]
  next hw => exact .inr ⟨fun ⟨w', hw', _⟩ => Option.some_ne_none w' (hw'.symm.trans hw), _, rfl⟩

/-! The effects of a vote on the state. -/

section
variable {s : State} {g n a : Nat} {l : List Nat}

theorem State.voted_block_same :
    ((s.voted g n (a :: l)).block (blockKey g n)).votes = satAdd (s.block (blockKey g n)).votes (l.length + 1) := by
  obtain h | ⟨-, r, h⟩ := s.voted_cases g n a l
  · rw [h, State.block_onBlock_same]
  · rw [h, State.raise'_block, State.block_onBlock_same, State.block_onBlock_same]

theorem State.voted_block_other {b : Nat} (hb : b ≠ blockKey g n) : (s.voted g n (a :: l)).block b = s.block b := by
  obtain h | ⟨-, r, h⟩ := s.voted_cases g n a l
  · rw [h, State.block_onBlock_other _ hb]
  · rw [h, State.raise'_block, State.block_onBlock_other _ hb, State.block_onBlock_other _ hb]

theorem State.voted_errs (hl : s.reportedLately (blockKey g n)) : (s.voted g n (a :: l)).errs = s.errs := by
  obtain h | ⟨hn, -⟩ := s.voted_cases g n a l
  · rw [h]
    rfl
  · exact absurd hl hn

theorem State.voted_inj (hi : s.errs.inj = none) : (s.voted g n (a :: l)).errs.inj = none := by
  obtain h | ⟨-, r, h⟩ := s.voted_cases g n a l
  · rw [h]
    exact hi
  · rw [h]
    exact State.raise'_inj _ r hi

end

/-- The blocks in the order in which the scrub visits them. -/
def voteBlocks : List (Nat × Nat) :=
  ((List.range 11).map (fun n => (0, n))) ++ ((List.range 4).flatMap (fun t => (List.range 7).map (fun i => (t + 1, i + 2))))

theorem mem_voteBlocks {g n : Nat} (h : blockExists g n = true) : (g, n) ∈ voteBlocks := by
  have hc : g = 0 ∧ n ≤ 10 ∨ (1 ≤ g ∧ g ≤ 4) ∧ 2 ≤ n ∧ n ≤ 8 := by simpa [blockExists, and_assoc] using h
  rw [voteBlocks, List.mem_append]
  obtain ⟨rfl, hn⟩ | ⟨⟨hg, hg4⟩, hn, hn8⟩ := hc
  · exact .inl (List.mem_map.mpr ⟨n, List.mem_range.mpr (by omega), rfl⟩)
  · refine .inr (List.mem_flatMap.mpr ⟨g - 1, List.mem_range.mpr (by omega), List.mem_map.mpr ⟨n - 2, List.mem_range.mpr (by omega), ?_⟩⟩)
    rw [Nat.sub_add_cancel hg, Nat.sub_add_cancel hn]

/-- What the scrub does with one block. -/
def voteStep (found : List (BitVec 27)) (s : State) (p : Nat × Nat) : State :=
  s.voted p.1 p.2 ((found.map (fun a => a.toNat)).filter (fun a => a / 2 ^ 16 == regAddr p.1 p.2 0 / 2 ^ 16) ++ s.voteInj p.1 p.2)

theorem execVoteScrub_eq (found : List (BitVec 27)) : execVoteScrub found s = .next (voteBlocks.foldl (voteStep found) s) := rfl

theorem State.voteInj_none (hi : s.errs.inj = none) (g n : Nat) : s.voteInj g n = [] := by
  rw [State.voteInj, hi]

theorem regAddr_block {g n : Nat} : regAddr g n 0 / 2 ^ 16 = g * 2 ^ 8 + n := by
  unfold regAddr
  omega

/-- The scrub finds nothing in a block that holds no found register. -/
theorem voteStep_skips {addr : BitVec 27} {p : Nat × Nat} (hi : s.errs.inj = none) (hp : p ∈ voteBlocks)
    (hne : p ≠ (addr.toNat / 2 ^ 24, addr.toNat / 2 ^ 16 % 2 ^ 8)) : voteStep [addr] s p = s := by
  have hall : ∀ p ∈ voteBlocks, p.2 < 2 ^ 8 := by decide
  have hlt := hall p hp
  have ha : ¬ addr.toNat / 2 ^ 16 = p.1 * 2 ^ 8 + p.2 := fun h => hne (Prod.ext (by simp; omega) (by simp; omega))
  have hf : [addr.toNat].filter (fun a => a / 2 ^ 16 == regAddr p.1 p.2 0 / 2 ^ 16) = [] := by
    rw [regAddr_block]
    simpa using ha
  rw [voteStep, s.voteInj_none hi, List.map_singleton, hf]
  rfl

theorem voteStep_counts {addr : BitVec 27} (hi : s.errs.inj = none) :
    voteStep [addr] s (addr.toNat / 2 ^ 24, addr.toNat / 2 ^ 16 % 2 ^ 8) =
      s.voted (addr.toNat / 2 ^ 24) (addr.toNat / 2 ^ 16 % 2 ^ 8) [addr.toNat] := by
  have ha : addr.toNat / 2 ^ 16 = addr.toNat / 2 ^ 24 * 2 ^ 8 + addr.toNat / 2 ^ 16 % 2 ^ 8 := by omega
  simp only [voteStep, s.voteInj_none hi, regAddr_block, ← ha]
  simp

/-- A fold whose every step leaves the state as it is. -/
theorem foldl_eq_self {α β : Type} {f : α → β → α} {a : α} : ∀ {l : List β}, (∀ b ∈ l, f a b = a) → l.foldl f a = a
  | [], _ => rfl
  | b :: l, h => by
    rw [List.foldl_cons, h b List.mem_cons_self, foldl_eq_self (fun c hc => h c (List.mem_cons_of_mem _ hc))]

theorem voteScrub_nil (hi : s.errs.inj = none) : exec (.voteScrub []) s = .next s := by
  rw [exec_voteScrub, execVoteScrub_eq, foldl_eq_self (fun p _ => ?_)]
  simp [voteStep, s.voteInj_none hi, State.voted]

/-- R507: one corrected field acts on the block that holds it. -/
theorem voteScrub_single {addr : BitVec 27} (hi : s.errs.inj = none)
    (hx : blockExists (addr.toNat / 2 ^ 24) (addr.toNat / 2 ^ 16 % 2 ^ 8) = true) :
    exec (.voteScrub [addr]) s = .next (s.voted (addr.toNat / 2 ^ 24) (addr.toNat / 2 ^ 16 % 2 ^ 8) [addr.toNat]) := by
  obtain ⟨l₁, l₂, hl⟩ := List.append_of_mem (mem_voteBlocks hx)
  have hnd : voteBlocks.Nodup := by decide
  have hmem : ∀ p ∈ l₁ ++ (addr.toNat / 2 ^ 24, addr.toNat / 2 ^ 16 % 2 ^ 8) :: l₂, p ∈ voteBlocks := fun p hp => hl ▸ hp
  rw [hl] at hnd
  obtain ⟨-, hnd₂, hdisj⟩ := List.nodup_append.mp hnd
  obtain ⟨hnot, -⟩ := List.nodup_cons.mp hnd₂
  have h₁ : l₁.foldl (voteStep [addr]) s = s := foldl_eq_self (fun p hp =>
    voteStep_skips s hi (hmem p (List.mem_append_left _ hp)) (hdisj p hp _ List.mem_cons_self))
  rw [exec_voteScrub, execVoteScrub_eq, hl, List.foldl_append, List.foldl_cons, h₁, voteStep_counts s hi]
  congr 1
  exact foldl_eq_self (fun p hp => voteStep_skips _ (State.voted_inj hi)
    (hmem p (List.mem_append_right _ (List.mem_cons_of_mem _ hp))) (fun he => hnot (he ▸ hp)))

end Sys2Proof.Machine

open Sys2Proof Machine Claims

/-- Settles O50, clause by clause: a register access is the case of `State.writeReg` that it meets, HOST_BAR4_BASE and PHO_STEER_CMD are
plain writes without reserved bits, and the scrub visits the block of a found register once and leaves the others. -/
theorem registerWrites : Obligations.RegisterWrites := by
  unfold Obligations.RegisterWrites
  refine ⟨?_, fun s hi => ⟨voteScrub_nil s hi, fun addr hx => ⟨_, voteScrub_single s hi hx, State.voted_block_same, State.voted_errs,
    fun b hb => State.voted_block_other hb⟩⟩⟩
  intro s addr v a g n off new rsv kept hr hx
  refine ⟨fun ha hd hl hm => ?_, bar0RegisterWrite_unaligned s v hr hx, bar0RegisterWrite_icebound s v hr hx, bar0RegisterWrite_read s hr,
    fun hd d hok hv hlo ht => hostBar4BaseHiWrite_lands s hr hd hok hv hlo ht, fun hd ht hv => phoSteerCmdGo_sets s hr hd ht hv,
    fun hd ht hv => phoSteerCmdGo_requests s hr hd ht hv⟩
  have hw := bar0RegisterWrite_word s v hr ha
  have hkept := fun hk => hw.trans (congrArg Host.Outcome.next (s.writeReg_kept v rfl rfl hx hd rfl hl hm hk))
  have hres := fun hk hb => hw.trans (congrArg Host.Outcome.next (s.writeReg_reserved v rfl rfl hx hd rfl hl hm hk hb))
  refine ⟨fun hk hg => ?_, fun hk t hg => ?_, fun hk hb => ?_, fun hk hb => ⟨fun hg => ?_, fun t hg => ?_⟩⟩
  · exact (hkept hk).trans (congrArg Host.Outcome.next (s.putReg_global hg))
  · exact (hkept hk).trans (congrArg Host.Outcome.next (s.putReg_tile hg))
  · rw [hw, s.writeReg_locked v rfl rfl hx hd rfl hl hm hk hb]
  · exact (hres hk hb).trans (congrArg Host.Outcome.next (State.putReg_global _ hg))
  · exact (hres hk hb).trans (congrArg Host.Outcome.next (State.putReg_tile _ hg))
end

section
/-! PROOFS. The HBM controllers: accesses, temperature, refresh, scrub and stack failure (R221 to R235, R352). -/

namespace Sys2Proof.Machine
variable {s : State} {h a : Nat}

theorem State.stackReached_of (hd : s.pkg.dev ≠ .cold) (hf : s.pkg.discovered = true) : s.stackReached = true := by
  simp [State.stackReached, hd, hf]

theorem State.inService_of (hh : h < 24) (hk : (s.hbm.stack h).st = .inService) : s.inService h = true := by
  simp [State.inService, hh, hk]

/-! ### Commands on a pseudo-channel (R223, R234) -/

theorem State.hbmCommand_good : s.hbmCommand h a false =
    s.onStack h (fun k => { k with parity := SMap.set 0 k.parity (pseudoChannel a) 0 }) := rfl

theorem State.hbmCommand_failed : s.hbmCommand h a true = s.onStack h (fun k => { k with
    parity := SMap.set 0 k.parity (pseudoChannel a) (SMap.get 0 k.parity (pseudoChannel a) + 1)
    failDue := if 3 ≤ SMap.get 0 k.parity (pseudoChannel a) ∧ k.failDue = none then some 1 else k.failDue }) := by
  simp [State.hbmCommand, SMap.upd]

/-! ### What a read finds (R221, R228) -/

theorem State.hbmFound_corrected {lanes symbols : Nat} (hp : s.hbm.poisoned h a = false) (h1 : 1 ≤ badSymbols lanes symbols)
    (h3 : badSymbols lanes symbols ≤ 3) : s.hbmFound h a (.word lanes symbols) = s.hbmCorrected h a false := by
  have h0 : badSymbols lanes symbols ≠ 0 := by omega
  simp [State.hbmFound, hp, h0, h3]

theorem State.hbmFound_uncorrectable {lanes symbols : Nat} (hp : s.hbm.poisoned h a = false) (h4 : 4 ≤ badSymbols lanes symbols)
    (h5 : badSymbols lanes symbols ≤ 5) : s.hbmFound h a (.word lanes symbols) = s.hbmUncorrectable h a false := by
  have h0 : badSymbols lanes symbols ≠ 0 := by omega
  have h3 : ¬ badSymbols lanes symbols ≤ 3 := by omega
  simp [State.hbmFound, hp, h0, h3, h5]

/-- R229: a write of a whole word reads nothing, and its data alone says whether the word is poisoned. -/
theorem State.hbmPut_whole {bs : List Byte} {poison : Bool} (hn : bs.length = 64) (ha : a % 64 = 0) :
    s.hbmPut h a bs poison = s.onHbm (fun x => { x with
      mem := Mem.wrBytes x.mem (stackKey h a) bs
      poison := if poison then NSet.add (stackKey h a / 64) x.poison else NSet.del (stackKey h a / 64) x.poison }) := by
  simp [State.hbmPut, hn, ha]

/-! ### Accesses (R20, R222, R223, R235) -/

theorem hbmAccess_failedStack (hh : h < 24) (hr : s.stackReached = true) (hk : (s.hbm.stack h).st = .failed) (op : HbmOp)
    (f : HbmFind) : exec (.hbmAccess h a op f) s =
      .next (s.onHbm (fun x => { x with failedAccesses := satInc x.failedAccesses })) := by
  simp [execHbmAccess, hr, hh, hk]

section Served
variable (hh : h < 24) (hr : s.stackReached = true) (hk : (s.hbm.stack h).st = .inService) (ha : a < stackBytes)
include hh hr hk ha

theorem hbmAccess_parity (op : HbmOp) : exec (.hbmAccess h a op .parity) s = .next (s.hbmCommand h a true) := by
  have hb : ¬ stackBytes ≤ a := by omega
  simp [execHbmAccess, hr, hk, State.inService_of hh hk, hb]

theorem hbmAccess_read {f : HbmFind} (hf : f ≠ .parity) :
    exec (.hbmAccess h a .read f) s = .next ((s.hbmCommand h a false).hbmFound h a f) := by
  have hb : ¬ stackBytes ≤ a := by omega
  simp [execHbmAccess, hr, hk, State.inService_of hh hk, hb, hf]

theorem hbmAccess_writeWhole {f : HbmFind} {bs : List Byte} {poison : Bool} (hf : f ≠ .parity) (hn : bs.length = 64)
    (hw : a % 64 = 0) :
    exec (.hbmAccess h a (.write bs poison) f) s = .next ((s.hbmCommand h a false).hbmPut h a bs poison) := by
  have hb : ¬ stackBytes ≤ a := by omega
  simp [execHbmAccess, hr, hk, State.inService_of hh hk, hb, hf, hn, hw]

end Served

/-! ### Temperature, refresh, scrub and the PHY (R231, R232, R234) -/

/-- R231: what a controller holds after a read of the temperature, or after one without an answer. -/
def HbmStack.readTemp (temp : Option W16) (k : HbmStack) : HbmStack :=
  match temp with
  | some v => { k with temp := v, age := 0, hot := if hotOn < v.toInt then true else if v.toInt < hotOff then false else k.hot }
  | none => { k with age := k.age + 1 }

theorem hbmTempRead_reads (hh : h < 24) (hd : s.pkg.dev ≠ .cold) (hn : (s.hbm.stack h).st ≠ .notFound)
    (hr : (s.hbm.stack h).st ≠ .retired) (hi : s.errs.inj = none) (temp : Option W16) :
    exec (.hbmTempRead h temp) s = .next (s.onStack h (HbmStack.readTemp temp)) := by
  have hb : ¬ 24 ≤ h := by omega
  rw [exec_hbmTempRead, execHbmTempRead, if_neg (by simp [hb, hn, hr, hd])]
  exact if_neg (by simp [State.injects_none, hi])

theorem hbmRefresh_counts {bank : Nat} (hs : s.inService h = true) (hd : s.pkg.dev ≠ .cold) (hb : bank < 64) :
    exec (.hbmRefresh h bank) s = .next (s.onStack h (fun k =>
      { k with refreshes := SMap.set 0 k.refreshes bank (SMap.get 0 k.refreshes bank + 1) })) := by
  simp [execHbmRefresh, hs, hd, hb, SMap.upd]

theorem hbmPhyLossOfLock_loses (hs : s.inService h = true) :
    exec (.hbmPhyLossOfLock h) s = .next (s.onStack h (fun k => { k with phyLost := true })) := by
  simp [execHbmPhyLossOfLock, hs]

theorem hbmScrubRead_next {found : HbmFind} (hs : s.inService h = true) (hp : s.hbm.placed = true)
    (hu : RF.at s.hbm.pause (BitVec.ofNat 2 (h / 6)) = false) (hd : (s.hbm.stack h).scrubDone = false)
    (ha : (s.hbm.stack h).scrubAt + 64 < stackBytes) (hf : found ≠ .parity) :
    exec (.hbmScrubRead h found) s = .next ((((s.hbmCommand h (s.hbm.stack h).scrubAt false).hbmFound h
      (s.hbm.stack h).scrubAt found).onStack h (fun x =>
        { x with scrubAt := (s.hbm.stack h).scrubAt + 64, scrubDone := false })).scrubEnd) := by
  have hb : ¬ stackBytes ≤ (s.hbm.stack h).scrubAt + 64 := by omega
  simp [execHbmScrubRead, hs, hp, hu, hd, hf, ha, hb]

/-! ### Failure and zeroing (R233, R234, R352) -/

theorem State.stackFail_fails {ev : Nat} (hs : s.inService h = true) (hp : s.hbm.placed = true) : s.stackFail h ev =
    ((s.onStack h (fun k => { k with st := .failed, parity := [], ucTimes := [], failDue := none })).dieStatus
      (17 + h) dieFailed).raise' { unit := hbmUnit h, cause := 0x22, cls := .uc, detail := BitVec.ofNat 64 ev } := by
  simp [State.stackFail, hs, hp]

theorem hbmStackFail_due {ev : Nat} (he : (s.hbm.stack h).failDue = some ev) :
    exec (.hbmStackFail h) s = .next (s.stackFail h ev) := by
  simp [execHbmStackFail, HbmStack.failEvent, he]

theorem hbmPhyRelockTimeout_lost (hl : (s.hbm.stack h).phyLost = true) :
    exec (.hbmPhyRelockTimeout h) s = .next (s.stackFail h 2) := by
  simp [execHbmPhyRelockTimeout, hl]

theorem hbmZeroComplete_zeroes (hp : s.hbm.placed = true) (hz : s.hbm.zeroed = false) :
    exec .hbmZeroComplete s = .next (s.onHbm (fun x => { x with mem := [], poison := [], zeroed := true })) := by
  simp [execHbmZeroComplete, hp, hz]

end Sys2Proof.Machine

open Sys2Proof Machine Claims

/-- Settles O31: an access to a stack in service is a command on its pseudo-channel and then what the word read or written shows;
every failure of a stack is one `State.stackFail`. -/
theorem hbmStacks : Obligations.HbmStacks := by
  unfold Obligations.HbmStacks
  intro s h hh hd hf
  have hr := State.stackReached_of hd hf
  refine ⟨fun hk a op f => hbmAccess_failedStack hh hr hk op f,
    fun v hn ht hi => ⟨hbmTempRead_reads hh hd hn ht hi (some v), hbmTempRead_reads hh hd hn ht hi none⟩,
    hbmZeroComplete_zeroes, rfl, fun hk => ?_⟩
  have hs := State.inService_of hh hk
  refine ⟨fun a ha => ⟨fun bs poison hn hw => ?_, fun lanes symbols hp h1 => ⟨fun h3 => ?_, fun h4 h5 => ?_⟩, fun op => ?_⟩,
    fun bank => hbmRefresh_counts hs hd, hbmPhyLossOfLock_loses hs,
    fun found hp hu hd ha hf => hbmScrubRead_next hs hp hu hd ha hf, fun hp => ⟨fun ev he => ?_, ?_, fun hl => ?_⟩⟩
  · rw [hbmAccess_writeWhole hh hr hk ha (by simp) hn hw, State.hbmPut_whole hn hw, State.hbmCommand_good]
  · rw [hbmAccess_read hh hr hk ha (by simp), State.hbmCommand_good, State.hbmFound_corrected hp h1 h3]
  · rw [hbmAccess_read hh hr hk ha (by simp), State.hbmCommand_good, State.hbmFound_uncorrectable hp h4 h5]
  · rw [hbmAccess_parity hh hr hk ha op, State.hbmCommand_failed]
  · rw [hbmStackFail_due he, State.stackFail_fails hs hp]
  · exact congrArg Host.Outcome.next (State.stackFail_fails hs hp)
  · rw [hbmPhyRelockTimeout_lost hl, State.stackFail_fails hs hp]

end

section
/-! SUPPORT. What the write-backs of a slice leave alone besides `State.still`: the enable of the memory engines (R204, R573). -/

namespace Sys2Proof.Machine
variable (s : State)

theorem State.mem_of_quiet {s t : State} (h : t.quiet = s.quiet) : t.mem = s.mem :=
  (congrArg State.mem h :)

@[simp] theorem State.log_mem (core sev : Nat) (p : List Byte) (x : Bool) : (s.log core sev p x).mem = s.mem := by
  simp only [State.log]
  split
  · rfl
  · split <;> rfl

@[simp] theorem State.asInjected_mem (r : Raise) : (s.asInjected r).2.mem = s.mem := by
  unfold State.asInjected
  split <;> rfl

@[simp] theorem State.raise'_mem (r : Raise) : (s.raise' r).mem = s.mem := by
  obtain ⟨e, -, h | ⟨sev, p, h⟩⟩ := s.raise_cases r <;> simp [h]

/-! ### Requests -/

@[simp] theorem State.takeSeq_memEn (r : Req) : (s.takeSeq r).2.mem.en = s.mem.en := by
  simp only [State.takeSeq]
  split <;> rfl

@[simp] theorem State.sendReq_memEn (r : Req) : (s.sendReq r).mem.en = s.mem.en := by
  simp only [State.sendReq, State.mem_of_quiet (State.inject_quiet _ _ _)]
  rfl

@[simp] theorem State.firstInject_memEn (r : Req) : (s.firstInject r).mem.en = s.mem.en := by
  simp only [State.firstInject, State.sendReq_memEn]
  exact s.takeSeq_memEn r

theorem releaseGo_memEn : ∀ (ids : List Nat) (s : State), (releaseGo ids s).mem.en = s.mem.en
  | [], _ => rfl
  | id :: ids, s => by
    unfold releaseGo
    split
    · exact releaseGo_memEn ids s
    · split
      · exact releaseGo_memEn ids s
      · rw [releaseGo_memEn ids, State.firstInject_memEn]

@[simp] theorem State.issueRaw_memEn (p : Packet) (o : ReqOwner) (g : Option W32) : (s.issueRaw p o g).1.mem.en = s.mem.en := by
  unfold State.issueRaw
  dsimp only
  split
  · rfl
  · exact releaseGo_memEn _ _

@[simp] theorem State.fflCheck_mem (t i : Nat) : (s.fflCheck t i).mem = s.mem := by
  unfold State.fflCheck
  dsimp only
  split
  · split <;> rfl
  · rfl

theorem State.tell_writeBack_mem (t : Nat) (ffl : Option (Nat × Nat)) (bad : List Nat) (op ga n atop : Nat) (a : Answer) :
    (s.tell (.writeBack t ffl bad) op ga n atop a).mem = s.mem := by
  cases ffl with
  | none => rfl
  | some x => exact s.fflCheck_mem x.1 x.2

theorem State.issue_writeBack_memEn (p : Packet) (t : Nat) (ffl : Option (Nat × Nat)) (bad : List Nat) (g : Option W32) :
    (s.issue p (.writeBack t ffl bad) g).mem.en = s.mem.en := by
  have h := s.issueRaw_memEn p (.writeBack t ffl bad) g
  unfold State.issue
  generalize s.issueRaw p (.writeBack t ffl bad) g = x at h
  obtain ⟨u, _ | st⟩ := x
  · exact h
  · rw [← h]
    exact congrArg MemSem.en (State.tell_writeBack_mem _ _ _ _ _ _ _ _ _)

/-! ### Write-backs -/

@[simp] theorem State.eccFound_mem (t l : Nat) (e : FirnEcc) : (s.eccFound t l e).2.mem = s.mem := by
  unfold State.eccFound
  split
  · rfl
  · rfl
  · split <;> rfl

@[simp] theorem State.lineFix_mem (t l : Nat) (i : Bool) : (s.lineFix t l i).mem = s.mem := by
  simp [State.lineFix]

@[simp] theorem State.lineSpoil_mem (t k : Nat) (x : FLine) (i : Nat) (inj : Bool) : (s.lineSpoil t k x i inj).1.mem = s.mem := by
  simp [State.lineSpoil, State.setLine]

@[simp] theorem State.lineEcc_mem (t k : Nat) (x : FLine) (off n : Nat) (e : FirnEcc) :
    (s.lineEcc t k x off n e).1.mem = s.mem := by
  have h := s.eccFound_mem t x.line e
  unfold State.lineEcc
  dsimp only
  generalize s.eccFound t x.line e = y at h
  obtain ⟨e, u⟩ := y
  rw [← h]
  cases e with
  | single => simp
  | double i =>
    dsimp only
    split <;> simp [State.setLine]
  | _ =>
    dsimp only
    split
    · simp [State.injUsed]
    · split <;> simp [State.injUsed]

@[simp] theorem State.issueWb_memEn (w : WbWait) : (s.issueWb w).mem.en = s.mem.en := by
  unfold State.issueWb
  split
  · rfl
  · exact s.issue_writeBack_memEn _ _ _ _ _

@[simp] theorem State.writeBack_memEn (k : Nat) (ffl : Option (Nat × Nat)) (e : FirnEcc) :
    (s.writeBack k ffl e).mem.en = s.mem.en := by
  unfold State.writeBack
  split
  · rfl
  next x _ =>
    split
    · rfl
    · have h := s.lineEcc_mem (k / 16 / 49152 / 8) k x 0 256 e
      dsimp only
      generalize s.lineEcc (k / 16 / 49152 / 8) k x 0 256 e = y at h
      obtain ⟨u, _ | y⟩ := y
      · exact congrArg MemSem.en h
      · dsimp only
        refine (foldl_keeps (fun s : State => s.mem.en) ?_ _ _).trans (congrArg MemSem.en h)
        exact fun s _ => s.issueWb_memEn _

@[simp] theorem State.flushSlices_memEn (f : Nat → Bool) : (s.flushSlices f).mem.en = s.mem.en := by
  refine foldl_keeps (fun s : State => s.mem.en) ?_ _ s
  rintro s ⟨k, x⟩
  dsimp only
  split <;> simp

end Sys2Proof.Machine
end

section
/-! PROOFS. THAW, calibration, margin plans and ageing (R25 to R27, R573 to R593). -/

namespace Sys2Proof.Machine
variable {s : State}

/-! ### Discovery (R25 to R27) -/

@[simp] theorem State.startN4_pkg (s : State) : s.startN4.pkg = s.pkg := rfl

@[simp] theorem State.firstMap_pkg (s : State) : s.firstMap.pkg = s.pkg := by
  refine foldl_keeps State.pkg ?_ _ _
  exact fun _ _ => rfl

@[simp] theorem State.bootN4_pkg (s : State) : s.bootN4.pkg = s.pkg := by
  simp only [State.bootN4, State.onCal_pkg, State.onLoad_pkg, State.startN4_pkg]
  refine foldl_keeps State.pkg (fun s d => ?_) _ s
  split <;> rfl

theorem State.pkg_of_still {s t : State} (h : t.still = s.still) : t.pkg = s.pkg :=
  (congrArg State.pkg h :)

@[simp] theorem State.discoveryFe_pkg (s : State) (die : Nat) (cause : Byte) : (s.discoveryFe die cause).pkg = s.pkg :=
  State.pkg_of_still (s.raise'_still _)

/-- R20: Floe 0, as every die below the stacks, is reached wherever it answers. -/
theorem reachedDies_any_floe0 {found : List (Nat × BitVec 64 × Byte)} (h : found.any (fun d => d.1 == 0) = true) :
    (reachedDies found).any (fun d => d.1 == 0) = true := by
  obtain ⟨d, hd, h0⟩ := List.any_eq_true.mp h
  have hz : d.1 = 0 := by simpa using h0
  exact List.any_eq_true.mpr ⟨d, List.mem_filter.mpr ⟨hd, by simp [hz]⟩, h0⟩

theorem discovery_discovers (hd : s.discovers = true) {found : List (Nat × BitVec 64 × Byte)}
    (hf : found.any (fun d => d.1 == 0) = true) : ∃ u, exec (.discovery found) s = .next u ∧ u.pkg.discovered = true := by
  simp only [exec_discovery, execDiscovery, hd, reachedDies_any_floe0 hf]
  refine ⟨_, rfl, ?_⟩
  split
  · split <;> simp
  · simp

theorem discoveryTimeout_raises (hd : s.discovers = true) :
    exec .discoveryTimeout s = .next ({ s with pkg := { s.pkg with cause := 1, discovered := true } }.startN4.raise'
      { unit := unitCode 0 0 0, cause := 0x80, cls := .fe, detail := 1 }) := by
  simp only [exec_discoveryTimeout, execDiscoveryTimeout, hd]
  rfl

/-! ### Runs and restored values (R577, R579, R586) -/

theorem calRunComplete_runs {item elem : Nat} {run : CalRun} {order : List Nat} (hc : s.calibrates = true) (hi : item < 9)
    (hl : s.elemLive item elem = true) (he : (s.calElem (elemKey item elem)).ended = false)
    (h8 : item = 8 → s.runSpoiled (BitVec.ofNat 2 (elem / 16)) = false) :
    exec (.calRunComplete item elem run order false false) s = .next ((s.startItem item).runElem item elem run order) := by
  have h9 : ¬ 9 ≤ item := by omega
  have hs : item = 8 → (s.startItem item).runSpoiled (BitVec.ofNat 2 (elem / 16)) = false := h8
  rw [exec_calRunComplete, execCalRunComplete, if_neg (by simp [hc, h9, hl, he])]
  exact if_neg (by simpa using hs)

theorem restoreCheckRun_checks {item elem : Nat} {run : CalRun} {b : List Byte} (hc : s.calibrates = true) (hi : item < 9)
    (hl : s.elemLive item elem = true) (hb : s.cal.restore = some b) (hr : s.cal.restored = true)
    (he : (s.calElem (elemKey item elem)).ended = false) (hn : (s.calElem (elemKey item elem)).restored = false)
    (hz : (s.calElem (elemKey item elem)).runs = []) : ∃ u, exec (.restoreCheckRun item elem run false) s = .next u ∧
      (∀ c trims, Config.calValue item (calSectBytes b item) elem = c :: trims → agree item ⟨c.toNat, trims⟩ run = false →
        u.cal.result = 3) := by
  have h9 : ¬ 9 ≤ item := by omega
  simp only [exec_restoreCheckRun, execRestoreCheckRun, hb]
  rw [if_neg (by simp [hc, hr, h9, hl, he, hn, hz])]
  cases hv : Config.calValue item (calSectBytes b item) elem with
  | nil => exact ⟨s, rfl, by simp⟩
  | cons c trims =>
    dsimp only
    split
    next ha =>
      refine ⟨_, rfl, fun c' trims' hv' hn' => ?_⟩
      obtain ⟨rfl, rfl⟩ := List.cons.inj hv'
      exact absurd ha (by simp [hn'])
    next => exact ⟨_, rfl, fun _ _ _ _ => rfl⟩

/-! ### Margin plans (R590 to R592) -/

theorem marginPlan_publishes (hc : s.calibrates = true) (hi : s.itemsEnded = true) (hs : s.cal.stage < 14) (d : RF 2 Nat)
    (sweep : RF 2 Sweep) : ∃ u, exec (.marginPlan d sweep [] []) s = .next u ∧
      u.cal.stage = 14 ∧ u.cal.planGen = s.cal.planGen + 1 ∧ u.cal.pendingLimit = none := by
  refine ⟨s.thawPlan d sweep, by simp [execMarginPlan, hc, hi, hs], ?_, rfl, rfl⟩
  exact Nat.max_eq_right (Nat.le_of_lt hs)

/-! ### The end of THAW (R573, R577) -/

/-- What THAW_END sets that nothing after it changes: the device state, THAW_STAGE, the enable of the memory engines and the job step. -/
def State.thawMarks (s : State) : DevSt × Nat × Bool × Nat := (s.pkg.dev, s.cal.stage, s.mem.en, s.clk.jobStep)

/-- What `State.still` keeps of those marks; the enable of the memory engines stands beside it. -/
theorem State.thawMarks_of_still {s t : State} (h : t.still = s.still) (he : t.mem.en = s.mem.en) : t.thawMarks = s.thawMarks := by
  have hd := congrArg (fun u : State => (u.pkg.dev, u.cal.stage, u.clk.jobStep)) h
  simp only [State.still, State.quiet, Prod.mk.injEq] at hd
  obtain ⟨hd, hc, hj⟩ := hd
  simp [State.thawMarks, hd, hc, hj, he]

@[simp] theorem State.toScratch_thawMarks (s : State) (k : Nat) : (s.toScratch k).thawMarks = s.thawMarks := by
  unfold State.toScratch
  split
  · rfl
  · exact State.thawMarks_of_still (s.flushSlices_still _) (s.flushSlices_memEn _)

@[simp] theorem State.defaultModes_thawMarks (s : State) : s.defaultModes.thawMarks = s.thawMarks := by
  refine foldl_keeps State.thawMarks (fun s k => ?_) _ s
  split <;> simp

@[simp] theorem State.setDev_thawMarks (s : State) (d : DevSt) :
    (s.setDev d).thawMarks = (d, s.cal.stage, s.mem.en, s.clk.jobStep) := by
  unfold State.setDev State.mbxChanged
  split
  next h => simp [State.thawMarks, h]
  next => split <;> rfl

@[simp] theorem State.lookDom_thawMarks (s : State) (k : Nat) (v : List Byte) (fresh : Bool) :
    (s.lookDom k v fresh).thawMarks = s.thawMarks := by
  unfold State.lookDom
  split
  · split <;> rfl
  · rfl

@[simp] theorem State.applyEntry_thawMarks (s : State) (k : Nat) (v : List Byte) : (s.applyEntry k v).thawMarks = s.thawMarks := by
  simp only [State.applyEntry, apply_ite State.thawMarks, State.lookDom_thawMarks]
  simp [State.thawMarks]

@[simp] theorem State.land_thawMarks (s : State) (k : Nat) : (s.land k).thawMarks = s.thawMarks := by
  unfold State.land
  split
  · rfl
  · dsimp only
    split
    · rfl
    · exact State.applyEntry_thawMarks _ _ _

@[simp] theorem State.landOrder_thawMarks (s : State) : s.landOrder.thawMarks = s.thawMarks := by
  unfold State.landOrder
  split
  · exact s.land_thawMarks _
  · rfl

@[simp] theorem State.sendClaim_thawMarks (s : State) (gen : W32) : (s.sendClaim gen).thawMarks = s.thawMarks := rfl

@[simp] theorem State.claimRole_thawMarks (s : State) : s.claimRole.thawMarks = s.thawMarks := by
  unfold State.claimRole
  split
  · split
    · split <;> rfl
    · simp
  · rfl

@[simp] theorem State.enables_memEn (s : State) : s.enables.mem.en = true := rfl
@[simp] theorem State.enables_jobStep (s : State) : s.enables.clk.jobStep = 24 := rfl

/-- R573 step 15: what the end of THAW leaves, whatever the dictionary and the message that N0 last took have put in the state. -/
theorem State.enables_thawMarks (s : State) (f : Mbx → Mbx) :
    (((s.enables.defaultModes.onMbx f).onCal (fun c => { c with stage := 15 })).setDev .flow).claimRole.thawMarks =
      (.flow, 15, true, 24) := by
  have h : s.enables.defaultModes.thawMarks = s.enables.thawMarks := State.defaultModes_thawMarks _
  simp only [State.thawMarks, Prod.mk.injEq] at h
  obtain ⟨-, -, he, hj⟩ := h
  rw [State.claimRole_thawMarks, State.setDev_thawMarks]
  simp [he, hj]

theorem thawEnd_flows (hc : s.calibrates = true) (hi : s.itemsEnded = true) (hs : s.cal.stage = 14) (hz : s.hbm.zeroed = true)
    (he : s.errs.entryDue = false) : ∃ u, exec .thawEnd s = .next u ∧ u.pkg.dev = .flow ∧ u.cal.stage = 15 ∧ u.mem.en = true ∧
      u.clk.jobStep = 24 := by
  simp only [exec_thawEnd, execThawEnd, hc, hi, hs, hz, he]
  refine ⟨_, rfl, ?_⟩
  have h := State.enables_thawMarks
  simp only [State.thawMarks, Prod.mk.injEq] at h
  exact h _ _

/-! ### Ageing (R589, R593) -/

theorem operatingHour_ages (hd : s.pkg.dev = .flow ∨ s.pkg.dev = .drift) (a b c d : RF 2 Nat) :
    ∃ u, exec (.operatingHour a b c d) s = .next u ∧ u.cal.ageD = a ∧ u.cal.ageSlack = b ∧ u.cal.ageSlope = c ∧
      u.cal.ageEye = d := by
  have hl : (s.pkg.dev = .flow || s.pkg.dev = .drift) = true := by simpa using hd
  simp only [exec_operatingHour, execOperatingHour, hl]
  refine ⟨_, rfl, ?_⟩
  rw [foldl_keeps State.cal]
  · exact ⟨rfl, rfl, rfl, rfl⟩
  · intro s t
    refine foldl_keeps State.cal (fun s n => ?_) _ s
    split <;> rfl

theorem emitterBiasStep_keepsPorts : ∃ u, exec .emitterBiasStep s = .next u ∧ u.floe.ports = s.floe.ports ∧
    u.floe.chans = s.floe.chans := by
  refine ⟨_, rfl, ?_⟩
  rw [← Prod.mk.injEq]
  refine foldl_keeps (fun s : State => (s.floe.ports, s.floe.chans)) ?_ _ s
  exact fun _ _ => rfl

end Sys2Proof.Machine

open Sys2Proof Machine Claims

/-- Settles O44, one lemma for each step of THAW and of ageing. -/
theorem thawAndCalibration : Obligations.ThawAndCalibration := by
  unfold Obligations.ThawAndCalibration
  intro s
  exact ⟨fun hd => ⟨fun found => discovery_discovers hd, discoveryTimeout_raises hd⟩,
    fun hh => by simp [execThawProceedTimeout, hh],
    fun hc => ⟨fun item elem run order => calRunComplete_runs hc, fun item elem run b => restoreCheckRun_checks hc,
      fun d sweep hi hs => marginPlan_publishes hc hi hs d sweep, thawEnd_flows hc⟩,
    operatingHour_ages, emitterBiasStep_keepsPorts⟩

end

section
/-! PROOFS. Programs and the scheduler: N0's answers to SUBMIT and ABORT, starts, resumes and barriers (R163 to R180, R408). -/

namespace Sys2Proof.Machine
open Claims
variable {s : State} {tag : W32} {p : Prog}

/-! ### Messages that N0 has taken (R163 to R168) -/

/-- N0 acts on the message that it has taken, in 256 bytes. -/
theorem State.onTaken_acts {type : Nat} {m : List Byte} {rest : List (List Byte)} (h : Taken s type m rest)
    (f : List Byte → State → State) : s.onTaken type f = .next (f (padTo 256 m) s.takeUp) := by
  obtain ⟨hm, hu, ht⟩ := h
  simp [State.onTaken, hm, hu, ht]

section
variable {m : List Byte} {rest : List (List Byte)}

theorem submit_accepts (h : Taken s 0x0101 m rest) {i : ImageInfo} {v : State}
    (hj : s.takeUp.judge (padTo 256 m) = (.accept i, v)) :
    exec .submit s = .next ((v.onSched (fun x => { x with progs := x.progs ++ [v.newProg (padTo 256 m) i] })).d2h 0x0102
      (progReply (BitVec.ofNat 32 (fld (padTo 256 m) 16 4)) 0 0xFF 0 0 0 0 0 0)) := by
  rw [exec_submit, execSubmit, State.onTaken_acts h, hj]

theorem submit_refuses (h : Taken s 0x0101 m rest) {st d : Nat} {v : State}
    (hj : s.takeUp.judge (padTo 256 m) = (.refuse st d, v)) :
    exec .submit s = .next (v.d2h 0x0102 (progReply (BitVec.ofNat 32 (fld (padTo 256 m) 16 4)) st 0xFF 0 d 0 0 0 0)) := by
  rw [exec_submit, execSubmit, State.onTaken_acts h, hj]

/-- R168: ABORT_REPLY. -/
def State.abortReply (s : State) (tag : W32) (st slot : Nat) : State := s.d2h 0x0105 (progReply tag st slot 0 0 0 0 0 0)

/-- R168: what N0 does with an ABORT of a tag. -/
def State.abortAsked (s : State) (tag : W32) : State :=
  match s.prog? tag with
  | none => s.abortReply tag 0x0B 0xFF
  | some p =>
    if p.st = .queued then (s.abortReply tag 0 0xFF).completeProg { p with endTime := s.ftime } stAbortedHost 0 0
    else if p.st = .running && s.allHalted p then s.abortReply tag 0x0B 0xFF
    else (s.abortReply tag 0 (slotByte p.slot)).abortProg tag stAbortedHost 0

theorem abort_asks (h : Taken s 0x0104 m rest) :
    exec .abort s = .next (s.takeUp.abortAsked (BitVec.ofNat 32 (fld (padTo 256 m) 16 4))) := by
  rw [exec_abort, execAbort, State.onTaken_acts h]
  rfl

end

theorem State.abortAsked_unknown (hp : s.prog? tag = none) : s.abortAsked tag = s.abortReply tag 0x0B 0xFF := by
  simp [State.abortAsked, hp]

theorem State.abortAsked_queued (hp : s.prog? tag = some p) (hq : p.st = .queued) :
    s.abortAsked tag = (s.abortReply tag 0 0xFF).completeProg { p with endTime := s.ftime } stAbortedHost 0 0 := by
  simp [State.abortAsked, hp, hq]

theorem State.abortAsked_started (hp : s.prog? tag = some p) (hq : p.st ≠ .queued)
    (hr : p.st = .running → s.allHalted p = false) :
    s.abortAsked tag = (s.abortReply tag 0 (slotByte p.slot)).abortProg tag stAbortedHost 0 := by
  have hn : (p.st = .running && s.allHalted p) = false := by simpa using hr
  simp [State.abortAsked, hp, hq, hn]

theorem State.abortAsked_halted (hp : s.prog? tag = some p) (hr : p.st = .running) (hh : s.allHalted p = true) :
    s.abortAsked tag = s.abortReply tag 0x0B 0xFF := by
  simp [State.abortAsked, hp, hr, hh]

/-! ### Starts (R174, R178) -/

/-- R178: a program whose code and data are loaded begins on all its tiles in one cycle. -/
def State.progStarted (v : State) (p : Prog) : State :=
  (((v.relocate p).onProg p.tag (fun q => { q with st := .running, startTime := v.ftime })).phaseBegins p.tag).go p.tiles

theorem State.startProg_starts {v : State} (hr : s.retiredOf p = none) (hl : loadAll p true p.img.place s = (none, v)) :
    s.startProg p = v.progStarted p := by
  simp only [State.startProg, hr, hl]
  rfl

theorem State.startProg_loadFailed {v : State} {k : Nat} (hr : s.retiredOf p = none)
    (hl : loadAll p true p.img.place s = (some k, v)) : s.startProg p = v.abortProg p.tag stLoadFailed k := by
  simp only [State.startProg, hr, hl]

section
variable (hp : s.prog? tag = some p)
include hp

theorem programStart_starts (hs : p.st = .loading) (hr : p.resuming = false) (hl : s.loadReady p = true)
    (hf : p.startFtime = 0) : exec (.programStart tag) s = .next (s.startProg p) := by
  simp [execProgramStart, hp, hs, hr, hl, hf]

theorem startFtimeReached_starts (hs : p.st = .loading) (hr : p.resuming = false) (hl : s.loadReady p = true)
    (hf : p.startFtime ≠ 0) : exec (.startFtimeReached tag) s = .next (s.startProg p) := by
  simp only [exec_startFtimeReached, execStartFtimeReached, hp, hf, hs, hr, hl]
  rfl

theorem startFtimeReached_missed (hs : p.st = .queued) (hf : p.startFtime ≠ 0)
    (hb : s.sched.progs.any (fun q => s.blocks q p && !s.preemptible q) = true) :
    exec (.startFtimeReached tag) s = .next (s.completeProg { p with endTime := s.ftime } stStartMissed 0 0) := by
  simp only [exec_startFtimeReached, execStartFtimeReached, hp, hf, hs, hb]
  rfl

/-- R174: the reservation is made whatever SCHED_CTRL.EN is; only with EN, and in FLOW, does it preempt. -/
theorem startReserve_reserves (hs : p.st = .queued) (hf : p.startFtime ≠ 0) (hu : s.schedUp = true) :
    exec (.startReserve tag) s =
      .next (let u := s.onProg tag (fun p => { p with reserved := true })
        if s.sched.en && s.pkg.dev = .flow then
          u.sched.progs.foldl (fun v q => if v.blocks q p && v.preemptible q then v.askPreempt q else v) u
        else u) := by
  have hw : (p.st = .queued && p.startFtime != 0 && s.schedUp) = true := by
    simpa [hs, hu] using hf
  simp only [exec_startReserve, execStartReserve, hp, hw, if_true]
  exact (apply_ite Host.Outcome.next _ _ _).symm

/-! ### Resumes and barriers (R178 to R180, R408) -/

theorem programResume_resumes {v w : State} (hs : p.st = .loading) (hr : p.resuming = true) (hl : s.loadReady p = true)
    (ht : s.retiredOf p = none) (hv : loadAll p false p.img.place s = (none, v)) (hw : v.restoreContext p = (w, false))
    (hi : v.contextInj p = none) :
    let x := (((w.onTiles p.haltedTiles (fun t => { t with st := .halted })).onProg tag (fun q =>
      { q with st := .running, resuming := false, savedScratch := [], haltedTiles := [] })).phaseBegins tag).go
        (p.tiles.filter (fun n => !p.haltedTiles.contains n)) (!p.atBarrierSaved)
    exec (.programResume tag) s = .next (if p.atBarrierSaved then x.phaseEvent p else x) := by
  simp only [exec_programResume, execProgramResume, hp, hs, hr, hl, ht, hv, hw, hi]
  rfl

theorem phaseBarrierRelease_passes (hs : p.st = .atBarrier) (hg : p.govHold = false) (hq : p.preempting = false)
    (hd : p.driftHold = false) (hh : s.driftHolds p = false) :
    exec (.phaseBarrierRelease tag) s = .next (s.passBarrier p) := by
  simp [execPhaseBarrierRelease, hp, hs, hg, hq, hd, hh]

theorem phaseBarrierRelease_held (hs : p.st = .atBarrier) (hg : p.govHold = false) (hq : p.preempting = false)
    (hh : s.driftHolds p = true) :
    exec (.phaseBarrierRelease tag) s = .next (s.onProg tag (fun p => { p with driftHold := true })) := by
  simp [execPhaseBarrierRelease, hp, hs, hg, hq, hh]

theorem governorBarrierTimeout_frees (hs : p.st = .atBarrier) :
    exec (.governorBarrierTimeout tag) s = .next (s.onProg tag (fun p => { p with govHold := false })) := by
  simp [execGovernorBarrierTimeout, hp, hs]

end

end Sys2Proof.Machine

open Sys2Proof Machine Claims

/-- Settles O15: a SUBMIT by the verdict on it, an ABORT by the state of the program that it names. -/
theorem submitAndAbort : Obligations.SubmitAndAbort := by
  unfold Obligations.SubmitAndAbort
  intro s m rest
  refine ⟨fun h => ⟨fun i v => submit_accepts h, fun st d v => submit_refuses h⟩, fun h => ?_⟩
  rw [abort_asks h]
  refine ⟨fun hp => ?_, fun p hp hq => ?_, fun p hp hq hr => ?_, fun p hp hr hh => ?_, fun p hp hr hh => ?_⟩
  · exact congrArg _ (State.abortAsked_unknown hp)
  · exact congrArg _ (State.abortAsked_queued hp hq)
  · exact congrArg _ (State.abortAsked_started hp hq (fun h => absurd h hr))
  · exact congrArg _ (State.abortAsked_started hp (by simp [hr]) (fun _ => hh))
  · exact congrArg _ (State.abortAsked_halted hp hr hh)

/-- Settles O16: both start commands come to the same start of a loaded program. -/
theorem programStart : Obligations.ProgramStart := by
  unfold Obligations.ProgramStart
  intro s tag p hp
  refine ⟨fun hs hr hl ht => ⟨fun v hv => ⟨fun hf => ?_, fun hf => ?_⟩, fun k v hv hf => ?_⟩,
    fun hs hf => ⟨fun hu he => ?_, fun hu he hd => ?_, startFtimeReached_missed hp hs hf⟩⟩
  · exact (programStart_starts hp hs hr hl hf).trans (congrArg _ (State.startProg_starts ht hv))
  · exact (startFtimeReached_starts hp hs hr hl hf).trans (congrArg _ (State.startProg_starts ht hv))
  · exact (programStart_starts hp hs hr hl hf).trans (congrArg _ (State.startProg_loadFailed ht hv))
  · rw [startReserve_reserves hp hs hf hu]
    simp [he]
  · rw [startReserve_reserves hp hs hf hu]
    simp [he, hd]

/-- Settles O18, one lemma for the resume and one for each end of a barrier's wait. -/
theorem resumeAndBarriers : Obligations.ResumeAndBarriers := by
  unfold Obligations.ResumeAndBarriers
  intro s tag p hp
  exact ⟨fun hs hr hl ht v w => programResume_resumes hp hs hr hl ht,
    fun hs hg hq => ⟨phaseBarrierRelease_passes hp hs hg hq, phaseBarrierRelease_held hp hs hg hq⟩,
    governorBarrierTimeout_frees hp⟩

end

section
/-! PROOFS. Attachment, DRIFT, the scheduler's cycle and the governor's reports (R174, R407, R408, R422, R450 to R452). -/

namespace Sys2Proof.Machine
open Claims
variable {s : State} {tag : W32} {p : Prog}

/-! ### What N0's writing of messages keeps (R443, R448) -/

/-- The host-to-device side of the mailbox, and the messages created and not consumed, in their order. -/
def Mbx.view (m : Mbx) : Bool × W32 × W32 × W32 × List (List Byte) × List D2hMsg :=
  (m.attached, m.h2dHead, m.h2dTail, m.d2hTail, m.taken, m.sent ++ m.out)

@[simp] theorem State.msgIrqDue_view : s.msgIrqDue.firm.mbx.view = s.firm.mbx.view := by
  unfold State.msgIrqDue
  dsimp only
  split <;> rfl

@[simp] theorem State.msgIrqDue_pkg : s.msgIrqDue.pkg = s.pkg := by
  unfold State.msgIrqDue
  dsimp only
  split <;> rfl

@[simp] theorem State.d2hWrite_pkg (x : D2hMsg) : (s.d2hWrite x).pkg = s.pkg := by
  simp [State.d2hWrite]

/-- The oldest message moves from those created to those written. -/
theorem State.d2hWrite_view {x : D2hMsg} (h : s.firm.mbx.out.head? = some x) :
    (s.d2hWrite x).firm.mbx.view = s.firm.mbx.view := by
  obtain ⟨xs, hx⟩ := List.head?_eq_some_iff.mp h
  rw [State.d2hWrite, State.msgIrqDue_view]
  simp [Mbx.view, hx]

/-- While a driver is attached, messages are written in the order in which N0 created them. -/
theorem d2hPump_view : ∀ (n : Nat) (s : State), s.firm.mbx.attached = true →
    (d2hPump n s).firm.mbx.view = s.firm.mbx.view
  | 0, _, _ => rfl
  | n + 1, s, ha => by
    unfold d2hPump
    split
    · rfl
    next x hx =>
      split
      · have hw : (s.d2hWrite x).firm.mbx.view = s.firm.mbx.view :=
          State.d2hWrite_view (by simpa [Mbx.nextOut, ha] using hx)
        have hb : (s.d2hWrite x).firm.mbx.attached = true := (congrArg Prod.fst hw).trans ha
        rw [d2hPump_view n _ hb, hw]
      · rfl

theorem d2hPump_pkg : ∀ (n : Nat) (s : State), (d2hPump n s).pkg = s.pkg
  | 0, _ => rfl
  | n + 1, s => by
    unfold d2hPump
    split
    · rfl
    · split
      · rw [d2hPump_pkg n, State.d2hWrite_pkg]
      · rfl

theorem State.pump_view (ha : s.firm.mbx.attached = true) : s.pump.firm.mbx.view = s.firm.mbx.view := by
  unfold State.pump
  split
  · exact d2hPump_view 64 s ha
  · rfl

@[simp] theorem State.pump_pkg : s.pump.pkg = s.pkg := by
  unfold State.pump
  split
  · exact d2hPump_pkg 64 s
  · rfl

@[simp] theorem State.mbxChanged_pkg : s.mbxChanged.pkg = s.pkg := by
  unfold State.mbxChanged
  split <;> rfl

@[simp] theorem State.setDev_firm (d : DevSt) : (s.setDev d).firm = s.firm := by
  unfold State.setDev
  split
  · rfl
  · exact State.mbxChanged_firm _

/-! ### Attachment and DRIFT (R450 to R452) -/

/-- R452: the messages that N0 creates at an attachment. -/
def State.attachOut (s : State) (driver : W32) : List D2hMsg :=
  s.attachReply driver s.firm.mbx.completes.length :: invParts (s.inventory s.firm.mbx.completes) ++ s.firm.mbx.completes

/-- R452: the mailbox as an attachment leaves it, before N0 writes its messages. -/
def State.attached (s : State) (driver : W32) : State :=
  s.onMbx (fun m => { m with
    h2dHead := 0, h2dTail := 0, d2hHead := 0, d2hTail := 0, taken := [], readFt := [], sent := [], out := s.attachOut driver
    attached := true, driftExpired := false, releaseDue := true })

/-- R448, R452: the device state after an attachment, and the host's interrupt for a change of MBX_STATE. -/
def State.attachEnds (s : State) (was : Bool) : State :=
  if s.pkg.dev = .drift then s.setDev .flow else if was then s else s.mbxChanged

@[simp] theorem State.attachEnds_firm (was : Bool) : (s.attachEnds was).firm = s.firm := by
  unfold State.attachEnds
  split
  · exact State.setDev_firm .flow
  · split
    · rfl
    · exact State.mbxChanged_firm _

@[simp] theorem State.attachEnds_dev (was : Bool) :
    (s.attachEnds was).pkg.dev = if s.pkg.dev = .drift then .flow else s.pkg.dev := by
  unfold State.attachEnds
  split
  · exact State.setDev_dev _ .flow
  · split
    · rfl
    · rw [State.mbxChanged_pkg]

theorem attach_attaches {b : List Byte} {rest : List (List Byte)} (h : Taken s 0x0011 b rest)
    (hd : s.pkg.dev = .thaw ∨ s.pkg.dev = .flow ∨ s.pkg.dev = .drift) (he : s.errs.entryDue = false) :
    exec .attach s = .next
      ((s.takeUp.attached (BitVec.ofNat 32 (fld (padTo 256 b) 16 4))).pump.attachEnds s.firm.mbx.attached) := by
  have hl : ((s.takeUp.pkg.dev = .thaw || s.takeUp.pkg.dev = .flow || s.takeUp.pkg.dev = .drift) &&
      !s.takeUp.errs.entryDue) = true := by
    have hd' : s.takeUp.pkg.dev = .thaw ∨ s.takeUp.pkg.dev = .flow ∨ s.takeUp.pkg.dev = .drift := hd
    have he' : s.takeUp.errs.entryDue = false := he
    simpa [he', or_assoc] using hd'
  rw [exec_attach, execAttach, State.onTaken_acts h, if_pos hl]
  rfl

theorem attach_empties {b : List Byte} {rest : List (List Byte)} (h : Taken s 0x0011 b rest)
    (hd : s.pkg.dev = .thaw ∨ s.pkg.dev = .flow ∨ s.pkg.dev = .drift) (he : s.errs.entryDue = false) :
    ∃ t, exec .attach s = .next t ∧
      t.firm.mbx.attached = true ∧ t.firm.mbx.h2dHead = 0 ∧ t.firm.mbx.h2dTail = 0 ∧ t.firm.mbx.d2hTail = 0 ∧
      t.firm.mbx.taken = [] ∧ t.pkg.dev = (if s.pkg.dev = .drift then .flow else s.pkg.dev) ∧
      t.firm.mbx.sent ++ t.firm.mbx.out = s.attachOut (BitVec.ofNat 32 (fld (padTo 256 b) 16 4)) := by
  refine ⟨_, attach_attaches h hd he, ?_⟩
  have hv := State.pump_view (s := s.takeUp.attached (BitVec.ofNat 32 (fld (padTo 256 b) 16 4))) rfl
  simp only [Mbx.view, Prod.mk.injEq] at hv
  obtain ⟨ha, hh, ht, hdt, htk, hout⟩ := hv
  rw [State.attachEnds_firm, State.attachEnds_dev, State.pump_pkg]
  exact ⟨ha, hh, ht, hdt, htk, rfl, hout⟩

theorem driftPeriodExpire_fences (hd : s.pkg.dev = .drift) (hn : s.firm.mbx.driftPeriod ≠ 0) :
    exec .driftPeriodExpire s = .next ((s.onMbx (fun m => { m with driftExpired := true })).onMem (fun m =>
      { m with driftFence := true })) := by
  simp [execDriftPeriodExpire, hd, hn]

/-! ### The scheduler's cycle (R174, R458, R463) -/

theorem schedCycleStart_decides (hu : s.schedUp = true) (hl : s.leaseRuns = true) (hh : s.handOver.firm.lease.handover = false) :
    exec .schedCycleStart s = .next ((((s.handOver.onLease (fun l => { l with renewed := s.handOver.now })).onSched (fun x =>
      { x with cycle := x.cycle + 1, progs := x.progs.map (fun p => { p with trapSent := false }) })).driftStart.releaseDrift
        ).landCycle.applyPlan.decide) := by
  simp [execSchedCycleStart, hu, hl, hh]

/-! ### The governor (R407, R408, R422) -/

/-- R407, R408: the phase that has ended teaches its entry, and the governor's hold is lifted. -/
def State.phaseLearned (s : State) (tag : W32) (p : Prog) (e : PhaseEnt) (energy : List (BitVec 2 × Nat)) : State :=
  ((s.onPow (fun w => w.learn e.key (energy.map (fun r => (r.1, s.phasePower p r.1 r.2))))).land (dk 0x4100 7)).onProg
    tag (fun p => { p with govHold := false })

section
variable {e : PhaseEnt} (hp : s.prog? tag = some p) (hs : p.st = .atBarrier) (hc : s.coreUp 3 = true)
  (he : p.img.phases[p.phaseDone]? = some e) (energy : List (BitVec 2 × Nat))
include hp hs hc he

/-- R408: only a next phase that is not short sets budgets. -/
theorem governorPhaseUpdate_learns :
    exec (.governorPhaseUpdate tag energy) s =
      match p.nextPhase with
      | some e' => if e'.short then .next (s.phaseLearned tag p e energy)
        else .next ((s.phaseLearned tag p e energy).onPow (fun w => w.touch e'.key)).sendBudgets
      | none => .next (s.phaseLearned tag p e energy) := by
  simp only [exec_governorPhaseUpdate, execGovernorPhaseUpdate, hp, hs, hc, he]
  rfl

theorem governorPhaseUpdate_last (hx : p.nextPhase = none) :
    exec (.governorPhaseUpdate tag energy) s = .next (s.phaseLearned tag p e energy) := by
  rw [governorPhaseUpdate_learns hp hs hc he, hx]

theorem governorPhaseUpdate_short {e' : PhaseEnt} (hx : p.nextPhase = some e') (h : e'.short = true) :
    exec (.governorPhaseUpdate tag energy) s = .next (s.phaseLearned tag p e energy) := by
  rw [governorPhaseUpdate_learns hp hs hc he, hx]
  exact if_pos h

theorem governorPhaseUpdate_budgets {e' : PhaseEnt} (hx : p.nextPhase = some e') (h : e'.short = false) :
    exec (.governorPhaseUpdate tag energy) s =
      .next ((s.phaseLearned tag p e energy).onPow (fun w => w.touch e'.key)).sendBudgets := by
  rw [governorPhaseUpdate_learns hp hs hc he, hx]
  exact if_neg (by simp [h])

end

/-- R422, R423: the interval ends: a new one begins, and LOW_RUN follows the one before. -/
def State.intervalEnds (s : State) : State :=
  ((s.land (dk 0x4100 5)).newInterval).onPow (fun p => { p with lowRun := p.nextLowRun s.intervalLow })

section
variable (hc : s.coreUp 3 = true) (hd : s.pkg.dev = .flow ∨ s.pkg.dev = .drift)
include hc hd

theorem limitReportSend_reports :
    exec .limitReportSend s =
      match s.intervalEnds.leader with
      | some d => .next (s.intervalEnds.sendBudget d (s.intervalEnds.limitReport s.kMean s.sustainedAlarm))
      | none => .next s.intervalEnds := by
  have hl : (s.pkg.dev = .flow || s.pkg.dev = .drift) = true := by simpa using hd
  simp only [exec_limitReportSend, execLimitReportSend, hc, hl]
  rfl

theorem limitReportSend_noLeader (h : s.intervalEnds.leader = none) : exec .limitReportSend s = .next s.intervalEnds := by
  rw [limitReportSend_reports hc hd, h]

theorem limitReportSend_toLeader {d : Nat} (h : s.intervalEnds.leader = some d) :
    exec .limitReportSend s = .next (s.intervalEnds.sendBudget d (s.intervalEnds.limitReport s.kMean s.sustainedAlarm)) := by
  rw [limitReportSend_reports hc hd, h]

end

end Sys2Proof.Machine

open Sys2Proof Machine Claims

/-- Settles O21, one lemma for each command; an attachment's messages keep their order as N0 writes them. -/
theorem attachAndCycle : Obligations.AttachAndCycle := by
  unfold Obligations.AttachAndCycle
  intro s
  exact ⟨fun b rest => attach_empties, driftPeriodExpire_fences, schedCycleStart_decides,
    fun tag p energy e hp hs hc he => ⟨governorPhaseUpdate_last hp hs hc he energy,
      fun e' => governorPhaseUpdate_short hp hs hc he energy, fun e' => governorPhaseUpdate_budgets hp hs hc he energy⟩,
    fun hc hd => ⟨limitReportSend_noLeader hc hd, fun d => limitReportSend_toLeader hc hd⟩⟩

end

section
/-! PROOFS. Requests of a tile at its Firn, merge windows and fills (R191, R192, R198, R202, R205, R206, R621). -/

namespace Sys2Proof.Machine
variable {s : State} {n : Nat} {kind : MemKind} {atop : BitVec 4} {p : Piece}

/-! ### What reaches the Firn (R191, R326) -/

/-- R191: what the cache may serve lies in region 0b00, so it is not in the dictionary window. -/
theorem State.cacheable_region (h : s.cacheable p = true) : gRegion p.ga ≠ 2 := by
  have h0 : gRegion p.ga = 0 := by
    simp only [State.cacheable, Bool.and_eq_true, decide_eq_true_eq] at h
    exact h.1.2
  simp [h0]

theorem MemKind.refused_eq_false (h : gRegion p.ga ≠ 2) : kind.refused p = false := by
  simp [MemKind.refused, h]

section
variable (hw : s.portWaits n = false)
include hw

section
variable (hn : s.nextPiece n = some (kind, atop, p)) (hr : gRegion p.ga ≠ 2)
include hn hr

theorem firnRequest_load (hk : kind = .frd ∨ kind = .gld) :
    exec (.firnRequest n false .clean) s = .next (s.firnLoad p .clean) := by
  have hf := MemKind.refused_eq_false (kind := kind) hr
  rcases hk with rfl | rfl <;> simp [execFirnRequest, State.upsetAt, hw, hn, hf]

theorem firnRequest_store (hk : kind = .fwr ∨ kind = .gst) :
    exec (.firnRequest n false .clean) s = .next (s.firnStore p .clean) := by
  have hf := MemKind.refused_eq_false (kind := kind) hr
  rcases hk with rfl | rfl <;> simp [execFirnRequest, State.upsetAt, hw, hn, hf]

theorem firnRequest_invalidate (hk : kind = .fiv) :
    exec (.firnRequest n false .clean) s = .next (s.firnInvalidateLine p) := by
  subst hk
  simp [execFirnRequest, State.upsetAt, hw, hn, MemKind.refused_eq_false hr]

end

theorem firnRequest_runAhead (hn : s.nextPiece n = none) (ha : s.nextRunAhead n = some p) :
    exec (.firnRequest n true .clean) s = .next (s.firnLoad p .clean) := by
  simp [execFirnRequest, State.upsetAt, hw, hn, ha]

end

/-! ### A line that is present (R188, R192, R198) -/

/-- R188: where no error has arisen and none is injected, the array read of a line leaves it as it is. -/
theorem State.lineEcc_clean (hi : s.errs.inj = none) (hu : s.firn.upsets = []) (t k : Nat) (x : FLine) (off n : Nat) :
    s.lineEcc t k x off n .clean = (s, some x) := by
  have hf : s.eccFound t x.line .clean = (.clean, s) := by simp [State.eccFound, Firn.upset?, hu]
  have hn : (touched off n).find? (fun _ => false) = none := List.find?_eq_none.mpr (by simp)
  simp [State.lineEcc, hf, State.injects_none s hi, hn]

section
variable {k : Nat} {x : FLine} (hx : s.firn.find p.stack p.line = some (k, x))
include hx

theorem State.firnLoad_hit (hc : s.cacheable p = true) (hi : s.errs.inj = none) (hu : s.firn.upsets = []) (hp : x.poison = 0) :
    s.firnLoad p .clean =
      (((p.take s).touchWay k).windowRead p.stack p.line true).serve p scOk (x.bytes p.off p.n) [] := by
  have hb : (touched p.off p.n).filter (fun i => x.poison.getLsbD i) = [] := by simp [hp]
  simp only [State.firnLoad, hc, if_true, hx, State.lineEcc_clean hi hu, hb, List.isEmpty_nil, List.map_nil]

theorem State.firnStore_hitOwn (hc : s.cacheable p = true) (hi : s.errs.inj = none) (hu : s.firn.upsets = [])
    (hd : gDev p.ga = s.devid) :
    let d := s.portRead p.tile p.sram p.n p.ga
    let y := x.store p.off d.1 (d.2.1.map (fun w => w - 8 * p.line)) (s.slotOf p.tile)
    s.firnStore p .clean = (((d.2.2.setLine k (some y)).touchWay k).windowShut p.stack p.line).absorbed p y := by
  simp only [State.firnStore, hc, if_true, hx, hd, State.lineEcc_clean hi hu]

theorem State.firnInvalidateLine_present (hf : s.filling p.stack p.line = false) :
    s.firnInvalidateLine p = p.answer ((s.setLine k none).windowShut p.stack p.line) scOk := by
  simp [State.firnInvalidateLine, hf, hx]

end

/-! ### A line that is not present, and what the Firn does not hold (R192, R202) -/

theorem State.firnLoad_miss (hc : s.cacheable p = true) (hx : s.firn.find p.stack p.line = none)
    (hi : s.canIssue p.eng (gDev p.ga) opLd = true) :
    s.firnLoad p .clean = (s.windowRead p.stack p.line false).fillFor p (p.waiter false 0 [] []) := by
  simp [State.firnLoad, State.loadMiss, hc, hx, hi]

theorem State.firnLoad_uncached (hc : s.cacheable p = false) (ho : s.ownScratch p = false) :
    s.firnLoad p .clean = s.forwardLoad p := by
  simp [State.firnLoad, hc, ho]

/-! ### A fill that ends with OK (R621) -/

/-- The line that the data of a fill makes: clean, with the poison that came with it. -/
def FillRes.toLine (r : FillRes) (l : Nat) : FLine := ⟨l, BitVec.ofNat 2048 (leNat r.data), 0, byteBits r.poison, 0⟩

section
variable {t l : Nat} {f : Fill} {r : FillRes} (hf : s.firn.fills.find? (fun f => f.stack = t && f.line = l) = some f)
  (hr : f.res = some r) (hs : r.status = scOk)
include hf hr hs

/-- R191, R192: a line of the own device is kept, and one of another device where its window is marked and its home slice caches. -/
theorem firnFillComplete_ok :
    exec (.firnFillComplete t l) s =
      if l / 2 ^ 34 == s.devid || (r.fc && s.cacheMode t l) then .next (s.fillIn t (r.toLine l) [] f.waits scOk)
      else .next ((s.fillOver t l).serveWaiters (r.toLine l) f.waits).1 := by
  simp only [exec_firnFillComplete, execFirnFillComplete, hf, hr, hs]
  rfl

theorem firnFillComplete_keeps (hk : l / 2 ^ 34 = s.devid ∨ r.fc = true ∧ s.cacheMode t l = true) :
    exec (.firnFillComplete t l) s = .next (s.fillIn t (r.toLine l) [] f.waits scOk) := by
  have hc : (l / 2 ^ 34 == s.devid || (r.fc && s.cacheMode t l)) = true := by
    simpa only [Bool.or_eq_true, Bool.and_eq_true, beq_iff_eq] using hk
  rw [firnFillComplete_ok hf hr hs, if_pos hc]

theorem firnFillComplete_drops (hd : l / 2 ^ 34 ≠ s.devid) (hn : r.fc = false ∨ s.cacheMode t l = false) :
    exec (.firnFillComplete t l) s = .next ((s.fillOver t l).serveWaiters (r.toLine l) f.waits).1 := by
  have ho : (l / 2 ^ 34 == s.devid) = false := beq_eq_false_iff_ne.mpr hd
  have hc : (r.fc && s.cacheMode t l) = false := by
    rcases hn with h | h <;> simp [h]
  rw [firnFillComplete_ok hf hr hs, ho, hc]
  rfl

end

end Sys2Proof.Machine

open Sys2Proof Machine Claims

/-- Settles O28: the kind of a request says what the Firn does with it, and then the state of its line says how; a fill with OK keeps
its line, or only serves those that wait for it. -/
theorem firnRequests : Obligations.FirnRequests := by
  unfold Obligations.FirnRequests
  intro s n
  refine ⟨fun kind atop p hw hn => ⟨fun hc k x hx hi hu => ?_, fun hc hx hk hi => ?_, fun hc ho hk hr => ?_⟩,
    fun p => firnRequest_runAhead, fun t l => rfl,
    fun t l f r hf hr hs => ⟨firnFillComplete_keeps hf hr hs, firnFillComplete_drops hf hr hs⟩⟩
  · have hr := State.cacheable_region hc
    exact ⟨fun hk hp => (firnRequest_load hw hn hr hk).trans (congrArg _ (State.firnLoad_hit hx hc hi hu hp)),
      fun hk hd => (firnRequest_store hw hn hr hk).trans (congrArg _ (State.firnStore_hitOwn hx hc hi hu hd)),
      fun hk hf => (firnRequest_invalidate hw hn hr hk).trans (congrArg _ (State.firnInvalidateLine_present hx hf))⟩
  · rw [firnRequest_load hw hn (State.cacheable_region hc) hk, State.firnLoad_miss hc hx hi]
  · rw [firnRequest_load hw hn hr hk, State.firnLoad_uncached hc ho]

end

section
/-! PROOFS. Replies at the source, and requests between domains (R296, R319, R320, R331, R337, R343, R345, R347). -/

namespace Sys2Proof.Machine
variable {s : State} {q : BitVec 4} {ch : BitVec 2} {p : Packet}

theorem Packet.opcode_toNat {b : Byte} (h : p.opcode = b) : p.opcode.toNat = b.toNat := congrArg BitVec.toNat h

/-! ### A reply at the source (R296, R343) -/

/-- R343: a reply ends the request that it answers; with the status BUSY the request is to be sent again. -/
def State.endedBy (s : State) (p : Packet) (r : Req) (a : Answer) : State :=
  if p.status = scBusy then s.onReq r.id (fun r => { r with busy := true }) else s.complete r a

theorem State.replied_ends {ok : Req → Bool} {r : Req} (h : s.asked p ok = some r) (a : Req → Answer) :
    s.replied p ok a = s.endedBy p r (a r) := by
  simp only [State.replied, h, State.endedBy]

section
variable {r : Req} (hh : s.headOf q ch = some p) (hd : p.dst = s.fab.devid)
include hh hd

theorem State.takeRsp_takes {op : Nat} (ho : p.opcode.toNat = op) : s.takeRsp q ch op = (some p, s.pop q ch) := by
  simp [State.takeRsp, hh, hd, ho]

theorem State.loadRsp_ends {op : Nat} (ho : p.opcode.toNat = op) (ha : (s.pop q ch).asked p (fun r => r.op = opLd) = some r) :
    s.loadRsp q ch op = .next ((s.pop q ch).endedBy p r (loadAnswer p r.pkt.size r)) := by
  simp only [State.loadRsp, State.takeRsp_takes hh hd ho, State.replied_ends ha]

theorem ack_ends (ho : p.opcode.toNat = opAck)
    (ha : (s.pop q ch).asked p (fun r => r.isStore || r.op = opColl) = some r) :
    exec (.ack q ch) s = .next ((s.pop q ch).endedBy p r (Answer.plain p.status)) := by
  simp only [exec_ack, execAck, State.takeRsp_takes hh hd ho, State.replied_ends ha]

theorem atRsp_ends (ho : p.opcode.toNat = opAtRsp) (ht : p.tag ≠ syncTag)
    (ha : (s.pop q ch).asked p (fun r => r.isAtomic) = some r) :
    exec (.atRsp q ch) s = .next ((s.pop q ch).endedBy p r ⟨p.status, p.ext.take r.bytes, [], true, true⟩) := by
  simp only [exec_atRsp, execAtRsp, State.takeRsp_takes hh hd ho, if_neg ht, State.replied_ends ha]

/-- R345: the answer of a SYNC query, where its pair resyncs and has queried. -/
theorem atRsp_resyncs (ho : p.opcode.toNat = opAtRsp) (ht : p.tag = syncTag)
    (hr : ((s.pop q ch).pair p.srcEng.toNat p.src.toNat).resync = true)
    (hq : ((s.pop q ch).pair p.srcEng.toNat p.src.toNat).queried = true) :
    exec (.atRsp q ch) s =
      .next ((s.pop q ch).resyncAnswer p.srcEng.toNat p.src.toNat (BitVec.ofNat 20 (fld p.ext 0 4))) := by
  simp only [exec_atRsp, execAtRsp, State.takeRsp_takes hh hd ho, if_pos ht, hr, hq, Bool.and_self, if_true]

/-- R320: an outer reply that comes within the domain, or from another domain and names this one, ends its request. -/
theorem State.outerRsp_ends {op reqOp : Nat} {a : Packet → Req → Answer} (ho : p.opcode.toNat = op)
    (hm : q.toNat < 14 ∨ p.dstDom = s.fab.domain) (ha : (s.pop q ch).asked p (fun r => r.op = reqOp) = some r) :
    s.outerRsp q ch op reqOp a = .next ((s.pop q ch).endedBy p r (a p r)) := by
  have hf : (Decidable.decide (14 ≤ q.toNat) && p.dstDom != s.fab.domain) = false := by
    rcases hm with hq | hdom
    · rw [decide_eq_false (Nat.not_le.mpr hq), Bool.false_and]
    · rw [hdom, bne_self_eq_false, Bool.and_false]
  simp [State.outerRsp, hh, ho, hf, hd, State.replied_ends ha]

end

/-! ### What an outer request is to this device (R319, R320) -/

section
variable {op : Nat} (hh : s.headOf q ch = some p) (ho : p.opcode.toNat = op)
include hh ho

theorem State.outerHead_gateway (hq : q.toNat < 14) (hd : p.dst = s.fab.devid) :
    s.outerHead q ch op = (.gateway p, s.pop q ch) := by
  simp [State.outerHead, hh, ho, hq, hd]

section
variable (hq : 14 ≤ q.toNat) (hr : s.replyRoom = true)
include hq hr

theorem State.outerHead_otherDomain (hd : p.dstDom ≠ s.fab.domain) :
    s.outerHead q ch op = (.drop, (s.pop q ch).discard (some q) discOuter) := by
  simp [State.outerHead, hh, ho, Nat.not_lt.mpr hq, hr, hd]

theorem State.outerHead_serves (hd : p.dstDom = s.fab.domain) (ha : gDev p.addr.toNat = s.devid) (ht : s.tooOld p = false) :
    s.outerHead q ch op = (.serve p, s.pop q ch) := by
  have hv : (s.pop q ch).devid = s.devid := rfl
  have hw : (s.pop q ch).tooOld p = false := ht
  simp [State.outerHead, hh, ho, Nat.not_lt.mpr hq, hr, hd, ha, hv, hw]

end

end

/-! ### An outer request that leaves by its gateway, or is discarded (R319, R320) -/

section
variable {u : State}

theorem xput_leaves (h : s.outerHead q ch opXput = (.gateway p, u)) : exec (.xput q ch) s = .next (u.sendOuter p (some q)) := by
  simp only [exec_xput, execXput, h]

theorem xget_leaves (h : s.outerHead q ch opXget = (.gateway p, u)) : exec (.xget q ch) s = .next (u.sendOuter p (some q)) := by
  simp only [exec_xget, execXget, h]

theorem xmsg_leaves (h : s.outerHead q ch opXmsg = (.gateway p, u)) : exec (.xmsg q ch) s = .next (u.sendOuter p (some q)) := by
  simp only [exec_xmsg, execXmsg, h]

theorem xput_drops (h : s.outerHead q ch opXput = (.drop, u)) : exec (.xput q ch) s = .next u := by
  simp only [exec_xput, execXput, h]

theorem xget_drops (h : s.outerHead q ch opXget = (.drop, u)) : exec (.xget q ch) s = .next u := by
  simp only [exec_xget, execXget, h]

theorem xmsg_drops (h : s.outerHead q ch opXmsg = (.drop, u)) : exec (.xmsg q ch) s = .next u := by
  simp only [exec_xmsg, execXmsg, h]

/-! ### An outer request that is served (R297, R320, R331, R347) -/

theorem xput_serves {n : Nat} (h : s.outerHead q ch opXput = (.serve p, u)) (hn : outerCount p = some n) :
    let x := u.serveStore (.peer p true) p.addr.toNat (p.body.take n) p.poison false { w := true }
    exec (.xput q ch) s = .next (x.1.answer' q (x.1.replyTo p opXputAck x.2)) := by
  simp only [exec_xput, execXput, h, hn]

theorem xget_serves (h : s.outerHead q ch opXget = (.serve p, u)) :
    let x := u.serveLoad (.peer p true) p.addr.toNat p.size { rd := true }
    exec (.xget q ch) s = .next (x.1.answerLoad q p p.size x.2) := by
  simp only [exec_xget, execXget, h]

theorem xmsg_serves (h : s.outerHead q ch opXmsg = (.serve p, u)) : exec (.xmsg q ch) s = .next (u.peerMsg q p) := by
  simp only [exec_xmsg, execXmsg, h]

/-- R347: a message that the cache holds is not written again. -/
theorem State.peerMsg_repeated {e : CacheEnt} (h : s.cached p .xmsg = some e) :
    s.peerMsg q p = s.answer' q (s.replyTo p opXmsgAck e.status) := by
  simp only [State.peerMsg, h]

/-- R331, R347: a message that comes for the first time is written, and its outcome kept, where the cache has room. -/
theorem State.peerMsg_first {n : Nat} (h : s.cached p .xmsg = none) (hr : p.retry = 0) (hc : s.cacheRoom.isSome = true)
    (hn : outerCount p = some n) :
    let x := s.serveMsg (.peer p true) p.addr.toNat (fld p.ext 8 8) (p.body.take n) p.poison
    let w := x.1.onMem (fun m => { m with xmsgGone := m.xmsgGone.filter (fun x => x != (pairAt p, p.tag)) })
    s.peerMsg q p = (w.cachePut (w.cacheEnt p .xmsg x.2 [])).answer' q (w.replyTo p opXmsgAck x.2) := by
  have hf : s.cacheRoom.isNone = false := by simpa using hc
  simp [State.peerMsg, h, hr, hf, hn]

end

end Sys2Proof.Machine

open Sys2Proof Machine Claims

/-- Settles O25: each command takes the reply of its opcode off its channel, and the reply ends the request that it answers. -/
theorem repliesEndRequests : Obligations.RepliesEndRequests := by
  unfold Obligations.RepliesEndRequests
  intro s q ch p r hh hd
  exact ⟨fun ho => State.loadRsp_ends hh hd (Packet.opcode_toNat ho),
    fun ho => State.loadRsp_ends hh hd (Packet.opcode_toNat ho),
    fun ho => ack_ends hh hd (Packet.opcode_toNat ho),
    fun ho => atRsp_ends hh hd (Packet.opcode_toNat ho),
    fun ho => atRsp_resyncs hh hd (Packet.opcode_toNat ho),
    fun ho => State.outerRsp_ends hh hd (Packet.opcode_toNat ho),
    fun ho => State.outerRsp_ends hh hd (Packet.opcode_toNat ho),
    fun ho => State.outerRsp_ends hh hd (Packet.opcode_toNat ho)⟩

/-- Settles O26: the port by which a request comes and the domain that it names say what it is to this device
(`State.outerHead`); then each command does its part. -/
theorem outerRequests : Obligations.OuterRequests := by
  unfold Obligations.OuterRequests
  intro s q ch p hh
  refine ⟨fun hq hd => ?_, fun hq hr hd => ?_, fun hq hr hd ha ht => ?_⟩
  · have hg {b : Byte} (ho : p.opcode = b) := State.outerHead_gateway hh (Packet.opcode_toNat ho) hq hd
    exact ⟨fun ho => xput_leaves (hg ho), fun ho => xget_leaves (hg ho), fun ho => xmsg_leaves (hg ho)⟩
  · have hg {b : Byte} (ho : p.opcode = b) := State.outerHead_otherDomain hh (Packet.opcode_toNat ho) hq hr hd
    exact ⟨fun ho => xput_drops (hg ho), fun ho => xget_drops (hg ho), fun ho => xmsg_drops (hg ho)⟩
  · have hs {b : Byte} (ho : p.opcode = b) := State.outerHead_serves hh (Packet.opcode_toNat ho) hq hr hd ha ht
    exact ⟨fun n ho => xput_serves (hs ho), fun ho => xget_serves (hs ho),
      fun ho e he => (xmsg_serves (hs ho)).trans (congrArg _ (State.peerMsg_repeated he)),
      fun ho hc hy hm n hn => ⟨_, rfl, (xmsg_serves (hs ho)).trans (congrArg _ (State.peerMsg_first hc hy hm hn))⟩⟩

end

section
/-! PROOFS. Reports of lost devices, and route updates (R304, R314, R315, R471, R472). -/

namespace Sys2Proof.Machine
variable {s u : State} {h : SvcHdr} {b : List Byte}

/-- R263: a service message on which this device acts has the effect that its meaning gives. -/
theorem State.onSvc_acts {type : Byte} (hs : s.svcIn h type b = (true, u)) (f : State → State) :
    s.onSvc h type b f = .next (f u) := by
  simp only [State.onSvc, hs]

theorem State.isHolder_iff : s.isHolder = true ↔ s.dmUp = true ∧ s.firm.dm.role = .holder := by
  simp [State.isHolder]

/-! ### Losses (R314, R315) -/

theorem peerDown_decides (hs : s.svcIn h 0x51 b = (true, u)) (hh : u.isHolder = true)
    (hg : BitVec.ofNat 32 (fld b 16 4) = u.firm.dm.gen) :
    exec (.peerDown h b) s = .next (u.onDm (fun m =>
      { m with reports := NSet.add (64 * (fld b 0 1 % 64) + h.src.toNat) m.reports })).decideRoutes := by
  rw [exec_peerDown, execPeerDown, State.onSvc_acts hs]
  simp [hh, hg]

theorem neighbourLostLocal_declares {d : BitVec 6} (hs : s.fab.silent.contains d.toNat = true)
    (hh : (s.declareLost d).isHolder = false) : exec (.neighbourLostLocal d) s = .next (s.declareLost d) := by
  simp only [exec_neighbourLostLocal, execNeighbourLostLocal, hs, hh, if_true, Bool.false_eq_true, if_false]

/-! ### Segments and their acknowledgements (R472) -/

/-- R472: the update that a message begins, with the one segment that it brings. -/
def RouteIn.begun (b : List Byte) : RouteIn :=
  ⟨BitVec.ofNat 32 (fld b 0 4), BitVec.ofNat 64 (fld b 4 8), fld b 13 1, SMap.set [] [] (fld b 12 1) ((b.drop 16).take 96)⟩

theorem routeUpdate_stores (hs : s.svcIn h 0x66 b = (true, u)) (hu : u.dmUp = true) (hr : u.firm.dm.role ≠ .holder)
    (hi : u.firm.dm.incoming = none) (hg : serBefore u.fab.routeGen (BitVec.ofNat 32 (fld b 0 4)) = true)
    (hl : fld b 12 1 + 1 ≠ fld b 13 1) (hw : (RouteIn.begun b).whole = none) :
    exec (.routeUpdate h b) s = .next (u.onDm (fun m => { m with incoming := some (.begun b) })) := by
  rw [RouteIn.begun] at hw
  rw [exec_routeUpdate, execRouteUpdate, State.onSvc_acts hs]
  simp [hu, hr, hi, hg, hl, hw, RouteIn.begun]

theorem routeAck_records {x : RouteUpd} (hs : s.svcIn h 0x67 b = (true, u)) (hh : u.isHolder = true)
    (hx : u.firm.dm.sending = some x) (hg : x.gen = BitVec.ofNat 32 (fld b 0 4)) (hc : fld b 4 1 = 0) :
    exec (.routeAck h b) s = .next (u.onDm (fun m => { m with acks := NSet.add h.src.toNat m.acks })) := by
  rw [exec_routeAck, execRouteAck, State.onSvc_acts hs]
  simp [hh, hx, hg, hc]

theorem routeSegmentResend_sends {x : RouteUpd} (hx : s.firm.dm.sending = some x) (hh : s.isHolder = true) :
    exec .routeSegmentResend s =
      .next (((shapeDevs s.shape).filter (fun d => d != s.devid && !s.firm.dm.acks.contains d)).foldl
        (fun v d => x.segments.foldl (fun v p => v.svcDev d 0x66 p) v) s) := by
  simp only [exec_routeSegmentResend, execRouteSegmentResend, hx, hh, if_true]

/-! ### The activation (R304, R472) -/

theorem routeUpdateActivate_holder {x : RouteUpd} (hx : s.firm.dm.sending = some x) (hh : s.isHolder = true) :
    exec .routeUpdateActivate s = .next (s.activateOwn x) := by
  obtain ⟨hu, hr⟩ := State.isHolder_iff.mp hh
  simp only [exec_routeUpdateActivate, execRouteUpdateActivate, hr, hx, hu, if_true]

theorem routeUpdateActivate_standby {r : RouteIn} {body : List Byte} (hr : s.firm.dm.role = .standby)
    (hi : s.firm.dm.incoming = some r) (hw : r.whole = some body) (hu : s.coreUp 2 = true) :
    exec .routeUpdateActivate s =
      .next ((s.onDm (fun m => { m with incoming := none })).applyUpdate r.gen body) := by
  simp only [exec_routeUpdateActivate, execRouteUpdateActivate, hr, hi, hw, hu, if_true]

end Sys2Proof.Machine

open Sys2Proof Machine Claims

/-- Settles O36, one lemma for each command and each role. -/
theorem routeUpdates : Obligations.RouteUpdates := by
  unfold Obligations.RouteUpdates
  intro s
  exact ⟨fun h b u => peerDown_decides, fun d => neighbourLostLocal_declares, fun h b u => routeUpdate_stores,
    fun h b u x => routeAck_records, fun x hx hh => ⟨routeSegmentResend_sends hx hh, routeUpdateActivate_holder hx hh⟩,
    fun r b => routeUpdateActivate_standby⟩

end

section
/-! PROOFS. Retries, last chances, resync and flagged stores at the source of a request (R340, R341, R343 to R345). -/

namespace Sys2Proof.Machine
variable {s : State} {id : Nat} {r : Req}

/-! ### Attempts that time out (R343) -/

theorem requestTimeout_retries (hr : s.trying id = some r) (hs : r.sequenced = false) (hm : s.mayRetry r = true) :
    exec (.requestTimeout id) s = .next (s.retry r) := by
  simp only [exec_requestTimeout, execRequestTimeout, hr, if_pos hs, hm, if_true]

/-- R343: a sequenced request takes the later ones of its pair with it. -/
theorem requestTimeout_retriesPair (hr : s.trying id = some r) (hs : r.sequenced = true)
    (ho : (s.oldestOf r.eng r.dest).map (·.id) = some id) :
    exec (.requestTimeout id) s = .next ((s.fromOn r).foldl (fun s q => if s.mayRetry q then s.retry q else s) s) := by
  have hn : ¬ r.sequenced = false := by simp [hs]
  simp only [exec_requestTimeout, execRequestTimeout, hr, if_neg hn, if_pos ho]

theorem busyResend_sends (hr : s.trying id = some r) (hb : r.busy = true) (hd : s.destFails r.dest = none)
    (hs : r.sequenced = false) :
    exec (.busyResend id) s =
      .next ((s.onReq r.id (fun _ => { r with busy := false })).sendReq { r with busy := false }) := by
  simp [execBusyResend, hr, hb, hs, State.cutOff, hd]

/-! ### The last chance, and the resync of a pair (R343, R345) -/

@[simp] theorem State.pair_onPair (s : State) (eng dest : Nat) (f : SrcPair → SrcPair) :
    (s.onPair eng dest f).pair eng dest = f (s.pair eng dest) :=
  SMap.get_set_same _ _ _ _

/-- R345: a pair enters resync, which is counted. -/
def State.beginResync (s : State) (eng dest : Nat) : State :=
  (s.onPair eng dest (fun p => { p with resync := true, queried := false, exp := none })).onMem
    (fun m => { m with resyncs := satInc m.resyncs })

theorem State.beginResync_resync (s : State) (eng dest : Nat) : ((s.beginResync eng dest).pair eng dest).resync = true :=
  congrArg SrcPair.resync
    (s.pair_onPair eng dest (fun p => { p with resync := true, queried := false, exp := none }))

section
variable (hr : s.req? id = some r) (ha : r.attempts ≠ 0) (hd : r.dup = false) (hl : s.isLocal r = false)
include hr ha hd hl

theorem requestLastChance_ends (hs : r.sequenced = false) :
    exec (.requestLastChance id) s = .next (s.complete r (Answer.plain scTimeout)) := by
  simp [execRequestLastChance, hr, ha, hd, hl, hs]

theorem requestLastChance_resyncs (hs : r.sequenced = true) (hp : (s.pair r.eng r.dest).resync = false) :
    exec (.requestLastChance id) s = .next (s.beginResync r.eng r.dest) := by
  simp [execRequestLastChance, hr, ha, hd, hl, hs, hp, State.beginResync]

end

/-- R345: the query leaves once the pair has been silent for T, or has been queried before. -/
theorem resyncQuerySend_queries {eng dest : Nat} (hp : (s.pair eng dest).resync = true)
    (hq : (s.pair eng dest).queried = true ∨ usU s.memT ≤ s.since (s.pair eng dest).lastInj) :
    exec (.resyncQuerySend eng dest) s =
      .next ((s.onPair eng dest (fun p => { p with queried := true })).inject (s.syncPkt eng dest) (engTile eng)) := by
  have hw : (!(s.pair eng dest).queried && Decidable.decide (s.since (s.pair eng dest).lastInj < usU s.memT)) = false := by
    rcases hq with hq | hq <;> simp [hq]
  simp [execResyncQuerySend, hp, hw]

theorem resyncDuplicateResend_sends (hr : s.req? id = some r) (hd : r.dup = true) :
    exec (.resyncDuplicateResend id) s = .next ((s.onMem (fun m => { m with retries := satInc m.retries })).sendReq r) := by
  simp only [exec_resyncDuplicateResend, execResyncDuplicateResend, hr, hd, if_true]

/-! ### A flagged store that nothing keeps waiting (R340, R341) -/

/-- R340: the flagged stores without one that waits no longer. -/
def State.unflagged (s : State) (id : Nat) : State :=
  s.onMem (fun m => { m with flagged := m.flagged.filter (fun g => g.req.id != id) })

section
variable {f : Flagged} (hf : s.mem.flagged.find? (fun f => f.req.id == id) = some f) (hw : f.waits = [])
include hf hw

theorem flaggedStoreSend_fails {e : Nat × Byte} (he : f.fail = some e) :
    exec (.flaggedStoreSend id) s = .next ((s.unflagged id).complete f.req (Answer.plain e.2)) := by
  simp [execFlaggedStoreSend, hf, hw, he, State.unflagged]

theorem flaggedStoreSend_sends (he : f.fail = none) (hd : (s.unflagged id).destFails f.req.dest = none) :
    exec (.flaggedStoreSend id) s = .next (((s.unflagged id).onMem (fun m =>
      { m with reqs := m.reqs.filter (fun q => q.id < id) ++ f.req :: m.reqs.filter (fun q => id < q.id) })).release) := by
  rw [State.unflagged] at hd
  simp [execFlaggedStoreSend, hf, hw, he, hd, State.unflagged]

end

end Sys2Proof.Machine

open Sys2Proof Machine Claims

/-- Settles O22, one lemma for each command and each kind of request. -/
theorem retryAndResync : Obligations.RetryAndResync := by
  unfold Obligations.RetryAndResync
  intro s id
  refine ⟨fun r => requestTimeout_retries, fun r => requestTimeout_retriesPair, fun r hr ha hd hl => ?_,
    fun r => busyResend_sends, fun eng dest => resyncQuerySend_queries, fun r => resyncDuplicateResend_sends,
    fun f hf hw => ⟨fun e => flaggedStoreSend_fails hf hw, flaggedStoreSend_sends hf hw⟩⟩
  exact ⟨requestLastChance_ends hr ha hd hl, fun hs hp =>
    ⟨_, requestLastChance_resyncs hr ha hd hl hs hp, s.beginResync_resync r.eng r.dest, rfl, rfl⟩⟩

end

section
/-! PROOFS. The collective units: contributions, descriptors, steps of blocks and completion (R356 to R363, R365). -/

namespace Sys2Proof.Machine
variable {s : State} {cu : BitVec 2}

/-! ### What a contribution leaves alone (R362) -/

@[simp] theorem State.onColl_still (s : State) (cu : Nat) (f : CollUnit → CollUnit) : (s.onColl cu f).still = s.still := rfl

@[simp] theorem State.collAbort_still (s : State) (cu : BitVec 2) (r : CollRun) : (s.collAbort cu r).still = s.still := by
  simp only [State.collAbort, State.onCollRun_still]
  exact foldl_keeps State.still (fun s _ => s.inject_still _ _) _ s

@[simp] theorem State.collFail_still (s : State) (cu : BitVec 2) (id : W32) (st : Byte) :
    (s.collFail cu id st).still = s.still := by
  simp only [State.collFail]
  split
  · split <;> simp
  · simp

@[simp] theorem State.collTakeIn_still (s : State) (cu : BitVec 2) (c : Contrib) : (s.collTakeIn cu c).still = s.still := by
  simp only [State.collTakeIn]
  split
  · simp
  · split
    · simp
    · split <;> simp

/-- R296: a reply names this device and its domain, and takes nothing else of the state. -/
theorem State.replyTo_of_still {s t : State} (h : t.still = s.still) (p : Packet) (op : Nat) (st : Byte) :
    t.replyTo p op st = s.replyTo p op st :=
  congrArg (fun u => u.replyTo p op st) h

/-! ### Packets of members (R344, R362) -/

section
variable {q : BitVec 4} {ch : BitVec 2} {p : Packet}

/-- R310, R344: a request for this device that is not too old is taken off its channel where there is room for its reply. -/
theorem State.takeReq_takes {op : Nat} (hh : s.headOf q ch = some p) (hd : p.dst = s.fab.devid) (hq : q.toNat < 14)
    (hr : s.replyRoom = true) (ht : s.tooOld p = false) (ho : p.opcode.toNat = op) :
    s.takeReq q ch op = (some p, s.pop q ch) := by
  have hw : (s.pop q ch).tooOld p = false := ht
  simp [State.takeReq, hh, ho, hd, Nat.not_le.mpr hq, hr, hw]

/-- R362: the state after a contribution in its turn: kept for its collective, and EXP one higher. -/
def State.collKept (s : State) (p : Packet) : State :=
  (s.collTakeIn (BitVec.ofNat 2 (p.srcEng.toNat - 32)) (contribOf s p)).expUp p

theorem State.peerColl_keeps (hn : s.turnOf p = .now) (hl : 32 ≤ p.srcEng.toNat) (hu : p.srcEng.toNat < 36) :
    s.peerColl q p = (s.collKept p).answer' q ((s.collKept p).replyTo p opAck scOk) := by
  have hk : (s.collKept p).still = s.still := s.collTakeIn_still _ (contribOf s p)
  rw [State.replyTo_of_still hk]
  simp [State.peerColl, hn, hl, hu, State.collKept]

theorem coll_takesIn {u : State} (ht : s.takeReq q ch opColl = (some p, u)) :
    exec (.coll (.port q ch)) s = .next (u.peerColl q p) := by
  simp only [exec_coll, execColl, ht]

theorem collCtl_aborts {u : State} (ht : s.takeReq q ch opCollCtl = (some p, u)) (hl : 32 ≤ p.srcEng.toNat)
    (hu : p.srcEng.toNat < 36) :
    exec (.collCtl (.port q ch)) s = .next (u.collAborted (BitVec.ofNat 2 (p.srcEng.toNat - 32))
      (BitVec.ofNat 32 (Config.collAbortId p.ext)) (BitVec.ofNat 8 (Config.collAbortStatus p.ext))) := by
  simp [execCollCtl, ht, Nat.not_lt.mpr hl, Nat.not_le.mpr hu]

end

theorem collHoldExpire_drops (s : State) (cu : BitVec 2) :
    exec (.collHoldExpire cu) s = .next (s.onColl cu.toNat (fun x => { x with held := x.held.filter (fun c =>
      (s.collAt cu).runs.any (fun r => r.id = c.id) ||
        !Decidable.decide (msU s.mem.collTimeout.toNat ≤ s.since c.arrived)) })) := rfl

/-! ### Polls and descriptors (R356 to R358) -/

theorem collPoll_goesOn (ha : s.collRuns = true) (hs : s.staged (dk 0x3300 (1 + cu.toNat)) = none) :
    exec (.collPoll cu) s = .next (((s.collAt cu).runs.map (·.id)).foldl (fun s id => s.collGo cu id) s) := by
  have hl : s.collLand cu = s := by simp [State.collLand, hs]
  simp [execCollPoll, ha, hl]

/-- R356: the descriptor that a unit's ring has next. -/
def State.collNext (s : State) (cu : BitVec 2) : List Byte :=
  natLE 64 (s.peek (ringSlot (s.collAt cu).ringBase (s.collAt cu).take) 64)

/-- R356: the next descriptor is off the ring. -/
def State.collTaken (s : State) (cu : BitVec 2) : State :=
  ((s.ringClear (s.collAt cu).ringBase (s.collAt cu).take).ringTail (s.collAt cu).ringBase ((s.collAt cu).take + 1)).onColl
    cu.toNat (fun y => { y with take := y.take + 1 })

section
variable {b : List Byte} {r : CollRun} {prog : Option Prog}

/-- R356, R358: a unit that acts takes the descriptor posted next on its ring; no active collective has its COLL_ID. -/
structure State.CollTakes (s : State) (cu : BitVec 2) (b : List Byte) (r : CollRun) (prog : Option Prog) : Prop where
  next : s.collNext cu = b
  parse : s.collParse b = (r, prog)
  runs : s.collRuns = true
  ring : (s.collAt cu).ringBase ≠ 0
  posted : fld b 0 1 = 1
  room : (s.collAt cu).runs.length < 64
  new : (s.collAt cu).runs.any (fun y => y.id = r.id) = false

theorem collDescriptorTake_starts (h : s.CollTakes cu b r prog) (ho : (s.collTaken cu).collOk b r prog = true) :
    exec (.collDescriptorTake cu) s = .next
      (((((s.collTaken cu).onColl cu.toNat (fun y => { y with runs := y.runs ++ [r] })).collHeld cu r).collRow cu r).collGo
        cu r.id) := by
  obtain ⟨rfl, hc, ha, hb, hp, hn, hi⟩ := h
  rw [State.collNext] at hc ho hp
  rw [State.collTaken] at ho ⊢
  simp [execCollDescriptorTake, hc, ha, hb, hp, Nat.not_le.mpr hn, hi, ho]

/-- R358: a descriptor that a unit does not take leaves no record where its record's segment does not take one. -/
theorem collDescriptorTake_refuses (h : s.CollTakes cu b r prog) (ho : (s.collTaken cu).collOk b r prog = false)
    (hs : (segRef prog b 40).1.ok .f (segRef prog b 40).2 16 = false) :
    exec (.collDescriptorTake cu) s = .next ((s.collTaken cu).collCount cu scDenied) := by
  obtain ⟨rfl, hc, ha, hb, hp, hn, hi⟩ := h
  rw [State.collNext] at hc ho hp hs
  rw [State.collTaken] at ho ⊢
  simp [execCollDescriptorTake, hc, ha, hb, hp, Nat.not_le.mpr hn, hi, ho, hs]

end

/-! ### Steps of a collective (R359 to R363) -/

section
variable {id : W32} {r : CollRun} (hr : s.collRun? cu id = some r)
include hr

theorem collStageComplete_steps {b : Nat} (ha : s.collRuns = true) (hs : r.status = 0) (hb : b < r.nblocks)
    (hm : (s.collAt cu).mayStep r b = true) :
    exec (.collStageComplete cu id b) s = .next ((s.collStep cu r b).collGo cu id) := by
  simp [execCollStageComplete, hr, ha, hs, Nat.not_le.mpr hb, hm]

theorem collTimeout_fails (hs : r.status = 0) (hd : r.allDone = false) (ht : msU r.timeout ≤ s.since r.taken) :
    exec (.collTimeout cu id) s = .next (s.collFail cu id scTimeout) := by
  simp [execCollTimeout, hr, hs, hd, Nat.not_lt.mpr ht]

/-- R363: a wait for the row set that fabric time has passed ends. -/
theorem collSteerWaitEnd_goesOn {t : W64} (ha : s.collRuns = true) (hw : r.rowWait = some t)
    (hp : serBefore s.ftime t = false) :
    let still := fun (w : Option W64) => w.filter (fun t => serBefore s.ftime t)
    exec (.collSteerWaitEnd cu id) s = .next ((s.onCollRun cu.toNat id (fun x =>
      { x with rowWait := still x.rowWait, colWait := still x.colWait })).collGo cu id) := by
  have hn : r.rowWait ≠ r.rowWait.filter (fun t => serBefore s.ftime t) := by
    simp [hw, Option.filter_some, hp]
  simp [execCollSteerWaitEnd, hr, ha, hn]

end

/-- R362, R363: a collective with nothing more to do, none of whose requests is outstanding, writes its record and ends. -/
theorem collComplete_ends {id : W32} {r : CollRun} (hr : (s.collWatch cu id).collRun? cu id = some r)
    (ha : (s.collWatch cu id).collRuns = true) (hp : r.past = true) (hb : (s.collWatch cu id).collBusy cu id = false) :
    let u := ((s.collWatch cu id).collUndefined r).onColl cu.toNat (fun x => { x with
      runs := x.runs.filter (fun x => x.id != id), held := x.held.filter (fun c => c.id != id) })
    exec (.collComplete cu id) s = .next (((u.collCount cu r.status).collRecord cu id r.compl r.status).collUnsteer cu r) := by
  simp [execCollComplete, hr, ha, hp, hb]

end Sys2Proof.Machine

open Sys2Proof Machine Claims

/-- Settles O33, one lemma for each command. A contribution's acknowledgement rests on what keeping it leaves alone
(`State.collTakeIn_still`). -/
theorem collectives : Obligations.Collectives := by
  unfold Obligations.Collectives
  intro s cu
  refine ⟨fun q ch p hh hd hq hr ht => ⟨fun ho hn hl hu => ?_, fun ho => ?_⟩, collHoldExpire_drops s cu,
    fun ha => ⟨collPoll_goesOn ha, fun hb hp hn hi => ?_,
      fun id r hr => ⟨fun hs => ⟨fun b => collStageComplete_steps hr ha hs, collTimeout_fails hr hs⟩,
        fun t hw hp _ => collSteerWaitEnd_goesOn hr ha hw hp⟩,
      fun id r => collComplete_ends⟩⟩
  · have hk := State.takeReq_takes hh hd hq hr ht (Packet.opcode_toNat ho)
    exact (coll_takesIn hk).trans (congrArg _ (State.peerColl_keeps hn hl hu))
  · exact collCtl_aborts (State.takeReq_takes hh hd hq hr ht (Packet.opcode_toNat ho))
  · have h : s.CollTakes cu _ _ _ := ⟨rfl, rfl, ha, hb, hp, hn, hi⟩
    exact ⟨collDescriptorTake_starts h, collDescriptorTake_refuses h⟩

end

section
/-! PROOFS. Clock domains: PLLs, replica paths and changes of the job step (R371 to R377, R605). -/

namespace Sys2Proof.Machine
variable {s : State}

/-! ### PLLs (R371, R605) -/

section
variable {d : BitVec 5}

/-- R371: a PLL that loses lock is locking again, but for the retuning of a change; PX takes the PCIe link with it. -/
theorem pllLossOfLock_unlocks (hd : d.toNat < 25) (hl : s.pll d.toNat = .locked)
    (hc : d.toNat < 8 → s.clk.changing = false) : exec (.pllLossOfLock d) s =
      .next (if d.toNat = pxDomain then (s.setPll d.toNat .locking).linkDown else s.setPll d.toNat .locking) := by
  have hr : (Decidable.decide (d.toNat < 8) && s.clk.changing) = false := by simpa using hc
  simp [execPllLossOfLock, Nat.not_le.mpr hd, hl, hr]

theorem pllRelock_locks (hd : d.toNat < 25) (hl : s.pll d.toNat = .locking) (ns : Nat) : exec (.pllRelock d ns) s =
      .next (if d.toNat = pxDomain then s.setPll d.toNat .locked else (s.setPll d.toNat .locked).raise'
        { unit := clkUnit d.toNat, cause := 0x40, cls := .ce, detail := BitVec.ofNat 64 ns }) := by
  simp [execPllRelock, Nat.not_le.mpr hd, hl]

theorem pllLockTimeout_fails (hd : d.toNat < 25) (hl : s.pll d.toNat = .locking) :
    exec (.pllLockTimeout d) s = .next (s.pllFailed d.toNat) := by
  simp [execPllLockTimeout, hd, hl]

theorem State.pllFailed_of_ne_px {n : Nat} (hn : n ≠ pxDomain) : s.pllFailed n =
    (s.setPll n .failed).raise' { unit := clkUnit n, cause := 0x41, cls := .fe } :=
  if_neg hn

end

theorem refclkLoss_fails (hd : s.pkg.dev = .thaw ∨ s.pkg.dev = .flow ∨ s.pkg.dev = .drift) :
    exec (.refclkLoss false) s = .next (s.pllFailed 0) := by
  have hl : (s.pkg.dev = .thaw || s.pkg.dev = .flow || s.pkg.dev = .drift) = true := by simpa [or_assoc] using hd
  simp [execRefclkLoss, hl]

/-! ### Replica paths (R377) -/

section
variable {t : BitVec 2}

/-- R377: a warning counts where none has counted on its stack for 1 ms. -/
theorem replicaWarn_counts (h : ∀ w, RF.at s.clk.warnMs t = some w → msU 1 ≤ (s.now - w).toNat) :
    exec (.replicaWarn t) s = .next (s.onClk (fun c => { c with
      warn := RF.put c.warn t true, warnMs := RF.put c.warnMs t (some s.now), marginWarn := satInc c.marginWarn })) := by
  cases hw : RF.at s.clk.warnMs t with
  | none => simp [execReplicaWarn, hw]
  | some w => simp only [exec_replicaWarn, execReplicaWarn, hw, decide_eq_true (h w hw), if_true]

theorem replicaWarn_silent {w : W64} (hw : RF.at s.clk.warnMs t = some w) (h : (s.now - w).toNat < msU 1) :
    exec (.replicaWarn t) s = .next (s.onClk (fun c => { c with warn := RF.put c.warn t true })) := by
  have hn : Decidable.decide (msU 1 ≤ (s.now - w).toNat) = false := decide_eq_false (Nat.not_le.mpr h)
  simp only [exec_replicaWarn, execReplicaWarn, hw, hn, Bool.false_eq_true, if_false]

theorem replicaAlarm_begins (ha : RF.at s.clk.alarm t = false) : exec (.replicaAlarm t) s =
    .next (s.onClk (fun c => { c with
      alarm := RF.put c.alarm t true, alarmAt := RF.put c.alarmAt t s.now, marginAlarm := satInc c.marginAlarm })) := by
  simp [execReplicaAlarm, ha]

theorem replicaAlarmEnd_ends (ha : RF.at s.clk.alarm t = true) : ∃ u, exec (.replicaAlarmEnd t) s = .next u ∧
    RF.at u.clk.alarm t = false ∧ u.clk.marginAlarm = s.clk.marginAlarm ∧
    (RF.at u.clk.alarmPast t).getLast? = some (RF.at s.clk.alarmAt t, s.now) := by
  simp [execReplicaAlarmEnd, ha]

end

/-! ### Announcements and answers (R373, R375) -/

section
variable {src : BudgetFrom} {m : Nat} {b : List Byte} {u : State}

theorem freqAnnounce_answers (hu : s.coreUp 3 = true) (hd : s.pkg.dev = .flow ∨ s.pkg.dev = .drift)
    (ht : s.takeBudget src 0x01 = (some (m, b), u)) : exec (.freqAnnounce src) s =
      .next ((u.announced b).2.2.sendBudget m
        ([0x02] ++ natLE 1 (u.announced b).2.1 ++ (b.drop 2).take 14 ++ natLE 1 (u.announced b).1)) := by
  have hl : (s.pkg.dev = .flow || s.pkg.dev = .drift) = true := by simpa using hd
  rw [exec_freqAnnounce, execFreqAnnounce, if_neg (by simp [hu, hl]), ht]

theorem freqAck_records (hu : s.coreUp 3 = true) (ht : s.takeBudget src 0x02 = (some (m, b), u))
    (hq : BitVec.ofNat 16 (fld b 2 2) = u.pow.freqSeq) : exec (.freqAck src) s =
      .next (u.onPow (fun p => { p with acks := SMap.set 0 p.acks m (fld b 16 1 + 1) })) := by
  simp only [exec_freqAck, execFreqAck, hu, Bool.true_eq_false, if_false, ht, hq, if_true]

end

/-! ### The change itself (R374) -/

section
variable {f : FreqChange} (hp : s.clk.pending = some f)
include hp

/-- R374 step 3: a raise commands its supply. -/
theorem freqSupplyCommand_raises (hs : f.supplied = false) (hj : s.clk.jobStep < f.step) : exec .freqSupplyCommand s =
    .next ((s.setVddAll f.step).onClk (fun c => { c with pending := some { f with supplied := true } })) := by
  simp [execFreqSupplyCommand, hp, hs, Nat.not_le.mpr hj]

/-- R374 step 4: a change begins, a raise once its supply has been commanded. -/
theorem freqChangeStart_begins (hc : s.clk.changing = false) (h : f.step ≤ s.clk.jobStep ∨ f.supplied = true) :
    exec .freqChangeStart s = .next (s.onClk (fun c => { c with changing := true, toStep := f.step })) := by
  have hw : (Decidable.decide (s.clk.jobStep < f.step) && !f.supplied) = false := by
    rcases h with h | h
    · rw [decide_eq_false (Nat.not_lt.mpr h), Bool.false_and]
    · rw [h, Bool.not_true, Bool.and_false]
  simp [execFreqChangeStart, hp, hc, hw]

end

/-- R374 step 6, R423: the new step runs, and LOW_RUN starts again on every member. -/
def State.stepRuns (s : State) : State :=
  (s.onClk (fun c =>
    { c with changing := false, pending := none, jobStep := s.clk.toStep, freqChanges := satInc c.freqChanges })).onPow (fun p =>
    { p with lowRun := 0, reports := p.reports.map (fun r => (r.1, r.2.map (fun m => { m with lowRun := 0 }))) })

theorem freqChangeEnd_runs (hc : s.clk.changing = true) (hl : s.cal.pendingLimit = none) : exec .freqChangeEnd s =
    .next (if s.clk.toStep < s.clk.jobStep then s.stepRuns.setVddAll s.clk.toStep else s.stepRuns) := by
  simp only [exec_freqChangeEnd, execFreqChangeEnd, hc, State.onPow_cal, State.onClk_cal, hl, State.stepRuns]
  rfl

/-- R374: the step that runs, the change under way or pending, the count of changes, and LOW_RUN. -/
def State.stepMarks (s : State) : Nat × Bool × Option FreqChange × W32 × Nat :=
  (s.clk.jobStep, s.clk.changing, s.clk.pending, s.clk.freqChanges, s.pow.lowRun)

@[simp] theorem State.setVddAll_stepMarks (s : State) (n : Nat) : (s.setVddAll n).stepMarks = s.stepMarks :=
  foldl_keeps State.stepMarks (f := fun s t => s.setVdd t n) (fun _ _ => rfl) _ s

/-- R374 step 6: a lowered supply moves after the new step runs, and leaves it running. -/
theorem freqChangeEnd_ends (hc : s.clk.changing = true) (hl : s.cal.pendingLimit = none) :
    ∃ u, exec .freqChangeEnd s = .next u ∧ u.clk.jobStep = s.clk.toStep ∧ u.clk.changing = false ∧ u.clk.pending = none ∧
      u.clk.freqChanges = satInc s.clk.freqChanges ∧ u.pow.lowRun = 0 := by
  refine ⟨_, freqChangeEnd_runs hc hl, ?_⟩
  have hm : (if s.clk.toStep < s.clk.jobStep then s.stepRuns.setVddAll s.clk.toStep else s.stepRuns).stepMarks =
      (s.clk.toStep, false, none, satInc s.clk.freqChanges, 0) := by
    rw [apply_ite State.stepMarks, State.setVddAll_stepMarks, ite_self]
    rfl
  simpa only [State.stepMarks, Prod.mk.injEq] using hm

end Sys2Proof.Machine

open Sys2Proof Machine Claims

/-- Settles O37, one lemma for each command; PX is the domain whose PLL takes the PCIe link with it. -/
theorem clockDomains : Obligations.ClockDomains := by
  unfold Obligations.ClockDomains
  intro s d t
  refine ⟨fun hd => ?_, fun hl => pllLossOfLock_unlocks (d := 21) (by decide) hl (fun h => absurd h (by decide)),
    fun hl => ⟨pllRelock_locks (d := 21) (by decide) hl, pllLockTimeout_fails (d := 21) (by decide) hl⟩, rfl,
    refclkLoss_fails, replicaWarn_counts, fun w => replicaWarn_silent, rfl, replicaAlarm_begins, replicaAlarmEnd_ends,
    fun hu hd => ⟨fun src dst b u => freqAnnounce_answers hu hd, fun src dst b u => freqAck_records hu⟩,
    fun f hp => ⟨freqSupplyCommand_raises hp, freqChangeStart_begins hp⟩, freqChangeEnd_ends⟩
  have hn : d.toNat < 25 := by omega
  have hx : d.toNat ≠ pxDomain := by
    unfold pxDomain
    omega
  refine ⟨fun hl hc => ?_, fun hl => ⟨fun ns => ?_, ?_⟩⟩
  · rw [pllLossOfLock_unlocks hn hl hc, if_neg hx]
  · rw [pllRelock_locks hn hl, if_neg hx]
  · rw [pllLockTimeout_fails hn hl, State.pllFailed_of_ne_px hx]

end

section
/-! PROOFS. Fabric time: exchanges, trims and the wrap (R378, R381, R384, R389). -/

namespace Sys2Proof.Machine
variable {s u : State} {h : SvcHdr}

/-! ### Exchanges (R381) -/

theorem timeExchangeSend_asks {q : BitVec 4} (hq : s.portUp q.toNat = true) :
    let port := { RF.at s.clk.ports q with t1A := some s.stamp0, t1B := some s.stamp0 }
    let u := s.onClk (fun c => { c with ports := RF.put c.ports q port })
    exec (.timeExchangeSend q) s = .next ((u.phoSend q.toNat false 0x40 .timeReq).phoSend q.toNat true 0x40 .timeReq) := by
  rw [exec_timeExchangeSend, execTimeExchangeSend, if_neg (by simp [hq])]
  rfl

theorem timeReq_answers (hs : s.svcIn h 0x40 [] = (true, u)) (turn : Nat) :
    exec (.timeReq h turn) s = .next (u.phoSend h.port.toNat h.fibreB 0x41
      (.timeResp u.ftime (u.ftime + BitVec.ofNat 64 turn) u.clk.ftState.code u.clk.hops)) :=
  State.onSvc_acts hs _

/-- R381: t1 of the exchange in progress on a fibre. -/
def PortTime.t1 (p : PortTime) (fibreB : Bool) : Option W64 := if fibreB then p.t1B else p.t1A

/-- R381: a port has its peer's hop count, and the exchange on a fibre has ended. -/
def PortTime.Ended (p : PortTime) (fibreB : Bool) (hops : Nat) : Prop := p.hops = hops ∧ p.t1 fibreB = none

/-- R381: a port without the offsets and the exchanges of the time before its device had fabric time. -/
def PortTime.cleared (p : PortTime) : PortTime := { p with a := none, b := none, t1A := none, t1B := none }

theorem PortTime.Ended.cleared {p : PortTime} {fibreB : Bool} {hops : Nat} (hp : p.Ended fibreB hops) :
    p.cleared.Ended fibreB hops :=
  ⟨hp.1, ite_self _⟩

@[simp] theorem RF.at_map {k : Nat} {α β : Type} (v : RF k α) (f : α → β) (i : BitVec k) :
    RF.at (v.map f) i = f (RF.at v i) := by
  simp [RF.at]

@[simp] theorem State.pickUpstream_ports (s : State) : s.pickUpstream.clk.ports = s.clk.ports := by
  unfold State.pickUpstream
  split
  · rfl
  · split <;> rfl

@[simp] theorem Clk.follow_ports (c : Clk) (off : Int) : (c.follow off).ports = c.ports := by
  unfold Clk.follow
  split
  · rfl
  · split <;> rfl

/-- R381: whatever the servo makes of its offset, an exchange that is answered ends, and its port has the peer's hop count. -/
theorem timeResp_ends {t1 t2 t3 : W64} {st hops : Nat} (hs : s.svcIn h 0x41 [] = (true, u))
    (ht : (RF.at u.clk.ports h.port).t1 h.fibreB = some t1) :
    ∃ v, exec (.timeResp h t2 t3 st hops) s = .next v ∧ (RF.at v.clk.ports h.port).Ended h.fibreB hops := by
  rw [PortTime.t1] at ht
  rw [exec_timeResp, execTimeResp, State.onSvc_acts hs]
  refine ⟨_, rfl, ?_⟩
  simp only [ht]
  generalize hp : (if h.fibreB = true then (_ : PortTime) else _) = p
  have he : p.Ended h.fibreB hops := by
    subst hp
    cases h.fibreB <;> exact ⟨rfl, rfl⟩
  split
  · split
    · split
      · simpa [PortTime.cleared] using he.cleared
      · simpa using he
    · simpa using he
  · simpa using he

theorem timeResp_ignored {t2 t3 : W64} {st hops : Nat} (hs : s.svcIn h 0x41 [] = (true, u))
    (ht : (RF.at u.clk.ports h.port).t1 h.fibreB = none) : exec (.timeResp h t2 t3 st hops) s = .next u := by
  rw [PortTime.t1] at ht
  simp only [exec_timeResp, execTimeResp, State.onSvc_acts hs, ht]

/-! ### Steps of time and of the trim (R378, R384) -/

/-- R384: an UNSET device adopts its upstream's time in one step. -/
theorem Clk.follow_unset {c : Clk} (hc : c.ftState = .unset) (off : Int) :
    (c.follow off).ftState = .acquiring ∧ (c.follow off).ft = c.ftLocal + BitVec.ofInt 64 off := by
  simp [Clk.follow, hc]

theorem trimStep_near (old new : Int) : trimStep old new ≤ old + 429 ∧ old ≤ trimStep old new + 429 := by
  unfold trimStep
  split
  · omega
  · split <;> omega

theorem fabricTimeWrap_counts (hs : s.clk.ftState ≠ .unset) :
    exec .fabricTimeWrap s = .next (s.onClk (fun c => { c with wrapEpoch := c.wrapEpoch + 1 })) :=
  if_neg hs

end Sys2Proof.Machine

open Sys2Proof Machine Claims

/-- Settles O38, one lemma for each command and each rule of the servo. -/
theorem fabricTime : Obligations.FabricTime := by
  unfold Obligations.FabricTime
  intro s q
  exact ⟨timeExchangeSend_asks, fun h turn u hs => timeReq_answers hs turn,
    fun h t2 t3 st hops u hs => ⟨fun t1 ht => timeResp_ends hs ht, timeResp_ignored hs⟩,
    fun c off hc => Clk.follow_unset hc off, fun tb plls => ⟨_, rfl, trimStep_near s.clk.trim tb⟩, fabricTimeWrap_counts⟩

end

section
/-! PROOFS. Power: budgets, the limiter, sensors and their suspicion, thermal stepping, the trip and the cap (R397 to R431). -/

namespace Sys2Proof.Machine
open Claims
variable {s u : State} {t : BitVec 2} {sensor : Nat} {median : Int}

/-! ### Stacks, limits and raises -/

@[simp] theorem State.onStk_stk (s : State) (t : BitVec 2) (f : StackPow → StackPow) : (s.onStk t f).stk t = f (s.stk t) :=
  RF.at_put_same _ t _

theorem State.onStk_stk_other {k : BitVec 2} (h : k ≠ t) (f : StackPow → StackPow) : (s.onStk t f).stk k = s.stk k :=
  RF.at_put_other _ t k _ h

@[simp] theorem State.onStk_trip (s : State) (t : BitVec 2) (f : StackPow → StackPow) : (s.onStk t f).pow.trip = s.pow.trip := rfl
@[simp] theorem State.setH_stk (s : State) (h v : Nat) (t : BitVec 2) : (s.setH h v).stk t = s.stk t := rfl
@[simp] theorem State.setH_trip (s : State) (h v : Nat) : (s.setH h v).pow.trip = s.pow.trip := rfl
@[simp] theorem State.tellLimits_trip (s : State) : s.tellLimits.pow.trip = s.pow.trip := rfl

@[simp] theorem State.raise'_pow (s : State) (r : Raise) : (s.raise' r).pow = s.pow := (congrArg State.pow (s.raise'_still r) :)
@[simp] theorem State.raise'_pins (s : State) (r : Raise) : (s.raise' r).pins = s.pins := (congrArg State.pins (s.raise'_still r) :)

theorem State.stk_of_pow {v w : State} (h : v.pow = w.pow) (t : BitVec 2) : v.stk t = w.stk t :=
  congrArg (fun p : Power => RF.at p.stks t) h

@[simp] theorem State.raise'_stk (s : State) (r : Raise) (t : BitVec 2) : (s.raise' r).stk t = s.stk t :=
  State.stk_of_pow (s.raise'_pow r) t

theorem mem_fourStacks (t : BitVec 2) : t ∈ fourStacks := by
  revert t
  decide

theorem NSet.length_add {k : Nat} : ∀ {m : NSet}, k ∉ m → (NSet.add k m).length = m.length + 1
  | [], _ => rfl
  | a :: m, h => by
    obtain ⟨ha, hm⟩ : k ≠ a ∧ k ∉ m := by simpa using h
    unfold NSet.add
    by_cases hlt : k < a
    · simp [hlt]
    · simp [hlt, ha, NSet.length_add hm]

/-- R431: a meaning of power control ends with ALERT_N at the level of its result. -/
theorem State.withAlert_eq (s : State) (f : State → State) : s.withAlert f = .next (alerted s (f s)) := rfl

/-! ### Budgets (R402 to R404, R429) -/

theorem budgetCycle_sends (hc : s.coreUp 3 = true) (hd : s.pkg.dev ≠ .icebound) (fixed power : Nat) :
    let u := s.onPow (fun p => { p with pwrNow := power })
    exec (.budgetCycle fixed power) s = .next (u.onPow (fun p => { p with pool := 980 * u.capE - fixed })).sendBudgets := by
  simp only [exec_budgetCycle, execBudgetCycle, hc, hd, State.poolOf, Bool.true_eq_false, decide_false, Bool.or_self,
    Bool.false_eq_true, if_false]

theorem stackBudgetReceive_takes {mw pool : Nat} (hf : s.pow.fallback = false) (hs : (s.stk t).sent = some (mw, pool)) :
    exec (.stackBudgetReceive t) s =
      .next ((s.onStk t (fun k => { k with budget := mw, lastPool := pool, sent := none })).returnStack t) := by
  simp [execStackBudgetReceive, hs, hf]

theorem stackBudgetReceive_frozen (hf : s.pow.fallback = true) : exec (.stackBudgetReceive t) s = .next s := by
  simp only [exec_stackBudgetReceive, execStackBudgetReceive, hf, if_true]
  split <;> rfl

theorem stackBudgetTimeout_quarters (hf : s.pow.fallback = false) :
    exec (.stackBudgetTimeout t) s = .next (s.onStk t (fun k => { k with budget := k.lastPool / 4 })) := by
  simp [execStackBudgetTimeout, hf]

theorem stackBudgetTimeout_frozen (hf : s.pow.fallback = true) : exec (.stackBudgetTimeout t) s = .next s :=
  if_pos hf

/-! ### The limiter and the stack rule (R398, R410, R413) -/

theorem limiterLoopStep_moves (power : Nat) : ∃ u, exec (.limiterLoopStep t power) s = .next u ∧
    (u.stk t).k = (s.stk t).nextK s.kClamp power ∧ (u.stk t).power = power ∧ (u.stk t).budget = (s.stk t).budget := by
  refine ⟨_, rfl, ?_⟩
  simp

theorem stackRuleEval_samples (smp : Samples) : ∃ u, exec (.stackRuleEval t smp) s = .next (alerted s u) ∧
    (u.stk t).floeHist = (smp.floe :: (s.stk t).floeHist).take 11 := by
  rw [exec_stackRuleEval, execStackRuleEval, State.withAlert_eq]
  exact ⟨_, rfl, by rw [State.onStk_stk]⟩

/-! ### Suspect sensors (R415, R416, R418) -/

section
variable (hm : (s.stk t).median sensor = some median) (hr : 96 < (sampleOf (s.stk t).last sensor - median).natAbs)
  (hs : (s.stk t).suspects sensor = false)

/-- R415: the sensor is marked, and its CE carries the median and the reading. -/
def State.suspected (s : State) (t : BitVec 2) (sensor : Nat) (median : Int) : State :=
  (s.onStk t (fun k => k.mark sensor)).raise'
    { unit := sensorUnit t sensor, cause := 0x50, cls := .ce,
      detail := BitVec.ofInt 32 median ++ BitVec.ofInt 32 (sampleOf (s.stk t).last sensor) }

@[simp] theorem State.suspected_stk : (s.suspected t sensor median).stk t = (s.stk t).mark sensor := by
  simp [State.suspected]

include hm hr hs in
theorem sensorSuspect_firn (hl : 64 ≤ sensor) (hu : sensor < 80) (hf : (s.stk t).firnSuspect = false) :
    exec (.sensorSuspect t sensor) s = .next (alerted s (s.suspected t sensor median)) := by
  have h98 : ¬ 98 ≤ sensor := by omega
  have h64 : ¬ sensor < 64 := by omega
  have h80 : ¬ 80 ≤ sensor := by omega
  simp [execSensorSuspect, hm, hs, hf, h98, h64, h80, Nat.not_le.mpr hr, State.withAlert_eq, State.suspected]

/-- R416: where fewer than half of a die's sensors are trusted for the first time, L is clamped. -/
theorem State.sensorsLow_clamps {die now total was : Nat} (hn : now * 2 < total) (hw : total ≤ was * 2) :
    ((s.sensorsLow t die now total was).stk t).halfClamp = true ∧ ((s.sensorsLow t die now total was).stk t).l ≤ 50 := by
  have hc : (now * 2 < total && total ≤ was * 2) = true := by simp only [hn, hw, decide_true, Bool.and_self]
  simp only [State.sensorsLow, hc, Bool.true_or, if_true, State.raise'_stk, State.onStk_stk]
  exact ⟨trivial, Nat.min_le_right _ _⟩

theorem StackPow.mark_floe {k : StackPow} (hl : 80 ≤ sensor) (hu : sensor < 96) (hs : k.suspects sensor = false) :
    (k.mark sensor).suspFloe.length = k.suspFloe.length + 1 := by
  have h64 : ¬ sensor < 64 := by omega
  have h80 : ¬ sensor < 80 := by omega
  have hn : sensor - 80 ∉ k.suspFloe := by simpa [StackPow.suspects, h64, h80, hu] using hs
  simp [StackPow.mark, h64, h80, hu, NSet.length_add hn]

include hm hr hs in
theorem sensorSuspect_floe (hl : 80 ≤ sensor) (hu : sensor < 96) :
    exec (.sensorSuspect t sensor) s = .next (alerted s ((s.suspected t sensor median).sensorsLow t 0
      (16 - ((s.stk t).suspFloe.length + 1)) 16 (16 - (s.stk t).suspFloe.length))) := by
  have h98 : ¬ 98 ≤ sensor := by omega
  have h64 : ¬ sensor < 64 := by omega
  have h80 : ¬ sensor < 80 := by omega
  rw [← StackPow.mark_floe hl hu hs, ← State.suspected_stk (median := median)]
  simp only [exec_sensorSuspect, execSensorSuspect, hm, hs, h98, h64, h80, hl, hu, Nat.not_le.mpr hr, State.withAlert_eq,
    State.suspected, decide_true, decide_false, Bool.false_and, Bool.and_false, Bool.and_true, Bool.or_self, Bool.false_eq_true,
    if_true, if_false]

include hm hr hs in
theorem sensorSuspect_ninth (hl : 80 ≤ sensor) (hu : sensor < 96) (h8 : (s.stk t).suspFloe.length = 8) :
    ∃ u, exec (.sensorSuspect t sensor) s = .next (alerted s u) ∧ (u.stk t).halfClamp = true ∧ (u.stk t).l ≤ 50 :=
  ⟨_, sensorSuspect_floe hm hr hs hl hu, State.sensorsLow_clamps (by omega) (by omega)⟩

end

theorem firnSensorsSuspect_clamps (hf : (s.stk t).firnSuspect = false)
    (ha : ∃ j, j < 16 ∧ 128 < s.inferred t (s.stk t).last j - (s.stk t).last.firn.getD j 0) :
    ∃ u, exec (.firnSensorsSuspect t) s = .next (alerted s u) ∧
      (u.stk t).firnSuspect = true ∧ (u.stk t).g ≤ 75 ∧ (u.stk t).l ≤ 80 := by
  obtain ⟨j, hj, hv⟩ := ha
  have hany : (List.range 16).any (fun j => 128 < s.inferred t (s.stk t).last j - (s.stk t).last.firn.getD j 0) = true :=
    List.any_eq_true.mpr ⟨j, List.mem_range.mpr hj, decide_eq_true hv⟩
  rw [exec_firnSensorsSuspect, execFirnSensorsSuspect, if_neg (by simp only [hf, hany, Bool.true_or, Bool.not_true, Bool.or_self, Bool.false_eq_true, not_false_eq_true]), State.withAlert_eq]
  refine ⟨_, rfl, ?_⟩
  simp only [State.raise'_stk, State.onStk_stk]
  exact ⟨trivial, Nat.min_le_right _ _, Nat.min_le_right _ _⟩

/-! ### Thermal stepping and the trip (R411, R430) -/

/-- R411: each start of a fall from 100 % counts, and touches the trip no more than the limits do. -/
theorem State.fallCount_trip (s : State) (old new : Nat) :
    (if old = 100 && new < 100 then s.onPow (fun p => { p with throttleEvents := satInc p.throttleEvents }) else s).pow.trip =
      s.pow.trip := by
  split <;> rfl

theorem thermalStepping_keepsTrip : ∃ u, exec .thermalStepping s = .next (alerted s u) ∧ u.pow.trip = s.pow.trip := by
  rw [exec_thermalStepping, execThermalStepping, State.withAlert_eq]
  refine ⟨_, rfl, ?_⟩
  simp only [State.tellLimits_trip]
  rw [foldl_keeps (fun s : State => s.pow.trip), foldl_keeps (fun s : State => s.pow.trip)]
  · intro v t
    simp only [State.fallCount_trip, State.onStk_trip]
  · intro v h
    split
    · rfl
    · rw [State.fallCount_trip, State.setH_trip]

/-- A fold over stacks that gives each the same G. -/
theorem State.foldl_onStk_g {f : StackPow → StackPow} {v : Nat} (hf : ∀ k, (f k).g = v) :
    ∀ (l : List (BitVec 2)) (s : State), t ∈ l ∨ (s.stk t).g = v → ((l.foldl (fun s k => s.onStk k f) s).stk t).g = v
  | [], _, h => h.resolve_left List.not_mem_nil
  | a :: l, s, h => by
    refine State.foldl_onStk_g hf l _ ?_
    by_cases ha : t = a
    · subst ha
      exact .inr (by rw [State.onStk_stk, hf])
    · rw [State.onStk_stk_other ha]
      exact h.imp_left (List.mem_of_ne_of_mem ha)

theorem State.foldl_setH_stk (s : State) (v : Nat) (l : List Nat) (t : BitVec 2) :
    (l.foldl (fun s h => s.setH h v) s).stk t = s.stk t :=
  foldl_keeps (fun s : State => s.stk t) (f := fun s h => s.setH h v) (fun u h => u.setH_stk h v t) l s

/-- R430: G and H at their lowest. -/
def State.gatesDown (s : State) : State :=
  (List.range 24).foldl (fun s h => s.setH h 25) (fourStacks.foldl (fun s t => s.onStk t (fun k => { k with g := 25 })) s)

theorem State.gatesDown_g (s : State) (t : BitVec 2) : (s.gatesDown.stk t).g = 25 := by
  rw [State.gatesDown, State.foldl_setH_stk]
  exact State.foldl_onStk_g (f := fun k => { k with g := 25 }) (fun _ => rfl) fourStacks s (.inl (mem_fourStacks t))

/-- R430: THERMTRIP_N is asserted. -/
def State.tripped (s : State) : State :=
  { s with pins := { s.pins with trip := true }, pow := { s.pow with trip := true } }.emit (.pin 12 true)

@[simp] theorem State.tripped_stk (s : State) (t : BitVec 2) : s.tripped.stk t = s.stk t := rfl
@[simp] theorem State.tripped_pins (s : State) : s.tripped.pins.trip = true := rfl
@[simp] theorem State.tripped_pow (s : State) : s.tripped.pow.trip = true := rfl

theorem thermalTrip_acts (hn : sensor < 104) (hl : tripLimit sensor ≤ s.tripValue t sensor) (ht : s.pow.trip = false)
    (hd : s.pkg.dev ≠ .cold) : exec (.thermalTrip t sensor) s = .next (alerted s (s.gatesDown.tripped.raise'
      { unit := sensorUnit t sensor, cause := 0x53, cls := .fe, detail := BitVec.ofInt 64 (s.tripValue t sensor) })) :=
by
  rw [exec_thermalTrip, execThermalTrip, if_neg (by simp [Nat.not_le.mpr hn, Int.not_lt.mpr hl, ht, hd]), State.withAlert_eq]
  rfl

theorem thermalTrip_trips (hn : sensor < 104) (hl : tripLimit sensor ≤ s.tripValue t sensor) (ht : s.pow.trip = false)
    (hd : s.pkg.dev ≠ .cold) : ∃ u, exec (.thermalTrip t sensor) s = .next (alerted s u) ∧ u.pins.trip = true ∧
      u.pow.trip = true ∧ (u.stk t).g = 25 :=
  ⟨_, thermalTrip_acts hn hl ht hd, by simp, by simp, by simp [State.gatesDown_g]⟩

/-! ### The cap (R406) -/

theorem capUnreachableSet_sets (hk : ∀ k : BitVec 2, (s.stk k).k = 0) (hp : 102 * s.capE < 100 * s.pow.pwrNow) :
    exec .capUnreachableSet s = .next (alerted s (s.onPow (fun p => { p with capUnreach := true }))) := by
  simp [execCapUnreachableSet, hk, hp, State.withAlert_eq]

theorem capUnreachableClear_clears (hp : s.pow.pwrNow ≤ s.capE) :
    exec .capUnreachableClear s = .next (alerted s (s.onPow (fun p => { p with capUnreach := false }))) :=
  if_pos hp

/-! ### Reports that move nothing (R424) -/

theorem limitReport_records {src : BudgetFrom} {d : Nat} {b : List Byte} (hc : s.coreUp 3 = true)
    (hb : s.takeBudget src 0x03 = (some (d, b), u)) (hj : BitVec.ofNat 32 (fld b 4 4) = u.jobId)
    (hd : u.members.contains d = true) :
    let v := u.onPow (fun p =>
      { p with reports := SMap.set none p.reports d (some (MemberRep.ofPayload b (SMap.get none p.reports d) u.now)) })
    v.mayAnnounce = false → exec (.limitReport src) s = .next v := by
  intro v hv
  simp only [exec_limitReport, execLimitReport, hc, hb, hj, hd, bne_self_eq_false, Bool.not_true, Bool.or_self, Bool.true_eq_false,
    Bool.false_eq_true, if_false]
  exact if_pos (by rw [hv]; rfl)

end Sys2Proof.Machine

open Sys2Proof Machine Claims

/-- Settles O39, one lemma for each command and each of its conditions. -/
theorem powerControl : Obligations.PowerControl := by
  unfold Obligations.PowerControl
  intro s t
  exact ⟨budgetCycle_sends, fun hf => ⟨fun mw pool => stackBudgetReceive_takes hf, stackBudgetTimeout_quarters hf⟩,
    fun hf => ⟨stackBudgetReceive_frozen hf, stackBudgetTimeout_frozen hf⟩, limiterLoopStep_moves, stackRuleEval_samples,
    fun sensor median hm hr hs => ⟨sensorSuspect_firn hm hr hs, sensorSuspect_ninth hm hr hs⟩,
    firnSensorsSuspect_clamps, thermalStepping_keepsTrip, fun sensor => thermalTrip_trips,
    capUnreachableSet_sets, capUnreachableClear_clears, fun src d b u => limitReport_records⟩

end

section
/-! PROOFS. Failures of cores, the scheduler lease, and the restart of a core (R456 to R463). -/

namespace Sys2Proof.Machine
open Claims
variable {s : State}

/-! ### What N0's writing of messages keeps (R443, R448) -/

/-- What the writing of one message keeps, the writing of those that are due keeps. -/
theorem d2hPump_keeps {γ : Type} (v : State → γ) (h : ∀ s x, v (State.d2hWrite s x) = v s) :
    ∀ (n : Nat) (s : State), v (d2hPump n s) = v s
  | 0, _ => rfl
  | n + 1, s => by
    unfold d2hPump
    split
    · rfl
    · split
      · rw [d2hPump_keeps v h n, h]
      · rfl

@[simp] theorem State.msgIrqDue_lease : s.msgIrqDue.firm.lease = s.firm.lease := by
  unfold State.msgIrqDue
  dsimp only
  split <;> rfl

@[simp] theorem State.pump_lease : s.pump.firm.lease = s.firm.lease := by
  unfold State.pump
  split
  · exact d2hPump_keeps (fun s => s.firm.lease) (fun s x => State.msgIrqDue_lease) 64 s
  · rfl

@[simp] theorem State.fwEvent_lease (event who : Nat) (gen : W32) : (s.fwEvent event who gen).firm.lease = s.firm.lease := by
  unfold State.fwEvent State.d2hEvent
  split
  · rfl
  · exact State.pump_lease

/-! ### A core fails, and comes back (R456, R457) -/

theorem State.armed_none (h : s.errs.inj = none) (unit : W16) (cause : Nat) : s.armed unit cause = false :=
  s.injects_none h unit _ 0 1

section
variable {n : BitVec 3} (cause : Byte) (hn : n.toNat < 6) (hr : (s.core n).st = .running ∨ (s.core n).st = .boot)
  (hl : s.firm.load.st = .done) (hi : s.errs.inj = none)

/-- R456: the failure is noted in its core. -/
def State.noteFail (s : State) (n : BitVec 3) (cause : Byte) : State :=
  s.onCore n (fun c => { c with lastCause := cause, lastFail := some s.now })

include hl hi in
/-- R456: once the firmware is loaded, the time since the last failure decides between a restart and FE. -/
theorem State.failCore_loaded : s.failCore n cause true =
    if (s.core n).lastFail.any (fun t => s.since t ≤ 10 * msU 1000) then
      (((s.noteFail n cause).onCore n (fun c => { c with st := .failed })).coreLost n).raise'
        { unit := coreUnit n.toNat, cause := 0x0061, cls := .fe, detail := cause.setWidth 64 }
    else ((s.noteFail n cause).restartCore n).raise'
      { unit := coreUnit n.toNat, cause := 0x0060, cls := .ce, detail := cause.setWidth 64 } := by
  have hu : (s.noteFail n cause).errs.inj = none := hi
  have hd : (s.noteFail n cause).firm.load.st = .done := hl
  rw [State.noteFail] at hu hd
  simp [State.failCore, State.noteFail, State.armed_none hu, hd]

include hn hr in
theorem coreFailure_fails (ok : Bool) : exec (.coreFailure n cause ok) s = .next (alerted s (s.failCore n cause ok)) := by
  rw [exec_coreFailure, execCoreFailure, if_neg (by rcases hr with h | h <;> simp [h, hn]), State.withAlert_eq]

include hn hr hl hi

theorem coreFailure_restarts (hf : (s.core n).lastFail = none) :
    exec (.coreFailure n cause true) s = .next (alerted s (((s.noteFail n cause).restartCore n).raise'
      { unit := coreUnit n.toNat, cause := 0x0060, cls := .ce, detail := cause.setWidth 64 })) := by
  rw [coreFailure_fails cause hn hr, State.failCore_loaded cause hl hi, hf]
  rfl

theorem coreFailure_second {t : W64} (hf : (s.core n).lastFail = some t) (ht : s.since t ≤ 10 * msU 1000) :
    exec (.coreFailure n cause true) s =
      .next (alerted s ((((s.noteFail n cause).onCore n (fun c => { c with st := .failed })).coreLost n).raise'
        { unit := coreUnit n.toNat, cause := 0x0061, cls := .fe, detail := cause.setWidth 64 })) := by
  rw [coreFailure_fails cause hn hr, State.failCore_loaded cause hl hi, hf, Option.any_some, if_pos (decide_eq_true ht)]

end

theorem coreRestartComplete_resumes {n : BitVec 3} (hr : (s.core n).st = .restarting) :
    let u := (s.onCore n (fun c => { c with st := .running })).measureCore n.toNat
    exec (.coreRestartComplete n) s =
      .next (alerted s ((u.fwEvent 1 n.toNat (if n.toNat < 2 then u.firm.lease.gen else 0)).coreBack n)) := by
  rw [exec_coreRestartComplete, execCoreRestartComplete, if_neg (by simp [hr]), State.withAlert_eq]

/-! ### The lease (R458 to R463) -/

theorem State.onLease_congr {f g : Lease → Lease} (h : f s.firm.lease = g s.firm.lease) : s.onLease f = s.onLease g := by
  simp only [State.onLease, h]

theorem State.newPrimary_lease (health : Health) :
    (s.newPrimary health).firm.lease.primaryN1 = !s.firm.lease.primaryN1 ∧
    (s.newPrimary health).firm.lease.gen = s.firm.lease.gen + 1 ∧ (s.newPrimary health).firm.lease.stopped = false :=
  ⟨rfl, rfl, rfl⟩

section
variable (hl : s.leaseRuns = true)
include hl

/-- R460, R462: the standby has the next generation, and the messages that it writes leave the lease as it has taken it. -/
theorem schedLeaseExpiry_takesOver (hh : s.firm.lease.health = .healthy) (hu : s.coreUp s.firm.lease.standby.toNat = true)
    (hi : s.errs.inj = none) : ∃ t, exec .schedLeaseExpiry s = .next t ∧
      t.firm.lease.primaryN1 = !s.firm.lease.primaryN1 ∧ t.firm.lease.gen = s.firm.lease.gen + 1 ∧ t.firm.lease.stopped = false := by
  simp only [exec_schedLeaseExpiry, execSchedLeaseExpiry, hl, hh, hu, State.armed_none hi, decide_true, Bool.and_self, Bool.not_true,
    Bool.not_false, Bool.false_eq_true, if_false, if_true]
  refine ⟨_, rfl, ?_⟩
  rw [State.pump_lease, State.fwEvent_lease]
  exact State.newPrimary_lease _

theorem schedLeaseExpiry_raises (hh : s.firm.lease.health ≠ .healthy) :
    exec .schedLeaseExpiry s = .next ((s.onLease (fun l => { l with stopped := true })).raise'
      { unit := leaseUnit, cause := 0x0064, cls := .fe, detail := s.firm.lease.gen.setWidth 64 }) := by
  simp [execSchedLeaseExpiry, hl, hh]

variable (hu : s.coreUp s.firm.lease.standby.toNat = true)
include hu

theorem schedJournalRecord_keeps (rcd : List Byte) : exec (.schedJournalRecord rcd) s =
    .next (s.onLease (fun l => { l with journal := l.journal ++ [rcd] })) := by
  simp [execSchedJournalRecord, hl, hu]

/-- R461: a copy whose replay agrees leaves a HEALTHY standby HEALTHY. -/
theorem schedStateCopy_agrees (hh : s.firm.lease.health = .healthy) (hi : s.errs.inj = none) :
    exec (.schedStateCopy true) s = .next (s.onLease (fun l =>
      { l with copyCycle := s.sched.cycle, journal := [], run := 0, health := .healthy })) := by
  have ha (f : Lease → Lease) : (s.onLease f).armed leaseUnit 0x63 = false := State.armed_none hi _ _
  simp only [exec_schedStateCopy, execSchedStateCopy, hl, hu, ha, Bool.not_true, Bool.not_false, Bool.and_self, Bool.or_self,
    decide_false, Bool.true_eq_false, Bool.false_eq_true, if_true, if_false, State.onLease_onLease]
  refine congrArg _ (State.onLease_congr ?_)
  simp [hh]

end

theorem schedHandoverCopy_starts (hh : s.firm.lease.handover = true) (hu : s.coreUp s.firm.lease.standby.toNat = true) :
    exec .schedHandoverCopy s = .next (s.newPrimary .healthy).pump := by
  simp [execSchedHandoverCopy, hh, hu]

end Sys2Proof.Machine

open Sys2Proof Machine Claims

/-- Settles O34, one lemma for each command and each of its conditions. -/
theorem coresAndLease : Obligations.CoresAndLease := by
  unfold Obligations.CoresAndLease
  intro s
  exact ⟨fun n cause hn hr hl hi => ⟨coreFailure_restarts cause hn hr hl hi, fun t => coreFailure_second cause hn hr hl hi⟩, rfl,
    fun hl => ⟨schedLeaseExpiry_takesOver hl, schedLeaseExpiry_raises hl,
      fun hu => ⟨schedJournalRecord_keeps hl hu, schedStateCopy_agrees hl hu⟩⟩,
    schedHandoverCopy_starts, fun n => coreRestartComplete_resumes⟩

end

section
/-! PROOFS. The role of the domain manager: liveness, claims, renewals and copies (R464 to R471). -/

namespace Sys2Proof.Machine
variable {s u : State} {h : SvcHdr} {b : List Byte}

/-! ### Liveness (R469) -/

theorem mgmtSilentTimeout_marks {d : BitVec 6} (hu : s.dmUp = true) (hn : s.neighbours.contains d.toNat = true) :
    exec (.mgmtSilentTimeout d) s = .next (s.onDm (fun m => { m with mgmtSilent := m.mgmtSilent ||| (1#64 <<< d.toNat) })) :=
  if_pos (by rw [hu, hn, Bool.and_self])

theorem mgmtAlive_clears (hs : s.svcIn h 0x50 b = (true, u)) (hn : u.neighbours.contains h.src.toNat = true)
    (hu : u.coreUp 2 = true) : exec (.mgmtAlive h b) s = .next (u.onDm (fun m => { m with
      mgmtSilent := m.mgmtSilent &&& ~~~(1#64 <<< h.src.toNat)
      aliveAt := SMap.set none m.aliveAt h.src.toNat (some u.now) })) := by
  rw [exec_mgmtAlive, execMgmtAlive, State.onSvc_acts hs, if_pos (by rw [hn, hu, Bool.and_self])]

/-! ### The holder (R465 to R467) -/

theorem dmRenewSend_renews (hh : s.isHolder = true) : exec .dmRenewSend s = .next s.renew := if_pos hh

theorem dmMgmtCycle_copies (hh : s.isHolder = true) : exec .dmMgmtCycle s = .next (s.sendCopy ((s.dmList.drop 1).take 3)) :=
  if_pos hh

/-- R467: a swap waits for the route update that is pending. -/
theorem dmSwapPeriodExpire_waits (hh : s.isHolder = true) (hp : s.firm.dm.sending ≠ none) :
    exec .dmSwapPeriodExpire s = .next (s.onDm (fun m => { m with swapDue := true })) := by
  simp [execDmSwapPeriodExpire, State.giveRole, hh, Option.isSome_iff_ne_none.mpr hp]

theorem dmHolderExpiry_loses (hr : s.firm.dm.role = .holder) : exec .dmHolderExpiry s =
    .next (s.onDm (fun m => { m with role := .standby, sending := none, swapDue := false })).timeHoldover :=
  if_pos hr

/-- R316, R465: the acknowledgement of a device that is not LOST readmits nobody. -/
theorem dmRenewAck_counts (hs : s.svcIn h 0x63 b = (true, u)) (hh : u.isHolder = true)
    (hg : BitVec.ofNat 32 (fld b 0 4) = u.firm.dm.gen) (ht : u.since u.firm.dm.renewSent ≤ msU 1)
    (hm : u.mode h.src.toNat ≠ modeLost) : ∃ t, exec (.dmRenewAck h b) s = .next t ∧
      t.firm.dm.renewAcks = NSet.add h.src.toNat u.firm.dm.renewAcks := by
  have hk (f : Dm → Dm) : (u.onDm f).mode h.src.toNat ≠ modeLost := hm
  rw [exec_dmRenewAck, execDmRenewAck, State.onSvc_acts hs]
  simp [hh, hg, ht, hk]

theorem dmCopyReport_records (hs : s.svcIn h 0x65 b = (true, u)) (hh : u.isHolder = true)
    (hg : BitVec.ofNat 32 (fld b 0 4) = u.firm.dm.gen) :
    let i := (u.dmList.takeWhile (· != h.src.toNat)).length
    1 ≤ i → i < u.dmList.length → i ≤ 3 → exec (.dmCopyReport h b) s =
      .next (u.onDm (fun m => { m with health := putAt m.health (i - 1) [BitVec.ofNat 8 (fld b 8 1)] })) := by
  intro i h1 hl h3
  rw [exec_dmCopyReport, execDmCopyReport, State.onSvc_acts hs]
  exact congrArg _ (if_pos (by simp [hh, hg, i, h1, hl, h3]))

/-! ### Claims (R464, R465) -/

/-- R464: a claim that is not newer than the generation seen is answered NACK_NEWER, and nothing else changes. -/
theorem dmClaim_refuses (hs : s.svcIn h 0x60 b = (true, u)) (hu : u.dmUp = true) :
    let gen := BitVec.ofNat 32 (fld b 0 4)
    let who := fld b 4 1 % 64
    u.claimAnswer gen who = 1 → exec (.dmClaim h b) s =
      .next (u.svcDev who 0x61 (natLE 4 gen.toNat ++ natLE 1 1 ++ [0, 0, 0] ++ natLE 4 u.firm.dm.seenGen.toNat)) := by
  intro gen who ha
  rw [exec_dmClaim, execDmClaim, State.onSvc_acts hs]
  simp only [hu, ha, gen, who]
  rfl

section
variable {c : DmClaimSt} (hs : s.svcIn h 0x61 b = (true, u)) (hu : u.dmUp = true) (hc : u.firm.dm.claim = some c)
  (hg : c.gen = BitVec.ofNat 32 (fld b 0 4)) (ha : fld b 4 1 = 0) (ht : u.since c.sentAt ≤ msU 1)
include hs hu hc hg ha ht

/-- R464: an acknowledgement in time counts towards the quorum. -/
theorem dmAck_counts : exec (.dmAck h b) s = .next (
    if u.quorum ≤ (NSet.add h.src.toNat c.acks).length then u.takeRole c.gen
    else u.onDm (fun m => { m with claim := some { c with acks := NSet.add h.src.toNat c.acks } })) := by
  rw [exec_dmAck, execDmAck, State.onSvc_acts hs]
  simp [hc, hu, ← hg, ha, ht]

theorem dmAck_takesRole (hq : u.quorum ≤ (NSet.add h.src.toNat c.acks).length) :
    exec (.dmAck h b) s = .next (u.takeRole c.gen) := by
  rw [dmAck_counts hs hu hc hg ha ht, if_pos hq]

theorem dmAck_waits (hq : (NSet.add h.src.toNat c.acks).length < u.quorum) :
    exec (.dmAck h b) s = .next (u.onDm (fun m => { m with claim := some { c with acks := NSet.add h.src.toNat c.acks } })) := by
  rw [dmAck_counts hs hu hc hg ha ht, if_neg (Nat.not_le.mpr hq)]

end

/-! ### A standby (R465, R466, R468) -/

theorem dmRenew_hears (hs : s.svcIn h 0x62 b = (true, u)) (hu : u.dmUp = true) (hr : u.firm.dm.role ≠ .holder) :
    let gen := BitVec.ofNat 32 (fld b 0 4)
    serBefore gen u.firm.dm.seenGen = false →
    exec (.dmRenew h b) s = .next (u.hearRenew gen (fld b 4 1 % 64) ((fld b 5 1).testBit 0)) := by
  intro gen hg
  rw [exec_dmRenew, execDmRenew, State.onSvc_acts hs]
  simp [hu, hr, gen, hg]

/-- R473: the copy that a message begins, with the one segment that it brings. -/
def DmCopy.begun (b : List Byte) (now : W64) : DmCopy :=
  ⟨BitVec.ofNat 32 (fld b 0 4), BitVec.ofNat 32 (fld b 4 4), fld b 10 2, SMap.set [] [] (fld b 8 2) ((b.drop 16).take 96), now⟩

theorem dmCopy_stores (hs : s.svcIn h 0x64 b = (true, u)) (hu : u.dmUp = true) (hr : u.firm.dm.role = .standby)
    (hc : u.firm.dm.copyIn = none) (hg : serBefore (BitVec.ofNat 32 (fld b 0 4)) u.firm.dm.gen = false)
    (hw : (DmCopy.begun b u.now).whole = none) :
    exec (.dmCopy h b true) s = .next (u.onDm (fun m => { m with copyIn := some (.begun b u.now) })) := by
  rw [DmCopy.begun] at hw
  rw [exec_dmCopy, execDmCopy, State.onSvc_acts hs]
  simp [hu, hr, hc, hg, hw, DmCopy.begun]

end Sys2Proof.Machine

open Sys2Proof Machine Claims

/-- Settles O35, one lemma for each command and what the holder or a standby makes of it. -/
theorem domainManagerRole : Obligations.DomainManagerRole := by
  unfold Obligations.DomainManagerRole
  intro s
  exact ⟨fun hu => if_pos hu, fun d => mgmtSilentTimeout_marks, rfl,
    fun hh => ⟨dmRenewSend_renews hh, dmMgmtCycle_copies hh, dmSwapPeriodExpire_waits hh⟩, dmHolderExpiry_loses,
    fun h b u => mgmtAlive_clears, fun h b u => dmClaim_refuses,
    fun h b u c hs hu hc hg ha ht => ⟨dmAck_takesRole hs hu hc hg ha ht, dmAck_waits hs hu hc hg ha ht⟩,
    fun h b u => dmRenew_hears, fun h b u => dmRenewAck_counts, fun h b u => dmCopy_stores, fun h b u => dmCopyReport_records⟩

end

section
/-! PROOFS. Images, the key that N4 derives, fuse writes and SPDM (R440, R556 to R570). -/

namespace Sys2Proof.Machine
variable {s : State} {c : Nat} {ver : Byte}

/-! ### The image (R440, R558) -/

section
variable (ht : s.firm.load.lastTaken = true) (hl : s.firm.load.st = .loading)
  (hu : s.coreUp 4 = true ∨ (s.core 4).st = .boot) (ok : Bool)
include ht hl hu

/-- R440: N4 checks an image that it has taken whole. -/
theorem imageVerify_checks : exec (.imageVerify ok) s =
    .next ((s.imageCause s.firm.load.image ok).elim (s.acceptImage s.firm.load.image) s.loadRefused) := by
  have hg : (s.coreUp 4 = false && (s.core 4).st != .boot) = false := by
    rcases hu with hu | hu
    · rw [hu]
      rfl
    · rw [hu, bne_self_eq_false, Bool.and_false]
  simp only [exec_imageVerify, execImageVerify, ht, hl, hg, bne_self_eq_false, Bool.not_true, Bool.or_self,
    Bool.false_eq_true, if_false]
  cases s.imageCause s.firm.load.image ok <;> rfl

theorem imageVerify_refuses {x : Byte} (hx : s.imageCause s.firm.load.image ok = some x) :
    exec (.imageVerify ok) s = .next (s.loadRefused x) := by
  rw [imageVerify_checks ht hl hu, hx]
  rfl

theorem imageVerify_accepts (hx : s.imageCause s.firm.load.image ok = none) :
    exec (.imageVerify ok) s = .next (s.acceptImage s.firm.load.image) := by
  rw [imageVerify_checks ht hl hu, hx]
  rfl

end

/-! ### The key that N4 derives, and the fuses (R556, R565 to R567) -/

theorem aliasKeyReady_issues (hl : s.firm.load.st = .done) (hu : s.coreUp 4 = true) (ha : s.sec.aliasPub = []) :
    let pub := pubOf s.aliasSeed
    let cert := s.issueCert pub
    let u := { s with free := s.free + 1 }.onSec (fun x => { x with aliasPub := pub, certChain := s.slotChain cert })
    exec .aliasKeyReady s = .next (if s.mor.store = 1 then u.onSec (fun x => x.keepAlias pub cert) else u) :=
  if_neg (by simp [hl, hu, ha])

theorem fuseWriteComplete_writes {f : FuseWrite} (hf : s.sec.fuse = some f) :
    exec .fuseWriteComplete s = .next ((s.onSec (fun x => { x with fuse := none })).fuseDone f) := by
  simp only [exec_fuseWriteComplete, execFuseWriteComplete, hf]

/-! ### SPDM: a request reaches N4 (R568, R570, R571) -/

/-- R16, R568: the device is not COLD, and its PCIe link carries a request of connection 0. -/
def State.spdmReaches (s : State) (c : Nat) : Prop :=
  s.pkg.dev ≠ .cold ∧ s.pins.perst = false ∧ (c = 0 → s.pins.pcieUp = true)

theorem State.spdmIn_counts (hr : s.spdmReaches c) (f : State → State) : s.spdmIn c f = .next (f s.spdmCount) := by
  obtain ⟨hd, hp, hc⟩ := hr
  have hl : (c = 0 && !s.pins.pcieUp) = false := by
    by_cases h0 : c = 0
    · simp [hc h0]
    · simp [h0]
  simp [State.spdmIn, hd, hp, hl]

@[simp] theorem State.conn_onConn (s : State) (c : Nat) (f : SpdmConn → SpdmConn) : (s.onConn c f).conn c = f (s.conn c) :=
  SMap.get_set_same _ _ _ _

@[simp] theorem State.emit_conn (s : State) (o : Output) (c : Nat) : (s.emit o).conn c = s.conn c := rfl

theorem getVersion_begins (hr : s.spdmReaches c) : exec (.getVersion c) s =
    .next ((s.spdmCount.onConn c (fun x => { SpdmConn.reset with started := true, handle := x.handle })).emit
      (.spdm c (.version spdmVersions))) := by
  rw [exec_getVersion, execGetVersion, State.spdmIn_counts hr]

theorem getCapabilities_answers (hr : s.spdmReaches c) (hs : (s.spdmCount.conn c).started = true)
    (hv : spdmVersions.contains ver = true) : exec (.getCapabilities c ver) s =
      .next ((s.spdmCount.onConn c (fun x => { x with version := ver, algs := false })).answer c (.capabilities (transferSize c))) := by
  rw [exec_getCapabilities, execGetCapabilities, State.spdmIn_counts hr, if_neg (by simp [hs]), if_neg (by rw [hv]; decide)]

theorem spdmUnsupportedRequest_refused (hr : s.spdmReaches c) : exec (.spdmUnsupportedRequest c) s =
    .next (s.spdmCount.spdmError c ((s.spdmCount.spdmRefusal false).getD errUnsupported)) := by
  rw [exec_spdmUnsupportedRequest, execSpdmUnsupportedRequest, State.spdmIn_counts hr]

/-! ### A request of a connection that is set up (R568, R569) -/

section
variable (hr : s.spdmReaches c) (hn : s.spdmCount.spdmRefusal false = none) (hv : (s.spdmCount.conn c).version = ver) (h0 : ver ≠ 0)
include hr hn hv h0

theorem State.onSpdm_acts {need : Bool} (ha : need = true → (s.spdmCount.conn c).algs = true) (f : State → State) :
    s.onSpdm c ver need f = .next (f s.spdmCount) := by
  have hg : (ver = 0 || (need && !(s.spdmCount.conn c).algs)) = false := by
    rw [decide_eq_false h0, Bool.false_or]
    cases need with
    | false => rfl
    | true =>
      rw [ha rfl]
      rfl
  rw [State.onSpdm, State.spdmIn_counts hr]
  simp only [hn, hv, hg, bne_self_eq_false, Bool.false_eq_true, if_false]

theorem negotiateAlgorithms_agrees : exec (.negotiateAlgorithms c ver true true true) s =
    .next ((s.spdmCount.onConn c (fun x => { x with algs := true })).answer c (.algorithms true true true)) := by
  rw [exec_negotiateAlgorithms, execNegotiateAlgorithms, State.onSpdm_acts hr hn hv h0 Bool.noConfusion]
  rfl

/-- R568: the first chunk of a large response is sent, and the next one is number 1. -/
theorem chunkGet_first {h : Byte} {n : Nat} {r : SpdmReply} (hl : (s.spdmCount.conn c).large = some r)
    (hh : h = (s.spdmCount.conn c).handle) (hc : n = (s.spdmCount.conn c).nextChunk) (hz : n = 0) :
    ∃ v, exec (.chunkGet c ver h n) s = .next v ∧ (v.conn c).nextChunk = 1 := by
  subst hh hz
  rw [exec_chunkGet, execChunkGet, State.onSpdm_acts hr hn hv h0 Bool.noConfusion]
  refine ⟨_, rfl, ?_⟩
  simp only [hl, ← hc, bne_self_eq_false, Bool.or_self, Bool.false_eq_true, if_false, State.emit_conn, State.conn_onConn]

variable (ha : (s.spdmCount.conn c).algs = true)
include ha

theorem getDigests_answers : exec (.getDigests c ver) s = .next (s.spdmCount.answer c (.digests 1 (sha3 s.sec.certChain))) := by
  rw [exec_getDigests, execGetDigests, State.onSpdm_acts hr hn hv h0 (fun _ => ha)]
  rfl

theorem getCertificate_answers {off : Nat} (len : Nat) (ho : off < s.sec.certChain.length) :
    let p := (s.sec.certChain.drop off).take len
    exec (.getCertificate c ver 0 off len) s =
      .next (s.spdmCount.answer c (.certificate p (s.sec.certChain.length - off - p.length))) := by
  intro p
  have hg : ((0 : Nat) != 0 || s.sec.certChain.length ≤ off) = false := by simpa using ho
  rw [exec_getCertificate, execGetCertificate, State.onSpdm_acts hr hn hv h0 (fun _ => ha)]
  exact congrArg _ (if_neg (ne_true_of_eq_false hg))

theorem challenge_signs (nonce sig : List Byte) : exec (.challenge c ver 0 nonce false sig) s =
    .next (s.spdmCount.answer c (.challengeAuth 1 (sha3 s.sec.certChain) nonce [] sig)) := by
  rw [exec_challenge, execChallenge, State.onSpdm_acts hr hn hv h0 (fun _ => ha)]
  rfl

theorem getMeasurements_number (sig : List Byte) :
    exec (.getMeasurements c ver 0 sig) s = .next (s.spdmCount.answer c (.measurements 16 [] sig)) := by
  rw [exec_getMeasurements, execGetMeasurements, State.onSpdm_acts hr hn hv h0 (fun _ => ha)]
  rfl

end

end Sys2Proof.Machine

open Sys2Proof Machine Claims

/-- Settles O46, one lemma for each command; a request that reaches N4 is counted and then answered (`State.spdmIn_counts`,
`State.onSpdm_acts`). -/
theorem security : Obligations.Security := by
  unfold Obligations.Security
  intro s c ver
  refine ⟨fun ht hl hu ok => ⟨fun x => imageVerify_refuses ht hl hu ok, imageVerify_accepts ht hl hu ok⟩, aliasKeyReady_issues,
    fun f => fuseWriteComplete_writes, fun hd hp hc => ?_⟩
  have hr : s.spdmReaches c := ⟨hd, hp, hc⟩
  exact ⟨getVersion_begins hr, getCapabilities_answers hr, spdmUnsupportedRequest_refused hr, fun hn hv h0 =>
    ⟨negotiateAlgorithms_agrees hr hn hv h0, fun h n r => chunkGet_first hr hn hv h0, fun ha =>
      ⟨getDigests_answers hr hn hv h0 ha, fun off len => getCertificate_answers hr hn hv h0 ha len,
        challenge_signs hr hn hv h0 ha, getMeasurements_number hr hn hv h0 ha⟩⟩⟩

end

section
/-! PROOFS. Loading the firmware, the mailbox and heartbeats (R439, R440, R442 to R445, R449). -/

namespace Sys2Proof.Machine
open Claims
variable {s : State}

/-! ### Chunks of an image (R439, R440, R442) -/

theorem loadChunkSubmit_queues {ctrl : W32} (bytes : List Byte) (hg : ctrl.getLsbD 31 = true)
    (hl : s.firm.load.st = .waiting ∨ s.firm.load.st = .loading) (hb : s.firm.load.busy (ctrl.getLsbD 29) = false) :
    let n := ctrl.toNat % 65536 + 1
    exec (.loadChunkSubmit ctrl bytes) s = .next (s.onLoad (fun l =>
      { l with ctrl := ctrl &&& 0x7FFFFFFF, st := .loading, chunkAt := s.now,
               queue := l.queue ++ [⟨ctrl.getLsbD 29, ctrl.getLsbD 30, padTo n (bytes.take n)⟩],
               bufs := SMap.set [] l.bufs (if ctrl.getLsbD 29 then 1 else 0) (bytes.take 65536) })) :=
  have hs : (s.firm.load.st = .waiting || s.firm.load.st = .loading) = true := by simpa using hl
  if_pos (by simp only [hg, hs, hb, Bool.and_self, Bool.not_false])

theorem loadChunkTake_takes {c : Chunk} {rest : List Chunk} (hq : s.firm.load.queue = c :: rest)
    (ht : s.firm.load.lastTaken = false) (hu : s.coreUp 4 = true ∨ (RF.at s.firm.cores 4).st = .boot) :
    exec .loadChunkTake s = .next (s.onLoad (fun l =>
      { l with queue := rest, image := l.image ++ c.bytes, lastTaken := c.last })) := by
  have hg : (s.coreUp 4 || (RF.at s.firm.cores 4).st = .boot) = true := by
    rcases hu with hu | hu
    · rw [hu, Bool.true_or]
    · rw [decide_eq_true hu, Bool.or_true]
  simp only [exec_loadChunkTake, execLoadChunkTake, hq, ht, hg, Bool.not_true, Bool.or_self, Bool.false_eq_true, if_false]

theorem loadChunkTimeout_discards (hl : s.firm.load.st = .loading) (ht : s.firm.load.lastTaken = false) :
    exec .loadChunkTimeout s = .next (s.loadRefused 7) :=
  if_pos (by simp [hl, ht])

/-! ### Messages (R443 to R445) -/

theorem mbxPoll_takes {head : W32} {msgs : List (List Byte)} (hu : s.schedUp = true) (hd : s.pkg.dev ≠ .cold)
    (hn : msgs.length ≤ 64) (hh : (head - s.firm.mbx.h2dTail).toNat ≤ 64) :
    let u := s.onMbx (fun m => ({ m with h2dHead := head }).fill msgs)
    exec (.mbxPoll head msgs) s = .next (u.firm.mbx.waiting.foldl State.takeMsg
      (u.onMbx (fun m => { m with h2dTail := head }))) := by
  intro u
  have hu' : u.schedUp = true := hu
  have hd' : u.pkg.dev ≠ .cold := hd
  have hh' : (head - u.firm.mbx.h2dTail).toNat ≤ 64 := hh
  have hg : (u.schedUp = false || u.pkg.dev = .cold || 64 < (head - u.firm.mbx.h2dTail).toNat) = false := by
    rw [hu', decide_eq_false hd', decide_eq_false (Nat.not_lt.mpr hh')]
    rfl
  rw [exec_mbxPoll, execMbxPoll, List.take_of_length_le hn]
  exact if_neg (ne_true_of_eq_false hg)

theorem mbxD2hTailWrite_frees {tail : W32}
    (ht : (tail - s.firm.mbx.d2hTail).toNat ≤ (s.firm.mbx.d2hHead - s.firm.mbx.d2hTail).toNat) :
    exec (.mbxD2hTailWrite tail) s = .next (s.onMbx (fun m =>
      { m with d2hTail := tail, sent := m.sent.drop (tail - s.firm.mbx.d2hTail).toNat })).pump :=
  if_neg (Nat.not_lt.mpr ht)

/-! ### Heartbeats (R449) -/

theorem heartbeat_renewsAge {b : List Byte} {rest : List (List Byte)} (h : Taken s 0x0010 b rest) :
    exec .heartbeat s = .next (s.takeUp.onMbx (fun x => { x with lastMsg := s.now })) := by
  rw [exec_heartbeat, execHeartbeat, State.onTaken_acts h]
  rfl

theorem heartbeatTimeout_drifts (hd : s.pkg.dev = .flow) :
    exec .heartbeatTimeout s = .next (s.onMbx (fun m => { m with driftDue := true })) :=
  if_pos hd

end Sys2Proof.Machine

open Sys2Proof Machine Claims

/-- Settles O20, one lemma for each command. -/
theorem hostLoadAndMessages : Obligations.HostLoadAndMessages := by
  unfold Obligations.HostLoadAndMessages
  intro s
  exact ⟨fun ctrl => loadChunkSubmit_queues, fun c rest => loadChunkTake_takes, loadChunkTimeout_discards,
    fun head msgs => mbxPoll_takes, fun tail => mbxD2hTailWrite_frees, fun b rest => heartbeat_renewsAge, heartbeatTimeout_drifts⟩

end

section
/-! PROOFS. The dictionary over the fabric (R457, R494). -/

namespace Sys2Proof.Machine
variable {s : State} {q : BitVec 4} {ch : BitVec 2} {p : Packet}

/-! ### A peer's request (R457) -/

section
variable (hh : s.headOf q ch = some p) (ho : p.opcode = 0x30) (hd : p.dst = s.fab.devid) (ht : (s.pop q ch).tooOld p = false)
include hh ho hd ht

/-- R457: a request for this device that is not too old is held while N5 is down, and served otherwise. -/
theorem mgmtReceived_taken : exec (.mgmt (.received q ch)) s = .next (
    if (s.pop q ch).n5Down then (s.pop q ch).holdReq (pathFab p.src.toNat) 2 (mgmtBody p)
    else (s.pop q ch).serveMgmt p.src.toNat (mgmtBody p)) := by
  have hm : (p.opcode.toNat != opMgmt || p.dst != s.fab.devid) = false := by simp [ho, hd, opMgmt]
  simp only [exec_mgmt, execMgmt, hh, hm, ht, Bool.false_eq_true, if_false]
  split <;> rfl

theorem mgmtReceived_held (hn : (s.pop q ch).n5Down = true) :
    exec (.mgmt (.received q ch)) s = .next ((s.pop q ch).holdReq (pathFab p.src.toNat) 2 (mgmtBody p)) := by
  rw [mgmtReceived_taken hh ho hd ht, if_pos hn]

theorem mgmtReceived_served (hn : (s.pop q ch).n5Down = false) :
    exec (.mgmt (.received q ch)) s = .next ((s.pop q ch).serveMgmt p.src.toNat (mgmtBody p)) := by
  rw [mgmtReceived_taken hh ho hd ht, if_neg (by simp [hn])]

end

/-! ### Requests of N2 (R494) -/

theorem mgmtSent_sends {dst : BitVec 6} (body : List Byte) (hu : s.coreUp 2 = true) (hd : dst ≠ s.fab.devid)
    (hf : s.destFails dst.toNat = none) :
    let r : MgmtReq := ⟨s.dict.mgmtTag, dst, padTo 32 body, s.now, 0⟩
    exec (.mgmt (.sent dst body)) s = .next ((s.onDict (fun d =>
      { d with mgmtOut := d.mgmtOut ++ [r], mgmtTag := d.mgmtTag + 1 })).sendMgmt r) :=
  if_neg (by simp [hu, hd, hf])

section
variable {tag : W16} {r : MgmtReq} (hr : s.dict.mgmtOut.find? (fun r => r.tag = tag) = some r)
include hr

theorem mgmtResendTimeout_resends (hn : r.resends < 3) :
    let r' := { r with sentAt := s.now, resends := r.resends + 1 }
    exec (.mgmtResendTimeout tag) s = .next ((s.onDict (fun d =>
      { d with mgmtOut := d.mgmtOut.map (fun x => if x.tag = tag then r' else x) })).sendMgmt r') := by
  simp only [exec_mgmtResendTimeout, execMgmtResendTimeout, hr, if_neg (Nat.not_le.mpr hn)]

theorem mgmtResendTimeout_ends (hn : 3 ≤ r.resends) :
    exec (.mgmtResendTimeout tag) s = .next (s.onDict (fun d =>
      { d with mgmtOut := d.mgmtOut.filter (fun x => x.tag != tag) })) := by
  simp only [exec_mgmtResendTimeout, execMgmtResendTimeout, hr, if_pos hn]

end

theorem mgmtRsp_ends {r : MgmtReq} (hh : s.headOf q ch = some p) (ho : p.opcode = 0x31) (hd : p.dst = s.fab.devid)
    (hr : s.dict.mgmtOut.find? (fun r => r.tag = p.tag && r.dst = p.src) = some r) :
    exec (.mgmtRsp q ch) s = .next (((s.pop q ch).onDict (fun d =>
      { d with mgmtOut := d.mgmtOut.filter (fun x => x.tag != r.tag) })).noteWindows r p.ext) := by
  have hr' : (s.pop q ch).dict.mgmtOut.find? (fun r => r.tag = p.tag && r.dst = p.src) = some r := hr
  simp only [exec_mgmtRsp, execMgmtRsp, State.takeRsp_takes (op := opMgmtRsp) hh hd (Packet.opcode_toNat ho), hr']

end Sys2Proof.Machine

open Sys2Proof Machine Claims

/-- Settles O27, one lemma for each command and each of its conditions. -/
theorem managementOverFabric : Obligations.ManagementOverFabric := by
  unfold Obligations.ManagementOverFabric
  intro s
  exact ⟨fun q ch p hh ho hd ht => ⟨mgmtReceived_held hh ho hd ht, mgmtReceived_served hh ho hd ht⟩,
    fun dst => mgmtSent_sends, fun tag r hr => ⟨mgmtResendTimeout_resends hr, mgmtResendTimeout_ends hr⟩,
    fun q ch p r => mgmtRsp_ends⟩

end

section
/-! PROOFS. The PCIe link and the TAP (R612, R615, R616). -/

namespace Sys2Proof.Machine

variable {s : State}

/-- R612, R613: outside COLD the link comes back. -/
theorem pcieLinkUp_raises (hd : s.pkg.dev ≠ .cold) :
    exec .pcieLinkUp s = .next { s with pins := { s.pins with pcieUp := true } } := by
  simp [execPcieLinkUp, State.powered, hd]

/-- R615, R616: with TRST_N released an instruction is loaded, and it acts as `State.tapActs` says. -/
theorem tapInstruction_loads (hr : s.pins.tapReset = false) {i act : TapInstr} (ha : s.tapActs i = act) :
    exec (.tapInstruction i) s = .next { s with pins := { s.pins with tap := act } } := by
  simp [execTapInstruction, hr, ha]

/-- R615: the EXTEST instructions are available while PERST_N is asserted and the rails are up. -/
theorem State.tapActs_extest (hp : s.pins.perst = true) (hu : s.pins.railsUp = true) :
    s.tapActs .extest = .extest ∧ s.tapActs .extestPulse = .extestPulse ∧ s.tapActs .extestTrain = .extestTrain := by
  simp [State.tapActs, hp, hu]

theorem State.tapActs_extest_bypass (h : s.pins.perst = false ∨ s.pins.railsUp = false) :
    s.tapActs .extest = .bypass ∧ s.tapActs .extestPulse = .bypass ∧ s.tapActs .extestTrain = .bypass := by
  obtain h | h := h <;> simp [State.tapActs, h]

/-- R616: the production lock closes the TAPs of the stacked dies and of the HBM. -/
theorem State.tapActs_locked (h : s.errs.prodLock = true) (k : Nat) :
    s.tapActs (.stackedDie k) = .bypass ∧ s.tapActs (.hbm k) = .bypass := by
  simp [State.tapActs, h]

theorem State.tapActs_stackedDie (h : s.errs.prodLock = false) {k : Nat} (hk : k < 8) :
    s.tapActs (.stackedDie k) = .stackedDie k := by
  simp [State.tapActs, h, hk]

theorem State.tapActs_hbm (h : s.errs.prodLock = false) {k : Nat} (hk : k < 24) : s.tapActs (.hbm k) = .hbm k := by
  simp [State.tapActs, h, hk]

end Sys2Proof.Machine

open Sys2Proof Machine Claims

/-- Settles O53: each command is one update of the pins, and `State.tapActs` gives the instruction that acts. -/
theorem linkAndTap : Obligations.LinkAndTap := by
  unfold Obligations.LinkAndTap
  refine fun s => ⟨rfl, pcieLinkUp_raises, rfl, rfl, fun hr => ?_⟩
  refine ⟨tapInstruction_loads hr rfl, tapInstruction_loads hr rfl, tapInstruction_loads hr rfl, fun hp hu => ?_, fun h => ?_,
    fun hl k => ?_, fun hl k => ?_⟩
  · obtain ⟨he, hq, ht⟩ := State.tapActs_extest hp hu
    exact ⟨tapInstruction_loads hr he, tapInstruction_loads hr hq, tapInstruction_loads hr ht⟩
  · obtain ⟨he, hq, ht⟩ := State.tapActs_extest_bypass h
    exact ⟨tapInstruction_loads hr he, tapInstruction_loads hr hq, tapInstruction_loads hr ht⟩
  · obtain ⟨hd, hm⟩ := State.tapActs_locked hl k
    exact ⟨tapInstruction_loads hr hd, tapInstruction_loads hr hm⟩
  · exact ⟨fun hk => tapInstruction_loads hr (State.tapActs_stackedDie hl hk), fun hk => tapInstruction_loads hr (State.tapActs_hbm hl hk)⟩

/-- Settles O57: after reset the HBM, the scratch and every tile SRAM are empty maps. -/
theorem resetMemoryCanonical : Obligations.ResetMemoryCanonical := by
  unfold Obligations.ResetMemoryCanonical
  rfl

end

section
/-! PROOFS. Requests to the object dictionary: their checks, what an accepted value does, and their transports (R484 to R493). -/

namespace Sys2Proof.Machine

variable {s t : State} {who : Asker} {r : DictReq} {e : Entry} {v : List Byte} {c : Nat}

/-! ### Writes (R485 to R489) -/

/-- R488: what the entry answers is the result, and an accepted value counts. -/
theorem State.commit_of_putEntry (hs : s.stateRefuses who r = false) (hp : s.putEntry e.ty (dk r.idx r.sub) v = (c, t)) :
    s.commit who r e v = (c, t.genUp c) := by
  by_cases hc : c = 5 <;> simp [State.commit, hp, hs, hc, State.genUp]

/-- A write that passes the checks of access, lock and length. -/
theorem State.dictWrite_checked (hi : r.idx < 0x8000) (he : entryAt r.idx r.sub = some e) (hd : s.writeDenied e who = false)
    (hl : s.writeLocked (dk r.idx r.sub) r.data = false) (hb : lengthBad e r = false) :
    s.dictWrite who r = if e.ty = .domain then s.segment who r e else s.commit who r e (padTo e.len r.data) := by
  have hn : ¬ (0x8000 ≤ r.idx) := by omega
  simp [State.dictWrite, hn, he, hd, hl, hb]

/-- R489: one message that holds the whole value. -/
theorem State.segment_whole (hx : s.session (dk r.idx r.sub) = none) (ho : r.off = 0) (hl : r.last = true) :
    s.segment who r e = s.commit who r e r.data := by
  simp [State.segment, hx, ho, hl]

/-- R489: the closing segment of a session makes its value whole. -/
theorem State.segment_closes {x : DictSession} (hx : s.session (dk r.idx r.sub) = some x) (hs : s.stateRefuses who r = false)
    (hp : x.path = who.path) (ho : r.off ≠ 0) (hl : r.off = x.data.length) (hlast : r.last = true) :
    s.segment who r e = (s.endSession (dk r.idx r.sub)).commit who r e (x.data ++ r.data) := by
  have ho' : x.data.length ≠ 0 := hl ▸ ho
  simp [State.segment, hx, hs, hp, hl, hlast, List.length_eq_zero_iff.not.mp ho']

/-- A closing segment that begins at 0 brings the whole value. -/
theorem data_length_of_whole (hb : lengthBad e r = false) (ht : e.ty = .domain) (ho : r.off = 0) (hl : r.last = true) :
    r.data.length = e.len := by
  simp [lengthBad, ht, ho, hl] at hb
  omega

/-! ### Reads (R486) -/

/-- A read of a scalar returns its value. -/
theorem State.dictRead_scalar (hi : r.idx < 0x8000) (he : entryAt r.idx r.sub = some e) (hd : e.ty ≠ .domain) (hn : e.ty ≠ .str)
    (ho : r.off = 0) (hs : s.stateRefuses who r = false) :
    s.dictRead who r = (⟨0, (s.readVal e (dk r.idx r.sub) who.cls r.staged).2, e.ty.code, e.len, 0,
      (s.readVal e (dk r.idx r.sub) who.cls r.staged).1.take r.len⟩, s) := by
  have hx : ¬ (0x8000 ≤ r.idx) := by omega
  simp [State.dictRead, hx, he, hd, hn, ho, hs, State.genOf]

/-! ### MCTP and sessions (R489, R493) -/

theorem mctpSvaogMessage_otherHeader (hp : s.pins.perst = false) (hd : s.pkg.dev ≠ .cold) {ep : Nat} {msg : List Byte}
    (hb : s.mctpBody msg = none) : exec (.mctpSvaogMessage ep msg) s = .next s := by
  simp [execMctpSvaogMessage, hp, hd, hb]

/-- R493: while N5 is up a read or a write over MCTP is served and answered on its endpoint. -/
theorem mctpSvaogMessage_serves (hp : s.pins.perst = false) (hd : s.pkg.dev ≠ .cold) {ep : Nat} {msg b : List Byte}
    (hb : s.mctpBody msg = some b) (hn : s.n5Down = false) (ht : fld b 0 2 = 0x0201 ∨ fld b 0 2 = 0x0202) :
    exec (.mctpSvaogMessage ep msg) s = .next (s.serveMctp ep (fld b 0 2 = 0x0202) (padTo 240 (b.drop 2))) := by
  have he : pathMctp ep / 2 = ep := by simp only [pathMctp]; omega
  have hz : pathMctp ep ≠ 0 := by simp [pathMctp]
  obtain ht | ht := ht <;>
    simp [execMctpSvaogMessage, hp, hd, hb, State.askSvaog, hn, State.serveSvaog, ht, hz, he]

theorem dictSessionAbandon_drops {key : Nat} {x : DictSession} (hx : s.session key = some x) (ht : msU 1000 ≤ s.since x.at') :
    exec (.dictSessionAbandon key) s = .next (s.endSession key) := by
  simp [execDictSessionAbandon, hx, ht]

end Sys2Proof.Machine

namespace Sys2Proof.Claims
open Machine

variable {s t u w : State} {m : List Byte} {rest : List (List Byte)} {e : Entry} {v : List Byte} {c : Nat}

/-! ### The mailbox (R492) -/

/-- N0 answers a write with what `State.dictWrite` makes of it. -/
theorem dictWrite_answers (ht : Taken s 0x0202 m rest) (hn : s.n5Down = false)
    (he : entryAt (mailReq true m).idx (mailReq true m).sub = some e) (hw : s.takeUp.dictWrite askMbx (mailReq true m) = (c, u)) :
    exec .dictWrite s = .next (mailReply m (u.bare e (mailKey m) c (c = 0 && (u.staged (mailKey m)).isSome)) u) := by
  rw [dictWrite_serves ht hn]
  simp only [mailReq, mailKey, mailReply] at hw he ⊢
  simp only [State.serveMbx, State.dictServe, hw, he]
  rfl

/-- R485: with a result other than 0 no value waits. -/
theorem dictWrite_refuses (ht : Taken s 0x0202 m rest) (hn : s.n5Down = false)
    (he : entryAt (mailReq true m).idx (mailReq true m).sub = some e) (hw : s.takeUp.dictWrite askMbx (mailReq true m) = (c, u))
    (hc : c ≠ 0) : exec .dictWrite s = .next (mailReply m (u.bare e (mailKey m) c false) u) := by
  simp [dictWrite_answers ht hn he hw, hc]

section
variable (ht : Taken s 0x0202 m rest) (hn : s.n5Down = false) (hi : (mailReq true m).idx < 0x8000)
include ht hn hi

theorem dictWrite_noEntry (he : entryAt (mailReq true m).idx (mailReq true m).sub = none) :
    exec .dictWrite s = .next (mailReply m (.plain 1) s.takeUp) := by
  have hx : ¬ (0x8000 ≤ (mailReq true m).idx) := by omega
  have hw : s.takeUp.dictWrite askMbx (mailReq true m) = (1, s.takeUp) := by simp [State.dictWrite, hx, he]
  rw [dictWrite_serves ht hn]
  simp only [mailReq, mailReply] at hw he ⊢
  simp only [State.serveMbx, State.dictServe, hw, he]
  rfl

variable (he : entryAt (mailReq true m).idx (mailReq true m).sub = some e)
include he

theorem dictWrite_denied (hd : s.takeUp.writeDenied e askMbx = true) :
    exec .dictWrite s = .next (mailReply m (s.takeUp.bare e (mailKey m) 2 false) s.takeUp) := by
  have hx : ¬ (0x8000 ≤ (mailReq true m).idx) := by omega
  exact dictWrite_refuses ht hn he (by simp [State.dictWrite, hx, he, hd]) (by decide)

theorem dictWrite_badLength (hd : s.takeUp.writeDenied e askMbx = false)
    (hl : s.takeUp.writeLocked (mailKey m) (mailReq true m).data = false) (hb : lengthBad e (mailReq true m) = true) :
    exec .dictWrite s = .next (mailReply m (s.takeUp.bare e (mailKey m) 4 false) s.takeUp) := by
  have hx : ¬ (0x8000 ≤ (mailReq true m).idx) := by omega
  have hl' : s.takeUp.writeLocked (dk (mailReq true m).idx (mailReq true m).sub) (mailReq true m).data = false := hl
  exact dictWrite_refuses ht hn he (by simp [State.dictWrite, hx, he, hd, hl', hb]) (by decide)

end

/-- R489: with this message the value is whole, and the entry is asked to take it. -/
theorem MailWrite.dictWrite_eq (h : MailWrite s m rest e v w) :
    s.takeUp.dictWrite askMbx (mailReq true m) = w.commit askMbx (mailReq true m) e v := by
  rw [State.dictWrite_checked h.below h.entry h.allowed h.unlocked h.length]
  obtain ⟨rfl, rfl, hd⟩ | ⟨ht, hlast, x, hx, hp, ho, hz, rfl, rfl⟩ := h.whole
  · split
    next ht =>
      obtain ⟨hx, ho, hl⟩ := hd ht
      have hx' : s.takeUp.session (dk (mailReq true m).idx (mailReq true m).sub) = none := hx
      rw [State.segment_whole hx' ho hl, padTo_of_length (data_length_of_whole h.length ht ho hl)]
    next => rfl
  · rw [if_pos ht]
    exact State.segment_closes hx h.stateOk hp hz ho hlast

theorem MailWrite.stateRefuses_eq (h : MailWrite s m rest e v w) : w.stateRefuses askMbx (mailReq true m) = false := by
  obtain ⟨-, rfl, -⟩ | ⟨-, -, x, -, -, -, -, -, rfl⟩ := h.whole
  · exact h.stateOk
  · exact h.stateOk

/-- What the entry makes of the value is the answer. -/
theorem MailWrite.answers (h : MailWrite s m rest e v w) (hp : w.putEntry e.ty (mailKey m) v = (c, t)) :
    exec .dictWrite s = .next (mailReply m
      ((t.genUp c).bare e (mailKey m) c (c = 0 && ((t.genUp c).staged (mailKey m)).isSome)) (t.genUp c)) :=
  dictWrite_answers h.taken h.up h.entry (h.dictWrite_eq.trans (State.commit_of_putEntry h.stateRefuses_eq hp))

theorem MailWrite.accepts (h : MailWrite s m rest e v w) (hp : w.putEntry e.ty (mailKey m) v = (0, t)) :
    exec .dictWrite s = .next (accepted m e t) := by
  rw [h.answers hp]
  simp [accepted]

theorem MailWrite.refuses (h : MailWrite s m rest e v w) (hc : c ≠ 0) (hp : w.putEntry e.ty (mailKey m) v = (c, t)) :
    exec .dictWrite s = .next (mailReply m (t.bare e (mailKey m) c false) t) := by
  rw [h.answers hp]
  simp [State.genUp, hc]

/-- R486, R492: N0 serves the oldest message of the mailbox as a read while N5 is up. -/
theorem dictRead_serves (ht : Taken s 0x0201 m rest) (hn : s.n5Down = false) :
    exec .dictRead s = .next (s.takeUp.serveMbx false ((padTo 256 m).drop 16)) := by
  obtain ⟨-, -, hf⟩ := id ht
  have hb : mbxBody (padTo 256 m) = natLE 2 0x0201 ++ (padTo 256 m).drop 16 := by
    rw [mbxBody, fld_padTo m (by omega), hf]
  have hw : fld (natLE 2 0x0201 ++ (padTo 256 m).drop 16) 0 2 = 0x0201 := rfl
  have hd : (natLE 2 0x0201 ++ (padTo 256 m).drop 16).drop 2 = (padTo 256 m).drop 16 := rfl
  have hp : padTo 240 ((padTo 256 m).drop 16) = (padTo 256 m).drop 16 := padTo_of_length (by simp [padTo_length])
  have hn' : s.takeUp.n5Down = false := hn
  rw [exec_dictRead, execDictRead, State.onTaken_acts ht]
  simp only [State.askSvaog, hn', hb, State.serveSvaog, hw, hd, hp]
  rfl

/-- N0 answers a read with what `State.dictRead` makes of it. -/
theorem dictRead_answers {x : DictRep} (ht : Taken s 0x0201 m rest) (hn : s.n5Down = false)
    (hr : s.takeUp.dictRead askMbx (mailReq false m) = (x, u)) : exec .dictRead s = .next (mailReply m x u) := by
  have h : s.takeUp.dictServe askMbx (mailReq false m) = (x, u) := hr
  rw [dictRead_serves ht hn, State.serveMbx, ← mailReq, h]
  rfl

theorem dictRead_noEntry (ht : Taken s 0x0201 m rest) (hn : s.n5Down = false) (hi : (mailReq false m).idx < 0x8000)
    (he : entryAt (mailReq false m).idx (mailReq false m).sub = none) :
    exec .dictRead s = .next (mailReply m (.plain 1) s.takeUp) := by
  have hx : ¬ (0x8000 ≤ (mailReq false m).idx) := by omega
  exact dictRead_answers ht hn (by simp [State.dictRead, hx, he])

/-- R457: while N5 is down a request is held. -/
theorem dictRead_held (hn : s.n5Down = true) (ht : Taken s 0x0201 m rest) :
    exec .dictRead s = .next (s.takeUp.holdReq pathMbx 0 (mbxBody (padTo 256 m))) := by
  have hn' : s.takeUp.n5Down = true := hn
  rw [exec_dictRead, execDictRead, State.onTaken_acts ht, State.askSvaog, if_pos hn']

theorem dictWrite_held (hn : s.n5Down = true) (ht : Taken s 0x0202 m rest) :
    exec .dictWrite s = .next (s.takeUp.holdReq pathMbx 0 (mbxBody (padTo 256 m))) := by
  have hn' : s.takeUp.n5Down = true := hn
  rw [exec_dictWrite, execDictWrite, State.onTaken_acts ht, State.askSvaog, if_pos hn']

end Sys2Proof.Claims

open Sys2Proof Machine Claims

/-- Settles O47: one lemma for each check, each outcome and each transport. -/
theorem dictionaryRequests : Obligations.DictionaryRequests := by
  unfold Obligations.DictionaryRequests
  intro s m rest
  refine ⟨fun ht hn hi => ⟨dictWrite_noEntry ht hn hi, fun e he => ⟨dictWrite_denied ht hn hi he, fun hd hl => ?_,
      dictWrite_badLength ht hn hi he⟩⟩,
    fun e v w h => ⟨fun t => h.accepts, fun c t => h.refuses⟩,
    fun ht hn hi => ⟨dictRead_noEntry ht hn hi, fun e he hd hs ho hr => dictRead_answers ht hn
      (State.dictRead_scalar hi he hd hs ho hr)⟩,
    fun hn => ⟨dictRead_held hn, dictWrite_held hn⟩,
    fun ep msg hp hd => ⟨mctpSvaogMessage_otherHeader hp hd, fun b => mctpSvaogMessage_serves hp hd⟩,
    fun key x => dictSessionAbandon_drops⟩
  exact dictWrite_refuses ht hn he (s.takeUp.dictWrite_locked hi he hd hl) (by decide)

end

section
/-! PROOFS. The entries of errors, check values, the Moraine and security that act when they are written (R521 to R564). -/

namespace Sys2Proof.Machine

variable {s : State} {n : Nat} {v : List Byte}

/-! ### What the entries do with a value -/

theorem State.errInject_disarms (he : s.errs.injEn = true) (hl : s.errs.prodLock = false) (hb : (fld v 5 1).testBit 0 = false) :
    s.errInject v = (true, s.onErrs (fun x => { x with injReg := v, inj := none })) := by
  simp [State.errInject, he, hl, hb]

/-- R529: an injection without an address is armed for any of the causes. -/
theorem State.errInject_arms (he : s.errs.injEn = true) (hl : s.errs.prodLock = false) (hb : (fld v 5 1).testBit 0 = true)
    (hc : causes.contains (fld v 2 2) = true) (hn : fld v 4 1 ≠ 0) (ha : fld v 8 8 = 0) :
    s.errInject v = (true, s.onErrs (fun x => { x with
      injReg := v, inj := some ⟨BitVec.ofNat 16 (fld v 0 2), BitVec.ofNat 16 (fld v 2 2), fld v 4 1, 0⟩ })) := by
  simp only [State.errInject, he, hl, hb, hc, ha]
  simp [hn]

/-- R556: with no fuse write running one begins. -/
theorem State.beginFuse_begins (hf : s.sec.fuse = none) (f : FuseWrite) :
    s.beginFuse f = (0, s.onSec (fun x => { x with fuse := some f })) := by
  simp [State.beginFuse, hf]

theorem State.keyRevoke_begins (h : (s.keyRevoke n).1 = 0) :
    s.keyRevoke n = (0, s.onSec (fun x => { x with fuse := some (.revoke (BitVec.ofNat 4 n)) })) := by
  unfold State.keyRevoke State.beginFuse at h ⊢
  dsimp only at h ⊢
  split at h
  · cases h
  next hr =>
    split at h
    · cases h
    next hf => rw [if_neg hr, if_neg hf]

theorem State.svnCommit_begins (hv : s.sec.svnFused < s.sec.svn.toNat) (hf : s.sec.fuse = none) :
    s.svnCommit 1 = (0, s.onSec (fun x => { x with fuse := some (.svn s.sec.svn.toNat) })) := by
  simp [State.svnCommit, State.beginFuse_begins hf, hv]

theorem State.measExtend_extends (hh : s.sec.hostEn = true) (hl : 8 ≤ fld v 0 1) (hu : fld v 0 1 ≤ 15) :
    s.measExtend v = (0, s.extend (fld v 0 1) (v.drop 1)) := by
  simp [State.measExtend, hh, hl, hu]

theorem State.putCvu_result (c : BitVec 4) (hf : s.cvuFwOnly c = false) : (s.putCvu c v).1 = 0 := by
  simp [State.putCvu, hf]

/-! ### Which entry a key names -/

theorem State.putEntry_ras {ty : EType} {k : Nat} (ht : ty ≠ .bool ∨ leNat v < 2) (hk : k / 2 ^ 20 = 6 ∨ k / 2 ^ 20 = 7) :
    s.putEntry ty k v = s.putRas k v := by
  have hb : ¬ (ty = .bool ∧ 2 ≤ leNat v) := by
    rintro ⟨h, hn⟩
    obtain ht | ht := ht
    · exact ht h
    · omega
  unfold State.putEntry
  rw [if_neg (by simpa using hb)]
  obtain hk | hk := hk
  all_goals
    rw [hk]
    rfl

/-- R550: the sixteen entries CVU_UNIT. -/
theorem State.putRas_cvu (c : BitVec 4) : s.putRas (dk 0x6100 (c.toNat + 1)) v = s.putCvu c v := by
  have hc := c.isLt
  have hn : dk 0x6100 (c.toNat + 1) - dk 0x6100 1 = c.toNat := by simp only [dk]; omega
  have h1 : dk 0x6100 1 ≤ dk 0x6100 (c.toNat + 1) := by simp only [dk]; omega
  have h2 : dk 0x6100 (c.toNat + 1) ≤ dk 0x6100 0x10 := by simp only [dk]; omega
  have hne : ∀ i, i < 256 → dk 0x6100 (c.toNat + 1) ≠ dk 0x6000 i := by
    intro i hi
    simp only [dk]
    omega
  simp [State.putRas, hn, h1, h2, hne]

/-- An action that is taken answers OK. -/
theorem took_of_fst {r : Bool × State} (h : r.1 = true) : took r = (0, r.2) := if_pos h

end Sys2Proof.Machine

namespace Sys2Proof.Claims
open Machine

variable {s t u : State} {m : List Byte} {rest : List (List Byte)} {e : Entry} {v : List Byte}

/-! ### A write of the mailbox with a command of its own -/

theorem mailReq_sub_lt (m : List Byte) : (mailReq true m).sub < 256 := by
  have h : ∀ l : List Byte, leNat (l.take 1) < 256 := fun l => by
    cases l with
    | nil => simp [leNat]
    | cons b l => simpa [leNat] using b.isLt
  exact h _

/-- The key of a request is that of one index and one subindex. -/
theorem mailReq_of_key {i j : Nat} (hj : j < 256) (hk : mailKey m = dk i j) :
    (mailReq true m).idx = i ∧ (mailReq true m).sub = j := by
  have hs := mailReq_sub_lt m
  simp only [mailKey, dk] at hk
  omega

/-- The entry that the message writes is the one of the table. -/
theorem MailWrite.entry_eq (h : MailWrite s m rest e v u) {i j : Nat} (hj : j < 256) (hk : mailKey m = dk i j) {x : Entry}
    (hx : entryAt i j = some x) : e = x := by
  obtain ⟨rfl, rfl⟩ := mailReq_of_key hj hk
  exact Option.some.inj (h.entry.symm.trans hx)

/-- The command of an entry is its write, where the command takes any. -/
theorem MailWrite.ownWrite_eq (h : MailWrite s m rest e v u) {o : OwnWrite} (hk : mailKey m = o.key)
    (ho : o.ok (mailReq true m) (s.valueWith (mailReq true m)) = true) : s.ownWrite o .mailbox = exec .dictWrite s := by
  obtain ⟨hm, -, hf⟩ := h.taken
  have ht : s.takesOwn o (reqOfMsg true ((padTo 256 m).drop 16)) = true := by
    simp only [State.takesOwn, Bool.and_eq_true, decide_eq_true_eq]
    exact ⟨hk, ho⟩
  simp only [State.ownWrite, hm, hf, ht]
  rfl

/-- A value of errors, check values, the Moraine or security that its entry takes. -/
theorem MailWrite.ownWrite_accepts (h : MailWrite s m rest e v u) {o : OwnWrite} (hk : mailKey m = o.key)
    (ho : o.ok (mailReq true m) (s.valueWith (mailReq true m)) = true) (ht : e.ty ≠ .bool ∨ leNat v < 2)
    (hg : o.key / 2 ^ 20 = 6 ∨ o.key / 2 ^ 20 = 7) (hp : u.putRas o.key v = (0, t)) :
    s.ownWrite o .mailbox = .next (accepted m e t) := by
  rw [h.ownWrite_eq hk ho]
  refine h.accepts ?_
  rw [hk, State.putEntry_ras ht hg, hp]

/-- R489: the value that a closing segment of a DOMAIN entry makes whole. -/
theorem MailWrite.valueWith_eq (h : MailWrite s m rest e v u) (ht : e.ty = .domain) :
    (mailReq true m).last = true ∧ s.valueWith (mailReq true m) = v := by
  obtain ⟨rfl, -, hd⟩ | ⟨-, hlast, x, hx, -, ho, -, rfl, -⟩ := h.whole
  · obtain ⟨hx, ho, hl⟩ := hd ht
    have hx' : s.session (dk (mailReq true m).idx (mailReq true m).sub) = none := hx
    exact ⟨hl, by rw [State.valueWith, hx', padTo_of_length (data_length_of_whole h.length ht ho hl)]⟩
  · have hx' : s.session (dk (mailReq true m).idx (mailReq true m).sub) = some x := hx
    exact ⟨hlast, by simp [State.valueWith, hx', ho]⟩

/-! ### The entries -/

section
variable (h : MailWrite s m rest e v u)
include h

theorem errAck_mailbox (hk : mailKey m = dk 0x6000 3) (ha : (u.errAck (BitVec.ofNat 32 (leNat v))).1 = true) :
    exec (.errAck .mailbox) s = .next (accepted m e (u.errAck (BitVec.ofNat 32 (leNat v))).2) := by
  have he := h.entry_eq (by decide) hk rfl
  exact h.ownWrite_accepts hk rfl (.inl (by simp [he])) (.inl rfl) (took_of_fst ha)

/-- What a write of ERR_INJECT does that is taken. -/
theorem errInject_mailbox (hk : mailKey m = dk 0x6000 8) (hi : u.errInject v = (true, t)) :
    exec (.errInject .mailbox) s = .next (accepted m e t) := by
  have he := h.entry_eq (by decide) hk rfl
  exact h.ownWrite_accepts hk rfl (.inl (by simp [he])) (.inl rfl) (by simp [State.putRas, entryOnly, dk, hi, took])

theorem errProdLockSet_mailbox (hk : mailKey m = dk 0x6000 0x0B) (hn : leNat v = 0xA5) (hf : u.sec.fuse = none) :
    exec (.errProdLockSet .mailbox) s = .next (accepted m e (u.onSec (fun x => { x with fuse := some .prodLock }))) := by
  have he := h.entry_eq (by decide) hk rfl
  exact h.ownWrite_accepts hk rfl (.inl (by simp [he])) (.inl rfl)
    (by simp [State.putRas, entryOnly, dk, State.prodLockSet, hn, State.beginFuse_begins hf])

theorem secKeyRevoke_mailbox (hk : mailKey m = dk 0x7000 3) (hr : (u.keyRevoke (leNat v)).1 = 0) :
    exec (.secKeyRevoke .mailbox) s =
      .next (accepted m e (u.onSec (fun x => { x with fuse := some (.revoke (BitVec.ofNat 4 (leNat v))) }))) := by
  have he := h.entry_eq (by decide) hk rfl
  exact h.ownWrite_accepts hk rfl (.inl (by simp [he])) (.inr rfl)
    (by simp [State.putRas, entryOnly, dk, State.keyRevoke_begins hr])

theorem secSvnCommit_mailbox (hk : mailKey m = dk 0x7000 5) (hn : leNat v = 1) (hv : u.sec.svnFused < u.sec.svn.toNat)
    (hf : u.sec.fuse = none) : exec (.secSvnCommit .mailbox) s =
      .next (accepted m e (u.onSec (fun x => { x with fuse := some (.svn u.sec.svn.toNat) }))) := by
  have he := h.entry_eq (by decide) hk rfl
  exact h.ownWrite_accepts hk rfl (.inl (by simp [he])) (.inr rfl)
    (by simp [State.putRas, entryOnly, dk, hn, State.svnCommit_begins hv hf])

/-- R564: a write that has passed the check of access finds the host's extensions enabled. -/
theorem MailWrite.hostEn (hk : mailKey m = dk 0x7000 0x0A) : u.sec.hostEn = true := by
  obtain rfl := h.entry_eq (by decide) hk rfl
  have hs : s.takeUp.sec.hostEn = true := by simpa [State.writeDenied, dk, Entry.access, askMbx] using h.allowed
  obtain ⟨-, rfl, -⟩ | ⟨-, -, x, -, -, -, -, -, rfl⟩ := h.whole
  · exact hs
  · exact hs

theorem secMeasExtend_mailbox (hk : mailKey m = dk 0x7000 0x0A) (hl : 8 ≤ fld v 0 1) (hu : fld v 0 1 ≤ 15) :
    exec (.secMeasExtend .mailbox) s = .next (accepted m e (u.extend (fld v 0 1) (v.drop 1))) := by
  have he := h.entry_eq (by decide) hk rfl
  exact h.ownWrite_accepts hk rfl (.inl (by simp [he])) (.inr rfl)
    (by simp [State.putRas, entryOnly, dk, State.measExtend_extends (MailWrite.hostEn h hk) hl hu])

/-- R550: a write of CVU_UNIT by a command of its own, which asks what EN becomes. -/
theorem MailWrite.cvu_accepts {unit : BitVec 4} (hk : mailKey m = dk 0x6100 (unit.toNat + 1)) (hf : u.cvuFwOnly unit = false)
    {on : List Byte → Bool} {a : Option Nat} {okReg : W32 → W32 → Bool} (ho : on v = true) :
    s.ownWrite ⟨dk 0x6100 (unit.toNat + 1), fun r v => r.last && on v, a, okReg⟩ .mailbox =
      .next (accepted m e (u.putCvu unit v).2) := by
  have hu := unit.isLt
  have hx : entryAt 0x6100 (unit.toNat + 1) = some ⟨0x6100, 0x01, 0x10, "CVU_UNIT", .domain, 64, .rw, .rw, .ro, .rw⟩ := by
    have hall : ∀ k < 16, entryAt 0x6100 (k + 1) = some ⟨0x6100, 0x01, 0x10, "CVU_UNIT", .domain, 64, .rw, .rw, .ro, .rw⟩ := by
      decide
    exact hall _ hu
  have he := h.entry_eq (by omega) hk hx
  obtain ⟨hlast, hv⟩ := h.valueWith_eq (by simp [he])
  refine h.ownWrite_accepts hk (by simp [hlast, hv, ho]) (.inl (by simp [he])) (.inl ?_) ?_
  · simp only [dk]
    omega
  · rw [State.putRas_cvu, ← State.putCvu_result unit hf (v := v)]

theorem cvuStart_mailbox {unit : BitVec 4} (hk : mailKey m = dk 0x6100 (unit.toNat + 1)) (hf : u.cvuFwOnly unit = false)
    (ho : fld v 44 4 % 2 = 1) : exec (.cvuStart unit .mailbox) s = .next (accepted m e (u.putCvu unit v).2) :=
  MailWrite.cvu_accepts h hk hf (on := fun v => decide (fld v 44 4 % 2 = 1)) (by simpa using ho)

theorem cvuStop_mailbox {unit : BitVec 4} (hk : mailKey m = dk 0x6100 (unit.toNat + 1)) (hf : u.cvuFwOnly unit = false)
    (ho : fld v 44 4 % 2 = 0) : exec (.cvuStop unit .mailbox) s = .next (accepted m e (u.putCvu unit v).2) :=
  MailWrite.cvu_accepts h hk hf (on := fun v => decide (fld v 44 4 % 2 = 0)) (by simpa using ho)

theorem morFreeze_mailbox (hk : mailKey m = dk 0x6200 4) (hn : leNat v < 2)
    (hf : u.morFreeze (leNat v = 1) = (true, t)) : exec (.morFreeze .mailbox) s = .next (accepted m e t) :=
  h.ownWrite_accepts hk rfl (.inr hn) (.inl rfl) (by simp [State.putRas, entryOnly, dk, hf, took])

theorem morFlush_mailbox (hk : mailKey m = dk 0x6200 5) (hn : leNat v = 1) :
    exec (.morFlush .mailbox) s = .next (accepted m e u.dueSnap) :=
  h.ownWrite_accepts hk rfl (.inr (by omega)) (.inl rfl) (by simp [State.putRas, entryOnly, dk, State.putFlush, hn])

end

end Sys2Proof.Claims

open Sys2Proof Machine Claims

/-- Settles O49: each entry's command is its write, and the entry takes the value. -/
theorem dictionaryRas : Obligations.DictionaryRas := by
  unfold Obligations.DictionaryRas
  intro s m rest e v u h
  refine ⟨errAck_mailbox h,
    fun hk he hl => ⟨fun hb => errInject_mailbox h hk (State.errInject_disarms he hl hb),
      fun hb hc hn ha => errInject_mailbox h hk (State.errInject_arms he hl hb hc hn ha)⟩,
    errProdLockSet_mailbox h, secKeyRevoke_mailbox h, secSvnCommit_mailbox h, secMeasExtend_mailbox h,
    fun unit hk hf => ⟨cvuStart_mailbox h hk hf, cvuStop_mailbox h hk hf⟩,
    fun hk => ⟨fun hn hf => morFreeze_mailbox h hk (by omega) ?_, fun hn => morFreeze_mailbox h hk (by omega) ?_⟩,
    morFlush_mailbox h⟩
  · simp [State.morFreeze, hn, hf]
  · simp [State.morFreeze, hn]

end

section
/-! PROOFS. The check-value units and the Moraine (R533 to R548). -/

namespace Sys2Proof.Machine

variable {s : State}

/-! ### What issuing a request leaves alone -/

section
variable {γ : Type} {v : State → γ} (hq : ∀ s t : State, t.quiet = s.quiet → v t = v s) (hm : ∀ (s : State) f, v (s.onMem f) = v s)
include hq hm

/-- The injection of a request keeps a view of the state that holds nothing of the memory semantics, of light or of packets. -/
theorem State.firstInject_keeps (s : State) (r : Req) : v (s.firstInject r) = v s := by
  have hseq : v (s.takeSeq r).2 = v s := by
    simp only [State.takeSeq]
    split
    · exact hm s _
    · rfl
  rw [← hseq]
  simp only [State.firstInject, State.sendReq]
  rw [hq _ _ (State.inject_quiet _ _ _)]
  exact (hm _ _).trans ((hm _ _).trans (hm _ _))

theorem releaseGo_keeps : ∀ (ids : List Nat) (s : State), v (releaseGo ids s) = v s
  | [], _ => rfl
  | id :: ids, s => by
    unfold releaseGo
    split
    · exact releaseGo_keeps ids s
    · split
      · exact releaseGo_keeps ids s
      · rw [releaseGo_keeps ids, State.firstInject_keeps hq hm]

theorem State.issueRaw_keeps (s : State) (p : Packet) (o : ReqOwner) (g : Option W32) : v (s.issueRaw p o g).1 = v s := by
  simp only [State.issueRaw]
  split
  · rfl
  · exact (releaseGo_keeps hq hm _ _).trans (hm _ _)

end

/-! ### The check-value units -/

@[simp] theorem State.cvuAt_onCvu (s : State) (c : BitVec 4) (f : Cvu → Cvu) : (s.onCvu c.toNat f).cvuAt c = f (s.cvuAt c) := by
  simp [State.cvuAt, State.onCvu]

theorem State.onCvu_congr {c : BitVec 4} {f g : Cvu → Cvu} (h : f (s.cvuAt c) = g (s.cvuAt c)) :
    s.onCvu c.toNat f = s.onCvu c.toNat g := by
  have h' : f (RF.at s.cvu c) = g (RF.at s.cvu c) := h
  simp [State.onCvu, h']

/-- What a scan's end leaves: the result and LAST of the unit, and the error state. -/
def State.scanEnds (s : State) (c : BitVec 4) : Byte × W16 × Errs := ((s.cvuAt c).result, (s.cvuAt c).last, s.errs)

/-- R539: the answer to the store of a scan's record sets no result. -/
theorem State.tell_scanEnds (s : State) (c : BitVec 4) (op ga n atop : Nat) (a : Answer) :
    (s.tell (.cvu c.toNat none) op ga n atop a).scanEnds c = s.scanEnds c := by
  simp only [State.tell, State.cvuAnswer, State.scanEnds, State.cvuAt_onCvu, State.onCvu_errs]
  split <;> rfl

theorem State.issue_scanEnds (s : State) (c : BitVec 4) (p : Packet) (g : Option W32) :
    (s.issue p (.cvu c.toNat none) g).scanEnds c = s.scanEnds c := by
  have h : (s.issueRaw p (.cvu c.toNat none) g).1.scanEnds c = s.scanEnds c :=
    State.issueRaw_keeps (v := fun s => s.scanEnds c) (fun _ _ h => (congrArg (fun u : State => u.scanEnds c) h :)) (fun _ _ => rfl) s _ _ _
  simp only [State.issue]
  generalize s.issueRaw p (.cvu c.toNat none) g = x at h
  obtain ⟨t, st | st⟩ := x
  · exact h
  · exact (t.tell_scanEnds c _ _ _ _ _).trans h

/-- R537, R539: a scan ends with its result, and is counted. -/
theorem State.cvuFinish_scanEnds (s : State) (c : BitVec 4) (r : Byte) (v : W16) :
    (s.cvuFinish c r v).scanEnds c = (r, (s.cvuAt c).last, { s.errs with scans := satInc s.errs.scans }) := by
  simp only [State.cvuFinish]
  split
  · simp [State.scanEnds, State.cvuAt, State.onCvu, State.onErrs]
  · rw [State.issue_scanEnds]
    simp [State.scanEnds, State.cvuAt, State.onCvu, State.onErrs]

theorem Errs.place_mismatches (e : Errs) (r : ErrRec) : (e.place r).mismatches = e.mismatches := by
  unfold Errs.place
  split <;> rfl

theorem Errs.countInjected_mismatches (e : Errs) (b : Bool) : (e.countInjected b).mismatches = e.mismatches := by
  unfold Errs.countInjected
  split <;> rfl

theorem Errs.startFe_mismatches (e : Errs) (c : ErrCls) : (e.startFe c).mismatches = e.mismatches := by
  unfold Errs.startFe
  split <;> rfl

theorem Errs.enter_mismatches (e : Errs) (now : W64) (r : Raise) (cls : ErrCls) (rcd : ErrRec) :
    (e.enter now r cls rcd).mismatches = e.mismatches := by
  have h : (((e.place rcd).count cls).countInjected r.injected).mismatches = e.mismatches :=
    (Errs.countInjected_mismatches _ _).trans (e.place_mismatches rcd)
  simp only [Errs.enter]
  split
  · split <;> exact h
  · rw [Errs.startFe_mismatches]
    split <;> exact h

/-- A raise keeps a view of the state that holds nothing of the error state or of the log. -/
theorem State.raise'_keeps {γ : Type} {v : State → γ} (he : ∀ (s : State) f, v (s.onErrs f) = v s)
    (hl : ∀ (s : State) core sev p x, v (s.log core sev p x) = v s) (s : State) (r : Raise) : v (s.raise' r) = v s := by
  have h : v (s.asInjected r).2 = v s := by
    unfold State.asInjected
    split
    · show v s.injUsed = v s
      exact he s _
    · rfl
  obtain ⟨e, -, hr | ⟨sev, p, hr⟩⟩ := s.raise_cases r
  · rw [hr, he, h]
  · rw [hr, hl, he, h]

theorem State.log_cvu (s : State) (core sev : Nat) (p : List Byte) (x : Bool) : (s.log core sev p x).cvu = s.cvu := by
  simp only [State.log]
  split
  · rfl
  · split <;> rfl

theorem State.raise'_cvu (s : State) (r : Raise) : (s.raise' r).cvu = s.cvu :=
  State.raise'_keeps (v := State.cvu) (fun _ _ => rfl) State.log_cvu s r

/-- What a raise makes of the error state: a CE merges into its record, any other one enters the bank. -/
theorem State.raise'_errs (s : State) (r : Raise) : ∃ x : Raise,
    (∃ i rcd, (s.raise' r).errs = (s.asInjected r).2.errs.mergeInto i rcd x.injected) ∨
    ∃ cls rcd, (s.raise' r).errs = (s.asInjected r).2.errs.enter (s.asInjected r).2.now x cls rcd := by
  unfold State.raise' State.raise
  generalize s.asInjected r = x
  obtain ⟨r, u⟩ := x
  dsimp only
  refine ⟨r, ?_⟩
  split
  next i rcd _ => exact .inl ⟨i, rcd, rfl⟩
  next =>
    refine .inr ⟨u.raiseCls r, u.errRecord r (u.raiseCls r) (u.errs.escalates u.now r), ?_⟩
    by_cases hp : (u.errs.pick (u.raiseCls r)).isSome = true
    · exact (congrArg State.errs (if_pos hp)).trans (State.log_errs _ _ _ _ _)
    · exact congrArg State.errs (if_neg hp)

/-- A raise counts no mismatch of a check value. -/
theorem State.raise'_mismatches (s : State) (r : Raise) : (s.raise' r).errs.mismatches = s.errs.mismatches := by
  have h : (s.asInjected r).2.errs.mismatches = s.errs.mismatches := by
    unfold State.asInjected
    split <;> rfl
  obtain ⟨x, ⟨i, rcd, hx⟩ | ⟨cls, rcd, hx⟩⟩ := s.raise'_errs r
  · exact (congrArg Errs.mismatches hx).trans ((Errs.countInjected_mismatches _ _).trans h)
  · exact (congrArg Errs.mismatches hx).trans ((Errs.enter_mismatches _ _ _ _ _).trans h)

section
variable {c : BitVec 4}

section
variable {l : CvuLoad} {rest : List CvuLoad} {st : Byte} {data : List Byte} {ok : Nat} (hf : (s.cvuAt c).flight = l :: rest)
  (hr : l.res = some (st, data, ok)) (he : (s.cvuAt c).en = true) (hs : (s.cvuAt c).storing = false)
include hf hr he hs

theorem cvuLoadComplete_fails (h0 : st ≠ scOk) (hp : st ≠ scPoisoned) : exec (.cvuLoadComplete c) s =
    .next ((s.onCvu c.toNat (fun x => { x with flight := rest })).cvuFinish c st (s.cvuAt c).value) := by
  simp [execCvuLoadComplete, hf, hr, he, hs, h0, hp]

theorem cvuLoadComplete_feeds (h0 : st = scOk) (ht : (s.cvuAt c).stopping = false) : exec (.cvuLoadComplete c) s =
    .next (cvuIssue c 64 ((s.onCvu c.toNat (fun x => { x with flight := rest })).onCvu c.toNat (fun x => x.feed data))) := by
  simp [execCvuLoadComplete, hf, hr, he, hs, h0, ht]

theorem cvuLoadComplete_stops (h0 : st = scOk) (ht : (s.cvuAt c).stopping = true) (hn : rest = []) :
    exec (.cvuLoadComplete c) s = .next (((s.onCvu c.toNat (fun x => { x with flight := rest })).onCvu c.toNat
      (fun x => x.feed data)).cvuFinish c 0x23 (s.cvuAt c).value) := by
  simp [execCvuLoadComplete, hf, hr, he, hs, h0, ht, hn]

end

/-- R534: a scan whose last byte has been fed, with VALUE folded in. -/
def State.folded (s : State) (c : BitVec 4) : State := s.onCvu c.toNat (fun x => { x with run := (s.cvuAt c).fold })

@[simp] theorem State.folded_cvuAt (s : State) (c : BitVec 4) :
    (s.folded c).cvuAt c = { s.cvuAt c with run := (s.cvuAt c).fold } := s.cvuAt_onCvu c _

@[simp] theorem State.folded_errs (s : State) (c : BitVec 4) : (s.folded c).errs = s.errs := rfl

section
variable (he : (s.cvuAt c).en = true) (hs : (s.cvuAt c).storing = false) (ht : (s.cvuAt c).stopping = false)
  (hf : (s.cvuAt c).flight = []) (hp : (s.cvuAt c).len.toNat ≤ (s.cvuAt c).pos.toNat)
include he hs ht hf hp

theorem cvuScanEnd_folds : exec (.cvuScanEnd c) s =
    if (s.cvuAt c).mode = 1 then .next ((s.folded c).cvuCompare c ((s.folded c).cvuAt c))
    else .next (((s.folded c).onCvu c.toNat (fun x => { x with value := if x.autoInc then x.value + 1 else x.value })).cvuFinish c 0
      (s.cvuAt c).value) := by
  have hl : ¬ ((s.cvuAt c).pos.toNat < (s.cvuAt c).len.toNat) := Nat.not_lt.mpr hp
  have hw : s.onCvu c.toNat (fun x => { x with run := x.fold }) = s.folded c := State.onCvu_congr rfl
  simp [execCvuScanEnd, he, hs, ht, hf, hl, hw, Cvu.compares]

theorem cvuScanEnd_generates (hm : (s.cvuAt c).mode ≠ 1) : exec (.cvuScanEnd c) s =
    .next (((s.folded c).onCvu c.toNat (fun x =>
      { x with value := if (s.cvuAt c).autoInc then (s.cvuAt c).value + 1 else (s.cvuAt c).value })).cvuFinish c 0 (s.cvuAt c).value) := by
  have hw : (s.folded c).onCvu c.toNat (fun x => { x with value := if x.autoInc then x.value + 1 else x.value }) =
      (s.folded c).onCvu c.toNat (fun x =>
        { x with value := if (s.cvuAt c).autoInc then (s.cvuAt c).value + 1 else (s.cvuAt c).value }) :=
    State.onCvu_congr (by simp)
  rw [cvuScanEnd_folds he hs ht hf hp, if_neg hm, hw]

variable (hm : (s.cvuAt c).mode = 1) (hi : s.errs.inj = none)
include hm hi

theorem cvuScanEnd_agrees (hx : (s.cvuAt c).fold = (s.cvuAt c).expect) : exec (.cvuScanEnd c) s =
    .next (((s.folded c).onCvu c.toNat (fun x => { x with last := (s.cvuAt c).value })).cvuFinish c 0 (s.cvuAt c).value) := by
  rw [cvuScanEnd_folds he hs ht hf hp, if_pos hm]
  have hw : (s.folded c).onCvu c.toNat (fun x => { x with last := x.value }) =
      (s.folded c).onCvu c.toNat (fun x => { x with last := (s.cvuAt c).value }) := State.onCvu_congr (by simp)
  simp [State.cvuCompare, State.injects_none, hi, hx, hw]

theorem cvuScanEnd_differs (hx : (s.cvuAt c).fold ≠ (s.cvuAt c).expect) : ∃ t, exec (.cvuScanEnd c) s = .next t ∧
    (t.cvuAt c).result = 0x20 ∧ (t.cvuAt c).last = (s.cvuAt c).last ∧ t.errs.mismatches = satInc s.errs.mismatches := by
  rw [cvuScanEnd_folds he hs ht hf hp, if_pos hm]
  refine ⟨_, rfl, ?_⟩
  have hn : ¬ (((s.folded c).cvuAt c).run = ((s.folded c).cvuAt c).expect) := by simpa using hx
  have hj : ∀ unit cause a g, (s.folded c).injects unit cause a g = false := (s.folded c).injects_none hi
  simp only [State.cvuCompare, hn, hj, Bool.false_eq_true, if_false, decide_false, Bool.false_and]
  generalize hr : (s.folded c).raise' _ = u
  have hu : u.cvuAt c = (s.folded c).cvuAt c := by
    rw [← hr, State.cvuAt, State.raise'_cvu, State.cvuAt]
  have hm : u.errs.mismatches = s.errs.mismatches := by rw [← hr, State.raise'_mismatches, State.folded_errs]
  obtain ⟨h1, h2⟩ := Prod.mk.inj ((u.onErrs (fun e => { e with mismatches := satInc e.mismatches })).cvuFinish_scanEnds c 0x20 _)
  obtain ⟨h2, h3⟩ := Prod.mk.inj h2
  refine ⟨h1, h2.trans ?_, (congrArg Errs.mismatches h3).trans (congrArg satInc hm)⟩
  exact (congrArg Cvu.last hu).trans (by simp)

end
end

/-! ### The Moraine -/

/-- What a sample leaves alone: the freeze, the stamps of the extremes, and in a freeze the data. -/
def Moraine.sampled (m : Moraine) : Option W64 × W32 × W32 × Option MorData :=
  (m.frozen, m.cycles, m.optime, if m.frozen.isSome then some m.d else none)

theorem Moraine.on_sampled (m : Moraine) (f : MorData → MorData) : (m.on f).sampled = m.sampled := by
  unfold Moraine.on Moraine.sampled
  split
  · rfl
  · simp

/-- R541, R543: a sample is of the Moraine alone, and goes into the shadow while it is frozen. -/
theorem moraineSample_takes (he : s.mor.en = true) (hs es : List (Nat × Int)) :
    ∃ m, exec (.moraineSample hs es) s = .next { s with mor := m } ∧ m.frozen = s.mor.frozen ∧ m.cycles = s.mor.cycles ∧
      m.optime = s.mor.optime ∧ (s.mor.frozen.isSome = true → m.d = s.mor.d) := by
  simp only [exec_moraineSample, execMoraineSample, he, if_true]
  refine ⟨_, rfl, ?_⟩
  dsimp only
  generalize hm : List.foldl _ _ _ = m
  have h : m.sampled = s.mor.sampled := by
    have hv : ∀ (m : Moraine) (p : Nat × Int), (m.value p.1 p.2).sampled = m.sampled := fun m p => m.on_sampled _
    have hc : ∀ (m : Moraine) (p : Nat × Int), (m.count p.1 p.2).sampled = m.sampled := fun m p => m.on_sampled _
    rw [← hm, foldl_keeps Moraine.sampled hv, foldl_keeps Moraine.sampled hc]
  simp only [Moraine.sampled, Prod.mk.injEq] at h
  obtain ⟨hf, hc, ho, hd⟩ := h
  refine ⟨hf, hc, ho, fun hx => ?_⟩
  simpa [hf, hx] using hd

/-- R540: the bin of a dip. -/
theorem histBin_dip {d : Nat} (hd : 15 < d) : histBin 44 d = min ((d - 15) / 5) 31 := by
  have h : ((d : Int) - 15).fdiv 5 = (((d - 15) / 5 : Nat) : Int) := by
    rw [Int.fdiv_eq_ediv_of_nonneg _ (by decide)]
    omega
  have hc : ∀ n : Nat, clampBin n = min n 31 := fun n => if_neg (by omega)
  exact (congrArg clampBin h).trans (hc _)

theorem vddSrcDip_counts (he : s.mor.en = true) {d : Nat} (hd : 15 < d) (hf : s.mor.frozen = none) : exec (.vddSrcDip d) s =
    .next { s with mor := { s.mor with d := s.mor.d.add 44 (min ((d - 15) / 5) 31) 1 } } := by
  simp [execVddSrcDip, he, hd, State.onMor, Moraine.count, Moraine.on, hf, histBin_dip hd]

theorem snapshotDue_falls (he : s.mor.en = true) : exec .snapshotDue s = .next s.dueSnap := by
  simp [execSnapshotDue, he]

theorem State.raise'_mor (s : State) (r : Raise) : (s.raise' r).mor = s.mor := (congrArg State.mor (s.raise'_still r) :)

theorem State.dieStatus_mor (s : State) (i status : Nat) : (s.dieStatus i status).mor = s.mor := by
  unfold State.dieStatus
  split
  · rfl
  · split <;> rfl

section
variable {x : Snap} (hw : s.mor.writing = some x) (hi : s.errs.inj = none)
include hw hi

theorem snapshotWriteComplete_stores : exec (.snapshotWriteComplete true) s = .next (s.snapWritten x).startSnap := by
  simp [execSnapshotWriteComplete, hw, State.injects_none _ hi]

/-- R548: a write that fails is tried again in the next slot. -/
theorem snapshotWriteComplete_retries (hn : s.mor.failRun < 2) : ∃ t, exec (.snapshotWriteComplete false) s = .next t ∧
    t.mor.failRun = s.mor.failRun + 1 ∧ t.mor.writing = some { x with seq := x.seq + 1 } ∧ t.mor.store = s.mor.store := by
  have hn' : s.mor.failRun + 1 < 3 := by omega
  simp [execSnapshotWriteComplete, hw, State.injects_none _ hi, State.raise'_mor, hn']

/-- R27, R548: after three failures in a row the store is FAILED. -/
theorem snapshotWriteComplete_gives_up (hn : 2 ≤ s.mor.failRun) : ∃ t, exec (.snapshotWriteComplete false) s = .next t ∧
    t.mor.store = 2 ∧ t.mor.writing = none := by
  have hn' : ¬ (s.mor.failRun + 1 < 3) := by omega
  simp [execSnapshotWriteComplete, hw, State.injects_none _ hi, State.raise'_mor, hn', State.dieStatus_mor]

end

theorem morFreezeExpire_merges (hf : s.mor.frozen.isSome = true) : exec .morFreezeExpire s = .next (s.onMor (fun m =>
    { m with frozen := none, d := m.d.merge m.shadow, shadow := MorData.reset })).startSnap := by
  have hn : s.mor.frozen.isNone = false := by simpa using hf
  simp only [exec_morFreezeExpire, execMorFreezeExpire, State.thaw, hn]
  rfl

end Sys2Proof.Machine

open Sys2Proof Machine Claims

/-- Settles O54, one lemma for each command and outcome. -/
theorem checkValuesAndMoraine : Obligations.CheckValuesAndMoraine := by
  unfold Obligations.CheckValuesAndMoraine
  refine ⟨fun s c => ⟨fun l rest st data ok hf hr he hs => ⟨cvuLoadComplete_fails hf hr he hs, cvuLoadComplete_feeds hf hr he hs,
      cvuLoadComplete_stops hf hr he hs⟩,
    fun he hs ht hf hp => ⟨cvuScanEnd_generates he hs ht hf hp, fun hm hi => ⟨cvuScanEnd_agrees he hs ht hf hp hm hi,
      cvuScanEnd_differs he hs ht hf hp hm hi⟩⟩⟩, fun s => ⟨fun he => ⟨moraineSample_takes he, fun d => vddSrcDip_counts he,
    snapshotDue_falls he⟩, fun x hw hi => ⟨snapshotWriteComplete_stores hw hi, snapshotWriteComplete_retries hw hi,
    snapshotWriteComplete_gives_up hw hi⟩, morFreezeExpire_merges⟩⟩

end

section
/-! PROOFS. What every command keeps: the part, the queue, the fuses, the measurements and the canonical form of memory (R530, R555 to
R562). -/

namespace Sys2Proof.Machine

set_option Elab.async false

/-- What lasts over every command, a reset among them: the part and the queue stay, the fuses move one way, and memory stays in its
canonical form. -/
structure Lasts (s t : State) : Prop where
  part : t.part = s.part
  pending : t.pending = s.pending
  lock : s.errs.prodLock = true → t.errs.prodLock = true
  revoked : s.sec.keyRevoked &&& t.sec.keyRevoked = s.sec.keyRevoked
  svn : s.sec.svnFused ≤ t.sec.svnFused
  keyHash : t.sec.keyHash = s.sec.keyHash
  uds : t.sec.uds = s.sec.uds
  mem : s.memWf = true → t.memWf = true

/-- What every command but a reset keeps: the measurement registers change by extensions only. -/
structure Keeps (s t : State) : Prop extends Lasts s t where
  meas : ∃ vs, t.sec.meas = Claims.extended s.sec.meas vs ∧ ∀ p ∈ vs, p.2.length = 32

/-- What a command that stops nowhere keeps. -/
def Leaves (s : State) : Res → Prop
  | .next t => Keeps s t
  | _ => True

/-- A tile whose SRAM is in its canonical form where the memory of `s` is. -/
def SramOk (s : State) (u : Tile) : Prop := s.memWf = true → Memory.wf u.sram = true

/-- All of a state that `Keeps` speaks of. -/
def State.lasting (s : State) :
    (Part × List Instr × Bool) × (BitVec 4 × Nat × RF 2 (List Byte) × List Byte × RF 4 (List Byte)) × (Mem × Mem × SMap Tile) :=
  ((s.part, s.pending, s.errs.prodLock), (s.sec.keyRevoked, s.sec.svnFused, s.sec.keyHash, s.sec.uds, s.sec.meas),
    (s.hbm.mem, s.firn.scratch, s.serac.tiles))

variable {s t u : State}

theorem State.memWf_iff : s.memWf = true ↔
    Memory.wf s.hbm.mem = true ∧ Memory.wf s.firn.scratch = true ∧ ∀ p ∈ s.serac.tiles, Memory.wf p.2.sram = true := by
  simp [State.memWf, and_assoc]

theorem Lasts.trans (h : Lasts s t) (g : Lasts t u) : Lasts s u where
  part := g.part.trans h.part
  pending := g.pending.trans h.pending
  lock hl := g.lock (h.lock hl)
  revoked := by
    rw [← h.revoked, BitVec.and_assoc, g.revoked]
  svn := h.svn.trans g.svn
  keyHash := g.keyHash.trans h.keyHash
  uds := g.uds.trans h.uds
  mem hm := g.mem (h.mem hm)

theorem extended_append (m : RF 4 (List Byte)) (vs ws : List (BitVec 4 × List Byte)) :
    Claims.extended m (vs ++ ws) = Claims.extended (Claims.extended m vs) ws := List.foldl_append

namespace Keeps

theorem trans (h : Keeps s t) (g : Keeps t u) : Keeps s u where
  toLasts := h.toLasts.trans g.toLasts
  meas := by
    obtain ⟨vs, hv, hl⟩ := h.meas
    obtain ⟨ws, hw, hk⟩ := g.meas
    refine ⟨vs ++ ws, by rw [hw, hv, extended_append], fun p hp => ?_⟩
    exact (List.mem_append.mp hp).elim (hl p) (hk p)

theorem of_lasting (h : t.lasting = s.lasting) : Keeps s t := by
  simp only [State.lasting, Prod.mk.injEq] at h
  obtain ⟨⟨hp, hq, hl⟩, ⟨hr, hn, hk, hu, hm⟩, hh, hf, ht⟩ := h
  exact ⟨⟨hp, hq, fun h => hl.trans h, by rw [hr, BitVec.and_self], hn.ge, hk, hu, fun h => by
    simpa only [State.memWf, hh, hf, ht] using h⟩, [], hm, by simp⟩

theorem of_lasts (h : Lasts s t) (hm : t.sec.meas = s.sec.meas) : Keeps s t := ⟨h, [], hm, by simp⟩

theorem refl (s : State) : Keeps s s := of_lasting rfl

/-- What leaves all of that alone keeps it. -/
theorem same (h : Keeps s t) (hu : u.lasting = t.lasting := by rfl) : Keeps s u := h.trans (of_lasting hu)

/-- What sets other components, or fields of these ones that `Keeps` does not speak of. -/
theorem set {pkg pins cal firm sched floe fab mem clk pow dict regs cvu mor free outbox sec serac firn hbm errs} (h : Keeps s t)
    (hu : (errs.prodLock, sec.keyRevoked, sec.svnFused, sec.keyHash, sec.uds, sec.meas) =
        (t.errs.prodLock, t.sec.keyRevoked, t.sec.svnFused, t.sec.keyHash, t.sec.uds, t.sec.meas) ∧
      (hbm.mem, firn.scratch, serac.tiles) = (t.hbm.mem, t.firn.scratch, t.serac.tiles) := by exact ⟨rfl, rfl⟩) :
    Keeps s { t with pkg, pins, cal, firm, sched, floe, fab, mem, clk, pow, dict, regs, cvu, mor, free, outbox, sec, serac, firn,
                     hbm, errs } := by
  obtain ⟨he, hm⟩ := hu
  simp only [Prod.mk.injEq] at he hm
  obtain ⟨hl, hr, hn, hk, hu, hv⟩ := he
  obtain ⟨hh, hf, ht⟩ := hm
  exact h.same (by simp only [State.lasting, hl, hr, hn, hk, hu, hv, hh, hf, ht])

/-- What writes the HBM. -/
theorem hbmMem {x : Hbm} (h : Keeps s t) (hx : Memory.wf t.hbm.mem = true → Memory.wf x.mem = true) :
    Keeps s { t with hbm := x } where
  toLasts := { h.toLasts with
    mem := fun hm => by
      obtain ⟨hh, hf, ht⟩ := State.memWf_iff.mp (h.mem hm)
      exact State.memWf_iff.mpr ⟨hx hh, hf, ht⟩ }
  meas := h.meas

/-- What writes scratch. -/
theorem scratchMem {x : Firn} (h : Keeps s t) (hx : Memory.wf t.firn.scratch = true → Memory.wf x.scratch = true) :
    Keeps s { t with firn := x } where
  toLasts := { h.toLasts with
    mem := fun hm => by
      obtain ⟨hh, hf, ht⟩ := State.memWf_iff.mp (h.mem hm)
      exact State.memWf_iff.mpr ⟨hh, hx hf, ht⟩ }
  meas := h.meas

/-! ### How commands are put together -/

theorem ite {c : Prop} [Decidable c] (h : Keeps s t) (g : Keeps s u) : Keeps s (if c then t else u) := by
  split
  · exact h
  · exact g

theorem foldl {α : Type} {f : State → α → State} {l : List α} (h : Keeps s t) (hf : ∀ u a, Keeps s u → Keeps s (f u a)) :
    Keeps s (l.foldl f t) := by
  induction l generalizing t with
  | nil => exact h
  | cons a l ih => exact ih (hf t a h)

theorem foldl_fst {α β : Type} {f : State × β → α → State × β} {l : List α} {p : State × β} (h : Keeps s p.1)
    (hf : ∀ p a, Keeps s p.1 → Keeps s (f p a).1) : Keeps s (l.foldl f p).1 := by
  induction l generalizing p with
  | nil => exact h
  | cons a l ih => exact ih (hf p a h)

theorem foldl_pair {α β : Type} {f : State × β → α → State × β} {l : List α} {b : β} (h : Keeps s t)
    (hf : ∀ p a, Keeps s p.1 → Keeps s (f p a).1) : Keeps s (l.foldl f (t, b)).1 :=
  foldl_fst (p := (t, b)) h hf

/-- The state of a pair that is taken apart. -/
theorem of_fst {α : Type} {p : State × α} {a : α} (h : Keeps s p.1) (e : p = (t, a)) : Keeps s t := by
  rw [e] at h
  exact h

theorem of_snd {α : Type} {p : α × State} {a : α} (h : Keeps s p.2) (e : p = (a, t)) : Keeps s t := by
  rw [e] at h
  exact h

theorem ite_fst {α : Type} {c : Prop} [Decidable c] {p q : State × α} (h : Keeps s p.1) (g : Keeps s q.1) :
    Keeps s (if c then p else q).1 := by
  split
  · exact h
  · exact g

theorem ite_snd {α : Type} {c : Prop} [Decidable c] {p q : α × State} (h : Keeps s p.2) (g : Keeps s q.2) :
    Keeps s (if c then p else q).2 := by
  split
  · exact h
  · exact g

end Keeps

theorem Leaves.ite {c : Prop} [Decidable c] {a b : Res} (h : Leaves s a) (g : Leaves s b) : Leaves s (if c then a else b) := by
  split
  · exact h
  · exact g

/-! ### Tiles and their SRAM -/

namespace SramOk
variable {v w : Tile}

theorem same (h : SramOk s v) (hu : w.sram = v.sram := by rfl) : SramOk s w := fun hm => hu ▸ h hm

theorem set {st prog bundle codeBytes stageBytes loops fetch a s' cc md v' p rnd g acc uc matQ vPend postA postS sendCh recvCh doneOps
    linkBuf wire credit memQ nextOp ra phase slice holdReq holdAt} (h : SramOk s v) :
    SramOk s { v with st, prog, bundle, codeBytes, stageBytes, loops, fetch, a, s := s', cc, md, v := v', p, rnd, g, acc, uc, matQ,
                      vPend, postA, postS, sendCh, recvCh, doneOps, linkBuf, wire, credit, memQ, nextOp, ra, phase, slice, holdReq,
                      holdAt } := h

theorem ite {c : Prop} [Decidable c] (h : SramOk s v) (g : SramOk s w) : SramOk s (if c then v else w) := by
  split
  · exact h
  · exact g

theorem foldl {α : Type} {f : Tile → α → Tile} {l : List α} (h : SramOk s v) (hf : ∀ u a, SramOk s u → SramOk s (f u a)) :
    SramOk s (l.foldl f v) := by
  induction l generalizing v with
  | nil => exact h
  | cons a l ih => exact ih (hf v a h)

end SramOk

theorem SMap.mem_of_get {α : Type} {d : α} : ∀ {m : SMap α} {k : Nat}, SMap.get d m k ≠ d → (k, SMap.get d m k) ∈ m
  | [], k, h => absurd rfl h
  | (k', v) :: m, k, h => by
    by_cases hk : k' = k
    · subst hk
      simp [SMap.get]
    · simp only [SMap.get, if_neg hk] at h ⊢
      exact List.mem_cons_of_mem _ (SMap.mem_of_get h)

/-- A write of a sparse map adds at most the pair that it writes. -/
theorem SMap.mem_set {α : Type} [DecidableEq α] {d v : α} {k : Nat} {m : SMap α} {p : Nat × α} (h : p ∈ SMap.set d m k v) :
    p = (k, v) ∨ p ∈ m := by
  unfold SMap.set at h
  split at h
  · exact .inr (SMap.mem_del_mem k m p h)
  · exact (SMap.mem_ins k v _ p h).imp_right (SMap.mem_del_mem k m p)

theorem State.tile_wf (h : s.memWf = true) (n : Nat) : Memory.wf (s.tile n).sram = true := by
  obtain ⟨-, -, ht⟩ := State.memWf_iff.mp h
  by_cases hd : s.tile n = Tile.reset
  · rw [hd]
    rfl
  · exact ht (n, s.tile n) (SMap.mem_of_get hd)

namespace Keeps

/-- The SRAM of a tile of a later state. -/
theorem tile (h : Keeps s t) {n : Nat} : SramOk s (t.tile n) := fun hm => State.tile_wf (h.mem hm) n

theorem setTile (h : Keeps s t) {n : Nat} {v : Tile} (hv : SramOk s v) : Keeps s (t.setTile n v) where
  toLasts := { h.toLasts with
    mem := fun hm => by
      obtain ⟨hh, hf, ht⟩ := State.memWf_iff.mp (h.mem hm)
      refine State.memWf_iff.mpr ⟨hh, hf, fun p hp => ?_⟩
      obtain rfl | hp := SMap.mem_set hp
      · exact hv hm
      · exact ht p hp }
  meas := h.meas

theorem onTile (h : Keeps s t) {n : Nat} {f : Tile → Tile} (hf : ∀ v, SramOk s v → SramOk s (f v)) : Keeps s (t.onTile n f) :=
  h.setTile (hf _ h.tile)

theorem onTiles (h : Keeps s t) {ns : List Nat} {f : Tile → Tile} (hf : ∀ v, SramOk s v → SramOk s (f v)) :
    Keeps s (t.onTiles ns f) :=
  h.foldl fun _ _ h => h.onTile hf

end Keeps

end Sys2Proof.Machine

end

section
/-! PROOFS. One rule for each function of the model, that it keeps what `Keeps` says: dictionary values, tiles and their SRAM, and
own memory (R9, R38, R73, R228, R484). -/

namespace Sys2Proof.Machine

set_option Elab.async false

variable {s t : State} {v : Tile}

theorem Keeps.emit {o} (h : Keeps s t) : Keeps s (t.emit o) := h.same

theorem Keeps.mbxChanged (h : Keeps s t) : Keeps s t.mbxChanged := .ite h.same h

theorem Keeps.setDev {d} (h : Keeps s t) : Keeps s (t.setDev d) := .ite h h.same.mbxChanged

theorem Keeps.log {core sev payload exempt} (h : Keeps s t) : Keeps s (t.log core sev payload exempt) := .ite h (.ite h.same h.same)

theorem Keeps.asInjected {r} (h : Keeps s t) : Keeps s (t.asInjected r).2 := .ite_snd h.same h

/-- A raise leaves the production lock alone. -/
theorem Keeps.raise' {r} (h : Keeps s t) : Keeps s (t.raise' r) := by
  obtain ⟨e, he, hr | ⟨sev, p, hr⟩⟩ := t.raise_cases r
  all_goals
    have hp : e.prodLock = (t.asInjected r).2.errs.prodLock := congrArg (fun p => p.2.2) he
    have hx : Keeps s ((t.asInjected r).2.onErrs (fun _ => e)) := (h.asInjected (r := r)).same
      (by simp only [State.lasting, State.onErrs, hp])
  · exact hr ▸ hx
  · exact hr ▸ hx.log

theorem Keeps.raise {r} (h : Keeps s t) : Keeps s (t.raise r).1 := h.raise'

theorem Keeps.msgIrqDue (h : Keeps s t) : Keeps s t.msgIrqDue := .ite h.same h

theorem Keeps.d2hWrite {x} (h : Keeps s t) : Keeps s (t.d2hWrite x) := h.same.msgIrqDue

theorem Keeps.d2hPump : ∀ {n : Nat} {t : State}, Keeps s t → Keeps s (d2hPump n t)
  | 0, _, h => h
  | n + 1, t, h => by
    simp only [Machine.d2hPump]
    split
    · exact h
    · exact .ite (d2hPump h.d2hWrite) h

theorem Keeps.pump (h : Keeps s t) : Keeps s t.pump := .ite h.d2hPump h

theorem Keeps.d2h {type payload more} (h : Keeps s t) : Keeps s (t.d2h type payload more) := h.same.pump

theorem Keeps.d2hEvent {type payload} (h : Keeps s t) : Keeps s (t.d2hEvent type payload) := .ite h.same h.d2h

theorem Keeps.fwEvent {event who gen} (h : Keeps s t) : Keeps s (t.fwEvent event who gen) := h.d2hEvent

theorem Keeps.lookDom {k v' fresh} (h : Keeps s t) : Keeps s (t.lookDom k v' fresh) := by
  simp only [State.lookDom]
  split
  · exact .ite h h.same
  · exact h.same

theorem Keeps.applyEntry {k v'} (h : Keeps s t) : Keeps s (t.applyEntry k v') := by
  simp only [State.applyEntry]
  repeat' apply Keeps.ite
  any_goals exact h.same.lookDom
  all_goals exact h.same

theorem Keeps.land {k} (h : Keeps s t) : Keeps s (t.land k) := by
  simp only [State.land]
  split
  · exact h
  · exact .ite h.same h.same.applyEntry

theorem Keeps.landFixed {k} (h : Keeps s t) : Keeps s (t.landFixed k) := by
  simp only [State.landFixed]
  split
  · exact h
  · exact .ite h.same h.same.applyEntry

theorem Keeps.fixSettings (h : Keeps s t) : Keeps s t.fixSettings :=
  h.foldl fun _ _ g => by
    split
    · exact g
    · exact g.same

theorem Keeps.landDomain {timeout retention tai} (h : Keeps s t) : Keeps s (t.landDomain timeout retention tai) := by
  have drop : ∀ {u : State} (k v : Nat), Keeps s u → Keeps s (match u.staged k with
      | some x => if u.firm.dm.role = .holder && leNat x != v then u else u.unstage k
      | none => u) := by
    intro u k v g
    split
    · exact .ite g g.same
    · exact g
  exact drop _ _ (drop _ _ (drop _ _ h))

theorem Keeps.landSlice {k} (h : Keeps s t) : Keeps s (t.landSlice k) := by
  simp only [State.landSlice]
  split
  · exact h
  · exact .ite h (.ite h.same h.same)

theorem Keeps.ucProgram {tag r} (h : Keeps s t) : Keeps s (t.ucProgram tag r) := .ite h.raise.set h.raise

theorem Keeps.abortProg {tag status detail} (h : Keeps s t) : Keeps s (t.abortProg tag status detail) := h.same

theorem Keeps.tileFault {n code injected} (h : Keeps s t) : Keeps s (t.tileFault n code injected) :=
  .ite (((h.onTile fun _ g => g.same).set.raise').abortProg) (((h.onTile fun _ g => g.same).set).raise')

theorem SramOk.write {a bs} (h : SramOk s v) : SramOk s (v.write a bs) := fun hm =>
  List.foldlRecOn (motive := fun p : Mem × Nat => Memory.wf p.1 = true) bs _ (h hm) fun _ g _ _ => Mem.wf_wr _ _ _ g

theorem SramOk.writeMasked {a bs on} (h : SramOk s v) : SramOk s (v.writeMasked a bs on) := fun hm =>
  List.foldlRecOn (motive := fun p : Mem × Nat => Memory.wf p.1 = true) bs _ (h hm) fun _ g _ _ => by
    split
    · exact Mem.wf_wr _ _ _ g
    · exact g

theorem Keeps.sramCe {n a len} (h : Keeps s t) : Keeps s (t.sramCe n a len) := h.foldl fun _ _ g => .ite g.same.raise' g

theorem Keeps.withTile {n f} (h : Keeps s t) (hf : ∀ w, SramOk s w → Keeps s (f w)) : Leaves s (t.withTile n f) :=
  .ite (hf _ h.tile) h

theorem SramOk.fetchLine (h : SramOk s v) : SramOk s v.fetchLine := .ite h h.same

theorem Keeps.fetchNext {n} (h : Keeps s t) : Keeps s (t.fetchNext n) :=
  .ite h.tileFault (.ite h.tileFault (.ite (((h.sramCe.setTile h.tile.fetchLine).set).tileFault)
    (h.sramCe.setTile h.tile.fetchLine)))

theorem Keeps.ctlNext {n t'} (h : Keeps s t) (ht' : SramOk s t') : Keeps s (t.ctlNext n t') := (h.setTile ht'.same).fetchNext

theorem Keeps.dieStatus {i status} (h : Keeps s t) : Keeps s (t.dieStatus i status) := by
  simp only [State.dieStatus]
  split
  · exact h
  · exact .ite h h.same

theorem Keeps.hbmCorrected {h' a inj} (h : Keeps s t) : Keeps s (t.hbmCorrected h' a inj) := h.same.raise'

theorem Keeps.hbmUncorrectable {h' a inj} (h : Keeps s t) : Keeps s (t.hbmUncorrectable h' a inj) :=
  ((h.same (u := (t.drawBytes 64).2)).hbmMem (Mem.wf_wrBytes _ _ _)).raise'.set

theorem Keeps.hbmCheck {h' a} (h : Keeps s t) : Keeps s (t.hbmCheck h' a) :=
  .ite h (.ite h.same.hbmCorrected (.ite h.same.hbmUncorrectable h))

theorem Keeps.hbmPut {h' a bs poison} (h : Keeps s t) : Keeps s (t.hbmPut h' a bs poison) :=
  (Keeps.ite h h.hbmCheck).hbmMem (Mem.wf_wrBytes _ _ _)

theorem Keeps.countFailed {a n} (h : Keeps s t) : Keeps s (t.countFailed a n) := .ite h.same h

theorem Keeps.scratchSpoil {off inj} (h : Keeps s t) : Keeps s (t.scratchSpoil off inj) := h.same.raise'

theorem Keeps.scratchFix {off inj} (h : Keeps s t) : Keeps s (t.scratchFix off inj) := h.same.raise'

theorem Keeps.scratchCheck {off} (h : Keeps s t) : Keeps s (t.scratchCheck off) := by
  simp only [State.scratchCheck]
  split
  · exact h
  · split
    · exact .ite h.same.scratchFix h.same.scratchSpoil
    · exact .ite h.same.scratchFix (.ite h.same.scratchSpoil h)

theorem Keeps.readPiece {a n} (h : Keeps s t) : Keeps s (t.readPiece a n).1 := by
  simp only [State.readPiece]
  split
  · exact .ite_fst h.same h.hbmCheck
  · exact h.foldl fun _ _ g => g.scratchCheck
  · exact h

theorem Keeps.memReadRaw {a n} (h : Keeps s t) : Keeps s (t.memReadRaw a n).1 :=
  .ite_fst (h.countFailed.foldl_pair fun _ _ g => g.readPiece) h

theorem Keeps.memRead {a n} (h : Keeps s t) : Keeps s (t.memRead a n).1 := (Keeps.ite h.same h).memReadRaw

theorem Keeps.writePiece {a bs poison} (h : Keeps s t) : Keeps s (t.writePiece a bs poison).1 := by
  simp only [State.writePiece]
  split
  · exact .ite_fst h h.hbmPut
  · exact (h.same (u := t.windowShut _ _)).scratchMem (Mem.wf_wrBytes _ _ _)
  · exact h

theorem Keeps.memWriteBy {a bs poison} (h : Keeps s t) : Keeps s (t.memWriteBy a bs poison).1 :=
  .ite_fst (List.foldlRecOn (motive := fun p : (State × Bool) × List Byte => Keeps s p.1.1) _ _ h.countFailed
    fun _ g _ _ => g.writePiece) h

theorem Keeps.memWrite {a bs poison} (h : Keeps s t) : Keeps s (t.memWrite a bs poison).1 := h.memWriteBy

theorem Keeps.memAtomic {a atop n x c poison} (h : Keeps s t) : Keeps s (t.memAtomic a atop n x c poison).1 :=
  .ite_fst h.memRead h.memRead.memWrite

theorem Keeps.poke {a n v'} (h : Keeps s t) : Keeps s (t.poke a n v') := h.memWrite

end Sys2Proof.Machine

end

section
/-! PROOFS. One rule for each function of the model, that it keeps what `Keeps` says: the lanes and the fabric of a device (R257 to
R322). -/

namespace Sys2Proof.Machine

set_option Elab.async false

variable {s t : State} {v : Tile}

theorem Keeps.emitFrame {f} (h : Keeps s t) : Keeps s (t.emitFrame f) := by
  simp only [State.emitFrame]
  split
  · exact h.same
  · exact h

theorem Keeps.dealRole {dir role lanes m first} (h : Keeps s t) : Keeps s (t.dealRole dir role lanes m first) := h.same.emitFrame

theorem Keeps.carry {t' u role n} (h : Keeps s t) : Keeps s (t.carry t' u role n) := by
  simp only [State.carry]
  split
  · exact h
  · split
    · exact h
    · exact h.foldl fun _ _ g => g.dealRole

theorem Keeps.crossPacket {t' u m} (h : Keeps s t) : Keeps s (t.crossPacket t' u m) := by
  simp only [State.crossPacket]
  split
  · exact h
  · split
    · exact h.dealRole
    · split
      · exact h
      · exact h.dealRole

theorem Keeps.carryMem {t' a n toMem} (h : Keeps s t) : Keeps s (t.carryMem t' a n toMem) := by
  simp only [State.carryMem]
  split
  · exact .ite h.carry h.carry
  · exact .ite h.carry h.carry
  · exact h

theorem Keeps.onFab {f} (h : Keeps s t) : Keeps s (t.onFab f) := h.same

theorem Keeps.onPort {q f} (h : Keeps s t) : Keeps s (t.onPort q f) := h.same

theorem Keeps.fabCount {q i n} (h : Keeps s t) : Keeps s (t.fabCount q i n) := h.same

theorem Keeps.discard {port i} (h : Keeps s t) : Keeps s (t.discard port i) := by
  simp only [State.discard]
  split
  · exact h.same
  · exact h

theorem Keeps.sendTo {x tile} (h : Keeps s t) : Keeps s (t.sendTo x tile) := by
  simp only [State.sendTo]
  split
  · exact h.discard
  · split
    · exact h.crossPacket.set
    · exact h.same
    · exact h.discard

theorem Keeps.sendOuter {p port} (h : Keeps s t) : Keeps s (t.sendOuter p port) := .ite h.discard (.ite h.discard h.crossPacket.set)

theorem Keeps.inject {p tile} (h : Keeps s t) : Keeps s (t.inject p tile) := .ite h (.ite h.sendOuter h.sendTo)

theorem Keeps.retryWaiting (h : Keeps s t) : Keeps s t.retryWaiting := h.same.foldl fun _ _ g => g.sendTo

theorem Keeps.requeue {q} (h : Keeps s t) : Keeps s (t.requeue q) := h.onPort.foldl fun _ _ g => .ite g.discard g.sendTo

theorem Keeps.pickUpstream (h : Keeps s t) : Keeps s t.pickUpstream := by
  simp only [State.pickUpstream]
  split
  · exact h
  · split <;> exact h.same

theorem Keeps.forgetTime {q} (h : Keeps s t) : Keeps s (t.forgetTime q) := .ite h.same.pickUpstream h.same

theorem Keeps.svc {dest type payload} (h : Keeps s t) : Keeps s (t.svc dest type payload) := h.same

theorem Keeps.svcIn {h' type payload} (h : Keeps s t) : Keeps s (t.svcIn h' type payload).2 := .ite_snd h (.ite h.same h.same)

theorem Keeps.onSvc {h' type payload f} (h : Keeps s t) (hf : ∀ u, Keeps s u → Keeps s (f u)) :
    Leaves s (t.onSvc h' type payload f) := by
  have g := h.svcIn (h' := h') (type := type) (payload := payload)
  simp only [State.onSvc]
  split
  · next heq =>
    rw [heq] at g
    exact hf _ g
  · next heq =>
    rw [heq] at g
    exact g

end Sys2Proof.Machine

end

section
/-! PROOFS. One rule for each function of the model, that it keeps what `Keeps` says: the control slot and the links of a tile (R42
to R49, R61 to R65). -/

namespace Sys2Proof.Machine

set_option Elab.async false

variable {s t : State} {v : Tile}

theorem Keeps.ctlOp {n subOk f} (h : Keeps s t) (hf : ∀ w, SramOk s w → Keeps s (f w)) : Leaves s (ctlOp t n subOk f) :=
  h.withTile fun _ g => .ite (hf _ g) h.tileFault

theorem Keeps.ctlSetA {n t' r v'} (h : Keeps s t) (ht' : SramOk s t') : Keeps s (t.ctlSetA n t' r v') := h.ctlNext ht'.same

theorem Keeps.ctlSetS {n t' r v'} (h : Keeps s t) (ht' : SramOk s t') : Keeps s (t.ctlSetS n t' r v') := h.ctlNext ht'.same

theorem Keeps.execCnop {n x} (h : Keeps s t) : Leaves s (execCnop n x t) := h.withTile fun _ g => h.ctlNext g.same

theorem Keeps.execSeta {n c} (h : Keeps s t) : Leaves s (execSeta n c t) := h.ctlOp fun _ g => h.ctlSetA g

theorem Keeps.execAdda {n c} (h : Keeps s t) : Leaves s (execAdda n c t) := h.ctlOp fun _ g => h.ctlSetA g

theorem Keeps.execSets {n c} (h : Keeps s t) : Leaves s (execSets n c t) := h.ctlOp fun _ g => h.ctlSetS g

theorem Keeps.execShis {n c} (h : Keeps s t) : Leaves s (execShis n c t) := h.ctlOp fun _ g => h.ctlSetS g

theorem Keeps.execAdds {n c} (h : Keeps s t) : Leaves s (execAdds n c t) := h.ctlOp fun _ g => h.ctlSetS g

theorem Keeps.execLds {n c} (h : Keeps s t) : Leaves s (execLds n c t) :=
  h.ctlOp fun _ g => .ite h.tileFault (.ite h.tileFault (h.sramCe.ctlSetS g))

theorem Keeps.execSts {n c} (h : Keeps s t) : Leaves s (execSts n c t) := h.ctlOp fun _ g => h.ctlNext g.same.write

theorem Keeps.execMova {n c} (h : Keeps s t) : Leaves s (execMova n c t) := h.ctlOp fun _ g => h.ctlSetA g

theorem Keeps.execMovs {n c} (h : Keeps s t) : Leaves s (execMovs n c t) := h.ctlOp fun _ g => h.ctlSetS g

theorem Keeps.execBr {n c} (h : Keeps s t) : Leaves s (execBr n c t) :=
  h.ctlOp fun _ g => .ite ((h.setTile g.same).fetchNext) (h.ctlNext g.same)

theorem Keeps.execLoop {n c} (h : Keeps s t) : Leaves s (execLoop n c t) :=
  h.withTile fun _ g => .ite h.tileFault (.ite (h.ctlNext g.same) (.ite ((h.setTile g.same).fetchNext) (h.ctlNext g.same)))

theorem Keeps.execWait {n c} (h : Keeps s t) : Leaves s (execWait n c t) :=
  h.ctlOp fun _ g => .ite h (.ite h.tileFault (h.ctlNext g.same))

theorem Keeps.execCcset {n c} (h : Keeps s t) : Leaves s (execCcset n c t) := h.ctlOp fun _ g => h.ctlNext g.same

theorem Keeps.execCcst {n c} (h : Keeps s t) : Leaves s (execCcst n c t) := h.ctlOp fun _ g => h.ctlSetS g

theorem Keeps.execTfence {n c} (h : Keeps s t) : Leaves s (execTfence n c t) := h.ctlOp fun _ g => .ite h (h.ctlNext g.same)

theorem Keeps.execLdmd {n c} (h : Keeps s t) : Leaves s (execLdmd n c t) :=
  h.ctlOp fun _ g => .ite h.tileFault (.ite (h.sramCe.ctlNext g.same) h.tileFault)

theorem Keeps.execSetrnd {n c} (h : Keeps s t) : Leaves s (execSetrnd n c t) :=
  h.ctlOp fun _ g => .ite h.tileFault (h.ctlNext g.same)

theorem Keeps.listCe {n t' table b} (h : Keeps s t) : Keeps s (t.listCe n t' table b) := h.sramCe.sramCe

theorem SramOk.enterBlock {table b} (h : SramOk s v) : SramOk s (v.enterBlock table b) :=
  .ite ((SramOk.ite h.same h).set) ((SramOk.ite h.same h).set)

theorem Keeps.execBlk {n c} (h : Keeps s t) : Leaves s (execBlk n c t) :=
  h.ctlOp fun _ g => by
    split
    · exact h
    · exact .ite h.tileFault (.ite h.tileFault (.ite h ((Keeps.ite h.listCe h).ctlNext g.same.enterBlock)))

theorem Keeps.execPhase {n c} (h : Keeps s t) : Leaves s (execPhase n c t) :=
  h.ctlOp fun _ g => by
    split
    · exact h
    · exact .ite h.tileFault (h.same.ctlNext g.same)

theorem Keeps.onProg {tag f} (h : Keeps s t) : Keeps s (t.onProg tag f) := h.same

theorem Keeps.execSlice {n c} (h : Keeps s t) : Leaves s (execSlice n c t) :=
  h.ctlOp fun _ g => .ite (.ite ((h.setTile g.same).onProg) h) (h.ctlNext g.same)

theorem Keeps.barrierCheck {tag} (h : Keeps s t) : Keeps s (t.barrierCheck tag) := by
  simp only [State.barrierCheck]
  split
  · exact h
  · exact .ite h (.ite h.same (.ite h.same h))

theorem Keeps.phaseEnds {tag n} (h : Keeps s t) : Keeps s (t.phaseEnds tag n) := h.same

theorem Keeps.execPhaseDone {n c} (h : Keeps s t) : Leaves s (execPhaseDone n c t) :=
  h.ctlOp fun _ g => (h.setTile g.same).phaseEnds.barrierCheck

theorem Keeps.execHalt {n c} (h : Keeps s t) : Leaves s (execHalt n c t) := h.ctlOp fun _ g => (h.setTile g.same).barrierCheck

theorem Keeps.trapEvent {n imm} (h : Keeps s t) : Keeps s (t.trapEvent n imm) := by
  simp only [State.trapEvent]
  split
  · exact h
  · exact .ite h (.ite h.same h.same.d2hEvent)

theorem Keeps.execTrap {n c} (h : Keeps s t) : Leaves s (execTrap n c t) := h.ctlOp fun _ g => h.trapEvent.ctlNext g.same

theorem Keeps.wireOut {n d f} (h : Keeps s t) : Keeps s (t.wireOut n d f) := by
  simp only [State.wireOut]
  split
  · exact h.onTile fun _ g => g.same
  · exact (h.onTile fun _ g => g.same).onTile fun _ g => g.same

theorem Keeps.creditBack {n d} (h : Keeps s t) : Keeps s (t.creditBack n d).1 := by
  simp only [State.creditBack]
  split
  · exact h
  · dsimp only
    exact h.onTile fun _ g => g.same

theorem Keeps.sendFlit {n a} (h : Keeps s t) : Keeps s (t.sendFlit n a).2 := by
  simp only [State.sendFlit]
  split
  · exact h.same.raise'
  · exact h.sramCe

theorem SramOk.takeFlit {a f} (h : SramOk s v) : SramOk s (v.takeFlit a f) := .ite h.write.set h.write

theorem Keeps.trySend {n d p} (h : Keeps s t) (hp : t.trySend n d = some p) : Keeps s p.1 := by
  simp only [State.trySend] at hp
  split at hp
  · cases hp
  · split at hp
    · split at hp
      · cases hp
      · cases hp
        exact .creditBack (.wireOut (.onTile h fun _ g => g.same))
    · split at hp
      · cases hp
      · cases hp
        exact .wireOut (.onTile h.sendFlit fun _ g => .ite g.same g.same)
      · split at hp
        · cases hp
          exact .creditBack (.wireOut (.onTile h fun _ g =>
            .ite (SramOk.set (.ite g.same.takeFlit g.same)) (SramOk.set (.ite g.same.takeFlit g.same))))
        · cases hp

theorem Keeps.tryRecv {n d p} (h : Keeps s t) (hp : t.tryRecv n d = some p) : Keeps s p.1 := by
  simp only [State.tryRecv] at hp
  split at hp
  · split at hp
    · cases hp
      exact .creditBack (.onTile h fun _ g => .ite (SramOk.set g.same.takeFlit) (SramOk.set g.same.takeFlit))
    · cases hp
  · cases hp

theorem Keeps.linkRun : ∀ {k : Nat} {l : List LinkEnd} {t : State}, Keeps s t → Keeps s (Machine.linkRun k l t)
  | 0, _, _, h => by
    simpa only [Machine.linkRun] using h
  | k + 1, [], _, h => by
    simpa only [Machine.linkRun] using h
  | k + 1, e :: rest, t, h => by
    simp only [Machine.linkRun]
    split
    · exact h.linkRun
    · next heq =>
      split at heq
      · exact (h.trySend heq).linkRun
      · exact (h.tryRecv heq).linkRun

theorem Keeps.linkKick {n d} (h : Keeps s t) : Keeps s (t.linkKick n d) := h.linkRun

theorem Keeps.execFlitArrive {n d} (h : Keeps s t) : Leaves s (execFlitArrive n d t) := by
  simp only [Machine.execFlitArrive]
  split
  · exact h
  · exact (h.onTile fun _ g => g.same).linkKick

theorem SramOk.strPostA {x bytes} (h : SramOk s v) : SramOk s (v.strPostA x bytes) := .ite h.same h

theorem Keeps.linkIssue {n x dir2 aligned free f} (h : Keeps s t) (hf : ∀ w, SramOk s w → Keeps s (f w)) :
    Leaves s (linkIssue n x t dir2 aligned free f) :=
  h.withTile fun _ g => .ite h.tileFault (.ite h.tileFault (.ite h.tileFault (.ite (hf _ g) h)))

theorem Keeps.execSsend {n x} (h : Keeps s t) : Leaves s (execSsend n x t) :=
  h.linkIssue fun _ g => (h.setTile g.same.strPostA).linkRun

theorem Keeps.execSrecv {n x} (h : Keeps s t) : Leaves s (execSrecv n x t) :=
  h.linkIssue fun _ g => (h.setTile g.same.strPostA).linkKick

theorem Keeps.passIssue {kind n x} (h : Keeps s t) : Leaves s (passIssue kind n x t) :=
  h.linkIssue fun _ g => (h.setTile g.same.strPostA).linkKick

theorem Keeps.execSpass {n x} (h : Keeps s t) : Leaves s (execSpass n x t) := h.passIssue

theorem Keeps.execSpassw {n x} (h : Keeps s t) : Leaves s (execSpassw n x t) := h.passIssue

theorem Keeps.execStreamOpComplete {n} (h : Keeps s t) : Leaves s (execStreamOpComplete n t) := by
  simp only [Machine.execStreamOpComplete]
  split
  · exact h
  · split
    · exact h.setTile h.tile.set
    · exact h.setTile (.ite h.tile.set h.tile.set)

theorem Keeps.clearSides {n ds} (h : Keeps s t) : Keeps s (t.clearSides n ds) :=
  h.foldl fun _ _ g => by
    split
    · exact g.onTile fun _ k => k.same
    · exact (g.onTile fun _ k => k.same).onTile fun _ k => k.same

theorem Keeps.clearLinks {n} (h : Keeps s t) : Keeps s (t.clearLinks n) := (h.onTile fun _ g => g.same).clearSides

theorem Keeps.clearBridges {n} (h : Keeps s t) : Keeps s (t.clearBridges n) :=
  h.foldl fun _ _ g => g.foldl_pair fun _ _ k => by
    split
    · exact k
    · exact .ite_fst k.clearSides k

end Sys2Proof.Machine

end

section
/-! PROOFS. One rule for each function of the model, that it keeps what `Keeps` says: requests, their completion, and the packets of
the fabric (R259, R289 to R349). -/

namespace Sys2Proof.Machine

set_option Elab.async false

variable {s t : State} {v : Tile}

theorem Keeps.takeSeq {r} (h : Keeps s t) : Keeps s (t.takeSeq r).2 := .ite h.same h

theorem Keeps.sendReq {r} (h : Keeps s t) : Keeps s (t.sendReq r) := h.same.inject

theorem Keeps.firstInject {r} (h : Keeps s t) : Keeps s (t.firstInject r) := h.takeSeq.set.sendReq

theorem Keeps.releaseGo : ∀ {ids : List Nat} {t : State}, Keeps s t → Keeps s (Machine.releaseGo ids t)
  | [], _, h => h
  | id :: ids, t, h => by
    simp only [Machine.releaseGo]
    split
    · exact h.releaseGo
    · exact .ite h.releaseGo h.firstInject.releaseGo

theorem Keeps.release (h : Keeps s t) : Keeps s t.release := h.releaseGo

theorem Keeps.issueRaw {pkt owner prog} (h : Keeps s t) : Keeps s (t.issueRaw pkt owner prog).1 := by
  simp only [State.issueRaw]
  split
  · exact h
  · exact h.same.release

theorem SramOk.land {a ga data poison} (h : SramOk s v) : SramOk s (v.land a ga data poison) :=
  h.write.foldl fun _ _ g => .ite g.same g

theorem SramOk.opAnswer {id n st} (h : SramOk s v) : SramOk s (v.opAnswer id n st) := by
  simp only [Tile.opAnswer]
  split
  · exact h
  · exact .ite h.same h.same

theorem SramOk.opData {id a ga st data poison} (h : SramOk s v) : SramOk s (v.opData id a ga st data poison) := .ite h.land h

theorem Keeps.fflCheck {tile id} (h : Keeps s t) : Keeps s (t.fflCheck tile id) := by
  simp only [State.fflCheck]
  split
  · exact .ite (h.onTile fun _ g => g.opAnswer) h
  · exact h

theorem Keeps.hdmaAnswer {e j off op st data poison} (h : Keeps s t) : Keeps s (t.hdmaAnswer e j off op st data poison) := by
  simp only [State.hdmaAnswer]
  split
  · exact h
  · exact .ite ((Keeps.ite h.same h).set) (.ite h.issueRaw.set h.same)

theorem Keeps.onCollRun {cu id f} (h : Keeps s t) : Keeps s (t.onCollRun cu id f) := h.same

theorem Keeps.cvuAnswer {c load ga a} (h : Keeps s t) : Keeps s (t.cvuAnswer c load ga a) := by
  simp only [State.cvuAnswer]
  split <;> exact h.same

theorem Keeps.tell {owner op ga n atop a} (h : Keeps s t) : Keeps s (t.tell owner op ga n atop a) := by
  simp only [State.tell]
  split
  · exact h.onTile fun _ g => (SramOk.ite g.opData (.ite g.opData g)).opAnswer
  · exact h.onTile fun _ g => g.same
  · exact h.same
  · split
    · exact h.fflCheck
    · exact h
  · exact h.hdmaAnswer
  · exact h.same
  · exact h
  · exact h.cvuAnswer
  · exact h

theorem Keeps.nextWb {eng} (h : Keeps s t) : Keeps s (t.nextWb eng) := by
  simp only [State.nextWb]
  split
  · exact .ite h.same.issueRaw h
  · exact h

theorem Keeps.complete {r a} (h : Keeps s t) : Keeps s (t.complete r a) := h.same.tell.release.nextWb

theorem Keeps.issue {pkt owner prog} (h : Keeps s t) : Keeps s (t.issue pkt owner prog) := by
  simp only [State.issue]
  split
  · next heq => exact h.issueRaw.of_fst heq
  · next heq => exact (h.issueRaw.of_fst heq).tell

theorem Keeps.issueFlagged {ch pkt owner prog} (h : Keeps s t) : Keeps s (t.issueFlagged ch pkt owner prog) := by
  simp only [State.issueFlagged]
  split
  · exact h.tell
  · exact h.same

theorem Keeps.takeItem {q x} (h : Keeps s t) : Keeps s (t.takeItem q x) := by
  simp only [State.takeItem]
  split
  · split
    · exact h.same.discard
    · exact h.same
  · exact .ite h.same h.same.discard
  · exact h.same.discard

theorem Keeps.rxRelease {q} : ∀ {n : Nat} {t : State}, Keeps s t → Keeps s (Machine.rxRelease q n t)
  | 0, _, h => h
  | n + 1, t, h => by
    simp only [Machine.rxRelease]
    split
    · exact h
    · exact ((h.same (u := t.onRx q _)).foldl fun _ _ g => g.takeItem).set.rxRelease

theorem Keeps.rxRun {q} (h : Keeps s t) : Keeps s (t.rxRun q) := h.rxRelease

theorem Keeps.joinStream {x seq items} (h : Keeps s t) : Keeps s (t.joinStream x seq items) := by
  simp only [State.joinStream]
  split
  · exact h.same.rxRun
  · exact h.same

theorem Keeps.countFec {l errs} (h : Keeps s t) : Keeps s (t.countFec l errs) := by
  simp only [State.countFec]
  split
  · exact h.same.foldl fun _ _ g => by
      split
      · exact g.same
      · exact g
  · exact h.foldl fun _ _ g => by
      split
      · exact g.same
      · exact g

theorem Keeps.countLostFrame {l} (h : Keeps s t) : Keeps s (t.countLostFrame l) := by
  simp only [State.countLostFrame]
  split
  · exact h.same
  · exact h

theorem Keeps.takeFrame {l h' items} (h : Keeps s t) : Keeps s (t.takeFrame l h' items) := by
  simp only [State.takeFrame]
  split
  · exact h
  · exact .ite h.same (.ite h.same.joinStream.set h.same.joinStream)

theorem Keeps.execFrameReceive {l errs hdr items} (h : Keeps s t) : Leaves s (execFrameReceive l errs hdr items t) := by
  simp only [Machine.execFrameReceive]
  split
  · exact h.countLostFrame
  · split
    · exact h
    · exact h.countFec.takeFrame

theorem Keeps.execFrameSkipTimeout {x} (h : Keeps s t) : Leaves s (execFrameSkipTimeout x t) := by
  simp only [Machine.execFrameSkipTimeout]
  split
  · split
    · exact h
    · exact h.same.rxRun
  · exact h.same

theorem Keeps.execCreditFlit {q} (h : Keeps s t) : Leaves s (execCreditFlit q t) := by
  simp only [Machine.execCreditFlit]
  split
  · exact h
  · exact h.same

theorem Keeps.dealPort {q idle m} (h : Keeps s t) : Keeps s (t.dealPort q idle m).1 := h.same.emitFrame

theorem Keeps.execCreditSend {q} (h : Keeps s t) : Leaves s (execCreditSend q t) :=
  .ite h (.ite h.onPort.onPort.dealPort.fabCount.emit h.onPort.svc.svc)

theorem Keeps.execCredit {h' c} (h : Keeps s t) : Leaves s (execCredit h' c t) := h.onSvc fun _ g => .ite g.onPort g.discard

theorem Keeps.execPacketStart {q idle stallNs darkNs} (h : Keeps s t) : Leaves s (execPacketStart q idle stallNs darkNs t) := by
  simp only [Machine.execPacketStart]
  split
  · exact h
  · split
    · exact h
    · exact h.dealPort.onPort.fabCount.fabCount.fabCount.fabCount.emit

theorem Keeps.execPacketForward {q ch} (h : Keeps s t) : Leaves s (execPacketForward q ch t) := by
  simp only [Machine.execPacketForward]
  split
  · exact h
  · exact .ite h (.ite h.same.discard h.same.sendTo)

theorem Keeps.execHeadBusyTimeout {q ch} (h : Keeps s t) : Leaves s (execHeadBusyTimeout q ch t) := by
  simp only [Machine.execHeadBusyTimeout]
  split
  · exact h
  · exact .ite h.same.discard h

theorem Keeps.setOuter {q dom dev} (h : Keeps s t) : Keeps s (t.setOuter q dom dev) := .ite h h.same

theorem Keeps.portDown {q st} (h : Keeps s t) : Keeps s (t.portDown q st) := h.same.setOuter.forgetTime.requeue.retryWaiting

theorem Keeps.execNeighbourPortsDown {d} (h : Keeps s t) : Leaves s (execNeighbourPortsDown d t) :=
  .ite h (h.same.foldl fun _ _ g => .ite g.portDown g)

theorem Keeps.loseDest {d} (h : Keeps s t) : Keeps s (t.loseDest d) :=
  (h.same.foldl fun _ _ g => g.complete).foldl fun _ _ g => g.complete

theorem Keeps.sendPeerDown {d} (h : Keeps s t) : Keeps s (t.sendPeerDown d) := .ite h h.same

theorem Keeps.dropWaiting {d} (h : Keeps s t) : Keeps s (t.dropWaiting d) := h.same.foldl fun _ _ g => .ite g.discard g.sendTo

theorem Keeps.declareLost {d} (h : Keeps s t) : Keeps s (t.declareLost d) :=
  .ite h.same.loseDest.dropWaiting.sendPeerDown.set h.same.loseDest.dropWaiting.sendPeerDown

end Sys2Proof.Machine

end

section
/-! PROOFS. One rule for each function of the model, that it keeps what `Keeps` says: the lines of the Firn, program images, the
scheduler and the mailbox (R151 to R200, R441 to R457). -/

namespace Sys2Proof.Machine

set_option Elab.async false

variable {s t : State} {v : Tile}

theorem Keeps.eccFound {t' l ecc} (h : Keeps s t) : Keeps s (t.eccFound t' l ecc).2 := by
  simp only [State.eccFound]
  split
  · exact h
  · exact h
  · split
    · exact h.same
    · exact h

theorem Keeps.lineFix {t' l inj} (h : Keeps s t) : Keeps s (t.lineFix t' l inj) := h.same.raise'

theorem Keeps.lineSpoil {t' k x i inj} (h : Keeps s t) : Keeps s (t.lineSpoil t' k x i inj).1 := h.same.raise'

theorem Keeps.lineEcc {t' k x off n ecc} (h : Keeps s t) : Keeps s (t.lineEcc t' k x off n ecc).1 := by
  simp only [State.lineEcc]
  split
  · next heq => exact (h.eccFound.of_snd heq).lineFix
  · next heq => exact .ite_fst (((h.eccFound.of_snd heq).same).lineFix) ((h.eccFound.of_snd heq).lineSpoil)
  · next heq =>
    split
    · exact (h.eccFound.of_snd heq).same.lineFix
    · split
      · exact (h.eccFound.of_snd heq).same.lineSpoil
      · exact h.eccFound.of_snd heq

theorem Keeps.issueWb {w} (h : Keeps s t) : Keeps s (t.issueWb w) := .ite h.same h.issue

theorem Keeps.writeBack {k ffl ecc} (h : Keeps s t) : Keeps s (t.writeBack k ffl ecc) := by
  simp only [State.writeBack]
  split
  · exact h
  · split
    · exact h
    · split
      · next heq => exact h.lineEcc.of_fst heq
      · next heq => exact (h.lineEcc.of_fst heq).same.foldl fun _ _ k => k.issueWb

theorem Keeps.freeFrame {t' l} (h : Keeps s t) : Keeps s (t.freeFrame t' l).1 := by
  simp only [State.freeFrame]
  split
  · exact h
  · split
    · exact h
    · exact .ite_fst h.writeBack (.ite_fst h h.same)

theorem Keeps.flushSlices {slices} (h : Keeps s t) : Keeps s (t.flushSlices slices) := h.foldl fun _ _ g => .ite g.writeBack g

theorem Keeps.toScratch {slice} (h : Keeps s t) : Keeps s (t.toScratch slice) := .ite h h.flushSlices.set

theorem Keeps.toCache {slice} (h : Keeps s t) : Keeps s (t.toCache slice) :=
  (h.same (u := t.clearSlice slice)).scratchMem (Mem.wf_zero _ _ _)

theorem Keeps.portRead {n a len ga} (h : Keeps s t) : Keeps s (t.portRead n a len ga).2.2 := by
  simp only [State.portRead]
  split
  · exact h.same.raise'
  · exact h.sramCe

theorem Keeps.windowRead {t' l array} (h : Keeps s t) : Keeps s (t.windowRead t' l array) := by
  simp only [State.windowRead]
  split <;> exact h.same

theorem Keeps.fwRead {a n} (h : Keeps s t) : Keeps s (t.fwRead a n).2 := h.memRead

theorem Keeps.readSects {base} : ∀ {l : List Sect} {t : State}, Keeps s t → Keeps s (t.readSects base l).2
  | [], _, h => h
  | _ :: _, _, h => h.fwRead.readSects

theorem Keeps.loadImage {base members} (h : Keeps s t) : Keeps s (t.loadImage base members).2 := by
  simp only [State.loadImage]
  split
  · exact h
  · split
    · next heq => exact h.fwRead.of_snd heq
    · next heq =>
      split
      · exact h.fwRead.of_snd heq
      · split
        · next heq1 => exact (h.fwRead.of_snd heq).fwRead.of_snd heq1
        · next heq1 =>
          have g := (h.fwRead.of_snd heq).fwRead.of_snd heq1
          split
          · exact g
          · split
            · exact g
            · split
              · exact g
              · split <;> exact g.readSects

theorem Keeps.judge {m} (h : Keeps s t) : Keeps s (t.judge m).2 := by
  simp only [State.judge]
  split
  · exact h
  · split
    · exact h
    · split
      · exact h
      · split
        · next heq => exact h.loadImage.of_snd heq
        · next heq => exact h.loadImage.of_snd heq

theorem Keeps.onTaken {type f} (h : Keeps s t) (hf : ∀ a u, Keeps s u → Keeps s (f a u)) : Leaves s (t.onTaken type f) := by
  simp only [State.onTaken]
  split
  · exact h
  · exact .ite (hf _ _ h.same) h

theorem Keeps.takeSlice {p k} (h : Keeps s t) : Keeps s (t.takeSlice p k) := h.same.toScratch

theorem Keeps.grantPriv {p} (h : Keeps s t) : Keeps s (t.grantPriv p).2 := .ite_snd h (.ite_snd h.same (.ite_snd h.same h))

theorem Keeps.beginLoad {p} (h : Keeps s t) : Keeps s (t.beginLoad p) := by
  simp only [State.beginLoad]
  split
  · exact h
  · exact ((h.grantPriv.foldl fun _ _ g => g.takeSlice).onTiles fun _ g => g.same).onProg

theorem Keeps.settleSrc (h : Keeps s t) : Keeps s t.settleSrc :=
  .ite ((h.foldl fun _ _ g => .ite g g.same).land) (h.foldl fun _ _ g => .ite g g.same)

theorem Keeps.settleFrn (h : Keeps s t) : Keeps s t.settleFrn := h.foldl fun _ _ g => .ite g g.same

theorem Keeps.putRaEnable {v'} (h : Keeps s t) : Keeps s (t.putRaEnable v') := h.same.settleSrc

theorem Keeps.freeTiles {p} (h : Keeps s t) : Keeps s (t.freeTiles p) := (h.onTiles fun _ g => g.same).settleSrc.settleFrn

theorem Keeps.dropSlice {tag last k} (h : Keeps s t) : Keeps s (t.dropSlice tag last k) :=
  .ite h.same.settleFrn (.ite h.same.settleFrn.landSlice
    (.ite h.same.settleFrn.landSlice.toCache.set h.same.settleFrn.landSlice.set))

theorem Keeps.onMbx {f} (h : Keeps s t) : Keeps s (t.onMbx f) := h.same

theorem Keeps.onSched {f} (h : Keeps s t) : Keeps s (t.onSched f) := h.same

theorem Keeps.completeProg {p status detail cycles} (h : Keeps s t) : Keeps s (t.completeProg p status detail cycles) :=
  (h.foldl fun _ _ g => g.dropSlice).set.onSched.onMbx.pump

theorem Keeps.askPreempt {p} (h : Keeps s t) : Keeps s (t.askPreempt p) :=
  .ite h (.ite h.onProg (h.onProg.onTiles fun _ g => g.same))

theorem Keeps.runOn {ns f} (h : Keeps s t) (hf : ∀ w, SramOk s w → SramOk s (f w)) : Keeps s (t.runOn ns f) :=
  h.foldl fun _ _ g => .ite ((g.onTile fun _ k => (hf _ k).set).fetchNext) (g.onTile fun _ k => hf _ k)

theorem Keeps.copyMem {src dst n} (h : Keeps s t) : Keeps s (t.copyMem src dst n).1 := h.foldl_pair fun _ _ g => g.memRead.memWrite

theorem Keeps.saveTile {ctx i e off} (h : Keeps s t) : Keeps s (t.saveTile ctx i e off) := by
  simp only [State.saveTile]
  exact h.memWrite.foldl_pair fun _ _ g => g.foldl fun _ _ k => k.portRead.memWrite

theorem Keeps.saveContext {p} (h : Keeps s t) : Keeps s (t.saveContext p) :=
  .foldl (h.memWrite.foldl fun _ _ g => g.saveTile) fun _ _ g => g.copyMem

theorem Keeps.loadTile {ctx i e off} (h : Keeps s t) : Keeps s (t.loadTile ctx i e off).1 := by
  simp only [State.loadTile]
  exact .foldl_pair (h.memRead.onTile fun _ g => g.same) fun _ _ g => g.memRead.onTile fun _ k => k.write

theorem Keeps.restoreContext {p} (h : Keeps s t) : Keeps s (t.restoreContext p).1 :=
  .foldl_pair (h.memRead.foldl_pair fun _ _ g => g.loadTile) fun _ _ g => g.copyMem

theorem Keeps.execLoadChunkSubmit {ctrl bytes} (h : Keeps s t) : Leaves s (execLoadChunkSubmit ctrl bytes t) := .ite h.same h.same

theorem Keeps.execLoadChunkTake (h : Keeps s t) : Leaves s (execLoadChunkTake t) := by
  simp only [Machine.execLoadChunkTake]
  split
  · exact h
  · exact .ite h h.same

theorem Keeps.execLoadChunkTimeout (h : Keeps s t) : Leaves s (execLoadChunkTimeout t) := .ite h.same h

theorem Keeps.takeMsg {m} (h : Keeps s t) : Keeps s (t.takeMsg m) := by
  simp only [State.takeMsg]
  split
  · exact h.d2h
  · exact h.d2h
  · exact h.onMbx

theorem Keeps.execMbxPoll {head msgs} (h : Keeps s t) : Leaves s (execMbxPoll head msgs t) :=
  .ite h.onMbx (h.onMbx.onMbx.foldl fun _ _ g => g.takeMsg)

theorem Keeps.execMbxD2hTailWrite {tail} (h : Keeps s t) : Leaves s (execMbxD2hTailWrite tail t) := .ite h h.onMbx.pump

theorem Keeps.execHeartbeat (h : Keeps s t) : Leaves s (execHeartbeat t) := h.onTaken fun _ _ g => g.onMbx

theorem Keeps.execHeartbeatTimeout (h : Keeps s t) : Leaves s (execHeartbeatTimeout t) := .ite h.onMbx h

theorem Keeps.enterDrift (h : Keeps s t) : Keeps s t.enterDrift := h.land.onMbx.setDev

theorem Keeps.execDriftPeriodExpire (h : Keeps s t) : Leaves s (execDriftPeriodExpire t) := .ite h.onMbx.set h

theorem Keeps.execAttach (h : Keeps s t) : Leaves s (execAttach t) :=
  h.onTaken fun _ _ g => .ite (.ite g.onMbx.pump.setDev (.ite g.onMbx.pump g.onMbx.pump.mbxChanged)) g

theorem Keeps.flrMailbox (h : Keeps s t) : Keeps s t.flrMailbox := .ite h.onMbx.set.mbxChanged h.onMbx.set

theorem Keeps.powerFallback (h : Keeps s t) : Keeps s t.powerFallback := h.same.fwEvent

theorem Keeps.timeHoldover (h : Keeps s t) : Keeps s t.timeHoldover := .ite h h.same

theorem Keeps.coreLost {n} (h : Keeps s t) : Keeps s (t.coreLost n) := by
  simp only [State.coreLost]
  split
  · exact .ite h.same h.same
  · exact .ite h.same h.same
  · exact h.same.timeHoldover
  · exact h.powerFallback
  · exact h

theorem Keeps.restartCore {n} (h : Keeps s t) : Keeps s (t.restartCore n) := h.same.coreLost

theorem Keeps.execSchedLeaseStop (h : Keeps s t) : Leaves s (execSchedLeaseStop t) := h.same

theorem Keeps.execSchedLeaseExpiry (h : Keeps s t) : Leaves s (execSchedLeaseExpiry t) :=
  .ite h (.ite h.same.fwEvent.pump h.same.raise')

theorem Keeps.execSchedJournalRecord {rcd} (h : Keeps s t) : Leaves s (execSchedJournalRecord rcd t) := .ite h.same h

theorem Keeps.execSchedStateCopy {agrees} (h : Keeps s t) : Leaves s (execSchedStateCopy agrees t) :=
  .ite h (.ite h.same (.ite h.same.raise' h.same.raise'.fwEvent.restartCore))

theorem Keeps.askSwap (h : Keeps s t) : Keeps s t.askSwap.2 := .ite_snd h.same h

theorem Keeps.handOver (h : Keeps s t) : Keeps s t.handOver := .ite h.same h

theorem Keeps.execSchedHandoverCopy (h : Keeps s t) : Leaves s (execSchedHandoverCopy t) := .ite h.same.pump h

end Sys2Proof.Machine

end

section
/-! PROOFS. One rule for each function of the model, that it keeps what `Keeps` says: the device manager, the check-value units, the
Moraine and calibration values (R464 to R473, R531 to R553, R594). -/

namespace Sys2Proof.Machine

set_option Elab.async false

variable {s t : State} {v : Tile}

theorem Keeps.landOrder (h : Keeps s t) : Keeps s t.landOrder := .ite h.land.set h.same

theorem Keeps.resendDeclared (h : Keeps s t) : Keeps s t.resendDeclared := h.foldl fun _ _ g => g.sendPeerDown

theorem Keeps.startUpdate {body} (h : Keeps s t) : Keeps s (t.startUpdate body) := .ite (h.same.foldl fun _ _ g => g.svc) h

theorem Keeps.decideRoutes (h : Keeps s t) : Keeps s t.decideRoutes := .ite h h.startUpdate

theorem Keeps.resetPairs {ds} (h : Keeps s t) : Keeps s (t.resetPairs ds) := h.same

theorem Keeps.memSettings {timeout retention} (h : Keeps s t) : Keeps s (t.memSettings timeout retention) := h.same

theorem Keeps.wrapPreset {n} (h : Keeps s t) : Keeps s (t.wrapPreset n) := by
  simp only [State.wrapPreset]
  exact .ite h h.set

theorem Keeps.applyUpdate {gen body} (h : Keeps s t) : Keeps s (t.applyUpdate gen body) := by
  simp only [State.applyUpdate]
  refine (Keeps.resetPairs (.foldl (.foldl h.onFab fun _ _ g => g.loseDest) fun _ r g =>
    ?_)).memSettings.landDomain.set.wrapPreset.retryWaiting.release
  split
  · exact g.complete
  · exact g

theorem Keeps.claimRole (h : Keeps s t) : Keeps s t.claimRole := by
  simp only [State.claimRole]
  split
  · split
    · exact .ite h.same h.same
    · exact h.landOrder.set
  · exact h

theorem Keeps.renew (h : Keeps s t) : Keeps s t.renew := h.same

theorem Keeps.onDm {f} (h : Keeps s t) : Keeps s (t.onDm f) := h.same

theorem Keeps.becomeMaster {forms} (h : Keeps s t) : Keeps s (t.becomeMaster forms) := h.same

theorem Keeps.adoptCopy {b} (h : Keeps s t) : Keeps s (t.adoptCopy b) := h.same

theorem Keeps.takeRole {gen} (h : Keeps s t) : Keeps s (t.takeRole gen) := by
  simp only [State.takeRole]
  split
  · exact h.landOrder.land.becomeMaster.onDm.renew.decideRoutes
  · split
    · exact h.landOrder.land.adoptCopy.becomeMaster.onDm.fwEvent.renew.decideRoutes
    · exact h.landOrder.land.becomeMaster.onDm.fwEvent.renew.decideRoutes

theorem Keeps.followHolder {gen holder} (h : Keeps s t) : Keeps s (t.followHolder gen holder) := h.landOrder.onDm.resendDeclared

theorem Keeps.sendCopy {dest} (h : Keeps s t) : Keeps s (t.sendCopy dest) := h.onDm.foldl fun _ _ g => g.foldl fun _ _ k => k.same

theorem Keeps.giveRole (h : Keeps s t) : Keeps s t.giveRole := .ite h (.ite h.onDm h.land.sendCopy.set.set.onDm.timeHoldover)

theorem Keeps.execMgmtAliveSend (h : Keeps s t) : Leaves s (execMgmtAliveSend t) :=
  .ite (h.foldl fun _ _ g => by
    split
    · exact g.svc
    · exact g) h

theorem Keeps.execMgmtAlive {hdr payload} (h : Keeps s t) : Leaves s (execMgmtAlive hdr payload t) :=
  h.onSvc fun _ g => .ite g.onDm g

theorem Keeps.execMgmtSilentTimeout {dev} (h : Keeps s t) : Leaves s (execMgmtSilentTimeout dev t) := .ite h.onDm h

theorem Keeps.execDmClaimSend (h : Keeps s t) : Leaves s (execDmClaimSend t) := h.claimRole

theorem Keeps.svcDev {d type payload} (h : Keeps s t) : Keeps s (t.svcDev d type payload) := h.same

theorem Keeps.execDmClaim {hdr payload} (h : Keeps s t) : Leaves s (execDmClaim hdr payload t) :=
  h.onSvc fun _ g => .ite g ((Keeps.ite g.onDm g).svcDev)

theorem Keeps.execDmAck {hdr payload} (h : Keeps s t) : Leaves s (execDmAck hdr payload t) :=
  h.onSvc fun _ g => by
    split
    · exact g
    · exact .ite g (.ite g.onDm (.ite (.ite g.takeRole g.onDm) g))

theorem Keeps.execDmRenewSend (h : Keeps s t) : Leaves s (execDmRenewSend t) := .ite h.same h

theorem Keeps.hearRenew {gen holder release} (h : Keeps s t) : Keeps s (t.hearRenew gen holder release) :=
  .ite (.ite (((Keeps.ite h.followHolder h).onDm).claimRole) ((Keeps.ite h.followHolder h).onDm))
    (((Keeps.ite h.followHolder h).onDm).svcDev)

theorem Keeps.execDmRenew {hdr payload} (h : Keeps s t) : Leaves s (execDmRenew hdr payload t) :=
  h.onSvc fun _ g => .ite g ((Keeps.ite g.timeHoldover g).hearRenew)

theorem Keeps.execDmRenewAck {hdr payload} (h : Keeps s t) : Leaves s (execDmRenewAck hdr payload t) :=
  h.onSvc fun _ g => .ite g (.ite (((Keeps.ite g.onDm g).onDm).startUpdate) (.ite g.onDm g))

theorem Keeps.execDmHolderExpiry (h : Keeps s t) : Leaves s (execDmHolderExpiry t) := .ite h.onDm.timeHoldover h

theorem Keeps.execDmSwapPeriodExpire (h : Keeps s t) : Leaves s (execDmSwapPeriodExpire t) := h.giveRole

theorem Keeps.execDmMgmtCycle (h : Keeps s t) : Leaves s (execDmMgmtCycle t) := .ite h.sendCopy h

theorem Keeps.sendReport {gen seq health missing} (h : Keeps s t) : Keeps s (t.sendReport gen seq health missing) := .ite h h.same

theorem Keeps.copyDone {c b agrees} (h : Keeps s t) : Keeps s (t.copyDone c b agrees) :=
  .ite h.onDm.sendReport (.ite h.onDm.sendReport (.ite h.onDm.sendReport
    (.ite h.onDm.onDm.sendReport h.onDm.onDm.raise'.sendReport)))

theorem Keeps.execDmCopy {hdr payload agrees} (h : Keeps s t) : Leaves s (execDmCopy hdr payload agrees t) :=
  h.onSvc fun _ g => by
    dsimp only
    split
    · exact g
    · split
      · split
        · exact (Keeps.ite g g.sendReport).copyDone
        · exact g.copyDone
      · split
        · exact (Keeps.ite g g.sendReport).onDm
        · exact g.onDm

theorem Keeps.execDmCopyReport {hdr payload} (h : Keeps s t) : Leaves s (execDmCopyReport hdr payload t) :=
  h.onSvc fun _ g => .ite g.onDm g

theorem Keeps.execPeerDown {hdr payload} (h : Keeps s t) : Leaves s (execPeerDown hdr payload t) :=
  h.onSvc fun _ g => .ite g.onDm.decideRoutes g

theorem Keeps.execNeighbourLostLocal {d} (h : Keeps s t) : Leaves s (execNeighbourLostLocal d t) :=
  .ite (Keeps.ite h.declareLost.decideRoutes h.declareLost) h

theorem Keeps.sendRouteAck {gen result} (h : Keeps s t) : Keeps s (t.sendRouteAck gen result) := .ite h h.same

theorem Keeps.execRouteUpdate {hdr payload} (h : Keeps s t) : Leaves s (execRouteUpdate hdr payload t) :=
  h.onSvc fun _ g => by
    dsimp only
    split
    · exact g
    · split
      · exact .ite g.onDm.applyUpdate.sendRouteAck g.onDm.sendRouteAck
      · exact .ite g.onDm.sendRouteAck g.onDm

theorem Keeps.execRouteAck {hdr payload} (h : Keeps s t) : Leaves s (execRouteAck hdr payload t) :=
  h.onSvc fun _ g => by
    split
    · exact .ite g.onDm g
    · exact g

theorem Keeps.execRouteSegmentResend (h : Keeps s t) : Leaves s (execRouteSegmentResend t) := by
  simp only [Machine.execRouteSegmentResend]
  split
  · exact .ite (h.foldl fun _ _ g => g.foldl fun _ _ k => k.svcDev) h
  · exact h

theorem Keeps.activateOwn {u} (h : Keeps s t) : Keeps s (t.activateOwn u) :=
  .ite h.onDm.applyUpdate.decideRoutes.giveRole h.onDm.applyUpdate.decideRoutes

theorem Keeps.execRouteUpdateActivate (h : Keeps s t) : Leaves s (execRouteUpdateActivate t) := by
  simp only [Machine.execRouteUpdateActivate]
  split
  · exact .ite h.activateOwn h
  · split
    · split
      · exact .ite h.onDm.applyUpdate h
      · exact h
    · exact h

theorem Keeps.cvuIssue {c} : ∀ {n : Nat} {t : State}, Keeps s t → Keeps s (Machine.cvuIssue c n t)
  | 0, _, h => h
  | _ + 1, _, h => .ite h.same.issue.cvuIssue h

theorem Keeps.cvuFinish {c result value} (h : Keeps s t) : Keeps s (t.cvuFinish c result value) := .ite h.same h.same.issue

theorem Keeps.cvuBegin {c} (h : Keeps s t) : Keeps s (t.cvuBegin c) := by
  simp only [State.cvuBegin]
  split
  · exact h.same
  · split
    · exact h.same.raise'.cvuFinish
    · exact .ite h.same.raise'.cvuFinish h.same.cvuIssue

theorem Keeps.onCvu {c f} (h : Keeps s t) : Keeps s (t.onCvu c f) := h.same

theorem Keeps.cvuCtrl {c w} (h : Keeps s t) : Keeps s (t.cvuCtrl c w) :=
  .ite (.ite (.ite (.ite h h.onCvu) h.onCvu) ((Keeps.ite (.ite h h.onCvu) h.onCvu).cvuBegin))
    (.ite (.ite ((Keeps.ite (.ite h h.onCvu) h.onCvu).cvuFinish) ((Keeps.ite (.ite h h.onCvu) h.onCvu).onCvu))
      (.ite (.ite h h.onCvu) h.onCvu))

theorem Keeps.execCvuLoadComplete {c} (h : Keeps s t) : Leaves s (execCvuLoadComplete c t) := by
  simp only [Machine.execCvuLoadComplete]
  split
  · exact h
  · split
    · exact h
    · exact .ite h.onCvu (.ite ((Keeps.ite h.onCvu.onCvu h.onCvu).cvuFinish)
        (.ite (Keeps.ite h.onCvu.onCvu.cvuFinish h.onCvu.onCvu) h.onCvu.onCvu.cvuIssue))

theorem Keeps.cvuCompare {c u} (h : Keeps s t) : Keeps s (t.cvuCompare c u) :=
  .ite h.same.cvuFinish (((Keeps.ite h.same h).raise'.set).cvuFinish)

theorem Keeps.execCvuScanEnd {c} (h : Keeps s t) : Leaves s (execCvuScanEnd c t) := .ite h (.ite h.same.cvuCompare h.same.cvuFinish)

theorem Keeps.execMoraineSample {hists exts} (h : Keeps s t) : Leaves s (execMoraineSample hists exts t) := .ite h.same h

theorem Keeps.execVddSrcDip {depth} (h : Keeps s t) : Leaves s (execVddSrcDip depth t) := .ite h.same h

theorem Keeps.startSnap (h : Keeps s t) : Keeps s t.startSnap := .ite h.same h

theorem Keeps.dueSnap (h : Keeps s t) : Keeps s t.dueSnap := h.same.startSnap

theorem Keeps.execSnapshotDue (h : Keeps s t) : Leaves s (execSnapshotDue t) := .ite h.dueSnap h

theorem Keeps.execSnapshotWriteComplete {ok} (h : Keeps s t) : Leaves s (execSnapshotWriteComplete ok t) := by
  simp only [Machine.execSnapshotWriteComplete]
  split
  · exact h
  · exact .ite h.same.startSnap (.ite (((Keeps.ite h.same h).raise').set) (((Keeps.ite h.same h).raise'.set).dieStatus))

theorem Keeps.thaw (h : Keeps s t) : Keeps s t.thaw := .ite h h.same.startSnap

theorem Keeps.morFreeze {on} (h : Keeps s t) : Keeps s (t.morFreeze on).2 := .ite_snd h.thaw (.ite_snd h h.same)

theorem Keeps.execMorFreezeExpire (h : Keeps s t) : Leaves s (execMorFreezeExpire t) := h.thaw

theorem Keeps.judgeValue {item k v'} (h : Keeps s t) : Keeps s (t.judgeValue item k v').1 := by
  simp only [State.judgeValue]
  split
  · exact h
  · split
    · split <;> exact h.same
    · split
      · exact .ite_fst h (.ite_fst h.same h.same)
      · split
        · exact h.same
        · split
          · exact h.same
          · split <;> exact h.same

end Sys2Proof.Machine

end

section
/-! PROOFS. One rule for each function of the model, that it keeps what `Keeps` says: the light of a port, the end of everything in
ICEBOUND, the Firn and the HBM (R186 to R239, R270 to R274, R524). -/

namespace Sys2Proof.Machine

set_option Elab.async false

variable {s t : State} {v : Tile}

theorem Keeps.onEmitter {bank e f} (h : Keeps s t) : Keeps s (t.onEmitter bank e f) := h.same

theorem Keeps.onOwner {o f} (h : Keeps s t) : Keeps s (t.onOwner o f) := h.same

theorem Keeps.laneCheck {k} (h : Keeps s t) : Keeps s (t.laneCheck k) := .ite h (.ite h.same h)

theorem Keeps.assignRoles (h : Keeps s t) : Keeps s t.assignRoles := h.same.foldl fun _ _ g => .ite g.raise' g

theorem Keeps.onCal {f} (h : Keeps s t) : Keeps s (t.onCal f) := h.same

theorem Keeps.undoJudged {k} (h : Keeps s t) : Keeps s (t.undoJudged k) := by
  simp only [State.undoJudged]
  exact (h.foldl fun _ _ g => g.same).onCal

theorem Keeps.settle {k} (h : Keeps s t) : Keeps s (t.settle k) := h.same

theorem Keeps.onChan {k f} (h : Keeps s t) : Keeps s (t.onChan k f) := h.same

theorem Keeps.abandonSlot {o x} (h : Keeps s t) : Keeps s (t.abandonSlot o x) := h.undoJudged.set.onChan.settle

theorem Keeps.abandonOn {p} (h : Keeps s t) : Keeps s (t.abandonOn p) := h.foldl fun _ _ g => g.foldl fun _ _ k => k.abandonSlot

theorem Keeps.immediateGo {k o} (h : Keeps s t) : Keeps s (State.immediate.go k t o) :=
  .ite h (.laneCheck (.onChan (.onOwner (h.foldl fun _ _ g => g.abandonSlot))))

theorem Keeps.immediate {k} (h : Keeps s t) : Keeps s (t.immediate k) := by
  simp only [State.immediate]
  split
  · exact .ite h.same h.immediateGo
  · exact h.immediateGo

theorem Keeps.retireWl {t' n} (h : Keeps s t) : Keeps s (t.retireWl t' n) :=
  .ite h (.raise' (.dieStatus (h.same.foldl fun _ _ g => g.onChan.laneCheck)))

theorem Keeps.startProbing {q} (h : Keeps s t) : Keeps s (t.startProbing q) := .ite h h.same

theorem Keeps.onPho {q f} (h : Keeps s t) : Keeps s (t.onPho q f) := h.same

theorem Keeps.setGate {q b shut} (h : Keeps s t) : Keeps s (t.setGate q b shut) := h.same

theorem Keeps.shutAll (h : Keeps s t) : Keeps s t.shutAll :=
  .foldl (.abandonOn (h.foldl fun _ _ g => .ite g g.portDown)) fun _ _ g => .ite g.setGate.setGate.onPho
    g.setGate.setGate.onPho.startProbing

theorem Keeps.sendIdent {q} (h : Keeps s t) : Keeps s (t.sendIdent q) := h.foldl fun _ _ g => g.same

theorem Keeps.errAck {v'} (h : Keeps s t) : Keeps s (t.errAck v').2 := .ite_snd h.same h

theorem Keeps.errInject {b} (h : Keeps s t) : Keeps s (t.errInject b).2 := .ite_snd h (.ite_snd h.same (.ite_snd h h.same))

theorem Keeps.onMem {f} (h : Keeps s t) : Keeps s (t.onMem f) := h.same

theorem Keeps.stopPrograms (h : Keeps s t) : Keeps s t.stopPrograms := by
  simp only [State.stopPrograms]
  exact .onMem (.onSched (h.foldl fun _ _ g => g.freeTiles.foldl fun _ _ k => k.dropSlice))

theorem Keeps.loseFirn (h : Keeps s t) : Keeps s t.loseFirn := (h.scratchMem (x := t.loseFirn.firn) fun _ => rfl).set

theorem Keeps.onFloe {f} (h : Keeps s t) : Keeps s (t.onFloe f) := h.same

theorem Keeps.closeGates (h : Keeps s t) : Keeps s t.closeGates := by
  simp only [State.closeGates]
  exact h.shutAll.onFab.onFloe

theorem Keeps.sendFatal (h : Keeps s t) : Keeps s t.sendFatal := .ite h.emit h

theorem Keeps.dropPending (h : Keeps s t) : Keeps s t.dropPending := h.same

theorem Keeps.stopEngines (h : Keeps s t) : Keeps s t.stopEngines := h.same

theorem Keeps.execIceboundEntry (h : Keeps s t) : Leaves s (execIceboundEntry t) :=
  .ite h h.same.stopPrograms.stopEngines.loseFirn.dropPending.thaw.setDev.sendFatal.closeGates

theorem Keeps.execLastFatalWrite (h : Keeps s t) : Leaves s (execLastFatalWrite t) := .ite h (.ite h.same h.same)

theorem Keeps.pieceTake {p} (h : Keeps s t) : Keeps s (Piece.take p t) := h.onTile fun _ g => .ite g.same g.same

theorem Keeps.serve {p st data poison} (h : Keeps s t) : Keeps s (t.serve p st data poison) := h.tell

theorem Keeps.scratchEcc {p ecc} (h : Keeps s t) : Keeps s (t.scratchEcc p ecc) := by
  simp only [State.scratchEcc]
  split
  · exact h
  · split
    · exact h
    · exact h
    · exact h.scratchFix
    · exact .ite h h.scratchSpoil

theorem Keeps.fillFor {p w} (h : Keeps s t) : Keeps s (t.fillFor p w) := .ite h.pieceTake.set (.ite h.pieceTake.set.issue h)

theorem Keeps.loadMiss {p} (h : Keeps s t) : Keeps s (t.loadMiss p) := .ite h.windowRead.fillFor h

theorem Keeps.forwardLoad {p} (h : Keeps s t) : Keeps s (t.forwardLoad p) := .ite h.pieceTake.issue h

theorem Keeps.touchWay {k} (h : Keeps s t) : Keeps s (t.touchWay k) := h.same

theorem Keeps.firnLoad {p ecc} (h : Keeps s t) : Keeps s (t.firnLoad p ecc) := by
  simp only [State.firnLoad]
  split
  · split
    · split
      · next heq => exact (h.lineEcc.of_fst heq).pieceTake.touchWay.windowRead.serve
      · next heq => exact (h.lineEcc.of_fst heq).loadMiss
    · exact h.loadMiss
  · exact .ite h.scratchEcc.memReadRaw.pieceTake.windowRead.serve h.forwardLoad

theorem Keeps.forwardStore {p bs bad} (h : Keeps s t) : Keeps s (t.forwardStore p bs bad) := h.pieceTake.issue

theorem Keeps.absorbed {p x} (h : Keeps s t) : Keeps s (t.absorbed p x) := h.pieceTake.onTile fun _ g => g.opAnswer

theorem Keeps.scratchStore {ga bs bad} (h : Keeps s t) : Keeps s (t.scratchStore ga bs bad).1 :=
  List.foldlRecOn (motive := fun p : (State × Byte) × List Byte => Keeps s p.1.1) _ _ h fun _ g _ _ => g.memWrite

theorem Keeps.windowShut {t' l} (h : Keeps s t) : Keeps s (t.windowShut t' l) := h.same

theorem Keeps.setLine {k x} (h : Keeps s t) : Keeps s (t.setLine k x) := h.same

theorem Keeps.firnStore {p ecc} (h : Keeps s t) : Keeps s (t.firnStore p ecc) := by
  simp only [State.firnStore]
  split
  · split
    · split
      · split
        · next heq => exact (h.lineEcc.of_fst heq).portRead.setLine.touchWay.windowShut.absorbed
        · next heq => exact h.lineEcc.of_fst heq
      · exact .ite h.portRead.setLine.windowShut.forwardStore h
    · split
      · exact .ite h.portRead.forwardStore h
      · split
        · exact h.portRead.windowShut.fillFor
        · split
          · split
            · next heq => exact (h.freeFrame.of_fst heq).portRead.setLine.touchWay.set.windowShut.absorbed
            · next heq => exact h.freeFrame.of_fst heq
          · exact .ite h.portRead.windowShut.fillFor h
  · exact .ite (h.scratchEcc.portRead.scratchStore.pieceTake.onTile fun _ g => g.opAnswer) (.ite h.portRead.forwardStore h)

theorem Keeps.purge {p ecc} (h : Keeps s t) : Keeps s (t.purge p ecc).2 := by
  simp only [State.purge]
  split
  · exact .ite_snd h h
  · exact .ite_snd h.writeBack (.ite_snd h h.same)

theorem Keeps.purge_some {p ecc u} (h : Keeps s t) (hu : (t.purge p ecc).1 = some u) : Keeps s u := by
  simp only [State.purge] at hu
  split at hu
  · split at hu
    · cases hu
    · cases hu
      exact h
  · split at hu
    · cases hu
    · split at hu
      · cases hu
      · cases hu
        exact h.same

theorem Keeps.firnAtomic {p atop ecc} (h : Keeps s t) : Keeps s (t.firnAtomic p atop ecc) := by
  simp only [State.firnAtomic]
  split
  · exact h
  · split
    · next heq => exact h.purge.of_snd heq
    · next heq => exact (h.purge_some (congrArg Prod.fst heq)).portRead.pieceTake.windowShut.issue

theorem Keeps.firnFlagged {p ecc} (h : Keeps s t) : Keeps s (t.firnFlagged p ecc) := by
  simp only [State.firnFlagged]
  split
  · exact h
  · split
    · next heq => exact h.purge.of_snd heq
    · next heq => exact (h.purge_some (congrArg Prod.fst heq)).portRead.pieceTake.windowShut.issueFlagged

theorem Keeps.firnFlushLine {p ecc} (h : Keeps s t) : Keeps s (t.firnFlushLine p ecc) := by
  simp only [State.firnFlushLine]
  split
  · exact h
  · split
    · exact h.pieceTake.writeBack.fflCheck
    · exact h.pieceTake.fflCheck

theorem Keeps.pieceAnswer {p st} (h : Keeps s t) : Keeps s (Piece.answer p t st) := h.pieceTake.onTile fun _ g => g.opAnswer

theorem Keeps.firnInvalidateLine {p} (h : Keeps s t) : Keeps s (t.firnInvalidateLine p) := by
  simp only [State.firnInvalidateLine]
  split
  · exact h
  · split
    · exact h.setLine.windowShut.pieceAnswer
    · exact h.pieceAnswer

theorem Keeps.upsetAt {ecc} (h : Keeps s t) : Keeps s (t.upsetAt ecc) := by
  simp only [State.upsetAt]
  split
  · exact h.same
  · exact h

theorem Keeps.execFirnRequest {n ra ecc} (h : Keeps s t) : Leaves s (execFirnRequest n ra ecc t) := by
  simp only [Machine.execFirnRequest]
  split
  · exact h.upsetAt
  · split
    · split
      · exact h.upsetAt
      · split
        · exact h.upsetAt.pieceAnswer
        · split
          · exact h.upsetAt.firnLoad
          · exact h.upsetAt.firnLoad
          · exact h.upsetAt.firnStore
          · exact h.upsetAt.firnStore
          · exact h.upsetAt.firnAtomic
          · exact h.upsetAt.firnFlagged
          · exact h.upsetAt.firnFlushLine
          · exact h.upsetAt.firnInvalidateLine
    · split
      · split
        · exact h.upsetAt.firnLoad
        · exact h.upsetAt
      · exact h.upsetAt

theorem Keeps.execFirnMergeWindowClose {t' l} (h : Keeps s t) : Leaves s (execFirnMergeWindowClose t' l t) := h.same

theorem Keeps.serveWaiter {x w} (h : Keeps s t) : Keeps s (t.serveWaiter x w).1 := .ite_fst (h.onTile fun _ g => g.opAnswer) h.tell

theorem Keeps.serveWaiters {x ws} (h : Keeps s t) : Keeps s (t.serveWaiters x ws).1 := h.foldl_pair fun _ _ g => g.serveWaiter

theorem Keeps.failWaiters {l st ws} (h : Keeps s t) : Keeps s (t.failWaiters l st ws) :=
  h.foldl fun _ _ g => .ite (g.onTile fun _ k => k.opAnswer) g.tell

theorem Keeps.allocate {k x} (h : Keeps s t) : Keeps s (t.allocate k x) := h.same

theorem Keeps.fillIn {t' x fail ws st} (h : Keeps s t) : Keeps s (t.fillIn t' x fail ws st) := by
  simp only [State.fillIn]
  split
  · next heq => exact h.freeFrame.of_fst heq
  · next heq => exact (h.freeFrame.of_fst heq).same.failWaiters.serveWaiters.allocate

theorem Keeps.execFirnFillComplete {t' l} (h : Keeps s t) : Leaves s (execFirnFillComplete t' l t) := by
  simp only [Machine.execFirnFillComplete]
  split
  · exact h
  · split
    · exact h
    · split
      · exact .ite h.fillIn h.same.serveWaiters
      · split
        · exact h.same.failWaiters
        · exact h.fillIn

theorem Keeps.execFirnSliceZeroComplete {slice} (h : Keeps s t) : Leaves s (execFirnSliceZeroComplete slice t) :=
  .ite (h.scratchMem (Mem.wf_zero _ _ _)) h

theorem Keeps.execFirnFlush (h : Keeps s t) : Leaves s (execFirnFlush t) := h.same.flushSlices

theorem Keeps.maintStart {t' mask op} (h : Keeps s t) : Keeps s (t.maintStart t' mask op) := .ite h h.same.flushSlices

theorem Keeps.execFrnMaintFlush {t' mask} (h : Keeps s t) : Leaves s (execFrnMaintFlush t' mask t) := h.maintStart

theorem Keeps.execFrnMaintFlushInvalidate {t' mask} (h : Keeps s t) : Leaves s (execFrnMaintFlushInvalidate t' mask t) :=
  h.maintStart

theorem Keeps.execFrnMaintEnd {t'} (h : Keeps s t) : Leaves s (execFrnMaintEnd t' t) := by
  simp only [Machine.execFrnMaintEnd]
  split
  · exact h
  · exact .ite h ((Keeps.ite h.same h).set)

theorem Keeps.execFirnModeChangeEnd {slice} (h : Keeps s t) : Leaves s (execFirnModeChangeEnd slice t) :=
  .ite h (.ite h.flushSlices (.ite h h.same))

theorem Keeps.walkOver {slot} (h : Keeps s t) : Keeps s (t.walkOver slot) := h.same

theorem Keeps.execFirnDrainWalkEnd {slot} (h : Keeps s t) : Leaves s (execFirnDrainWalkEnd slot t) := by
  simp only [Machine.execFirnDrainWalkEnd]
  split
  · exact h
  · exact .ite h (.ite (Keeps.walkOver (h.foldl fun _ _ g => g.setLine))
      (.ite (Keeps.set (h.foldl fun _ _ g => g.writeBack)) (.ite h h.walkOver)))

theorem Keeps.execVbBeatReplay {t' n pos} (h : Keeps s t) : Leaves s (execVbBeatReplay t' n pos t) := .ite h.same h

theorem Keeps.execVbEyeMeasure {t' n pos eye} (h : Keeps s t) : Leaves s (execVbEyeMeasure t' n pos eye t) := .ite h.same h

theorem Keeps.retireTile {n} (h : Keeps s t) : Keeps s (t.retireTile n) := h.same

theorem Keeps.vbRetire {t' n} (h : Keeps s t) : Keeps s (t.vbRetire t' n) := by
  simp only [State.vbRetire]
  split
  · split
    · exact (Keeps.ite h.same.retireTile.raise' h.same.retireTile.raise'.tileFault).dieStatus
    · exact h.same.retireTile.raise'.dieStatus
  · exact h.same.raise'.dieStatus

theorem Keeps.mapEntry {n both f} (h : Keeps s t) : Keeps s (t.mapEntry n both f) := h.same

theorem Keeps.vbHalf {t' n hi} (h : Keeps s t) : Keeps s (t.vbHalf t' n hi) :=
  .ite h.same.raise'.mapEntry.dieStatus h.same.raise'.dieStatus

theorem Keeps.onVb {t' n f} (h : Keeps s t) : Keeps s (t.onVb t' n f) := h.same

theorem Keeps.execVbChannelFailing {t' n pos} (h : Keeps s t) : Leaves s (execVbChannelFailing t' n pos t) := by
  simp only [Machine.execVbChannelFailing]
  split
  · exact h
  · split
    · split
      · exact h.onVb.onVb.set.raise'
      · exact Keeps.ite h.onVb.onVb.vbRetire h.onVb.onVb.vbHalf
    · exact Keeps.ite h.onVb.onVb.vbRetire h.onVb.onVb

theorem Keeps.execVbRemapComplete {t' n} (h : Keeps s t) : Leaves s (execVbRemapComplete t' n t) := .ite h.onVb h

theorem Keeps.execRetiredListStoreWrite (h : Keeps s t) : Leaves s (execRetiredListStoreWrite t) := .ite h.same h

theorem Keeps.stackFail {h' ev inj} (h : Keeps s t) : Keeps s (t.stackFail h' ev inj) :=
  .ite (.ite h.same.dieStatus.raise' h.same.dieStatus) h

theorem Keeps.hbmBeyond {h' a} (h : Keeps s t) : Keeps s (t.hbmBeyond h' a) :=
  .ite h.same (.ite (Keeps.hbmMem (h.same (u := ((t.drawFree 2).2.drawBytes 64).2)) (Mem.wf_wrBytes _ _ _)).hbmCorrected
    h.same.hbmUncorrectable)

theorem Keeps.hbmFound {h' a found} (h : Keeps s t) : Keeps s (t.hbmFound h' a found) := by
  simp only [State.hbmFound]
  split
  · exact h
  · split
    · exact .ite h.hbmCheck (.ite h.hbmCorrected (.ite h.hbmUncorrectable h.hbmBeyond))
    · exact h.same
    · exact h.hbmUncorrectable
    · exact h.hbmCheck

theorem Keeps.execHbmAccess {h' a op found} (h : Keeps s t) : Leaves s (execHbmAccess h' a op found t) := by
  simp only [Machine.execHbmAccess]
  split
  · exact h
  · split
    · exact h.same
    · split
      · exact h
      · split
        · exact h.same
        · split
          · exact h.same.hbmFound
          · exact .ite h.same (.ite h.same.hbmPut h.same.hbmFound.hbmPut)

theorem Keeps.execHbmTempRead {h' temp} (h : Keeps s t) : Leaves s (execHbmTempRead h' temp t) :=
  .ite h (.ite h.same.stackFail.set h.same)

theorem Keeps.execHbmRefresh {h' bank} (h : Keeps s t) : Leaves s (execHbmRefresh h' bank t) := .ite h.same h

theorem Keeps.scrubEnd (h : Keeps s t) : Keeps s t.scrubEnd := .ite (.land (.set (h.foldl fun _ _ g => g.same))) h

theorem Keeps.onStack {i f} (h : Keeps s t) : Keeps s (t.onStack i f) := h.same

theorem Keeps.execHbmScrubRead {h' found} (h : Keeps s t) : Leaves s (execHbmScrubRead h' found t) :=
  .ite (.ite h.scrubEnd (.ite h.same h.same.hbmFound.onStack.scrubEnd)) h

theorem Keeps.execHbmStackFail {h'} (h : Keeps s t) : Leaves s (execHbmStackFail h' t) := by
  simp only [Machine.execHbmStackFail]
  split
  · exact h.stackFail
  · exact h

theorem Keeps.execHbmPortSilentTimeout {h'} (h : Keeps s t) : Leaves s (execHbmPortSilentTimeout h' t) := h.stackFail

theorem Keeps.execHbmPhyLossOfLock {h'} (h : Keeps s t) : Leaves s (execHbmPhyLossOfLock h' t) := .ite h.onStack h

theorem Keeps.execHbmPhyRetrained {h'} (h : Keeps s t) : Leaves s (execHbmPhyRetrained h' t) := h.onStack

theorem Keeps.execHbmPhyRelockTimeout {h'} (h : Keeps s t) : Leaves s (execHbmPhyRelockTimeout h' t) := .ite h.stackFail h

theorem Keeps.execHbmZeroComplete (h : Keeps s t) : Leaves s (execHbmZeroComplete t) := .ite (h.hbmMem fun _ => rfl) h

end Sys2Proof.Machine

end

section
/-! PROOFS. One rule for each function of the model, that it keeps what `Keeps` says: emitters, training, steering, clocks and power
(R249 to R285, R365 to R432). -/

namespace Sys2Proof.Machine

set_option Elab.async false

variable {s t : State} {v : Tile}

theorem Keeps.wantSpare {bank e} (h : Keeps s t) : Keeps s (t.wantSpare bank e) := .ite h.retireWl h

theorem Keeps.switchOver {k} (h : Keeps s t) : Keeps s (t.switchOver k) := h.same

theorem Keeps.drainUrgent {bank e} (h : Keeps s t) : Keeps s (t.drainUrgent bank e) :=
  h.foldl fun _ _ g => .ite g (.ite g.immediate (.ite g.immediate.switchOver g.immediate.onFloe))

theorem Keeps.sampled {c : Prop} [Decidable c] {l : List (Nat × Int)} {b e f f' f''} (h : Keeps s t) :
    let u := ((l.foldl (fun s m => s.onChan m.1 (fun c => { c with margin := m.2 })) t).onEmitter b e f).onEmitter b e f'
    Keeps s (if c then u.onFloe f'' else u) :=
  .ite (.onFloe (.onEmitter (.onEmitter (h.foldl fun _ _ g => g.onChan)))) (.onEmitter (.onEmitter (h.foldl fun _ _ g => g.onChan)))

theorem Keeps.execEmitterSample {bank em meas margins} (h : Keeps s t) : Leaves s (execEmitterSample bank em meas margins t) :=
  .ite h (.ite h.sampled (Keeps.ite
    (.drainUrgent (.ite (.wantSpare (.ite h.sampled.raise' h.sampled)) (.ite h.sampled.raise' h.sampled)))
    (.ite (.wantSpare (.ite h.sampled.raise' h.sampled)) (.ite h.sampled.raise' h.sampled))))

theorem Keeps.execEmitterSpareLocked {bank spare} (h : Keeps s t) : Leaves s (execEmitterSpareLocked bank spare t) :=
  .ite h (.ite h.same (Keeps.foldl (h.same.onFloe.foldl fun _ _ g => g.onOwner.switchOver.settle) fun _ _ g => g.onOwner))

theorem Keeps.execSwapSlot {owner} (h : Keeps s t) : Leaves s (execSwapSlot owner t) := by
  simp only [Machine.execSwapSlot]
  split
  · exact h
  · exact .ite h (.ite h h.onOwner.onChan.laneCheck)

theorem Keeps.execEmitterSwapComplete {bank em} (h : Keeps s t) : Leaves s (execEmitterSwapComplete bank em t) :=
  .ite h (.ite h h.same.onFloe.raise')

theorem Keeps.execServiceEmitterFail {bank} (h : Keeps s t) : Leaves s (execServiceEmitterFail bank t) :=
  .ite h (.ite (Keeps.raise' (h.same.foldl fun _ _ g => (Keeps.ite g g.portDown).onPho)) h.same)

theorem Keeps.phoSend {q fibreB type m} (h : Keeps s t) : Keeps s (t.phoSend q fibreB type m) := h.same

theorem Keeps.execRingTrackingError {chan rx} (h : Keeps s t) : Leaves s (execRingTrackingError chan rx t) :=
  .ite h.onFloe.phoSend h.onFloe.immediate

theorem Keeps.execServiceSlotStart {owner} (h : Keeps s t) : Leaves s (execServiceSlotStart owner t) := by
  simp only [Machine.execServiceSlotStart]
  split
  · exact h
  · split
    · exact h
    · exact .ite h h.land.onOwner.onChan.laneCheck

theorem Keeps.execSlotNotice {ev} (h : Keeps s t) : Leaves s (execSlotNotice ev t) := by
  simp only [Machine.execSlotNotice]
  split
  · split
    · exact h
    · split
      · exact h
      · exact h.onOwner.phoSend
  · exact h.onSvc fun _ g => g.onFloe

theorem Keeps.judgeSlot {chan vals} (h : Keeps s t) : Keeps s (t.judgeSlot chan vals).1 :=
  h.onCal.foldl_pair fun _ _ g => g.judgeValue

theorem Keeps.execServiceSlotJudge {chan rx vals margin} (h : Keeps s t) :
    Leaves s (execServiceSlotJudge chan rx vals margin t) := by
  simp only [Machine.execServiceSlotJudge]
  split
  · split
    · exact h
    · exact Keeps.ite h h.judgeSlot
  · split
    · exact h
    · exact .ite h ((Keeps.ite h.judgeSlot.switchOver h.judgeSlot).onChan)

theorem Keeps.execServiceSlotEnd {chan rx} (h : Keeps s t) : Leaves s (execServiceSlotEnd chan rx t) := by
  simp only [Machine.execServiceSlotEnd]
  split
  · exact h.onCal.onFloe
  · split
    · exact h
    · exact .ite h h.onCal.onOwner.settle

theorem Keeps.execSlotRequest {h' chan} (h : Keeps s t) : Leaves s (execSlotRequest h' chan t) := h.onSvc fun _ g => g.immediate

theorem Keeps.execMarginReport {ev} (h : Keeps s t) : Leaves s (execMarginReport ev t) := by
  simp only [Machine.execMarginReport]
  split
  · exact h.onSvc fun _ g => g.foldl fun _ _ k => .ite k.onChan.immediate k.onChan
  · exact .ite h (Keeps.ite h.phoSend (h.phoSend.foldl fun _ _ g => g.phoSend))

theorem Keeps.execProbeBurst {port fibreB} (h : Keeps s t) : Leaves s (execProbeBurst port fibreB t) := .ite h.same h

theorem Keeps.startTraining {q} (h : Keeps s t) : Keeps s (t.startTraining q) := (Keeps.ite h.portDown h).onPho.sendIdent

theorem Keeps.execProbe {h' heard} (h : Keeps s t) : Leaves s (execProbe h' heard t) :=
  h.onSvc fun _ g => .ite (.ite (((Keeps.ite g.same g).onPho).startTraining) ((Keeps.ite g.same g).onPho)) (.ite g.same g)

theorem Keeps.execIdent {h' dev port fibreB dom} (h : Keeps s t) : Leaves s (execIdent h' dev port fibreB dom t) :=
  h.onSvc fun _ g => by
    dsimp only
    split
    · split
      · exact g.onPho
      · exact .ite ((Keeps.ite g.onPho.onPho.setGate.setGate g.onPho.onPho.setGate.setGate.retryWaiting).raise')
          (.ite g.onPho.onPho.setGate.setGate g.onPho.onPho.setGate.setGate.retryWaiting)
    · exact g

theorem Keeps.execWiringRecheck {port} (h : Keeps s t) : Leaves s (execWiringRecheck port t) := .ite h.onPho.sendIdent h

theorem Keeps.onRx {q f} (h : Keeps s t) : Keeps s (t.onRx q f) := h.same

theorem Keeps.execLinkTrainingComplete {port margins sites} (h : Keeps s t) :
    Leaves s (execLinkTrainingComplete port margins sites t) := by
  simp only [Machine.execLinkTrainingComplete]
  split
  · exact h
  · split
    · exact Keeps.retryWaiting (.onFloe (.onFab (.setOuter (.onFloe
        (.onRx (.onPort (.onPho (.foldl (h.foldl fun _ _ g => g.onChan.settle) fun _ _ g => g.same))))))))
    · exact Keeps.retryWaiting (.onFloe (.setOuter (.onFloe (.onRx
        (.onPort (.onPho (.foldl (h.foldl fun _ _ g => g.onChan.settle) fun _ _ g => g.same)))))))

theorem Keeps.proposeSteer {set t' src internal num} (h : Keeps s t) : Keeps s (t.proposeSteer set t' src internal num) :=
  h.onFloe.foldl fun _ _ g => g.phoSend

theorem Keeps.ageSteers {src} (h : Keeps s t) : Keeps s (t.ageSteers src) := .ite h h.onFloe

theorem Keeps.steerResult {src code ports} (h : Keeps s t) : Keeps s (t.steerResult src code ports) := h.same

theorem Keeps.requestSteer {n t' src} (h : Keeps s t) : Keeps s (t.requestSteer n t' src).2 :=
  .ite_snd h.ageSteers.proposeSteer h.ageSteers.steerResult

theorem Keeps.steerGo {v'} (h : Keeps s t) : Keeps s (t.steerGo v').2 := .ite_snd h h.land.requestSteer

theorem Keeps.execSteerPropose {h' gen t' groups} (h : Keeps s t) : Leaves s (execSteerPropose h' gen t' groups t) :=
  h.onSvc fun _ g => (Keeps.ite g.onFloe g).phoSend

theorem Keeps.execSteerAnswer {h' gen accept} (h : Keeps s t) : Leaves s (execSteerAnswer h' gen accept t) :=
  h.onSvc fun _ g => g.onFloe

theorem Keeps.execSteerDecide (h : Keeps s t) : Leaves s (execSteerDecide t) := by
  simp only [Machine.execSteerDecide]
  split
  · exact h
  · exact Keeps.ite h.onFloe h.onFloe.steerResult

theorem Keeps.applySteer {t' rest d} (h : Keeps s t) : Keeps s (t.applySteer t' rest d) :=
  .foldl (.foldl (.onFloe (h.abandonOn.foldl fun _ _ g => .ite g.same g)) fun _ _ g => g.same) fun _ _ g => g.same

theorem Keeps.execSteerApply (h : Keeps s t) : Leaves s (execSteerApply t) := by
  simp only [Machine.execSteerApply]
  split
  · exact h
  · exact h.same
  · split
    · exact h.same
    · split
      · exact h
      · exact h.applySteer

theorem Keeps.groupFrame {g b kind} (h : Keeps s t) : Keeps s (t.groupFrame g b kind) := h.same

theorem Keeps.execGroupStart {group} (h : Keeps s t) : Leaves s (execGroupStart group t) :=
  .ite h ((Keeps.ite h.onFloe.groupFrame h.onFloe).foldl fun _ _ g => g.immediate)

theorem Keeps.execLightLoss {port fibreB} (h : Keeps s t) : Leaves s (execLightLoss port fibreB t) := by
  simp only [Machine.execLightLoss]
  split
  · exact Keeps.ite h.onPho.onFab h.onPho
  · exact h.onPho

theorem Keeps.execFibreDown {port fibreB} (h : Keeps s t) : Leaves s (execFibreDown port fibreB t) :=
  .ite h (.ite h.onPho (.ite h.onPho.portDown (.ite h.onPho h.onPho.onFloe.proposeSteer)))

theorem Keeps.execLaunchGateClose {port fibreB silent} (h : Keeps s t) : Leaves s (execLaunchGateClose port fibreB silent t) :=
  .ite h h.onPho.abandonOn

theorem Keeps.execLaunchGateClosed {port fibreB} (h : Keeps s t) : Leaves s (execLaunchGateClosed port fibreB t) :=
  .ite h (Keeps.ite h.setGate.onFloe.startProbing h.setGate.onFloe.startProbing.onPho)

theorem Keeps.comeBack {q b} (h : Keeps s t) : Keeps s (t.comeBack q b) := .ite h.onFloe h.onFloe.proposeSteer

theorem Keeps.execLightReturn {port fibreB} (h : Keeps s t) : Leaves s (execLightReturn port fibreB t) := by
  simp only [Machine.execLightReturn]
  split
  · exact h
  · split
    · exact (Keeps.ite h.onPho.onFab.onPho.retryWaiting h.onPho.onFab).comeBack
    · exact (Keeps.ite h.onPho.onPho.retryWaiting h.onPho).comeBack

theorem Keeps.execPllLossOfLock {d} (h : Keeps s t) : Leaves s (execPllLossOfLock d t) := .ite h (Keeps.ite h.same h.same)

theorem Keeps.execPllRelock {d ns} (h : Keeps s t) : Leaves s (execPllRelock d ns t) := by
  simp only [Machine.execPllRelock]
  split
  · exact h
  · split
    · exact h.same
    · exact Keeps.ite h.same h.same.raise'
    · exact h

theorem Keeps.pllFailed {d} (h : Keeps s t) : Keeps s (t.pllFailed d) := .ite h.same h.same.raise'

theorem Keeps.execPllLockTimeout {d} (h : Keeps s t) : Leaves s (execPllLockTimeout d t) := .ite h.pllFailed h

theorem Keeps.execRefclkLoss {pcie} (h : Keeps s t) : Leaves s (execRefclkLoss pcie t) := .ite h.same (.ite h.pllFailed h)

theorem Keeps.execReplicaWarn {t'} (h : Keeps s t) : Leaves s (execReplicaWarn t' t) := h.same

theorem Keeps.execReplicaWarnEnd {t'} (h : Keeps s t) : Leaves s (execReplicaWarnEnd t' t) := h.same

theorem Keeps.execReplicaAlarm {t'} (h : Keeps s t) : Leaves s (execReplicaAlarm t' t) := .ite h h.same

theorem Keeps.execReplicaAlarmEnd {t'} (h : Keeps s t) : Leaves s (execReplicaAlarmEnd t' t) := .ite h h.same

theorem Keeps.execCalTrimUpdate {tb plls} (h : Keeps s t) : Leaves s (execCalTrimUpdate tb plls t) := h.same

theorem Keeps.setVddAll {step} (h : Keeps s t) : Keeps s (t.setVddAll step) := h.foldl fun _ _ g => g.same

theorem Keeps.onClk {f} (h : Keeps s t) : Keeps s (t.onClk f) := h.same

theorem Keeps.execFreqSupplyCommand (h : Keeps s t) : Leaves s (execFreqSupplyCommand t) := by
  simp only [Machine.execFreqSupplyCommand]
  split
  · exact h
  · exact .ite h h.setVddAll.onClk

theorem Keeps.execFreqChangeStart (h : Keeps s t) : Leaves s (execFreqChangeStart t) := by
  simp only [Machine.execFreqChangeStart]
  split
  · exact h
  · exact .ite h h.onClk

theorem Keeps.onPow {f} (h : Keeps s t) : Keeps s (t.onPow f) := h.same

theorem Keeps.execFreqChangeEnd (h : Keeps s t) : Leaves s (execFreqChangeEnd t) := by
  simp only [Machine.execFreqChangeEnd]
  split
  · exact h
  · split
    · split
      · exact (Keeps.ite h.onClk.onPow.set h.onClk.onPow).setVddAll
      · exact h.onClk.onPow.setVddAll
    · split
      · exact Keeps.ite h.onClk.onPow.set h.onClk.onPow
      · exact h.onClk.onPow

theorem Keeps.sendBudget {dst b} (h : Keeps s t) : Keeps s (t.sendBudget dst b) := .ite h.onPow h.inject

theorem Keeps.takeBudget {src type} (h : Keeps s t) : Keeps s (t.takeBudget src type).2 := by
  simp only [State.takeBudget]
  split
  · split
    · split
      · dsimp only
        exact h.onPow
      · exact h
    · exact h
  · split
    · split
      · exact h.same
      · exact h
    · exact h

theorem Keeps.announced {b} (h : Keeps s t) : Keeps s (t.announced b).2.2 := by
  simp only [State.announced]
  split
  · exact h
  · split
    · exact h
    · exact (Keeps.ite h.setVddAll h).set

theorem Keeps.execFreqAnnounce {src} (h : Keeps s t) : Leaves s (execFreqAnnounce src t) := by
  simp only [Machine.execFreqAnnounce]
  split
  · exact h
  · split
    · next heq => exact h.takeBudget.of_snd heq
    · next heq => exact (h.takeBudget.of_snd heq).announced.sendBudget

theorem Keeps.execFreqAck {src} (h : Keeps s t) : Leaves s (execFreqAck src t) := by
  simp only [Machine.execFreqAck]
  split
  · exact h
  · split
    · next heq => exact h.takeBudget.of_snd heq
    · next heq => exact .ite ((h.takeBudget.of_snd heq).onPow) (h.takeBudget.of_snd heq)

theorem Keeps.execTimeExchangeSend {port} (h : Keeps s t) : Leaves s (execTimeExchangeSend port t) := .ite h h.onClk.phoSend.phoSend

theorem Keeps.execTimeReq {h' turn} (h : Keeps s t) : Leaves s (execTimeReq h' turn t) := h.onSvc fun _ g => g.phoSend

theorem Keeps.execTimeResp {h' t2 t3 ftState hops} (h : Keeps s t) : Leaves s (execTimeResp h' t2 t3 ftState hops t) :=
  h.onSvc fun _ g => by
    dsimp only
    split
    · exact g
    · split
      · split
        · split
          · exact .ite g.land.onClk.pickUpstream.onClk.onClk g.land.onClk.pickUpstream.onClk
          · exact g.land.onClk.pickUpstream
        · exact g.land.onClk.pickUpstream
      · split
        · split
          · exact .ite g.land.onClk.pickUpstream.onClk.onClk g.land.onClk.pickUpstream.onClk
          · exact g.land.onClk.pickUpstream
        · exact g.land.onClk.pickUpstream

theorem Keeps.execFabricTimeWrap (h : Keeps s t) : Leaves s (execFabricTimeWrap t) := .ite h h.onClk

theorem Keeps.wrapTest {n} (h : Keeps s t) : Keeps s (t.wrapTest n).2 := by
  simp only [State.wrapTest]
  split
  · exact h
  · dsimp only
    exact h.onClk

theorem Keeps.ppsSteer (h : Keeps s t) : Keeps s t.ppsSteer := .ite h.onClk h

theorem Keeps.withAlert {f} (h : Keeps s t) (hf : ∀ u, Keeps s u → Keeps s (f u)) : Leaves s (t.withAlert f) :=
  Keeps.ite (hf _ h) ((hf _ h).emit)

theorem Keeps.sendBudget1 {t' mw} (h : Keeps s t) : Keeps s (t.sendBudget1 t' mw) := .ite h.same.carry h

theorem Keeps.sendBudgets (h : Keeps s t) : Keeps s t.sendBudgets := h.foldl fun _ _ g => g.sendBudget1

theorem Keeps.returnStack {t'} (h : Keeps s t) : Keeps s (t.returnStack t') := .ite h.onPow.carry h

theorem Keeps.execBudgetCycle {fixed power} (h : Keeps s t) : Leaves s (execBudgetCycle fixed power t) :=
  .ite h h.onPow.onPow.sendBudgets

theorem Keeps.execStackBudgetReceive {t'} (h : Keeps s t) : Leaves s (execStackBudgetReceive t' t) := by
  simp only [Machine.execStackBudgetReceive]
  split
  · exact h
  · exact .ite h h.same.returnStack

theorem Keeps.execStackBudgetTimeout {t'} (h : Keeps s t) : Leaves s (execStackBudgetTimeout t' t) := .ite h h.same

theorem Keeps.execLimiterLoopStep {t' power} (h : Keeps s t) : Leaves s (execLimiterLoopStep t' power t) := h.same

theorem Keeps.execStackRuleEval {t' smp} (h : Keeps s t) : Leaves s (execStackRuleEval t' smp t) := h.withAlert fun _ g => g.same

theorem Keeps.sensorsLow {t' die trustedNow total was} (h : Keeps s t) : Keeps s (t.sensorsLow t' die trustedNow total was) :=
  .ite h.same.raise' h

theorem Keeps.execSensorSuspect {t' sensor} (h : Keeps s t) : Leaves s (execSensorSuspect t' sensor t) := by
  simp only [Machine.execSensorSuspect]
  split
  · exact h
  · exact .ite h (h.withAlert fun _ g => .ite g.same.raise'.sensorsLow (.ite g.same.raise'.sensorsLow g.same.raise'))

theorem Keeps.execFirnSensorsSuspect {t'} (h : Keeps s t) : Leaves s (execFirnSensorsSuspect t' t) :=
  .ite h (h.withAlert fun _ g => g.same.raise')

theorem Keeps.execThermalStepping (h : Keeps s t) : Leaves s (execThermalStepping t) :=
  h.withAlert fun _ g => .onPow (.foldl (g.foldl fun _ _ k => .ite ((Keeps.ite k.same.onPow k.same).onPow)
    (.ite k.same.onPow k.same)) fun _ _ k => .ite k (.ite k.same.onPow k.same))

theorem Keeps.execThermalTrip {t' sensor} (h : Keeps s t) : Leaves s (execThermalTrip t' sensor t) :=
  .ite h (h.withAlert fun _ g => .raise' (.emit (.set (.foldl (g.foldl fun _ _ k => k.same) fun _ _ k => k.same))))

theorem Keeps.execCapUnreachableSet (h : Keeps s t) : Leaves s (execCapUnreachableSet t) := .ite (h.withAlert fun _ g => g.onPow) h

theorem Keeps.execCapUnreachableClear (h : Keeps s t) : Leaves s (execCapUnreachableClear t) :=
  .ite (h.withAlert fun _ g => g.onPow) h

theorem Keeps.announce {step} (h : Keeps s t) : Keeps s (t.announce step) := h.onPow.foldl fun _ _ g => g.sendBudget

theorem Keeps.execLimitReport {src} (h : Keeps s t) : Leaves s (execLimitReport src t) := by
  simp only [Machine.execLimitReport]
  split
  · exact h
  · split
    · next heq => exact h.takeBudget.of_snd heq
    · next heq =>
      split
      · exact h.takeBudget.of_snd heq
      · split
        · exact (h.takeBudget.of_snd heq).onPow
        · split
          · exact (h.takeBudget.of_snd heq).onPow
          · split
            · exact (h.takeBudget.of_snd heq).onPow.onPow.announce
            · exact (h.takeBudget.of_snd heq).onPow.onPow

theorem Keeps.brkOn (h : Keeps s t) : Keeps s t.brkOn := h.land.land.onPow

end Sys2Proof.Machine

end

section
/-! PROOFS. One rule for each function of the model, that it keeps what `Keeps` says: security, the dictionary and the registers
(R484 to R512, R554 to R571). -/

namespace Sys2Proof.Machine

set_option Elab.async false

variable {s t : State} {v : Tile}

theorem Keeps.extend {i l} (h : Keeps s t) : Keeps s (t.extend i l) :=
  h.trans ⟨⟨rfl, rfl, id, BitVec.and_self, le_rfl, rfl, rfl, id⟩, [(BitVec.ofNat 4 i, padTo 32 l)], rfl, fun p hp => by
    rw [List.mem_singleton.mp hp]
    exact padTo_length 32 l⟩

theorem Keeps.measureCore {n} (h : Keeps s t) : Keeps s (t.measureCore n) := h.extend

theorem Keeps.onLease {f} (h : Keeps s t) : Keeps s (t.onLease f) := h.same

theorem Keeps.onLoad {f} (h : Keeps s t) : Keeps s (t.onLoad f) := h.same

theorem Keeps.onCores {f} (h : Keeps s t) : Keeps s (t.onCores f) := h.same

theorem Keeps.acceptImage {img} (h : Keeps s t) : Keeps s (t.acceptImage img) :=
  h.same.extend.extend.extend.extend.extend.extend.extend.onCores.set.onLoad.onLease.mbxChanged

theorem Keeps.execImageVerify {sigOk} (h : Keeps s t) : Leaves s (execImageVerify sigOk t) := by
  simp only [Machine.execImageVerify]
  split
  · exact h
  · split
    · exact h.same
    · exact h.acceptImage

theorem Keeps.keepAlias {pub cert} (h : Keeps s t) : Keeps s (t.onSec (fun x => x.keepAlias pub cert)) := by
  simp only [State.onSec, Sec.keepAlias]
  split
  · exact h
  · split <;> exact h.same

theorem Keeps.execAliasKeyReady (h : Keeps s t) : Leaves s (execAliasKeyReady t) :=
  .ite h (Keeps.ite (h.same (u := State.onSec _ _)).keepAlias h.same)

theorem Keeps.beginFuse {f} (h : Keeps s t) : Keeps s (t.beginFuse f).2 := .ite_snd h h.same

theorem Keeps.prodLockSet {v'} (h : Keeps s t) : Keeps s (t.prodLockSet v').2 := .ite_snd h h.beginFuse

theorem Keeps.keyRevoke {mask} (h : Keeps s t) : Keeps s (t.keyRevoke mask).2 := .ite_snd h h.beginFuse

theorem Keeps.svnCommit {v'} (h : Keeps s t) : Keeps s (t.svnCommit v').2 := .ite_snd h h.beginFuse

theorem Keeps.fuseDone {f} (h : Keeps s t) : Keeps s (t.fuseDone f) := by
  refine h.trans ?_
  cases f with
  | prodLock => exact .of_lasts ⟨rfl, rfl, fun _ => rfl, BitVec.and_self, le_rfl, rfl, rfl, id⟩ rfl
  | revoke m =>
    refine .of_lasts ⟨rfl, rfl, id, ?_, le_rfl, rfl, rfl, id⟩ rfl
    change t.sec.keyRevoked &&& (t.sec.keyRevoked ||| m) = t.sec.keyRevoked
    ext i hi
    simp +contextual
  | svn n => exact .of_lasts ⟨rfl, rfl, id, BitVec.and_self, le_max_left _ n, rfl, rfl, id⟩ rfl

theorem Keeps.execFuseWriteComplete (h : Keeps s t) : Leaves s (execFuseWriteComplete t) := by
  simp only [Machine.execFuseWriteComplete]
  split
  · exact h
  · exact h.same.fuseDone

theorem Keeps.fuseCut (h : Keeps s t) : Keeps s t.fuseCut := by
  simp only [State.fuseCut]
  split
  · exact h
  · split
    · exact .ite h.same.fuseDone h.same
    · exact h.same.fuseDone
    · exact h.same.fuseDone

theorem Keeps.measExtend {b} (h : Keeps s t) : Keeps s (t.measExtend b).2 := .ite_snd h (.ite_snd h h.extend)

theorem Keeps.answer {c r} (h : Keeps s t) : Keeps s (t.answer c r) := .ite h.same.emit h.same.emit

theorem Keeps.spdmIn {c f} (h : Keeps s t) (hf : ∀ u, Keeps s u → Keeps s (f u)) : Leaves s (t.spdmIn c f) := .ite h (hf _ h.same)

theorem Keeps.onSpdm {c ver needAlgs f} (h : Keeps s t) (hf : ∀ u, Keeps s u → Keeps s (f u)) :
    Leaves s (t.onSpdm c ver needAlgs f) :=
  h.spdmIn fun _ g => by
    split
    · exact g.same
    · exact .ite g.same (.ite g.same (hf _ g))

theorem Keeps.execGetVersion {c} (h : Keeps s t) : Leaves s (execGetVersion c t) := h.spdmIn fun _ g => g.same.emit

theorem Keeps.execGetCapabilities {c ver} (h : Keeps s t) : Leaves s (execGetCapabilities c ver t) :=
  h.spdmIn fun _ g => .ite g.same (.ite g.same g.same.answer)

theorem Keeps.execNegotiateAlgorithms {c ver mlDsa44 sha3 dmtf} (h : Keeps s t) :
    Leaves s (execNegotiateAlgorithms c ver mlDsa44 sha3 dmtf t) :=
  h.onSpdm fun _ g => .ite g.same.answer g.same

theorem Keeps.execGetDigests {c ver} (h : Keeps s t) : Leaves s (execGetDigests c ver t) := h.onSpdm fun _ g => g.answer

theorem Keeps.execGetCertificate {c ver slot off len} (h : Keeps s t) : Leaves s (execGetCertificate c ver slot off len t) :=
  h.onSpdm fun _ g => .ite g.same g.answer

theorem Keeps.execChallenge {c ver slot nonce summary signature} (h : Keeps s t) :
    Leaves s (execChallenge c ver slot nonce summary signature t) :=
  h.onSpdm fun _ g => .ite g.same g.answer

theorem Keeps.execGetMeasurements {c ver index signature} (h : Keeps s t) :
    Leaves s (execGetMeasurements c ver index signature t) :=
  h.onSpdm fun _ g => .ite g.answer (.ite g.answer (.ite g.answer g.same))

theorem Keeps.execChunkGet {c ver handle num} (h : Keeps s t) : Leaves s (execChunkGet c ver handle num t) :=
  h.onSpdm fun _ g => by
    dsimp only
    split
    · exact g.same
    · exact .ite g.same g.same.emit

theorem Keeps.execSpdmUnsupportedRequest {c} (h : Keeps s t) : Leaves s (execSpdmUnsupportedRequest c t) :=
  h.spdmIn fun _ g => g.same

theorem Keeps.unstage {k} (h : Keeps s t) : Keeps s (t.unstage k) := h.same

theorem Keeps.proceed (h : Keeps s t) : Keeps s t.proceed := by
  simp only [State.proceed]
  split
  · exact h.fixSettings.unstage.applyEntry.lookDom.onCal.onCal
  · exact h.fixSettings.onCal

theorem Keeps.thawProceed {v'} (h : Keeps s t) : Keeps s (t.thawProceed v').2 := .ite_snd h h.proceed

theorem Keeps.stage {k v'} (h : Keeps s t) : Keeps s (t.stage k v') := h.same

theorem Keeps.calRestore {b} (h : Keeps s t) : Keeps s (t.calRestore b).2 := by
  simp only [State.calRestore]
  split
  · exact h
  · split
    · dsimp only
      exact h.onCal.stage
    · dsimp only
      exact h.onCal

theorem Keeps.calTake {v'} (h : Keeps s t) : Keeps s (t.calTake v').2 := .ite_snd h h.onCal.lookDom

theorem Keeps.stageIf {ok k v'} (h : Keeps s t) : Keeps s (t.stageIf ok k v').2 := .ite_snd h.stage h

theorem Keeps.applyIf {ok k v'} (h : Keeps s t) : Keeps s (t.applyIf ok k v').2 := .ite_snd h.applyEntry h

theorem Keeps.lockAll (h : Keeps s t) : Keeps s t.lockAll := h.same.foldl fun _ _ g => g.same

theorem Keeps.askReset {v'} (h : Keeps s t) : Keeps s (t.askReset v').2 := .ite_snd h h.dueSnap.set

theorem Keeps.putRetired {v'} (h : Keeps s t) : Keeps s (t.putRetired v').2 := by
  simp only [State.putRetired]
  split
  · exact h
  · dsimp only
    exact h.foldl fun _ _ g => g.mapEntry.set

theorem Keeps.putPlacement {k v'} (h : Keeps s t) : Keeps s (t.putPlacement k v').2 :=
  .ite_snd h (.ite_snd h.applyEntry.stage h.stage)

theorem Keeps.putSets {v'} (h : Keeps s t) : Keeps s (t.putSets v').2 := .ite_snd h h.onFloe.lookDom

theorem Keeps.putWindows {v'} (h : Keeps s t) : Keeps s (t.putWindows v').2 := .ite_snd h h.onMem.lookDom

theorem Keeps.putDomainTime {k v'} (h : Keeps s t) : Keeps s (t.putDomainTime k v').2 := by
  simp only [State.putDomainTime]
  split
  · split
    · exact h
    · dsimp only
      exact h.stage.onMem
  · split
    · exact h
    · dsimp only
      exact h.stage.onMem

theorem Keeps.putInjEn {on} (h : Keeps s t) : Keeps s (t.putInjEn on).2 := .ite_snd h h.same

theorem Keeps.putCvu {c v'} (h : Keeps s t) : Keeps s (t.putCvu c v').2 := .ite_snd h.same h.onCvu.cvuCtrl

theorem Keeps.putSchedSwap {n} (h : Keeps s t) : Keeps s (t.putSchedSwap n).2 := .ite_snd h (.ite_snd h.askSwap h.askSwap)

theorem Keeps.putDmSwap {n} (h : Keeps s t) : Keeps s (t.putDmSwap n).2 := .ite_snd h (.ite_snd h.giveRole h)

theorem Keeps.putFlush {n} (h : Keeps s t) : Keeps s (t.putFlush n).2 := .ite_snd h h.dueSnap

theorem Keeps.putSys {k v'} (h : Keeps s t) : Keeps s (t.putSys k v').2 :=
  .ite_snd (.ite h.lockAll h) (.ite_snd h.stageIf (.ite_snd h.askReset
    (.ite_snd h.putRaEnable (.ite_snd h.putRetired (.ite_snd h.same (.ite_snd h.putPlacement (.ite_snd h.stageIf h.stageIf)))))))

theorem Keeps.putPho {k v'} (h : Keeps s t) : Keeps s (t.putPho k v').2 :=
  .ite_snd h.stageIf (.ite_snd h.stageIf (.ite_snd h.putSets
    (.ite_snd (.ite_snd h.steerGo h.steerGo) (.ite_snd h.stageIf (.ite_snd h.stageIf (.ite_snd h.applyIf h.stageIf))))))

theorem Keeps.putMemory {k v'} (h : Keeps s t) : Keeps s (t.putMemory k v').2 := by
  simp only [State.putMemory]
  split
  · exact h.putWindows
  · split
    · dsimp only
      exact h.onMem
    · split
      · exact h.putDomainTime
      · split
        · exact h.applyIf
        · split
          · exact h.applyIf
          · split
            · exact h.applyIf
            · exact h.stageIf

theorem Keeps.putClkPow {k v'} (h : Keeps s t) : Keeps s (t.putClkPow k v').2 :=
  .ite_snd h.stageIf (.ite_snd (.ite_snd h.wrapTest h.wrapTest)
    (.ite_snd h.stageIf (.ite_snd h.stageIf (.ite_snd h.stageIf (.ite_snd h.stageIf h.stageIf)))))

theorem Keeps.putFirm {k v'} (h : Keeps s t) : Keeps s (t.putFirm k v').2 :=
  .ite_snd h.putSchedSwap (.ite_snd h.applyIf (.ite_snd h.stageIf
    (.ite_snd h.stageIf (.ite_snd h.putDmSwap (.ite_snd h.applyIf (.ite_snd h.applyIf h.stageIf))))))

theorem Keeps.putRas {k v'} (h : Keeps s t) : Keeps s (t.putRas k v').2 :=
  .ite_snd (.ite_snd h.errAck h.errAck) (.ite_snd h.putInjEn
    (.ite_snd (.ite_snd h.errInject h.errInject) (.ite_snd h.prodLockSet
      (.ite_snd h.putCvu (.ite_snd (.ite_snd h.morFreeze h.morFreeze)
        (.ite_snd h.putFlush (.ite_snd h.thawProceed (.ite_snd h.calRestore
          (.ite_snd h.calTake (.ite_snd h.keyRevoke (.ite_snd h.svnCommit
            (.ite_snd h.measExtend (.ite_snd h.applyIf h.stageIf)))))))))))))

theorem Keeps.putEntry {ty k v'} (h : Keeps s t) : Keeps s (t.putEntry ty k v').2 := by
  simp only [State.putEntry]
  split
  · exact h
  · split
    · exact h.putSys
    · exact h.putSys
    · exact .ite_snd h.putPho h.putMemory
    · exact h.putClkPow
    · exact h.putFirm
    · exact h.putRas

theorem Keeps.genUp {code} (h : Keeps s t) : Keeps s (t.genUp code) := .ite h.same h

theorem Keeps.commit {who r e v'} (h : Keeps s t) : Keeps s (t.commit who r e v').2 :=
  .ite_snd (.ite h h.putEntry) (.ite_snd h h.putEntry.genUp)

theorem Keeps.segment {who r e} (h : Keeps s t) : Keeps s (t.segment who r e).2 := by
  simp only [State.segment]
  split
  · exact .ite_snd h (.ite_snd h (.ite_snd h (.ite_snd h.same.commit h.same)))
  · exact .ite_snd h.commit (.ite_snd h (.ite_snd h h.same))

theorem Keeps.dictWrite {who r} (h : Keeps s t) : Keeps s (t.dictWrite who r).2 := by
  simp only [State.dictWrite]
  split
  · exact h
  · split
    · exact h
    · exact .ite_snd h (.ite_snd h (.ite_snd h (.ite_snd h.segment h.commit)))

theorem Keeps.dictRead {who r} (h : Keeps s t) : Keeps s (t.dictRead who r).2 := by
  simp only [State.dictRead]
  split
  · exact h
  · split
    · exact h
    · exact .ite_snd h (.ite_snd h (.ite h.lookDom h))

theorem Keeps.dictServe {who r} (h : Keeps s t) : Keeps s (t.dictServe who r).2 := by
  simp only [State.dictServe]
  split
  · cases entryAt r.idx r.sub with
    | none => exact h.dictWrite
    | some e => exact h.dictWrite
  · exact h.dictRead

theorem Keeps.holdReq {path cls body} (h : Keeps s t) : Keeps s (t.holdReq path cls body) := .ite h h.same

theorem Keeps.serveMbx {write p} (h : Keeps s t) : Keeps s (t.serveMbx write p) := h.dictServe.d2h

theorem Keeps.serveMctp {ep write p} (h : Keeps s t) : Keeps s (t.serveMctp ep write p) := h.dictServe.emit

theorem Keeps.readReg {addr} (h : Keeps s t) : Keeps s (t.readReg addr).2 := .ite_snd h (.ite_snd (.ite h.same h) (.ite_snd h h))

theorem Keeps.bar0Read {addr size} (h : Keeps s t) : Keeps s (t.bar0Read addr size).2 :=
  .ite_snd h.same (.ite_snd h.readReg.readReg h.readReg)

theorem Keeps.putLock {b v'} (h : Keeps s t) : Keeps s (t.putLock b v') := .ite h.same h

theorem Keeps.lockField {b changed apply} (h : Keeps s t) (happly : ∀ u, Keeps s u → Keeps s (apply u)) :
    Keeps s (t.lockField b changed apply) :=
  .ite h (.ite h.same (happly _ h))

theorem Keeps.cfgField {b en changed mark apply} (h : Keeps s t) (hmark : ∀ u, Keeps s u → Keeps s (mark u))
    (happly : ∀ u, Keeps s u → Keeps s (apply u)) : Keeps s (t.cfgField b en changed mark apply) :=
  h.lockField fun _ g => .ite (hmark _ g.same) (happly _ g)

theorem Keeps.putSchedCtrl {v'} (h : Keeps s t) : Keeps s (t.putSchedCtrl v') :=
  .putLock (.onSched (h.cfgField (fun _ g => g.onSched) fun _ g => g.onSched))

theorem Keeps.putMemReg {off v'} (h : Keeps s t) : Keeps s (t.putMemReg off v') :=
  .ite (.putLock (.onMem (h.cfgField (fun _ g => g.onMem) fun _ g => g.onMem))) (.ite h.same (.ite h.onMem h.same))

theorem Keeps.putPwrReg {off v'} (h : Keeps s t) : Keeps s (t.putPwrReg off v') :=
  .ite h.onPow (.putLock (h.cfgField (fun _ g => g.onPow) fun _ g => g.onPow))

theorem Keeps.putMorReg {v'} (h : Keeps s t) : Keeps s (t.putMorReg v') :=
  .putLock (.ite (.dueSnap (h.lockField fun _ g => g.morFreeze)) (h.lockField fun _ g => g.morFreeze))

theorem Keeps.putGlobal {n off v'} (h : Keeps s t) : Keeps s (t.putGlobal n off v') := by
  simp only [State.putGlobal]
  split
  · exact h.putSchedCtrl
  · exact h.putMemReg
  · exact .putLock (h.cfgField (fun _ g => g.onClk) fun _ g => g.onClk)
  · exact h.putPwrReg
  · exact .putLock (h.cfgField (fun _ g => g.same) fun _ g => g.same)
  · exact .ite h.errAck h.putLock
  · exact h.putMorReg
  · exact .putLock (h.lockField fun _ g => g.same)
  · exact .putLock (h.cfgField (fun _ g => g.onCal) fun _ g => g.onCal)
  · exact h

theorem Keeps.putFrnReg {t' off v'} (h : Keeps s t) : Keeps s (t.putFrnReg t' off v') :=
  .ite (.ite h (.ite h.maintStart h.same)) (.putLock (h.cfgField (fun _ g => g.same) fun _ g => g.same))

theorem Keeps.putPhoReg {t' off v'} (h : Keeps s t) : Keeps s (t.putPhoReg t' off v') :=
  .ite (.putLock (h.cfgField (fun _ g => g.onFloe) fun _ g => g.onFloe))
    (.ite (.ite h.onFloe.requestSteer h.onFloe) (.ite h.onFloe (.ite h.same h.onFloe)))

theorem Keeps.putCvuReg {t' off v'} (h : Keeps s t) : Keeps s (t.putCvuReg t' off v') :=
  .ite (.putLock (h.lockField fun _ g => g.same)) (.ite h.same
    (.ite ((Keeps.ite h.same h).cvuCtrl) (.ite h.same (.ite h (.ite h.same.onCvu h.onCvu)))))

theorem Keeps.putTile {t' n off v'} (h : Keeps s t) : Keeps s (t.putTile t' n off v') := by
  simp only [State.putTile]
  split
  · exact .putLock (h.cfgField (fun _ g => g.same) fun _ g => g.same)
  · exact h.putFrnReg
  · exact .ite h.same (.putLock (h.cfgField (fun _ g => g.same) fun _ g => g.same))
  · exact h.putPhoReg
  · exact .putLock (h.cfgField (fun _ g => g.onFab) fun _ g => g.onFab)
  · exact .putLock (h.cfgField (fun _ g => g.same) fun _ g => g.same)
  · exact h.putCvuReg
  · exact h

theorem Keeps.writeReg {addr v'} (h : Keeps s t) : Keeps s (t.writeReg addr v') := by
  simp only [State.writeReg]
  split
  · exact h
  · split
    · exact h.same
    · split
      · exact h
      · split
        · exact h.same
        · split
          · exact (Keeps.ite h.same h).putGlobal
          · exact (Keeps.ite h.same h).putTile

theorem Keeps.bar0Write {addr size v'} (h : Keeps s t) : Keeps s (t.bar0Write addr size v') :=
  .ite h (.ite h.writeReg (.ite h.writeReg.writeReg (.ite h.same h)))

theorem Keeps.execBar0RegisterWrite {addr size acc} (h : Keeps s t) : Leaves s (execBar0RegisterWrite addr size acc t) := by
  simp only [Machine.execBar0RegisterWrite]
  split
  · exact h.bar0Write
  · exact .ite h h.bar0Read.emit

theorem Keeps.execHostBar4BaseHiWrite {al v'} (h : Keeps s t) : Leaves s (execHostBar4BaseHiWrite al v' t) := h.bar0Write

theorem Keeps.execPhoSteerCmdGo {al v'} (h : Keeps s t) : Leaves s (execPhoSteerCmdGo al v' t) := h.bar0Write

theorem Keeps.voted {g n offs} (h : Keeps s t) : Keeps s (t.voted g n offs) := by
  simp only [State.voted]
  split
  · exact h
  · exact .ite h.same h.same.raise'

theorem Keeps.execVoteScrub {found} (h : Keeps s t) : Leaves s (execVoteScrub found t) := h.foldl fun _ _ g => g.voted

end Sys2Proof.Machine

end

section
/-! PROOFS. One rule for each function of the model, that it keeps what `Keeps` says: calibration runs, dictionary commands, retries
and serving at the home (R337 to R349, R493, R573 to R597). -/

namespace Sys2Proof.Machine

set_option Elab.async false

variable {s t : State} {v : Tile}

theorem Keeps.placeHbm (h : Keeps s t) : Keeps s t.placeHbm := .set (h.unstage.land.foldl fun _ _ g => .ite g.onStack.dieStatus g)

theorem Keeps.reachStage {n} (h : Keeps s t) : Keeps s (t.reachStage n) := h.same

theorem Keeps.startPorts (h : Keeps s t) : Keeps s t.startPorts :=
  h.landFixed.landFixed.landFixed.onFloe.onFab.reachStage.foldl fun _ _ g => .ite g.onPho (.ite g.onPho (.ite g g.startProbing))

theorem Keeps.endRings (h : Keeps s t) : Keeps s t.endRings := .ite h.landFixed.assignRoles.startPorts h

theorem Keeps.spareWeak (h : Keeps s t) : Keeps s t.spareWeak := by
  simp only [State.spareWeak]
  exact .onCal (h.foldl fun _ _ g => by
    split
    · exact g.onVb
    · exact g)

theorem Keeps.endItem {item} (h : Keeps s t) : Keeps s (t.endItem item) := by
  simp only [State.endItem]
  split
  · exact h.same.spareWeak
  · exact h.same.placeHbm
  · exact h.same.endRings
  · exact h.same.endRings
  · exact h.same

theorem Keeps.ringLost {n} (h : Keeps s t) : Keeps s (t.ringLost n) := .ite h h.onChan.laneCheck

theorem Keeps.noAlternate {item n} (h : Keeps s t) : Keeps s (t.noAlternate item n) := by
  simp only [State.noAlternate]
  split
  · exact .ite h.same.onVb h.same
  · exact h.same.stackFail
  · exact .ite h.same.retireWl h.same.raise'
  · exact h.same.ringLost
  · exact h.same.ringLost
  · exact h.same

theorem Keeps.useValue {item n v'} (h : Keeps s t) : Keeps s (t.useValue item n v') := by
  simp only [State.useValue]
  split
  · exact .ite h.onVb h
  · exact .ite h.same (h.same.foldl fun _ _ g => g.onChan)
  · exact h

theorem Keeps.onItem {i f} (h : Keeps s t) : Keeps s (t.onItem i f) := h.same

theorem Keeps.settleElem {item n v' fresh} (h : Keeps s t) : Keeps s (t.settleElem item n v' fresh) :=
  .ite h.same.useValue.onItem h.same.useValue

theorem Keeps.discardRun {n} (h : Keeps s t) : Keeps s (t.discardRun n) := by
  simp only [State.discardRun]
  exact .ite h.same (h.same.foldl fun _ _ g => .ite g g.noAlternate)

theorem Keeps.onElem {k f} (h : Keeps s t) : Keeps s (t.onElem k f) := h.same

theorem Keeps.countThird {item} (h : Keeps s t) : Keeps s (t.countThird item) := h.same

theorem Keeps.countSuspect {item} (h : Keeps s t) : Keeps s (t.countSuspect item) := h.same

theorem Keeps.runElem {item n run order} (h : Keeps s t) : Keeps s (t.runElem item n run order) := by
  simp only [State.runElem]
  split
  · exact h.noAlternate
  · split
    · exact h.onElem.onElem
    · exact .ite h.onElem.settleElem h.onElem.onElem
    · split
      · exact h.onElem.countThird.settleElem
      · split
        · exact h.onElem.countThird.settleElem
        · split
          · exact h.onElem.countThird.onElem.countSuspect.onElem
          · exact h.onElem.countThird.onElem.countSuspect.noAlternate

theorem Keeps.maybeEnd {item n ends} (h : Keeps s t) : Keeps s (t.maybeEnd item n ends) := .ite h.endItem h

theorem Keeps.execCalRunComplete {item elem run order discard ends} (h : Keeps s t) :
    Leaves s (execCalRunComplete item elem run order discard ends t) :=
  .ite h (.ite ((Keeps.ite h.same.discardRun h.same).maybeEnd) h.same.runElem.maybeEnd)

theorem Keeps.execRestoreCheckRun {item elem run ends} (h : Keeps s t) : Leaves s (execRestoreCheckRun item elem run ends t) := by
  simp only [Machine.execRestoreCheckRun]
  split
  · exact h
  · split
    · exact h
    · split
      · exact h
      · exact .ite h.same.onElem.settleElem.maybeEnd h.same.onElem.onElem.onCal

theorem Keeps.execThawProceedTimeout (h : Keeps s t) : Leaves s (execThawProceedTimeout t) := .ite h.proceed h

theorem Keeps.publishPlan (h : Keeps s t) : Keeps s t.publishPlan := h.same

theorem Keeps.thawPlan {d sweep} (h : Keeps s t) : Keeps s (t.thawPlan d sweep) := h.onCal.onClk.setVddAll.publishPlan.reachStage

theorem Keeps.lowerLimit (h : Keeps s t) : Keeps s t.lowerLimit := .ite h (.ite h.onCal h.onClk.onCal)

theorem Keeps.servicePlan {d targets eyes} (h : Keeps s t) : Keeps s (t.servicePlan d targets eyes) :=
  .publishPlan (h.onCal.lowerLimit.foldl fun _ _ g => g.same)

theorem Keeps.execMarginPlan {ageD sweep targets eyes} (h : Keeps s t) : Leaves s (execMarginPlan ageD sweep targets eyes t) :=
  .ite h.thawPlan (.ite h.servicePlan h)

theorem Keeps.execOperatingHour {ageD slack slope eye} (h : Keeps s t) : Leaves s (execOperatingHour ageD slack slope eye t) :=
  .ite h (h.onCal.foldl fun _ _ g => g.foldl fun _ _ k => .ite k k.same)

theorem Keeps.execEmitterBiasStep (h : Keeps s t) : Leaves s (execEmitterBiasStep t) := h.foldl fun _ _ g => g.same

theorem Keeps.serveSvaog {path body} (h : Keeps s t) : Keeps s (t.serveSvaog path body) := .ite h (.ite h.serveMbx h.serveMctp)

theorem Keeps.askSvaog {path body} (h : Keeps s t) : Keeps s (t.askSvaog path body) := .ite h.holdReq h.serveSvaog

theorem Keeps.execDictRead (h : Keeps s t) : Leaves s (execDictRead t) := h.onTaken fun _ _ g => g.askSvaog

theorem Keeps.execDictWrite (h : Keeps s t) : Leaves s (execDictWrite t) := h.onTaken fun _ _ g => g.askSvaog

theorem Keeps.execMctpSvaogMessage {ep msg} (h : Keeps s t) : Leaves s (execMctpSvaogMessage ep msg t) := by
  simp only [Machine.execMctpSvaogMessage]
  split
  · exact h
  · split
    · exact h.askSvaog
    · exact h

theorem Keeps.execDictSessionAbandon {key} (h : Keeps s t) : Leaves s (execDictSessionAbandon key t) := by
  simp only [Machine.execDictSessionAbandon]
  split
  · exact .ite h.same h
  · exact h

theorem Keeps.ownWrite {o src} (h : Keeps s t) : Leaves s (t.ownWrite o src) := by
  simp only [State.ownWrite]
  split
  · split
    · exact .ite h.execDictWrite h
    · exact h
  · exact .ite h.execMctpSvaogMessage h
  · split
    · exact h
    · exact .ite h.bar0Write h

theorem Keeps.execThawProceed {src} (h : Keeps s t) : Leaves s (execThawProceed src t) := h.ownWrite

theorem Keeps.execCalRestore {src} (h : Keeps s t) : Leaves s (execCalRestore src t) := h.ownWrite

theorem Keeps.execSoftReset {src} (h : Keeps s t) : Leaves s (execSoftReset src t) := h.ownWrite

theorem Keeps.execSchedSwap {src} (h : Keeps s t) : Leaves s (execSchedSwap src t) := h.ownWrite

theorem Keeps.execDictLock {src} (h : Keeps s t) : Leaves s (execDictLock src t) := h.ownWrite

theorem Keeps.execTileRetiredListWrite {src} (h : Keeps s t) : Leaves s (execTileRetiredListWrite src t) := h.ownWrite

theorem Keeps.execPhoSteerGo {src} (h : Keeps s t) : Leaves s (execPhoSteerGo src t) := h.ownWrite

theorem Keeps.execDmSwap {src} (h : Keeps s t) : Leaves s (execDmSwap src t) := h.ownWrite

theorem Keeps.execFtWrapTest {src} (h : Keeps s t) : Leaves s (execFtWrapTest src t) := h.ownWrite

theorem Keeps.execMemWindowsWrite {src} (h : Keeps s t) : Leaves s (execMemWindowsWrite src t) := h.ownWrite

theorem Keeps.execMemFence {src} (h : Keeps s t) : Leaves s (execMemFence src t) := h.ownWrite

theorem Keeps.execHostBar4Base {src} (h : Keeps s t) : Leaves s (execHostBar4Base src t) := h.ownWrite

theorem Keeps.execErrAck {src} (h : Keeps s t) : Leaves s (execErrAck src t) := h.ownWrite

theorem Keeps.execErrInject {src} (h : Keeps s t) : Leaves s (execErrInject src t) := h.ownWrite

theorem Keeps.execErrProdLockSet {src} (h : Keeps s t) : Leaves s (execErrProdLockSet src t) := h.ownWrite

theorem Keeps.execSecKeyRevoke {src} (h : Keeps s t) : Leaves s (execSecKeyRevoke src t) := h.ownWrite

theorem Keeps.execSecSvnCommit {src} (h : Keeps s t) : Leaves s (execSecSvnCommit src t) := h.ownWrite

theorem Keeps.execSecMeasExtend {src} (h : Keeps s t) : Leaves s (execSecMeasExtend src t) := h.ownWrite

theorem Keeps.execCvuStart {unit src} (h : Keeps s t) : Leaves s (execCvuStart unit src t) := h.ownWrite

theorem Keeps.execCvuStop {unit src} (h : Keeps s t) : Leaves s (execCvuStop unit src t) := h.ownWrite

theorem Keeps.execMorFreeze {src} (h : Keeps s t) : Leaves s (execMorFreeze src t) := h.ownWrite

theorem Keeps.execMorFlush {src} (h : Keeps s t) : Leaves s (execMorFlush src t) := h.ownWrite

theorem Keeps.execCalExportTake {src} (h : Keeps s t) : Leaves s (execCalExportTake src t) := h.ownWrite

theorem Keeps.cutOff {r f} (h : Keeps s t) (hf : ∀ u, Keeps s u → Keeps s (f u)) : Keeps s (t.cutOff r f) := by
  simp only [State.cutOff]
  split
  · exact hf _ h
  · exact .ite h h.complete

theorem Keeps.retry {r} (h : Keeps s t) : Keeps s (t.retry r) := h.cutOff fun _ g => g.same.onMem.sendReq

theorem Keeps.execRequestTimeout {id} (h : Keeps s t) : Leaves s (execRequestTimeout id t) := by
  simp only [Machine.execRequestTimeout]
  split
  · exact h
  · exact .ite (Keeps.ite h.retry h) (.ite (h.foldl fun _ _ g => .ite g.retry g) h)

theorem Keeps.execRequestLastChance {id} (h : Keeps s t) : Leaves s (execRequestLastChance id t) := by
  simp only [Machine.execRequestLastChance]
  split
  · exact h
  · exact .ite h (.ite h.complete (.ite h h.same.onMem))

theorem Keeps.execBusyResend {id} (h : Keeps s t) : Leaves s (execBusyResend id t) := by
  simp only [Machine.execBusyResend]
  split
  · exact h
  · exact .ite h (h.foldl fun _ _ g => g.cutOff fun _ k => k.same.sendReq)

theorem Keeps.execResyncQuerySend {eng dest} (h : Keeps s t) : Leaves s (execResyncQuerySend eng dest t) :=
  .ite h (.ite h h.same.inject)

theorem Keeps.resyncAnswer {eng dest exp} (h : Keeps s t) : Keeps s (t.resyncAnswer eng dest exp) :=
  .release (.foldl (h.same.foldl fun _ _ g => .ite g.same.onMem.sendReq g) fun _ _ g => .ite g g.complete)

theorem Keeps.execResyncDuplicateResend {id} (h : Keeps s t) : Leaves s (execResyncDuplicateResend id t) := by
  simp only [Machine.execResyncDuplicateResend]
  split
  · exact h
  · exact .ite h.onMem.sendReq h

theorem Keeps.execFlaggedStoreSend {id} (h : Keeps s t) : Leaves s (execFlaggedStoreSend id t) := by
  simp only [Machine.execFlaggedStoreSend]
  split
  · exact h
  · split
    · exact h
    · split
      · exact h.onMem.complete
      · exact h.onMem.onMem.release

theorem Keeps.dictLoad {who off} (h : Keeps s t) : Keeps s (t.dictLoad who off).1 := by
  simp only [State.dictLoad]
  split
  · exact h
  · split
    · exact h
    · split
      · exact h
      · exact .ite_fst h.dictServe h.dictServe

theorem Keeps.dictStore {who off bs} (h : Keeps s t) : Keeps s (t.dictStore who off bs).1 := by
  simp only [State.dictStore]
  split
  · exact h
  · exact .ite_fst h h.dictServe

theorem Keeps.serveLoad {who a n need} (h : Keeps s t) : Keeps s (t.serveLoad who a n need).1 := by
  simp only [State.serveLoad]
  split
  · exact h
  · split
    · exact h
    · exact .ite_fst (.ite_fst h h.dictLoad) h.memRead

theorem Keeps.serveStore {who a bs poison flagged need} (h : Keeps s t) :
    Keeps s (t.serveStore who a bs poison flagged need).1 := by
  simp only [State.serveStore]
  split
  · exact h
  · split
    · exact h
    · exact .ite_fst (.ite_fst h (.ite_fst h h.dictStore)) h.memWrite

theorem Keeps.serveAtomic {who p} (h : Keeps s t) : Keeps s (t.serveAtomic who p).1 := by
  simp only [State.serveAtomic]
  split
  · exact h
  · split
    · exact h
    · split
      · exact h
      · exact .ite_fst h h.memAtomic

theorem Keeps.serveMsg {who a ctr bs poison} (h : Keeps s t) : Keeps s (t.serveMsg who a ctr bs poison).1 := by
  simp only [State.serveMsg]
  split
  · exact h
  · split
    · exact h
    · exact .ite_fst h (.ite_fst h h.memWrite.memAtomic)

theorem Keeps.moved {tile a n toMem st} (h : Keeps s t) : Keeps s (t.moved tile a n toMem st) := .ite h h.carryMem

theorem Keeps.answer' {q r} (h : Keeps s t) : Keeps s (t.answer' q r) := .ite h.same h.inject

theorem Keeps.answerLoad {q p n a} (h : Keeps s t) : Keeps s (t.answerLoad q p n a) := (Keeps.ite_snd h h.same).answer'

theorem Keeps.cachePut {e} (h : Keeps s t) : Keeps s (t.cachePut e) := by
  simp only [State.cachePut]
  split
  · exact h.onMem
  · exact h

theorem Keeps.busy {q p op} (h : Keeps s t) : Keeps s (t.busy q p op) := h.onMem.answer'

theorem Keeps.takeReq {q ch op} (h : Keeps s t) : Keeps s (t.takeReq q ch op).2 := by
  simp only [State.takeReq]
  split
  · exact h
  · split
    · exact h
    · split
      · dsimp only
        exact h.same.onMem
      · exact h.same

theorem Keeps.execLdReq {req} (h : Keeps s t) : Leaves s (execLdReq req t) := by
  simp only [Machine.execLdReq]
  split
  · split
    · exact h
    · exact h.serveLoad.moved.complete
  · split
    · exact h
    · split
      · next heq => exact h.takeReq.of_snd heq
      · next heq => exact (h.takeReq.of_snd heq).serveLoad.moved.answerLoad

theorem Keeps.expUp {p} (h : Keeps s t) : Keeps s (t.expUp p) := h.same

theorem Keeps.peerStore {q p flagged} (h : Keeps s t) : Keeps s (t.peerStore q p flagged) := by
  simp only [State.peerStore]
  split
  · exact h.same
  · exact h.answer'
  · exact (Keeps.ite h.serveStore.moved h.serveStore.moved.cachePut).expUp.answer'

theorem Keeps.storeReq {req op flagged} (h : Keeps s t) : Leaves s (t.storeReq req op flagged) := by
  simp only [State.storeReq]
  split
  · split
    · exact h
    · split
      · exact h.memWriteBy.moved.complete
      · exact h.serveStore.moved.complete
  · split
    · exact h
    · split
      · next heq => exact h.takeReq.of_snd heq
      · next heq => exact (h.takeReq.of_snd heq).peerStore

theorem Keeps.execStS {req} (h : Keeps s t) : Leaves s (execStS req t) := h.storeReq

theorem Keeps.execStReq {req} (h : Keeps s t) : Leaves s (execStReq req t) := h.storeReq

theorem Keeps.execStfS {req} (h : Keeps s t) : Leaves s (execStfS req t) := h.storeReq

theorem Keeps.execStf {req} (h : Keeps s t) : Leaves s (execStf req t) := h.storeReq

theorem Keeps.answerAtomic {q p st result} (h : Keeps s t) : Keeps s (t.answerAtomic q p st result) := h.answer'

theorem Keeps.peerAtomic {q p} (h : Keeps s t) : Keeps s (t.peerAtomic q p) := by
  simp only [State.peerAtomic]
  split
  · exact h.same
  · split <;> exact h.answerAtomic
  · exact .ite h.busy h.serveAtomic.moved.cachePut.expUp.answerAtomic

theorem Keeps.execAtomic {req} (h : Keeps s t) : Leaves s (execAtomic req t) := by
  simp only [Machine.execAtomic]
  split
  · split
    · exact h
    · exact h.serveAtomic.moved.complete
  · split
    · exact h
    · split
      · exact h
      · split
        · next heq => exact h.takeReq.of_snd heq
        · next heq => exact (h.takeReq.of_snd heq).peerAtomic

theorem Keeps.execSyncQuery {q ch} (h : Keeps s t) : Leaves s (execSyncQuery q ch t) := by
  simp only [Machine.execSyncQuery]
  split
  · exact h
  · split
    · exact h
    · split
      · next heq => exact h.takeReq.of_snd heq
      · next heq => exact (h.takeReq.of_snd heq).cachePut.answerAtomic

theorem Keeps.takeRsp {q ch op} (h : Keeps s t) : Keeps s (t.takeRsp q ch op).2 := by
  simp only [State.takeRsp]
  split
  · exact h
  · exact .ite_snd h.same h

theorem Keeps.replied {p ok a} (h : Keeps s t) : Keeps s (t.replied p ok a) := by
  simp only [State.replied]
  split
  · exact h
  · exact .ite h.same h.complete

theorem Keeps.loadRsp {q ch op} (h : Keeps s t) : Leaves s (t.loadRsp q ch op) := by
  simp only [State.loadRsp]
  split
  · next heq => exact h.takeRsp.of_snd heq
  · next heq => exact (h.takeRsp.of_snd heq).replied

theorem Keeps.execLdRspS {q ch} (h : Keeps s t) : Leaves s (execLdRspS q ch t) := h.loadRsp

theorem Keeps.execLdRsp {q ch} (h : Keeps s t) : Leaves s (execLdRsp q ch t) := h.loadRsp

theorem Keeps.execAck {q ch} (h : Keeps s t) : Leaves s (execAck q ch t) := by
  simp only [Machine.execAck]
  split
  · next heq => exact h.takeRsp.of_snd heq
  · next heq => exact (h.takeRsp.of_snd heq).replied

theorem Keeps.execAtRsp {q ch} (h : Keeps s t) : Leaves s (execAtRsp q ch t) := by
  simp only [Machine.execAtRsp]
  split
  · next heq => exact h.takeRsp.of_snd heq
  · next heq => exact .ite (.ite ((h.takeRsp.of_snd heq).resyncAnswer) (h.takeRsp.of_snd heq)) ((h.takeRsp.of_snd heq).replied)

theorem Keeps.outerHead {q ch op} (h : Keeps s t) : Keeps s (t.outerHead q ch op).2 := by
  simp only [State.outerHead]
  split
  · exact h
  · split
    · exact h
    · split
      · split
        · exact h.same
        · exact h
      · split
        · exact h
        · split
          · dsimp only
            exact h.same.discard
          · split
            · dsimp only
              exact h.same.onMem
            · exact h.same

theorem Keeps.execXput {q ch} (h : Keeps s t) : Leaves s (execXput q ch t) := by
  simp only [Machine.execXput]
  split
  · next heq => exact (h.outerHead.of_snd heq).sendOuter
  · next heq =>
    have g := h.outerHead.of_snd heq
    split
    · exact g.serveStore.answer'
    · exact g.answer'
  · next heq => exact h.outerHead.of_snd heq

theorem Keeps.execXget {q ch} (h : Keeps s t) : Leaves s (execXget q ch t) := by
  simp only [Machine.execXget]
  split
  · next heq => exact (h.outerHead.of_snd heq).sendOuter
  · next heq => exact (h.outerHead.of_snd heq).serveLoad.answerLoad
  · next heq => exact h.outerHead.of_snd heq

theorem Keeps.peerMsg {q p} (h : Keeps s t) : Keeps s (t.peerMsg q p) := by
  simp only [State.peerMsg]
  split
  · exact h.answer'
  · split
    · exact h.answer'
    · split
      · exact h.busy
      · split
        · exact h.serveMsg.onMem.cachePut.answer'
        · exact h.onMem.cachePut.answer'

theorem Keeps.execXmsg {q ch} (h : Keeps s t) : Leaves s (execXmsg q ch t) := by
  simp only [Machine.execXmsg]
  split
  · next heq => exact (h.outerHead.of_snd heq).sendOuter
  · next heq => exact (h.outerHead.of_snd heq).peerMsg
  · next heq => exact h.outerHead.of_snd heq

theorem Keeps.outerRsp {q ch op reqOp a} (h : Keeps s t) : Leaves s (t.outerRsp q ch op reqOp a) := by
  simp only [State.outerRsp]
  split
  · exact h
  · exact .ite h (.ite h.same.discard (.ite h.same.replied (.ite h (.ite h.same.discard h.same.sendTo))))

theorem Keeps.execXputAck {q ch} (h : Keeps s t) : Leaves s (execXputAck q ch t) := h.outerRsp

theorem Keeps.execXgetRsp {q ch} (h : Keeps s t) : Leaves s (execXgetRsp q ch t) := h.outerRsp

theorem Keeps.execXmsgAck {q ch} (h : Keeps s t) : Leaves s (execXmsgAck q ch t) := h.outerRsp

theorem Keeps.mgmtReply {src body reply} (h : Keeps s t) : Keeps s (t.mgmtReply src body reply) := h.inject

theorem Keeps.keepReply {r} (h : Keeps s t) : Keeps s (t.keepReply r) := h.same

theorem Keeps.serveMgmt {src body} (h : Keeps s t) : Keeps s (t.serveMgmt src body) := by
  simp only [State.serveMgmt]
  split
  · exact h.mgmtReply
  · exact h.dictServe.keepReply.mgmtReply

theorem Keeps.sendMgmt {r} (h : Keeps s t) : Keeps s (t.sendMgmt r) := h.inject

theorem Keeps.execMgmt {ev} (h : Keeps s t) : Leaves s (execMgmt ev t) := by
  simp only [Machine.execMgmt]
  split
  · split
    · exact h
    · exact .ite h (.ite h.same.onMem (.ite h.same.holdReq h.same.serveMgmt))
  · exact .ite h h.same.sendMgmt

theorem Keeps.noteWindows {r rsp} (h : Keeps s t) : Keeps s (t.noteWindows r rsp) := .ite h.onDm h

theorem Keeps.execMgmtRsp {q ch} (h : Keeps s t) : Leaves s (execMgmtRsp q ch t) := by
  simp only [Machine.execMgmtRsp]
  split
  · next heq => exact h.takeRsp.of_snd heq
  · next heq =>
    split
    · exact h.takeRsp.of_snd heq
    · exact (h.takeRsp.of_snd heq).same.noteWindows

theorem Keeps.execMgmtResendTimeout {tag} (h : Keeps s t) : Leaves s (execMgmtResendTimeout tag t) := by
  simp only [Machine.execMgmtResendTimeout]
  split
  · exact h
  · exact .ite h.same h.same.sendMgmt

end Sys2Proof.Machine

end

section
/-! PROOFS. One rule for each function of the model, that it keeps what `Keeps` says: collectives, host memory, tile memory
operations and programs (R61, R68 to R75, R164 to R180, R350 to R364). -/

namespace Sys2Proof.Machine

set_option Elab.async false

variable {s t : State} {v : Tile}

theorem Keeps.collAbort {cu r} (h : Keeps s t) : Keeps s (t.collAbort cu r) := .onCollRun (h.foldl fun _ _ g => g.inject)

theorem Keeps.collFail {cu id st} (h : Keeps s t) : Keeps s (t.collFail cu id st) := by
  simp only [State.collFail]
  split
  · exact .ite h.onCollRun.collAbort h.onCollRun
  · exact h.onCollRun

theorem Keeps.collWatch {cu id} (h : Keeps s t) : Keeps s (t.collWatch cu id) := by
  simp only [State.collWatch]
  split
  · exact h
  · split
    · exact h.collFail
    · split
      · exact h.collFail
      · exact h

theorem Keeps.collLoads {cu id} : ∀ {k : Nat} {t : State}, Keeps s t → Keeps s (Machine.collLoads cu id k t)
  | 0, _, h => h
  | k + 1, t, h => by
    simp only [Machine.collLoads]
    split
    · exact h
    · exact .ite h.onCollRun.issue.collLoads h

theorem Keeps.collPackets {cu id} : ∀ {k : Nat} {t : State}, Keeps s t → Keeps s (Machine.collPackets cu id k t)
  | 0, _, h => h
  | k + 1, t, h => by
    simp only [Machine.collPackets]
    split
    · exact h
    · split
      · exact h
      · exact .ite h.onCollRun.issue.collPackets h

theorem Keeps.collStores {cu id} : ∀ {k : Nat} {t : State}, Keeps s t → Keeps s (Machine.collStores cu id k t)
  | 0, _, h => h
  | k + 1, t, h => by
    simp only [Machine.collStores]
    split
    · exact h
    · split
      · exact h
      · exact .ite h.onCollRun.issue.collStores h

theorem Keeps.collSteer {cu n} (h : Keeps s t) : Keeps s (t.collSteer cu n).2 := h.requestSteer

theorem Keeps.collColumn {cu id} (h : Keeps s t) : Keeps s (t.collColumn cu id) := by
  simp only [State.collColumn]
  split
  · exact h
  · exact .ite h.collSteer.onCollRun h

theorem Keeps.collOutput {cu id} (h : Keeps s t) : Keeps s (t.collOutput cu id) := by
  simp only [State.collOutput]
  split
  · exact h
  · exact .ite h h.same.onCollRun

theorem Keeps.collGo {cu id} (h : Keeps s t) : Keeps s (t.collGo cu id) := by
  simp only [State.collGo]
  exact h.collWatch.collLoads.collPackets.collColumn.collPackets.collOutput.collStores.collWatch

theorem Keeps.collPass2 {cu r b e nf} (h : Keeps s t) : Keeps s (t.collPass2 cu r b e nf) := .ite h.same (.ite h.same h.same)

theorem Keeps.collAgreed {cu r b e nf} (h : Keeps s t) : Keeps s (t.collAgreed cu r b e nf) := h.same.collPass2

theorem Keeps.collHere {cu r b bs} (h : Keeps s t) : Keeps s (t.collHere cu r b bs) := h.same

theorem Keeps.collOwned {cu r b xs} (h : Keeps s t) : Keeps s (t.collOwned cu r b xs) := h.same.collHere

theorem Keeps.collSet {cu id b f} (h : Keeps s t) : Keeps s (t.collSet cu id b f) := h.same

theorem Keeps.collQueue {cu id xs} (h : Keeps s t) : Keeps s (t.collQueue cu id xs) := h.same

theorem Keeps.collResult {cu id i bs} (h : Keeps s t) : Keeps s (t.collResult cu id i bs) := h.same

theorem Keeps.collStage0 {cu r b} (h : Keeps s t) : Keeps s (t.collStage0 cu r b) := by
  simp only [State.collStage0]
  split
  · exact h.collSet
  · split
    · exact h
    · exact .ite (.ite h.collQueue.collHere h.collQueue.collResult.collSet)
        (.ite (.ite h.collSet.collSet h.collSet.collSet.collQueue) h.collSet.collPass2)

theorem Keeps.collStage1 {cu r b group last} (h : Keeps s t) : Keeps s (t.collStage1 cu r b group last) := by
  simp only [State.collStage1]
  split
  · exact h
  · exact .ite h.same.collAgreed (.ite h.same.collSet h.same.collSet.collQueue)

theorem Keeps.collStage2 {cu r b group last} (h : Keeps s t) : Keeps s (t.collStage2 cu r b group last) := by
  simp only [State.collStage2]
  split
  · exact h
  · exact .ite h.same.collOwned (.ite h.same.collSet h.same.collSet.collQueue)

theorem Keeps.collStage3 {cu r b} (h : Keeps s t) : Keeps s (t.collStage3 cu r b) := by
  simp only [State.collStage3]
  split
  · exact h
  · exact h.same.collAgreed

theorem Keeps.collStage6 {cu r b} (h : Keeps s t) : Keeps s (t.collStage6 cu r b) := by
  simp only [State.collStage6]
  split
  · split
    · exact h
    · exact h.same.collHere
  · split
    · split
      · exact h
      · exact .collSet (h.same.foldl fun _ _ g => .ite g g.collResult)
    · split
      · exact h
      · exact h.same.collQueue.collHere

theorem Keeps.collStep {cu r b} (h : Keeps s t) : Keeps s (t.collStep cu r b) := by
  simp only [State.collStep]
  split
  · exact h.collStage0
  · exact h.collStage1
  · exact h.collStage1
  · exact h.collStage3
  · exact h.collStage2
  · exact h.collStage2
  · exact h.collStage6
  · exact h

theorem Keeps.execBar4Read {off len} (h : Keeps s t) : Leaves s (execBar4Read off len t) := by
  simp only [Machine.execBar4Read]
  split
  · exact h
  · split
    · exact h.same.emit
    · exact h.memRead.emit

theorem Keeps.execBar4Write {off bs ep} (h : Keeps s t) : Leaves s (execBar4Write off bs ep t) := by
  simp only [Machine.execBar4Write]
  split
  · exact h
  · split
    · exact h.same
    · split
      · exact h.same
      · exact h.memWrite

theorem Keeps.execBar4Resize {log} (h : Keeps s t) : Leaves s (execBar4Resize log t) := .ite h.onMem h

theorem Keeps.hdmaIssue1 {e r n} (h : Keeps s t) : Keeps s (t.hdmaIssue1 e r n) := .ite h.same.issue (.ite h.same.issue h.same.emit)

theorem Keeps.hdmaIssue {e num} : ∀ {k : Nat} {t : State}, Keeps s t → Keeps s (Machine.hdmaIssue e num k t)
  | 0, _, h => h
  | k + 1, t, h => by
    simp only [Machine.hdmaIssue]
    split
    · exact h
    · exact .ite h.hdmaIssue1.hdmaIssue h

theorem Keeps.hdmaTake {e} : ∀ {k : Nat} {t : State}, Keeps s t → Keeps s (Machine.hdmaTake e k t)
  | 0, _, h => h
  | _ + 1, _, h => .ite h.same.hdmaTake h

theorem Keeps.hdmaIrqDue {e} (h : Keeps s t) : Keeps s (t.hdmaIrqDue e) := .ite h.same.emit h

theorem Keeps.hdmaIrq {e} (h : Keeps s t) : Keeps s (t.hdmaIrq e) := h.same.hdmaIrqDue

theorem Keeps.onHdma {e f} (h : Keeps s t) : Keeps s (t.onHdma e f) := h.same

theorem Keeps.hdmaLand {e} (h : Keeps s t) : Keeps s (t.hdmaLand e) := .ite h h.land.onHdma

theorem Keeps.execHdmaPoll {eng} (h : Keeps s t) : Leaves s (execHdmaPoll eng t) :=
  .ite h ((Keeps.ite h.hdmaLand.hdmaIrqDue h.hdmaLand.hdmaIrqDue.hdmaTake).foldl fun _ _ g => g.hdmaIssue)

theorem Keeps.execHdmaDescriptorStart {eng num} (h : Keeps s t) : Leaves s (execHdmaDescriptorStart eng num t) := by
  simp only [Machine.execHdmaDescriptorStart]
  split
  · exact h
  · exact .ite h h.same.hdmaIssue

theorem Keeps.hdmaData {e r off bs} (h : Keeps s t) : Keeps s (t.hdmaData e r off bs) := .ite h.same (.ite h.issue h.issue)

theorem Keeps.execHdmaHostReadCompletion {eng num off res} (h : Keeps s t) :
    Leaves s (execHdmaHostReadCompletion eng num off res t) := by
  simp only [Machine.execHdmaHostReadCompletion]
  split
  · exact h
  · split
    · exact h
    · split
      · exact .ite h h.same.hdmaData.hdmaIssue
      · exact h.same

theorem Keeps.ringClear {base j} (h : Keeps s t) : Keeps s (t.ringClear base j) := h.poke

theorem Keeps.ringTail {base tail} (h : Keeps s t) : Keeps s (t.ringTail base tail) := h.poke

theorem Keeps.hdmaTails {e} (h : Keeps s t) : Keeps s (t.hdmaTails e) := by
  simp only [State.hdmaTails]
  exact .onHdma (h.foldl fun _ _ g => g.ringTail)

theorem Keeps.hdmaRecord {r} (h : Keeps s t) : Keeps s (t.hdmaRecord r) := .ite h h.emit

theorem Keeps.onRun {e j f} (h : Keeps s t) : Keeps s (t.onRun e j f) := h.same

theorem Keeps.execHdmaDescriptorComplete {eng num} (h : Keeps s t) : Leaves s (execHdmaDescriptorComplete eng num t) := by
  simp only [Machine.execHdmaDescriptorComplete]
  split
  · exact h
  · exact .ite h (.ite h.onHdma (Keeps.ite h.hdmaRecord.ringClear.onHdma.onRun.hdmaTails.onMem.hdmaIrq
      h.hdmaRecord.ringClear.onHdma.onRun.hdmaTails.onMem))

theorem SramOk.memPost {x kind n} (h : SramOk s v) : SramOk s (v.memPost x kind n) := .ite (.ite h.same h.same) h

theorem Keeps.memIssue {kind n x} (h : Keeps s t) : Leaves s (memIssue kind n x t) :=
  h.withTile fun _ g => .ite h.tileFault (.ite h.tileFault (.ite h.tileFault
    (.ite h (.ite (h.setTile g.memPost.set) (h.setTile g.memPost.set)))))

theorem Keeps.execFrd {n x} (h : Keeps s t) : Leaves s (execFrd n x t) := h.memIssue

theorem Keeps.execFwr {n x} (h : Keeps s t) : Leaves s (execFwr n x t) := h.memIssue

theorem Keeps.execGld {n x} (h : Keeps s t) : Leaves s (execGld n x t) := h.memIssue

theorem Keeps.execGst {n x} (h : Keeps s t) : Leaves s (execGst n x t) := h.memIssue

theorem Keeps.execGat {n x} (h : Keeps s t) : Leaves s (execGat n x t) := h.memIssue

theorem Keeps.execGstf {n x} (h : Keeps s t) : Leaves s (execGstf n x t) := h.memIssue

theorem Keeps.execFfl {n x} (h : Keeps s t) : Leaves s (execFfl n x t) := h.memIssue

theorem Keeps.execFiv {n x} (h : Keeps s t) : Leaves s (execFiv n x t) := h.memIssue

theorem SramOk.reachMore {table blocks} : ∀ {k : Nat} {v : Tile}, SramOk s v → SramOk s (Machine.reachMore table blocks k v)
  | 0, _, h => h
  | k + 1, v, h => by
    simp only [Machine.reachMore]
    split
    · exact h
    · split
      · exact h
      · exact .ite (h.same (w := v.reach _ _)).reachMore h

theorem Keeps.execRunaheadIssue {n} (h : Keeps s t) : Leaves s (execRunaheadIssue n t) := by
  simp only [Machine.execRunaheadIssue]
  split
  · exact h
  · split
    · exact h
    · split
      · exact Keeps.setTile (h.foldl fun _ _ g => g.listCe) h.tile.reachMore
      · exact Keeps.setTile (h.foldl fun _ _ g => g.listCe) h.tile.reachMore.set
      · exact Keeps.setTile (h.foldl fun _ _ g => g.listCe) h.tile.reachMore.set

theorem Keeps.execRunaheadReply {n id} (h : Keeps s t) : Leaves s (execRunaheadReply n id t) := by
  simp only [Machine.execRunaheadReply]
  split
  · exact h
  · split
    · exact h
    · split
      · exact h.setTile h.tile.set
      · exact .ite (h.setTile h.tile.set) (.ite (h.setTile ((SramOk.ite h.tile.set.land h.tile.set).set))
          (h.setTile ((SramOk.ite h.tile.set.land h.tile.set).set)))

theorem Keeps.collTakeIn {cu c} (h : Keeps s t) : Keeps s (t.collTakeIn cu c) := by
  simp only [State.collTakeIn]
  split
  · exact h.same
  · exact .ite h.same.collFail (.ite h.same.collFail h.same)

theorem Keeps.peerColl {q p} (h : Keeps s t) : Keeps s (t.peerColl q p) := by
  simp only [State.peerColl]
  split
  · exact h.same
  · exact h.answer'
  · exact .ite h.collTakeIn.expUp.answer' h.cachePut.expUp.answer'

theorem Keeps.execColl {req} (h : Keeps s t) : Leaves s (execColl req t) := by
  simp only [Machine.execColl]
  split
  · exact h
  · split
    · next heq => exact h.takeReq.of_snd heq
    · next heq => exact (h.takeReq.of_snd heq).peerColl

theorem Keeps.execCollCtl {req} (h : Keeps s t) : Leaves s (execCollCtl req t) := by
  simp only [Machine.execCollCtl]
  split
  · exact h
  · split
    · next heq => exact h.takeReq.of_snd heq
    · next heq => exact .ite (h.takeReq.of_snd heq) ((h.takeReq.of_snd heq).same)

theorem Keeps.onColl {cu f} (h : Keeps s t) : Keeps s (t.onColl cu f) := h.same

theorem Keeps.collLand {cu} (h : Keeps s t) : Keeps s (t.collLand cu) := .ite h h.land.onColl

theorem Keeps.execCollPoll {cu} (h : Keeps s t) : Leaves s (execCollPoll cu t) := .ite h (h.collLand.foldl fun _ _ g => g.collGo)

theorem Keeps.collRecord {cu id a st} (h : Keeps s t) : Keeps s (t.collRecord cu id a st) := h.issueFlagged

theorem Keeps.collRow {cu r} (h : Keeps s t) : Keeps s (t.collRow cu r) := .ite h.collSteer.onCollRun h

theorem Keeps.collHeld {cu r} (h : Keeps s t) : Keeps s (t.collHeld cu r) := .ite h.collFail (.ite h.collFail h)

theorem Keeps.execCollDescriptorTake {cu} (h : Keeps s t) : Leaves s (execCollDescriptorTake cu t) :=
  .ite h (.ite h.ringClear.ringTail.onColl.onColl.collHeld.collRow.collGo
    (Keeps.ite h.ringClear.ringTail.onColl.onMem.onColl.collRecord h.ringClear.ringTail.onColl.onMem.onColl))

theorem Keeps.execCollStageComplete {cu id block} (h : Keeps s t) : Leaves s (execCollStageComplete cu id block t) := by
  simp only [Machine.execCollStageComplete]
  split
  · exact h
  · exact .ite h h.collStep.collGo

theorem Keeps.execCollSteerWaitEnd {cu id} (h : Keeps s t) : Leaves s (execCollSteerWaitEnd cu id t) := by
  simp only [Machine.execCollSteerWaitEnd]
  split
  · exact h
  · exact .ite h h.onCollRun.collGo

theorem Keeps.execCollTimeout {cu id} (h : Keeps s t) : Leaves s (execCollTimeout cu id t) := by
  simp only [Machine.execCollTimeout]
  split
  · exact h
  · exact .ite h h.collFail

theorem Keeps.collUndefined {r} (h : Keeps s t) : Keeps s (t.collUndefined r) := .ite h h.same.memWrite

theorem Keeps.collUnsteer {cu r} (h : Keeps s t) : Keeps s (t.collUnsteer cu r) := .ite h.collSteer h

theorem Keeps.collCount {cu st} (h : Keeps s t) : Keeps s (t.collCount cu st) := h.same

theorem Keeps.execCollComplete {cu id} (h : Keeps s t) : Leaves s (execCollComplete cu id t) := by
  simp only [Machine.execCollComplete]
  split
  · exact h.collWatch
  · exact .ite h.collWatch h.collWatch.collUndefined.onColl.collCount.collRecord.collUnsteer

theorem Keeps.execCollHoldExpire {cu} (h : Keeps s t) : Leaves s (execCollHoldExpire cu t) := h.onColl

theorem Keeps.execSubmit (h : Keeps s t) : Leaves s (execSubmit t) :=
  h.onTaken fun _ _ g => by
    split
    · next heq1 => exact (g.judge.of_snd heq1).d2h
    · next heq1 => exact (g.judge.of_snd heq1).onSched.d2h

theorem Keeps.execAbort (h : Keeps s t) : Leaves s (execAbort t) :=
  h.onTaken fun _ _ g => by
    dsimp only
    split
    · exact g.d2h
    · exact .ite g.d2h.completeProg (.ite g.d2h g.d2h.abortProg)

theorem Keeps.loadCode {p x} (h : Keeps s t) : Keeps s (t.loadCode p x).2 := h.fwRead

theorem Keeps.loadData {p x} (h : Keeps s t) : Keeps s (t.loadData p x).2 := h.fwRead

theorem Keeps.codeInto {p e} (h : Keeps s t) : Keeps s (t.codeInto p e).2 := by
  simp only [State.codeInto]
  split
  · next heq =>
    dsimp only
    exact h.loadCode.of_snd heq
  · next heq =>
    dsimp only
    exact (h.loadCode.of_snd heq).onTile fun _ k => k.same.write

theorem Keeps.dataInto {p e} (h : Keeps s t) : Keeps s (t.dataInto p e).2 := by
  simp only [State.dataInto]
  split
  · exact h
  · split
    · next heq =>
      dsimp only
      exact h.loadData.of_snd heq
    · next heq =>
      dsimp only
      exact (h.loadData.of_snd heq).onTile fun _ k => k.foldl fun _ _ j => j.write

theorem Keeps.loadAll {p data} : ∀ {l : List Place} {t : State}, Keeps s t → Keeps s (Machine.loadAll p data l t).2
  | [], _, h => h
  | e :: l, t, h => by
    simp only [Machine.loadAll]
    split
    · next heq => exact h.codeInto.of_snd heq
    · next heq =>
      have g := h.codeInto.of_snd heq
      split
      · next hd => exact (Keeps.ite_snd g.dataInto g).of_snd hd
      · next hd => exact ((Keeps.ite_snd g.dataInto g).of_snd hd).loadAll

theorem Keeps.relocate {p} (h : Keeps s t) : Keeps s (t.relocate p) :=
  h.foldl fun _ _ g => by
    split
    · exact g.onTile fun _ k => k.write
    · exact g

theorem Keeps.go {ns past} (h : Keeps s t) : Keeps s (t.go ns past) :=
  h.foldl fun _ _ g => .fetchNext (g.onTile fun _ k => .ite k.same k.same)

theorem Keeps.phaseBegins {tag} (h : Keeps s t) : Keeps s (t.phaseBegins tag) := h.same

theorem Keeps.startProg {p} (h : Keeps s t) : Keeps s (t.startProg p) := by
  simp only [State.startProg]
  split
  · exact h.abortProg
  · split
    · next heq => exact (h.loadAll.of_snd heq).abortProg
    · next heq => exact (h.loadAll.of_snd heq).relocate.onProg.phaseBegins.go

theorem Keeps.execProgramStart {tag} (h : Keeps s t) : Leaves s (execProgramStart tag t) := by
  simp only [Machine.execProgramStart]
  split
  · exact h
  · exact .ite h.startProg h

theorem Keeps.execStartReserve {tag} (h : Keeps s t) : Leaves s (execStartReserve tag t) := by
  simp only [Machine.execStartReserve]
  split
  · exact h
  · exact .ite (.ite (h.onProg.foldl fun _ _ g => .ite g.askPreempt g) h.onProg) h

theorem Keeps.execStartFtimeReached {tag} (h : Keeps s t) : Leaves s (execStartFtimeReached tag t) := by
  simp only [Machine.execStartFtimeReached]
  split
  · exact h
  · exact .ite h (.ite h.startProg (.ite h.completeProg h))

theorem Keeps.execTileZeroComplete {n} (h : Keeps s t) : Leaves s (execTileZeroComplete n t) := .ite (h.onTile fun _ _ _ => rfl) h

theorem Keeps.execSliceReportsComplete {tag} (h : Keeps s t) : Leaves s (execSliceReportsComplete tag t) := by
  simp only [Machine.execSliceReportsComplete]
  split
  · exact h
  · exact .ite (Keeps.runOn (h.onProg.onTiles fun _ g => g.same) fun _ g => g) h

theorem Keeps.execPreemptAllHeld {tag} (h : Keeps s t) : Leaves s (execPreemptAllHeld tag t) := by
  simp only [Machine.execPreemptAllHeld]
  split
  · exact h
  · exact .ite (Keeps.onProg (.saveContext (h.onTiles fun _ g => g.same))) h

theorem Keeps.execContextSaveComplete {tag} (h : Keeps s t) : Leaves s (execContextSaveComplete tag t) := by
  simp only [Machine.execContextSaveComplete]
  split
  · exact h
  · exact .ite (Keeps.onProg (.onSched (h.freeTiles.foldl fun _ _ g => g.dropSlice))) h

theorem Keeps.execSliceTimeout {tag} (h : Keeps s t) : Leaves s (execSliceTimeout tag t) := by
  simp only [Machine.execSliceTimeout]
  split
  · exact h
  · exact .ite (Keeps.ite (.abortProg (h.onSched.onProg.runOn fun _ g => g.same)) (h.onSched.onProg.runOn fun _ g => g.same)) h

theorem Keeps.phaseEvent {p} (h : Keeps s t) : Keeps s (t.phaseEvent p) := .ite h.d2hEvent h

theorem Keeps.execProgramResume {tag} (h : Keeps s t) : Leaves s (execProgramResume tag t) := by
  simp only [Machine.execProgramResume]
  split
  · exact h
  · split
    · split
      · exact h.abortProg
      · split
        · next heq => exact (h.loadAll.of_snd heq).abortProg
        · next heq =>
          exact .ite (((h.loadAll.of_snd heq).restoreContext).ucProgram)
            (Keeps.ite (.phaseEvent (.go (.phaseBegins (.onProg
              (((h.loadAll.of_snd heq).restoreContext).onTiles fun _ k => k.same)))))
                (.go (.phaseBegins (.onProg (((h.loadAll.of_snd heq).restoreContext).onTiles fun _ k => k.same)))))
    · exact h

theorem Keeps.passBarrier {p} (h : Keeps s t) : Keeps s (t.passBarrier p) := h.onProg.phaseBegins.go.phaseEvent

theorem Keeps.execPhaseBarrierRelease {tag} (h : Keeps s t) : Leaves s (execPhaseBarrierRelease tag t) := by
  simp only [Machine.execPhaseBarrierRelease]
  split
  · exact h
  · exact .ite (.ite h.onProg h.passBarrier) h

theorem Keeps.execGovernorBarrierTimeout {tag} (h : Keeps s t) : Leaves s (execGovernorBarrierTimeout tag t) := by
  simp only [Machine.execGovernorBarrierTimeout]
  split
  · exact h
  · exact .ite h.onProg h

theorem Keeps.undoTiles {ns : List Nat} {p} (h : Keeps s t) :
    Keeps s (((ns.foldl (fun s n => (s.clearLinks n).clearBridges n) t).onTiles ns Tile.undoRunAhead).freeTiles p) :=
  .freeTiles (.onTiles (h.foldl fun _ _ g => g.clearLinks.clearBridges) fun _ g => g.same)

theorem Keeps.walkAdded {w : Walk} {k} (h : Keeps s t) :
    Keeps s ((t.onFirn (fun f => { f with walks := f.walks ++ [w] })).onSched (fun x =>
      { x with walkSlots := NSet.add k x.walkSlots })) :=
  h.same

theorem Keeps.execTileAbort {tag} (h : Keeps s t) : Leaves s (execTileAbort tag t) := by
  simp only [Machine.execTileAbort]
  split
  · exact h
  · split
    · split
      · exact h
      · split
        · exact h.undoTiles.walkAdded.onProg
        · exact h.undoTiles.onProg
    · exact h

theorem Keeps.execProgramEnd {tag cycles} (h : Keeps s t) : Leaves s (execProgramEnd tag cycles t) := by
  simp only [Machine.execProgramEnd]
  split
  · exact h
  · split
    · exact h
    · split
      · split
        · exact h.freeTiles.completeProg.set.onSched
        · exact h.freeTiles.completeProg
      · exact .ite h.completeProg h

theorem Keeps.execTileFault {n code} (h : Keeps s t) : Leaves s (execTileFault n code t) := h.withTile fun _ _ => h.tileFault

end Sys2Proof.Machine

end

section
/-! PROOFS. One rule for each function of the model, that it keeps what `Keeps` says: pins, discovery, the scheduler cycle,
restarts, and the matrix and vector units (R25, R50 to R60, R449, R601 to R616). -/

namespace Sys2Proof.Machine

set_option Elab.async false

variable {s t : State} {v : Tile}

theorem Keeps.onPin {p f} (h : Keeps s t) : Keeps s (t.onPin p f) := h.same

theorem Keeps.pinEvent {p event} (h : Keeps s t) : Keeps s (t.pinEvent p event) := h.log.onPin

theorem Keeps.excess {p} (h : Keeps s t) : Keeps s (t.excess p) := .ite h.onPin.pinEvent.onPin h.onPin

theorem Keeps.released {p} (h : Keeps s t) : Keeps s (t.released p) := (Keeps.ite h.pinEvent h).onPin

theorem Keeps.execPwrbrkNAssert (h : Keeps s t) : Leaves s (execPwrbrkNAssert t) :=
  h.withAlert fun _ g => .ite g.same.onPin.brkOn g.same.onPin

theorem Keeps.brkOff (h : Keeps s t) : Keeps s t.brkOff := h.same

theorem Keeps.execPwrbrkNRelease (h : Keeps s t) : Leaves s (execPwrbrkNRelease t) :=
  h.withAlert fun _ g => .ite g (.ite g.excess.onPin g.released.brkOff)

theorem Keeps.execLsrIntlkNAssert (h : Keeps s t) : Leaves s (execLsrIntlkNAssert t) :=
  Keeps.ite h.same.onFloe.shutAll h.same.onFloe

theorem Keeps.execLsrIntlkNRelease (h : Keeps s t) : Leaves s (execLsrIntlkNRelease t) :=
  .ite h (.ite h.excess.onPin (Keeps.ite (h.released.onPin.onFloe.foldl fun _ _ g => .ite g g.startProbing)
    h.released.onPin.onFloe))

theorem Keeps.onDict {f} (h : Keeps s t) : Keeps s (t.onDict f) := h.same

theorem Keeps.fenceNow (h : Keeps s t) : Keeps s t.fenceNow := .ite h h.onMem.onDict

theorem Keeps.execFenceNAssert (h : Keeps s t) : Leaves s (execFenceNAssert t) := .ite h.excess h.same.fenceNow

theorem Keeps.execFenceNRelease (h : Keeps s t) : Leaves s (execFenceNRelease t) := .ite h h.released

theorem Keeps.asserted {p} (h : Keeps s t) : Keeps s (t.asserted p) := h.same

theorem Keeps.execSyncPpsEdge (h : Keeps s t) : Leaves s (execSyncPpsEdge t) := .ite h.excess h.released.asserted.land.ppsSteer

theorem Keeps.execRackposChange {strap} (h : Keeps s t) : Leaves s (execRackposChange strap t) := .ite h.pinEvent h

theorem Keeps.execPinStuckTimeout {pin} (h : Keeps s t) : Leaves s (execPinStuckTimeout pin t) := .ite h (.ite h.pinEvent.onPin h)

theorem Keeps.execPinExcessEdge {pin} (h : Keeps s t) : Leaves s (execPinExcessEdge pin t) := .ite h.excess h

theorem Keeps.execTrstNAssert (h : Keeps s t) : Leaves s (execTrstNAssert t) := h.same

theorem Keeps.execTrstNRelease (h : Keeps s t) : Leaves s (execTrstNRelease t) := h.same

theorem Keeps.execTapInstruction {i} (h : Keeps s t) : Leaves s (execTapInstruction i t) := .ite h h.same

theorem Keeps.execPcieLinkDown (h : Keeps s t) : Leaves s (execPcieLinkDown t) := h.same

theorem Keeps.execPcieLinkUp (h : Keeps s t) : Leaves s (execPcieLinkUp t) := .ite h.same h

theorem Keeps.enterThaw (h : Keeps s t) : Keeps s t.enterThaw := .ite h.same.emit h.same

theorem Keeps.execPerstNRelease {rackpos floe0} (h : Keeps s t) : Leaves s (execPerstNRelease rackpos floe0 t) :=
  .ite h (Keeps.ite h.same.enterThaw h.same)

theorem Keeps.auxLost (h : Keeps s t) : Keeps s t.auxLost := (Keeps.ite h.fuseCut.emit h.fuseCut).set

theorem Keeps.execPowerOnResetRelease {floe0} (h : Keeps s t) : Leaves s (execPowerOnResetRelease floe0 t) :=
  .ite h (Keeps.ite h.same.enterThaw h.same)

theorem Keeps.dieMissing {i} (h : Keeps s t) : Keeps s (t.dieMissing i) := .ite h (.ite h.same h.onStack)

theorem Keeps.firstMap (h : Keeps s t) : Keeps s t.firstMap := h.same.foldl fun _ _ g => g.onVb

theorem Keeps.startN4 (h : Keeps s t) : Keeps s t.startN4 := h.same

theorem Keeps.bootN4 (h : Keeps s t) : Keeps s t.bootN4 := by
  simp only [State.bootN4]
  exact .onCal (.onLoad (.startN4 (h.foldl fun _ _ g => .ite g.same g)))

theorem Keeps.discoveryFe {die cause} (h : Keeps s t) : Keeps s (t.discoveryFe die cause) := h.raise'

theorem Keeps.execDiscovery {answers} (h : Keeps s t) : Leaves s (execDiscovery answers t) := by
  simp only [Machine.execDiscovery]
  split
  · exact h
  · split
    · exact Keeps.ite (.discoveryFe (.bootN4 (.firstMap (.set (.foldl (h.foldl fun _ _ g => g.same) fun _ _ g => g.dieMissing)))))
        (.bootN4 (.firstMap (.set (.foldl (h.foldl fun _ _ g => g.same) fun _ _ g => g.dieMissing))))
    · exact Keeps.bootN4 (.firstMap (.set (.foldl (h.foldl fun _ _ g => g.same) fun _ _ g => g.dieMissing)))

theorem Keeps.execDiscoveryTimeout (h : Keeps s t) : Leaves s (execDiscoveryTimeout t) := .ite h h.same.discoveryFe

theorem Keeps.pushOwn {x} (h : Keeps s t) : Keeps s (t.pushOwn x) := .ite h h.applyEntry

theorem Keeps.defaultModes (h : Keeps s t) : Keeps s t.defaultModes := h.foldl fun _ _ g => .ite g.toScratch g

theorem Keeps.enables (h : Keeps s t) : Keeps s t.enables := h.same

theorem Keeps.execThawEnd (h : Keeps s t) : Leaves s (execThawEnd t) :=
  .ite h (Keeps.claimRole (.setDev (.onCal (.onMbx (.defaultModes
    (.enables (.putRaEnable (.foldl (h.foldl fun _ _ g => .ite g g.land) fun _ _ g => g.pushOwn))))))))

theorem Keeps.dropRings (h : Keeps s t) : Keeps s t.dropRings := h.same.foldl fun _ _ g => g.unstage

theorem Keeps.onRegs {f} (h : Keeps s t) : Keeps s (t.onRegs f) := h.same

theorem Keeps.flr (h : Keeps s t) : Keeps s t.flr := h.flrMailbox.onRegs.onDict.dropRings

theorem Keeps.execFlr (h : Keeps s t) : Leaves s (execFlr t) := h.flr

theorem Keeps.execPcieHotReset (h : Keeps s t) : Leaves s (execPcieHotReset t) := h.flr

theorem Keeps.landCycle (h : Keeps s t) : Keeps s t.landCycle := by
  simp only [State.landCycle]
  split
  · exact .ite (h.onPow.foldl fun _ _ g => g.land) h.onPow
  · exact .ite (h.foldl fun _ _ g => g.land) h

theorem Keeps.releaseDrift (h : Keeps s t) : Keeps s t.releaseDrift :=
  .ite h (h.onMbx.onMem.foldl fun _ _ g => .ite g (.ite g.passBarrier g.onProg))

theorem Keeps.driftStart (h : Keeps s t) : Keeps s t.driftStart := .ite h.enterDrift h

theorem Keeps.startWaiting (h : Keeps s t) : Keeps s t.startWaiting := h.foldl fun _ _ g => .ite g.beginLoad g

theorem Keeps.preemptFor {p} (h : Keeps s t) : Keeps s (t.preemptFor p) := h.foldl fun _ _ g => .ite g.askPreempt g

theorem Keeps.quantumOf {p} (h : Keeps s t) : Keeps s (t.quantumOf p) := by
  simp only [State.quantumOf]
  split
  · split
    · split
      · exact h.onProg.askPreempt
      · exact h
    · exact h.onProg
  · exact h.onProg

theorem Keeps.decide (h : Keeps s t) : Keeps s t.decide :=
  .ite h (.foldl (h.startWaiting.foldl fun _ _ g => g.preemptFor) fun _ _ g => g.quantumOf)

theorem Keeps.applyPlan (h : Keeps s t) : Keeps s t.applyPlan := .ite h.setVddAll.onCal h

theorem Keeps.execSchedCycleStart (h : Keeps s t) : Leaves s (execSchedCycleStart t) :=
  .ite h (.ite h.handOver h.handOver.onLease.onSched.driftStart.releaseDrift.landCycle.applyPlan.decide)

theorem Keeps.execGovernorPhaseUpdate {tag energy} (h : Keeps s t) : Leaves s (execGovernorPhaseUpdate tag energy t) := by
  simp only [Machine.execGovernorPhaseUpdate]
  split
  · exact h
  · split
    · exact h
    · split
      · split
        · split
          · exact h.onPow.land.onProg
          · exact h.land.onProg
        · split
          · exact h.onPow.land.onProg.onPow.sendBudgets
          · exact h.land.onProg.onPow.sendBudgets
      · split
        · exact h.onPow.land.onProg
        · exact h.land.onProg

theorem Keeps.newInterval (h : Keeps s t) : Keeps s t.newInterval := h.same

theorem Keeps.execLimitReportSend (h : Keeps s t) : Leaves s (execLimitReportSend t) := by
  simp only [Machine.execLimitReportSend]
  split
  · exact h
  · split
    · exact h.land.newInterval.onPow.sendBudget
    · exact h.land.newInterval.onPow

theorem Keeps.failCore {n cause digestOk} (h : Keeps s t) : Keeps s (t.failCore n cause digestOk) :=
  .ite h.same.raise' (.ite h.same.coreLost.raise' (.ite h.same.coreLost.raise' h.same.restartCore.raise'))

theorem Keeps.execCoreFailure {n cause digestOk} (h : Keeps s t) : Leaves s (execCoreFailure n cause digestOk t) :=
  .ite h (h.withAlert fun _ g => g.failCore)

theorem Keeps.answerHeld {h'} (h : Keeps s t) : Keeps s (t.answerHeld h') := .ite h.serveMgmt h.serveSvaog

theorem Keeps.resumeN5 (h : Keeps s t) : Keeps s t.resumeN5 := .startSnap (h.same.onDict.foldl fun _ _ g => g.answerHeld)

theorem Keeps.coreBack {n} (h : Keeps s t) : Keeps s (t.coreBack n) := by
  simp only [State.coreBack]
  split
  · exact .ite h h.onLease
  · exact .ite h h.onLease
  · exact h.same
  · exact h.resumeN5
  · exact h

theorem Keeps.execCoreRestartComplete {core} (h : Keeps s t) : Leaves s (execCoreRestartComplete core t) :=
  .ite h (h.withAlert fun _ g => g.same.measureCore.fwEvent.coreBack)

theorem SramOk.matPost {m d} (h : SramOk s v) : SramOk s (v.matPost m d) := .ite h.same h

theorem Keeps.matIssue {k n m} (h : Keeps s t) : Leaves s (matIssue k n m t) :=
  h.withTile fun _ g => .ite h (h.setTile g.same.matPost)

theorem Keeps.execMma {n m} (h : Keeps s t) : Leaves s (execMma n m t) := h.matIssue

theorem Keeps.execMmaz {n m} (h : Keeps s t) : Leaves s (execMmaz n m t) := h.matIssue

theorem Keeps.execMout {n m} (h : Keeps s t) : Leaves s (execMout n m t) := h.matIssue

theorem Keeps.execMoutz {n m} (h : Keeps s t) : Leaves s (execMoutz n m t) := h.matIssue

theorem Keeps.execMzero {n m} (h : Keeps s t) : Leaves s (execMzero n m t) := h.matIssue

theorem Keeps.execMload {n m} (h : Keeps s t) : Leaves s (execMload n m t) := h.matIssue

theorem Keeps.stepCe {n o aAddr bAddr} (h : Keeps s t) : Keeps s (t.stepCe n o aAddr bAddr) :=
  .ite h.sramCe.sramCe.sramCe.sramCe h.sramCe.sramCe

theorem Keeps.execMatrixStepAdmit {n} (h : Keeps s t) : Leaves s (execMatrixStepAdmit n t) :=
  h.withTile fun _ g => by
    split
    · exact h
    · exact .ite h.tileFault (.ite h.tileFault (.ite h.tileFault (h.stepCe.setTile g.same)))

theorem SramOk.writeRows {o acc} (h : SramOk s v) : SramOk s (v.writeRows o acc) := h.foldl fun _ _ g => g.write

theorem Keeps.rowsCe {n o w} (h : Keeps s t) : Keeps s (t.rowsCe n o w) := h.foldl fun _ _ g => g.sramCe

theorem Keeps.execMatrixOpStart {n} (h : Keeps s t) : Leaves s (execMatrixOpStart n t) :=
  h.withTile fun _ g => by
    split
    · exact h
    · split
      · exact h.setTile g.same
      · exact .ite h.tileFault (.ite h.tileFault (h.rowsCe.setTile g.same))
      · exact .ite h.tileFault (.ite h.tileFault (h.setTile (.ite g.same.writeRows.set g.same.writeRows)))

theorem Keeps.vecIssue {n vs ps legal f} (h : Keeps s t) (hf : ∀ w, SramOk s w → Keeps s (f w)) :
    Leaves s (vecIssue n t vs ps legal f) :=
  h.withTile fun _ g => .ite h.tileFault (.ite h (hf _ g))

theorem Keeps.execVectorResultWrite {n idx} (h : Keeps s t) : Leaves s (execVectorResultWrite n idx t) := by
  simp only [Machine.execVectorResultWrite]
  split
  · exact h
  · split <;> exact h.setTile h.tile.set

theorem Keeps.vecBin {op n v'} (h : Keeps s t) : Leaves s (vecBin op n v' t) := h.vecIssue fun _ g => h.setTile g.same

theorem Keeps.execVadd {n v'} (h : Keeps s t) : Leaves s (execVadd n v' t) := h.vecBin

theorem Keeps.execVsub {n v'} (h : Keeps s t) : Leaves s (execVsub n v' t) := h.vecBin

theorem Keeps.execVmul {n v'} (h : Keeps s t) : Leaves s (execVmul n v' t) := h.vecBin

theorem Keeps.execVfma {n v'} (h : Keeps s t) : Leaves s (execVfma n v' t) := h.vecIssue fun _ g => h.setTile g.same

theorem Keeps.vecUn {legal f n v'} (h : Keeps s t) : Leaves s (vecUn legal f n v' t) := h.vecIssue fun _ g => h.setTile g.same

theorem Keeps.vecTwo {legal f n v'} (h : Keeps s t) : Leaves s (vecTwo legal f n v' t) := h.vecIssue fun _ g => h.setTile g.same

theorem Keeps.execVmin {n v'} (h : Keeps s t) : Leaves s (execVmin n v' t) := h.vecTwo

theorem Keeps.execVmax {n v'} (h : Keeps s t) : Leaves s (execVmax n v' t) := h.vecTwo

theorem Keeps.execVabs {n v'} (h : Keeps s t) : Leaves s (execVabs n v' t) := h.vecUn

theorem Keeps.execVneg {n v'} (h : Keeps s t) : Leaves s (execVneg n v' t) := h.vecUn

theorem Keeps.execVrcp {n v'} (h : Keeps s t) : Leaves s (execVrcp n v' t) := h.vecUn

theorem Keeps.execVrsq {n v'} (h : Keeps s t) : Leaves s (execVrsq n v' t) := h.vecUn

theorem Keeps.execVexp2 {n v'} (h : Keeps s t) : Leaves s (execVexp2 n v' t) := h.vecUn

theorem Keeps.execVlog2 {n v'} (h : Keeps s t) : Leaves s (execVlog2 n v' t) := h.vecUn

theorem Keeps.execVand {n v'} (h : Keeps s t) : Leaves s (execVand n v' t) := h.vecTwo

theorem Keeps.execVor {n v'} (h : Keeps s t) : Leaves s (execVor n v' t) := h.vecTwo

theorem Keeps.execVxor {n v'} (h : Keeps s t) : Leaves s (execVxor n v' t) := h.vecTwo

theorem Keeps.execVshl {n v'} (h : Keeps s t) : Leaves s (execVshl n v' t) := h.vecTwo

theorem Keeps.execVshr {n v'} (h : Keeps s t) : Leaves s (execVshr n v' t) := h.vecTwo

theorem Keeps.execVcmp {n v'} (h : Keeps s t) : Leaves s (execVcmp n v' t) := h.vecIssue fun _ g => .ite h (h.setTile g.same)

theorem Keeps.execVsel {n v'} (h : Keeps s t) : Leaves s (execVsel n v' t) := h.vecIssue fun _ g => h.setTile g.same

theorem Keeps.execVperm {n v'} (h : Keeps s t) : Leaves s (execVperm n v' t) := h.vecIssue fun _ g => h.setTile g.same

theorem Keeps.execVbcast {n v'} (h : Keeps s t) : Leaves s (execVbcast n v' t) := h.vecIssue fun _ g => h.setTile g.same

theorem Keeps.execVred {n v'} (h : Keeps s t) : Leaves s (execVred n v' t) := h.vecIssue fun _ g => h.setTile g.same

theorem Keeps.execVld {n v'} (h : Keeps s t) : Leaves s (execVld n v' t) :=
  h.vecIssue fun _ g => .ite h.tileFault (.ite h.tileFault (h.sramCe.setTile g.same))

theorem Keeps.execVst {n v'} (h : Keeps s t) : Leaves s (execVst n v' t) :=
  h.vecIssue fun _ g => .ite h.tileFault (h.setTile g.writeMasked)

theorem Keeps.execVcvti {n v'} (h : Keeps s t) : Leaves s (execVcvti n v' t) := h.vecIssue fun _ g => h.setTile g.same

theorem Keeps.execVcvto {n v'} (h : Keeps s t) : Leaves s (execVcvto n v' t) :=
  .ite (h.vecIssue fun _ g => h.setTile g.same) (h.vecIssue fun _ g => h.setTile g.same)

theorem Keeps.publish (h : Keeps s t) : Keeps s t.publish := h.same

end Sys2Proof.Machine

end

section
/-! PROOFS. What a step keeps: every command but a reset, the resets, the slots of a bundle and the tick (R10, R42, R610, R611). -/

namespace Sys2Proof.Machine

set_option Elab.async false

variable {s t u : State}
open Claims (clears)

/-- Every command but a reset. -/
theorem Keeps.exec {c : Instr} (h : Keeps s t) (hc : ¬ clears c) : Leaves s (Machine.exec c t) := by
  cases c with
  | powerOnResetRelease => exact h.execPowerOnResetRelease
  | powerLoss => exact absurd trivial hc
  | railOutOfTolerance => exact absurd trivial hc
  | perstNAssert => exact absurd trivial hc
  | perstNRelease => exact h.execPerstNRelease
  | discovery => exact h.execDiscovery
  | discoveryTimeout => exact h.execDiscoveryTimeout
  | loadChunkSubmit => exact h.execLoadChunkSubmit
  | loadChunkTake => exact h.execLoadChunkTake
  | loadChunkTimeout => exact h.execLoadChunkTimeout
  | imageVerify => exact h.execImageVerify
  | aliasKeyReady => exact h.execAliasKeyReady
  | thawProceed => exact h.execThawProceed
  | thawProceedTimeout => exact h.execThawProceedTimeout
  | calRestore => exact h.execCalRestore
  | calRunComplete => exact h.execCalRunComplete
  | restoreCheckRun => exact h.execRestoreCheckRun
  | marginPlan => exact h.execMarginPlan
  | thawEnd => exact h.execThawEnd
  | softReset => exact h.execSoftReset
  | softResetBegin => exact absurd trivial hc
  | flr => exact h.execFlr
  | pcieHotReset => exact h.execPcieHotReset
  | pcieLinkDown => exact h.execPcieLinkDown
  | iceboundEntry => exact h.execIceboundEntry
  | lastFatalWrite => exact h.execLastFatalWrite
  | mbxPoll => exact h.execMbxPoll
  | mbxD2hTailWrite => exact h.execMbxD2hTailWrite
  | heartbeat => exact h.execHeartbeat
  | heartbeatTimeout => exact h.execHeartbeatTimeout
  | driftPeriodExpire => exact h.execDriftPeriodExpire
  | attach => exact h.execAttach
  | submit => exact h.execSubmit
  | abort => exact h.execAbort
  | schedCycleStart => exact h.execSchedCycleStart
  | programStart => exact h.execProgramStart
  | startReserve => exact h.execStartReserve
  | startFtimeReached => exact h.execStartFtimeReached
  | sliceReportsComplete => exact h.execSliceReportsComplete
  | preemptAllHeld => exact h.execPreemptAllHeld
  | contextSaveComplete => exact h.execContextSaveComplete
  | sliceTimeout => exact h.execSliceTimeout
  | programResume => exact h.execProgramResume
  | phaseBarrierRelease => exact h.execPhaseBarrierRelease
  | governorPhaseUpdate => exact h.execGovernorPhaseUpdate
  | governorBarrierTimeout => exact h.execGovernorBarrierTimeout
  | programEnd => exact h.execProgramEnd
  | firnDrainWalkEnd => exact h.execFirnDrainWalkEnd
  | tileAbort => exact h.execTileAbort
  | tileFault => exact h.execTileFault
  | schedLeaseStop => exact h.execSchedLeaseStop
  | schedLeaseExpiry => exact h.execSchedLeaseExpiry
  | schedJournalRecord => exact h.execSchedJournalRecord
  | schedStateCopy => exact h.execSchedStateCopy
  | schedSwap => exact h.execSchedSwap
  | schedHandoverCopy => exact h.execSchedHandoverCopy
  | coreFailure => exact h.execCoreFailure
  | coreRestartComplete => exact h.execCoreRestartComplete
  | dictRead => exact h.execDictRead
  | dictWrite => exact h.execDictWrite
  | dictSessionAbandon => exact h.execDictSessionAbandon
  | dictLock => exact h.execDictLock
  | mctpSvaogMessage => exact h.execMctpSvaogMessage
  | bar0RegisterWrite => exact h.execBar0RegisterWrite
  | voteScrub => exact h.execVoteScrub
  | hostBar4BaseHiWrite => exact h.execHostBar4BaseHiWrite
  | cnop _ c => exact h.execCnop (x := c)
  | seta => exact h.execSeta
  | adda => exact h.execAdda
  | sets => exact h.execSets
  | shis => exact h.execShis
  | adds => exact h.execAdds
  | lds => exact h.execLds
  | sts => exact h.execSts
  | mova => exact h.execMova
  | movs => exact h.execMovs
  | br => exact h.execBr
  | loop => exact h.execLoop
  | wait => exact h.execWait
  | ccset => exact h.execCcset
  | ccst => exact h.execCcst
  | tfence => exact h.execTfence
  | ldmd => exact h.execLdmd
  | setrnd => exact h.execSetrnd
  | blk => exact h.execBlk
  | phase => exact h.execPhase
  | slice => exact h.execSlice
  | phaseDone => exact h.execPhaseDone
  | halt => exact h.execHalt
  | trap => exact h.execTrap
  | mnop => exact h
  | mma => exact h.execMma
  | mmaz => exact h.execMmaz
  | mout => exact h.execMout
  | moutz => exact h.execMoutz
  | mzero => exact h.execMzero
  | mload => exact h.execMload
  | matrixStepAdmit => exact h.execMatrixStepAdmit
  | vnop => exact h
  | vld => exact h.execVld
  | vst => exact h.execVst
  | vadd => exact h.execVadd
  | vsub => exact h.execVsub
  | vmul => exact h.execVmul
  | vfma => exact h.execVfma
  | vmin => exact h.execVmin
  | vmax => exact h.execVmax
  | vabs => exact h.execVabs
  | vneg => exact h.execVneg
  | vrcp => exact h.execVrcp
  | vrsq => exact h.execVrsq
  | vexp2 => exact h.execVexp2
  | vlog2 => exact h.execVlog2
  | vcmp => exact h.execVcmp
  | vsel => exact h.execVsel
  | vand => exact h.execVand
  | vor => exact h.execVor
  | vxor => exact h.execVxor
  | vshl => exact h.execVshl
  | vshr => exact h.execVshr
  | vcvti => exact h.execVcvti
  | vcvto => exact h.execVcvto
  | vred => exact h.execVred
  | vperm => exact h.execVperm
  | vbcast => exact h.execVbcast
  | snop => exact h
  | ssend => exact h.execSsend
  | srecv => exact h.execSrecv
  | spass => exact h.execSpass
  | spassw => exact h.execSpassw
  | frd => exact h.execFrd
  | fwr => exact h.execFwr
  | gld => exact h.execGld
  | gst => exact h.execGst
  | gat => exact h.execGat
  | gstf => exact h.execGstf
  | ffl => exact h.execFfl
  | fiv => exact h.execFiv
  | flitArrive => exact h.execFlitArrive
  | streamOpComplete => exact h.execStreamOpComplete
  | runaheadIssue => exact h.execRunaheadIssue
  | runaheadReply => exact h.execRunaheadReply
  | tileZeroComplete => exact h.execTileZeroComplete
  | firnRequest => exact h.execFirnRequest
  | firnMergeWindowClose => exact h.execFirnMergeWindowClose
  | firnFillComplete => exact h.execFirnFillComplete
  | firnSliceZeroComplete => exact h.execFirnSliceZeroComplete
  | firnFlush => exact h.execFirnFlush
  | frnMaintFlush => exact h.execFrnMaintFlush
  | frnMaintFlushInvalidate => exact h.execFrnMaintFlushInvalidate
  | frnMaintEnd => exact h.execFrnMaintEnd
  | vbBeatReplay => exact h.execVbBeatReplay
  | vbEyeMeasure => exact h.execVbEyeMeasure
  | vbChannelFailing => exact h.execVbChannelFailing
  | vbRemapComplete => exact h.execVbRemapComplete
  | retiredListStoreWrite => exact h.execRetiredListStoreWrite
  | tileRetiredListWrite => exact h.execTileRetiredListWrite
  | hbmAccess => exact h.execHbmAccess
  | hbmTempRead => exact h.execHbmTempRead
  | hbmRefresh => exact h.execHbmRefresh
  | hbmScrubRead => exact h.execHbmScrubRead
  | hbmStackFail => exact h.execHbmStackFail
  | hbmPortSilentTimeout => exact h.execHbmPortSilentTimeout
  | hbmPhyRelockTimeout => exact h.execHbmPhyRelockTimeout
  | emitterSample => exact h.execEmitterSample
  | emitterSpareLocked => exact h.execEmitterSpareLocked
  | swapSlot => exact h.execSwapSlot
  | emitterSwapComplete => exact h.execEmitterSwapComplete
  | serviceEmitterFail => exact h.execServiceEmitterFail
  | ringTrackingError => exact h.execRingTrackingError
  | serviceSlotStart => exact h.execServiceSlotStart
  | slotNotice => exact h.execSlotNotice
  | serviceSlotJudge => exact h.execServiceSlotJudge
  | serviceSlotEnd => exact h.execServiceSlotEnd
  | slotRequest => exact h.execSlotRequest
  | marginReport => exact h.execMarginReport
  | lightLoss => exact h.execLightLoss
  | fibreDown => exact h.execFibreDown
  | launchGateClose => exact h.execLaunchGateClose
  | launchGateClosed => exact h.execLaunchGateClosed
  | lightReturn => exact h.execLightReturn
  | probeBurst => exact h.execProbeBurst
  | probe => exact h.execProbe
  | ident => exact h.execIdent
  | wiringRecheck => exact h.execWiringRecheck
  | linkTrainingComplete => exact h.execLinkTrainingComplete
  | phoSteerGo => exact h.execPhoSteerGo
  | phoSteerCmdGo => exact h.execPhoSteerCmdGo
  | steerPropose => exact h.execSteerPropose
  | steerAnswer => exact h.execSteerAnswer
  | steerDecide => exact h.execSteerDecide
  | steerApply => exact h.execSteerApply
  | groupStart => exact h.execGroupStart
  | lsrIntlkNAssert => exact h.execLsrIntlkNAssert
  | lsrIntlkNRelease => exact h.execLsrIntlkNRelease
  | frameReceive => exact h.execFrameReceive
  | frameSkipTimeout => exact h.execFrameSkipTimeout
  | creditFlit => exact h.execCreditFlit
  | creditSend => exact h.execCreditSend
  | credit => exact h.execCredit
  | packetStart => exact h.execPacketStart
  | packetForward => exact h.execPacketForward
  | headBusyTimeout => exact h.execHeadBusyTimeout
  | ldReq => exact h.execLdReq
  | ldRspS => exact h.execLdRspS
  | ldRsp => exact h.execLdRsp
  | stS => exact h.execStS
  | stReq => exact h.execStReq
  | stfS => exact h.execStfS
  | stf => exact h.execStf
  | ack => exact h.execAck
  | atomic => exact h.execAtomic
  | syncQuery => exact h.execSyncQuery
  | atRsp => exact h.execAtRsp
  | xput => exact h.execXput
  | xputAck => exact h.execXputAck
  | xget => exact h.execXget
  | xgetRsp => exact h.execXgetRsp
  | xmsg => exact h.execXmsg
  | xmsgAck => exact h.execXmsgAck
  | coll => exact h.execColl
  | collCtl => exact h.execCollCtl
  | mgmt => exact h.execMgmt
  | mgmtRsp => exact h.execMgmtRsp
  | mgmtResendTimeout => exact h.execMgmtResendTimeout
  | requestTimeout => exact h.execRequestTimeout
  | requestLastChance => exact h.execRequestLastChance
  | busyResend => exact h.execBusyResend
  | resyncQuerySend => exact h.execResyncQuerySend
  | resyncDuplicateResend => exact h.execResyncDuplicateResend
  | flaggedStoreSend => exact h.execFlaggedStoreSend
  | neighbourPortsDown => exact h.execNeighbourPortsDown
  | neighbourLostLocal => exact h.execNeighbourLostLocal
  | peerDown => exact h.execPeerDown
  | routeUpdate => exact h.execRouteUpdate
  | routeAck => exact h.execRouteAck
  | routeSegmentResend => exact h.execRouteSegmentResend
  | routeUpdateActivate => exact h.execRouteUpdateActivate
  | mgmtAliveSend => exact h.execMgmtAliveSend
  | mgmtAlive => exact h.execMgmtAlive
  | mgmtSilentTimeout => exact h.execMgmtSilentTimeout
  | dmClaimSend => exact h.execDmClaimSend
  | dmClaim => exact h.execDmClaim
  | dmAck => exact h.execDmAck
  | dmRenewSend => exact h.execDmRenewSend
  | dmRenew => exact h.execDmRenew
  | dmRenewAck => exact h.execDmRenewAck
  | dmHolderExpiry => exact h.execDmHolderExpiry
  | dmMgmtCycle => exact h.execDmMgmtCycle
  | dmCopy => exact h.execDmCopy
  | dmCopyReport => exact h.execDmCopyReport
  | dmSwap => exact h.execDmSwap
  | dmSwapPeriodExpire => exact h.execDmSwapPeriodExpire
  | timeExchangeSend => exact h.execTimeExchangeSend
  | timeReq => exact h.execTimeReq
  | timeResp => exact h.execTimeResp
  | calTrimUpdate => exact h.execCalTrimUpdate
  | syncPpsEdge => exact h.execSyncPpsEdge
  | ftWrapTest => exact h.execFtWrapTest
  | freqAnnounce => exact h.execFreqAnnounce
  | freqAck => exact h.execFreqAck
  | freqSupplyCommand => exact h.execFreqSupplyCommand
  | freqChangeStart => exact h.execFreqChangeStart
  | freqChangeEnd => exact h.execFreqChangeEnd
  | pllLossOfLock => exact h.execPllLossOfLock
  | pllRelock => exact h.execPllRelock
  | pllLockTimeout => exact h.execPllLockTimeout
  | refclkLoss => exact h.execRefclkLoss
  | replicaAlarm => exact h.execReplicaAlarm
  | replicaAlarmEnd => exact h.execReplicaAlarmEnd
  | replicaWarn => exact h.execReplicaWarn
  | limitReportSend => exact h.execLimitReportSend
  | limitReport => exact h.execLimitReport
  | budgetCycle => exact h.execBudgetCycle
  | stackBudgetReceive => exact h.execStackBudgetReceive
  | stackBudgetTimeout => exact h.execStackBudgetTimeout
  | limiterLoopStep => exact h.execLimiterLoopStep
  | thermalStepping => exact h.execThermalStepping
  | stackRuleEval => exact h.execStackRuleEval
  | sensorSuspect => exact h.execSensorSuspect
  | firnSensorsSuspect => exact h.execFirnSensorsSuspect
  | thermalTrip => exact h.execThermalTrip
  | capUnreachableSet => exact h.execCapUnreachableSet
  | pwrbrkNAssert => exact h.execPwrbrkNAssert
  | pwrbrkNRelease => exact h.execPwrbrkNRelease
  | fenceNAssert => exact h.execFenceNAssert
  | rackposChange => exact h.execRackposChange
  | trstNAssert => exact h.execTrstNAssert
  | pinStuckTimeout => exact h.execPinStuckTimeout
  | pinExcessEdge => exact h.execPinExcessEdge
  | tapInstruction => exact h.execTapInstruction
  | bar4Read => exact h.execBar4Read
  | bar4Write => exact h.execBar4Write
  | hdmaPoll => exact h.execHdmaPoll
  | hdmaDescriptorStart => exact h.execHdmaDescriptorStart
  | hdmaDescriptorComplete => exact h.execHdmaDescriptorComplete
  | collPoll => exact h.execCollPoll
  | collDescriptorTake => exact h.execCollDescriptorTake
  | collStageComplete => exact h.execCollStageComplete
  | collComplete => exact h.execCollComplete
  | collTimeout => exact h.execCollTimeout
  | memWindowsWrite => exact h.execMemWindowsWrite
  | memFence => exact h.execMemFence
  | hostBar4Base => exact h.execHostBar4Base
  | errAck => exact h.execErrAck
  | errInject => exact h.execErrInject
  | errProdLockSet => exact h.execErrProdLockSet
  | fuseWriteComplete => exact h.execFuseWriteComplete
  | secKeyRevoke => exact h.execSecKeyRevoke
  | secSvnCommit => exact h.execSecSvnCommit
  | secMeasExtend => exact h.execSecMeasExtend
  | getVersion => exact h.execGetVersion
  | getCapabilities => exact h.execGetCapabilities
  | negotiateAlgorithms => exact h.execNegotiateAlgorithms
  | getDigests => exact h.execGetDigests
  | getCertificate => exact h.execGetCertificate
  | challenge => exact h.execChallenge
  | getMeasurements => exact h.execGetMeasurements
  | chunkGet => exact h.execChunkGet
  | cvuStart => exact h.execCvuStart
  | cvuStop => exact h.execCvuStop
  | cvuLoadComplete => exact h.execCvuLoadComplete
  | cvuScanEnd => exact h.execCvuScanEnd
  | moraineSample => exact h.execMoraineSample
  | morFreeze => exact h.execMorFreeze
  | morFreezeExpire => exact h.execMorFreezeExpire
  | morFlush => exact h.execMorFlush
  | snapshotDue => exact h.execSnapshotDue
  | snapshotWriteComplete => exact h.execSnapshotWriteComplete
  | operatingHour => exact h.execOperatingHour
  | emitterBiasStep => exact h.execEmitterBiasStep
  | calExportTake => exact h.execCalExportTake
  | matrixOpStart => exact h.execMatrixOpStart
  | vectorResultWrite => exact h.execVectorResultWrite
  | firnModeChangeEnd => exact h.execFirnModeChangeEnd
  | hbmPhyLossOfLock => exact h.execHbmPhyLossOfLock
  | hbmPhyRetrained => exact h.execHbmPhyRetrained
  | hbmZeroComplete => exact h.execHbmZeroComplete
  | collHoldExpire => exact h.execCollHoldExpire
  | collSteerWaitEnd => exact h.execCollSteerWaitEnd
  | hdmaHostReadCompletion => exact h.execHdmaHostReadCompletion
  | bar4Resize => exact h.execBar4Resize
  | pcieLinkUp => exact h.execPcieLinkUp
  | replicaWarnEnd => exact h.execReplicaWarnEnd
  | capUnreachableClear => exact h.execCapUnreachableClear
  | fabricTimeWrap => exact h.execFabricTimeWrap
  | vddSrcDip => exact h.execVddSrcDip
  | spdmUnsupportedRequest => exact h.execSpdmUnsupportedRequest
  | fenceNRelease => exact h.execFenceNRelease
  | trstNRelease => exact h.execTrstNRelease

/-! ### Resets -/

/-- What a command leaves that clears everything. -/
structure Clears (s t : State) : Prop extends Lasts s t where
  meas : t.sec.meas = RF.all 4 (List.replicate 32 0)

namespace Clears

theorem cleared (h : Lasts s t) : Clears s t.cleared :=
  ⟨h.trans ⟨rfl, rfl, id, BitVec.and_self, le_rfl, rfl, rfl, fun _ => rfl⟩, rfl⟩

theorem same (h : Clears s t) (hu : u.lasting = t.lasting := by rfl) : Clears s u :=
  ⟨h.toLasts.trans (Keeps.of_lasting hu).toLasts, (congrArg (fun l => l.2.1.2.2.2.2) hu).trans h.meas⟩

theorem goCold (h : Lasts s t) : Clears s t.goCold := (cleared h).same

theorem softCleared (h : Lasts s t) : Clears s t.softCleared := (cleared h).same

theorem enterThaw (h : Clears s t) : Clears s t.enterThaw := by
  simp only [State.enterThaw]
  split
  · exact h.same
  · exact h.same

theorem execPerstNAssert (h : Lasts s t) (hu : Machine.execPerstNAssert t = .next u) : Clears s u := by
  cases hu
  exact (goCold h).same

theorem execPowerLoss (h : Keeps s t) (hu : Machine.execPowerLoss t = .next u) : Clears s u := by
  cases hu
  exact (goCold h.auxLost.toLasts).same

theorem execRailOutOfTolerance {r} (h : Keeps s t) (hu : Machine.execRailOutOfTolerance r t = .next u) : Clears s u := by
  cases hu
  exact (goCold (Keeps.ite h.auxLost h).toLasts).same

/-- A soft reset that does not begin changes nothing. -/
theorem execSoftResetBegin (h : Lasts s t) (hu : Machine.execSoftResetBegin t = .next u) : Clears s u ∨ u = t := by
  simp only [Machine.execSoftResetBegin] at hu
  split at hu
  · cases hu
    exact .inl (softCleared h).enterThaw.same
  · cases hu
    exact .inr rfl

theorem exec {c : Instr} (h : Keeps s t) (hc : clears c) (hu : Machine.exec c t = .next u) : Clears s u ∨ u = t := by
  cases c with
  | perstNAssert => exact .inl (execPerstNAssert h.toLasts hu)
  | powerLoss => exact .inl (execPowerLoss h hu)
  | railOutOfTolerance r => exact .inl (execRailOutOfTolerance h hu)
  | softResetBegin => exact execSoftResetBegin h.toLasts hu
  | _ => exact hc.elim

end Clears

/-! ### A bundle's slots -/

theorem decodeMat_not_clears {n w i} (h : decodeMat n w = some i) : ¬ clears i := by
  simp only [decodeMat] at h
  split at h <;> cases h <;> exact id

theorem decodeVec_not_clears {n w i} (h : decodeVec n w = some i) : ¬ clears i := by
  simp only [decodeVec] at h
  split at h <;> cases h <;> exact id

theorem decodeStr_not_clears {n w i} (h : decodeStr n w = some i) : ¬ clears i := by
  simp only [decodeStr] at h
  split at h <;> cases h <;> exact id

theorem decodeCtl_not_clears {n w i} (h : decodeCtl n w = some i) : ¬ clears i := by
  simp only [decodeCtl] at h
  split at h <;> cases h <;> exact id

theorem decodeBundle_not_clears {n w b} (h : decodeBundle n w = some b) :
    ¬ clears b.mat ∧ ¬ clears b.vec ∧ ¬ clears b.str ∧ ¬ clears b.ctl := by
  simp only [decodeBundle] at h
  split at h
  · next hm hv hx hc =>
    cases h
    exact ⟨decodeMat_not_clears hm, decodeVec_not_clears hv, decodeStr_not_clears hx, decodeCtl_not_clears hc⟩
  · cases h

/-! ### A step -/

theorem Keeps.runSlot {i : Instr} (h : Keeps s t) (hi : ¬ clears i) : Keeps s (t.runSlot i) := by
  have g := h.exec hi
  simp only [State.runSlot]
  split
  · next heq =>
    rw [heq] at g
    exact g
  · exact h

theorem Keeps.issueBundle {n} (h : Keeps s t) : Keeps s (t.issueBundle n) := by
  obtain hs | hs | ⟨b, hb, -, hs⟩ := t.issueBundle_cases n
  all_goals rw [hs]
  · exact h
  · exact h.tileFault
  · obtain ⟨hm, hv, hx, hc⟩ := decodeBundle_not_clears hb
    exact (((h.runSlot hm).runSlot hv).runSlot hx).runSlot hc

theorem Keeps.seracCycle {k} (h : Keeps s t) : Keeps s (t.seracCycle k) :=
  h.foldl fun _ _ g => .ite g.issueBundle g

theorem Keeps.seracTick {k} (h : Keeps s t) : Keeps s (t.seracTick k) :=
  .ite h (.ite h.same (h.same (u := t.onClk _)).seracCycle)

theorem Keeps.tick (h : Keeps s t) : Keeps s (Machine.tick t) := by
  have g : Keeps s (([0, 1, 2, 3] : List (BitVec 2)).foldl State.seracTick t.tbTick).msgIrqDue :=
    .msgIrqDue (Keeps.foldl (h.same (u := t.tbTick)) fun _ _ g => g.seracTick)
  exact .ite g g.publish

/-- What a step leaves: with the command at the front taken off the queue, all is kept, or a reset has cleared what it clears. -/
theorem step_keeps (h : step s = .next t) :
    Keeps { s with pending := s.pending.tail } t ∨
      Clears { s with pending := s.pending.tail } t ∧ ∃ c rest, s.pending = c :: rest ∧ clears c := by
  unfold step at h
  split at h
  · next hp =>
    cases h
    exact .inl (Keeps.tick (.of_lasting (by simp only [State.lasting, hp, List.tail_nil])))
  · next c rest hp =>
    simp only [hp, List.tail_cons]
    by_cases hc : clears c
    · obtain hk | rfl := Clears.exec (.refl _) hc h
      · exact .inr ⟨hk, c, rest, rfl, hc⟩
      · exact .inl (.refl _)
    · have g := (Keeps.refl { s with pending := rest }).exec hc
      rw [h] at g
      exact .inl g

theorem step_lasts (h : step s = .next t) : Lasts { s with pending := s.pending.tail } t :=
  (step_keeps h).elim Keeps.toLasts fun k => k.1.toLasts

theorem extend_meas {i : BitVec 4} {l : List Byte} (h : l.length = 32) :
    (s.extend i.toNat l).sec.meas = RF.put s.sec.meas i (sha3 (RF.at s.sec.meas i ++ l)) := by
  simp only [State.extend, State.onSec, padTo_of_length h, BitVec.ofNat_toNat, BitVec.setWidth_eq]

theorem mbxChanged_sec : s.mbxChanged.sec = s.sec := by
  simp only [State.mbxChanged]
  split <;> rfl

theorem dropRings_sec : s.dropRings.sec = s.sec :=
  List.foldlRecOn (motive := fun u : State => u.sec = s.sec) _ _ rfl fun _ g _ _ => g

theorem flrMailbox_sec : s.flrMailbox.sec = s.sec := by
  simp only [State.flrMailbox]
  split
  · exact mbxChanged_sec
  · rfl

theorem flr_sec : s.flr.sec = s.sec := by
  rw [State.flr, dropRings_sec]
  exact flrMailbox_sec

theorem softResetBegin_begins (hr : s.pkg.softReset = true) (hw : s.mor.writing = none) (he : s.errs.entryDue = false)
    (hd : s.pkg.dev = .thaw ∨ s.pkg.dev = .flow ∨ s.pkg.dev = .drift) (h : execSoftResetBegin s = .next t) : Clears s t := by
  have hl : (s.pkg.softReset && s.mor.writing.isNone &&
      (decide (s.pkg.dev = .thaw) || decide (s.pkg.dev = .flow) || decide (s.pkg.dev = .drift)) && !s.errs.entryDue) = true := by
    rcases hd with hd | hd | hd <;> simp [hr, hw, he, hd]
  simp only [execSoftResetBegin] at h
  split at h
  · cases h
    exact (Clears.softCleared (Keeps.refl s).toLasts).enterThaw.same
  · next hn => exact absurd (by simpa using hl) hn

theorem clears_meas {c : Instr} (hc : clears c) (hu : exec c s = .next t)
    (hsoft : c = .softResetBegin → s.pkg.softReset = true ∧ s.mor.writing = none ∧ s.errs.entryDue = false ∧
      (s.pkg.dev = .thaw ∨ s.pkg.dev = .flow ∨ s.pkg.dev = .drift)) :
    t.sec.meas = RF.all 4 (List.replicate 32 0) := by
  cases c with
  | softResetBegin =>
    obtain ⟨hr, hw, he, hd⟩ := hsoft rfl
    exact (softResetBegin_begins hr hw he hd hu).meas
  | perstNAssert => exact (Clears.execPerstNAssert (Keeps.refl s).toLasts hu).meas
  | powerLoss => exact (Clears.execPowerLoss (Keeps.refl s) hu).meas
  | railOutOfTolerance r => exact (Clears.execRailOutOfTolerance (Keeps.refl s) hu).meas
  | _ => exact hc.elim

end Sys2Proof.Machine

end

section
/-! PROOFS. What settles O58, O59 and O60. -/

open Sys2Proof Machine Claims

/-- Settles O59: every command keeps or moves the fuses one way, by one rule per function of the model, and a step is one command. -/
theorem fusesMoveOneWay : Obligations.FusesMoveOneWay := by
  intro s t h
  obtain ⟨hpart, hpend, hlock, hrev, hsvn, hkey, huds, -⟩ := step_lasts h
  exact ⟨hlock, hrev, hsvn, hkey, huds, hpart, hpend⟩

/-- Settles O58: the same rules, for the byte memories. -/
theorem stepKeepsMemoryCanonical : Obligations.StepKeepsMemoryCanonical :=
  fun _ _ hm h => (step_lasts h).mem hm

/-- Settles O60: the same rules, for the measurement registers, with the resets that clear them. -/
theorem measurementRegisters : Obligations.MeasurementRegisters := by
  refine ⟨fun s i v hv => extend_meas hv, fun s t c rest hp hc h hsoft => ?_, fun s t h => ?_, fun s t h => ?_⟩
  · simp only [step, hp] at h
    exact clears_meas hc h hsoft
  · cases h
    exact congrArg Sec.meas flr_sec
  · obtain hk | ⟨hk, hc⟩ := step_keeps h
    · exact .inl hk.meas
    · exact .inr ⟨hk.meas, hc⟩

end

section
/-! PROOFS. The control slot of a running tile: what issues, what its bundle's end is, and what settles O1. -/

namespace Sys2Proof.Machine
open Claims

variable {s : State} {n : Nat}

/-! ### A slot operation on a running tile -/

theorem State.withTile_running (h : (s.tile n).st = .running) (f : Tile → State) : s.withTile n f = .next (f (s.tile n)) :=
  if_pos h

/-- R46: a control operation whose SUB value it defines. -/
theorem ctlOp_running (h : (s.tile n).st = .running) {ok : Bool} (hk : ok = true) (f : Tile → State) :
    ctlOp s n ok f = .next (f (s.tile n)) := by
  rw [ctlOp, State.withTile_running h, if_pos hk]

/-! ### The end of a bundle in sequence -/

/-- A tile whose uncorrectable words are some of another's can be read where the other can. -/
theorem Tile.bad_of_subset {t u : Tile} (hu : u.uc ⊆ t.uc) {a k : Nat} (h : t.bad a k = false) : u.bad a k = false := by
  simp only [Tile.bad, List.any_eq_false] at h ⊢
  exact fun w hw => h w (hu hw)

/-- With no uncorrectable word every read is good. -/
theorem Tile.bad_of_uc {t : Tile} (h : t.uc = []) (a k : Nat) : t.bad a k = false := by simp [Tile.bad, h]

/-- R43, R48: where the next bundle is in reach, an operation that leaves the loops, the bundle number and the code region alone, and
marks no word as uncorrectable, goes on in sequence. -/
theorem ctlNext_seqNext (h : Runs s n) (hr : Room s n) (u : Tile) (hl : u.loops = (s.tile n).loops := by rfl)
    (hb : u.bundle = (s.tile n).bundle := by rfl) (hc : u.codeBytes = (s.tile n).codeBytes := by rfl)
    (hu : u.uc ⊆ (s.tile n).uc := by exact List.Subset.refl _) : s.ctlNext n u = seqNext s n u :=
  State.ctlNext_ok s n (s.tile n) u h.2 hl hb hc hr.1 (Tile.bad_of_subset hu hr.2)

/-- A control operation that leaves the tile as `u` and goes on in sequence. -/
theorem ctlOp_seqNext (h : Runs s n) (hr : Room s n) {ok : Bool} (hk : ok = true) {f : Tile → State} (u : Tile)
    (hf : f (s.tile n) = s.ctlNext n u) (hl : u.loops = (s.tile n).loops := by rfl)
    (hb : u.bundle = (s.tile n).bundle := by rfl) (hc : u.codeBytes = (s.tile n).codeBytes := by rfl)
    (hu : u.uc ⊆ (s.tile n).uc := by exact List.Subset.refl _) : ctlOp s n ok f = .next (seqNext s n u) := by
  rw [ctlOp_running h.1 hk, hf, ctlNext_seqNext h hr u hl hb hc hu]

/-- A write marks no word as uncorrectable (log entry 20). -/
theorem Tile.write_uc_subset (t : Tile) (a : Nat) (bs : List Byte) : (t.write a bs).uc ⊆ t.uc := List.filter_subset_self _

/-- SETRND with a mode that there is (R102). -/
theorem setrnd_sets (h : Runs s n) (hr : Room s n) {c : CtlSlot} (hs : c.sub.toNat < 2) (hm : c.imm.toNat ≤ 4) :
    exec (.setrnd n c) s = .next (seqNext s n { (s.tile n).applyPost with
      rnd := c.imm.setWidth 3, g := if c.sub = 1 then (RF.at (s.tile n).s c.reg).setWidth 32 else (s.tile n).g }) :=
  (exec_setrnd s).trans (ctlOp_seqNext h hr (decide_eq_true hs) _ (if_neg (Nat.not_lt.mpr hm)))

end Sys2Proof.Machine

open Sys2Proof Machine Claims

/-- Settles O1: each operation writes its register after the post-increments, and the bundle ends in sequence. -/
theorem controlRegisterWrites : Obligations.ControlRegisterWrites := by
  intro s n c h hr
  simp only [exec_cnop, exec_seta, exec_adda, exec_sets, exec_shis, exec_adds, exec_mova, exec_movs, exec_sts, exec_ccst, exec_ccset]
  refine ⟨?_, fun h0 => ?_, fun h2 => ctlOp_seqNext h hr (decide_eq_true h2) _ rfl, fun h2 hm => setrnd_sets h hr h2 hm⟩
  · exact (State.withTile_running h.1 _).trans (congrArg _ (ctlNext_seqNext h hr _))
  have h0 : decide (c.sub = 0) = true := decide_eq_true h0
  exact ⟨ctlOp_seqNext h hr h0 _ rfl, ctlOp_seqNext h hr h0 _ rfl, ctlOp_seqNext h hr h0 _ rfl, ctlOp_seqNext h hr h0 _ rfl,
    ctlOp_seqNext h hr h0 _ rfl, ctlOp_seqNext h hr h0 _ rfl, ctlOp_seqNext h hr h0 _ rfl,
    ctlOp_seqNext h hr h0 _ rfl (hu := Tile.write_uc_subset _ _ _), ctlOp_seqNext h hr h0 _ rfl⟩
end

section
/-! PROOFS. Loads, branches and loops of the control slot, and what settles O2 and O3. -/

namespace Sys2Proof.Machine
open Claims

variable {s : State} {n : Nat}

/-! ### Loads -/

/-- LDS at an aligned address that can be read. -/
theorem lds_loads (h : Runs s n) (hr : Room s n) {c : CtlSlot} (h0 : c.sub = 0) (hu : (s.tile n).uc = [])
    (ha : (RF.at (s.tile n).a (ctlLow c)).toNat % 8 = 0) :
    exec (.lds n c) s = .next (seqNext s n { (s.tile n).applyPost with
      s := RF.put (s.tile n).applyPost.s c.reg (BitVec.ofNat 64 ((s.tile n).read (RF.at (s.tile n).a (ctlLow c)).toNat 8)) }) := by
  rw [exec_lds]
  refine ctlOp_seqNext h hr (decide_eq_true h0) _ ?_
  simp only [ha, ne_eq, not_true_eq_false, if_false, Tile.bad_of_uc hu, Bool.false_eq_true, State.sramCe_none s h.2]
  rfl

/-- LDMD of a descriptor that R55 accepts. -/
theorem ldmd_loads (h : Runs s n) (hr : Room s n) {c : CtlSlot} (h0 : c.sub = 0) (hu : (s.tile n).uc = [])
    (hd : descOk (BitVec.ofNat 256 ((s.tile n).read (RF.at (s.tile n).a (ctlLow c)).toNat 32)) = true) :
    exec (.ldmd n c) s = .next (seqNext s n { (s.tile n).applyPost with
      md := RF.put (s.tile n).applyPost.md c.reg
        (BitVec.ofNat 256 ((s.tile n).read (RF.at (s.tile n).a (ctlLow c)).toNat 32)) }) := by
  rw [exec_ldmd]
  refine ctlOp_seqNext h hr (decide_eq_true h0) _ ?_
  simp only [Tile.bad_of_uc hu, Bool.false_eq_true, if_false, hd, if_true, State.sramCe_none s h.2]

/-! ### Where a bundle ends (R48) -/

/-- With no level active a bundle is followed by the next one. -/
theorem loopEnd_all_none (b : Nat) : ∀ l : List (BitVec 2), loopEnd b l (RF.all 2 none) = (b + 1, RF.all 2 none)
  | [] => rfl
  | _ :: l => by simp [loopEnd, loopEnd_all_none b l]

/-- A level that becomes active does not end at the bundle before its first. -/
theorem loopEnd_put_beyond {b : Nat} {k : BitVec 2} {x : LoopLevel} (hx : x.last ≠ b) : ∀ l : List (BitVec 2),
    loopEnd b l (RF.put (RF.all 2 none) k (some x)) = (b + 1, RF.put (RF.all 2 none) k (some x))
  | [] => rfl
  | i :: l => by
    by_cases hi : i = k
    · simp [loopEnd, hi, hx]
    · simp [loopEnd, RF.at_put_other _ _ _ _ hi, loopEnd_put_beyond hx l]

theorem Tile.goAfter_all_none {t : Tile} (h : t.loops = RF.all 2 none) (b : Nat) : t.goAfter b = { t with bundle := b + 1 } := by
  simp only [Tile.goAfter, h, loopEnd_all_none]

/-! ### Branches and loops -/

/-- A branch whose target is in reach is fetched. -/
theorem br_taken (h : Runs s n) {c : CtlSlot} (h3 : (c.sub != 3) = true)
    (ht : c.sub = 0 ∨ c.sub = 1 ∧ RF.at (s.tile n).s c.reg = 0 ∨ c.sub = 2 ∧ RF.at (s.tile n).s c.reg ≠ 0)
    (hc : 16 * bundleAt (s.tile n).bundle c.imm + 16 ≤ (s.tile n).codeBytes)
    (hb : (s.tile n).bad (16 * bundleAt (s.tile n).bundle c.imm) 16 = false) :
    exec (.br n c) s = .next (s.setTile n
      ({ (s.tile n).applyPost with bundle := bundleAt (s.tile n).bundle c.imm }).fetchLine) := by
  rw [exec_br, execBr, ctlOp_running h.1 h3, ← State.fetchNext_ok s n _ h.2 hc hb]
  rcases ht with h0 | ⟨h1, hz⟩ | ⟨h2, hz⟩
  · simp [h0]
  · simp [h1, hz]
  · simp [h2, show ¬RF.at (s.tile n).s c.reg = 0#64 from hz]

/-- A branch that is not taken goes on in sequence. -/
theorem br_not_taken (h : Runs s n) (hr : Room s n) {c : CtlSlot}
    (ht : c.sub = 1 ∧ RF.at (s.tile n).s c.reg ≠ 0 ∨ c.sub = 2 ∧ RF.at (s.tile n).s c.reg = 0) :
    exec (.br n c) s = .next (seqNext s n (s.tile n).applyPost) := by
  rw [exec_br]
  rcases ht with ⟨hs, hz⟩ | ⟨hs, hz⟩
  · exact ctlOp_seqNext h hr (by simp [hs]) _ (by simp [hs, show ¬RF.at (s.tile n).s c.reg = 0#64 from hz])
  · exact ctlOp_seqNext h hr (by simp [hs]) _ (by simp [hs, hz])

/-- A LOOP at a free level enters its body. -/
theorem loop_enters (h : Runs s n) {c : CtlSlot} (hl : (s.tile n).loops = RF.all 2 none) (hi : c.imm ≠ 0)
    (hz : RF.at (s.tile n).s c.reg ≠ 0) (hc : 16 * (s.tile n).bundle + 32 ≤ (s.tile n).codeBytes)
    (hb : (s.tile n).bad (16 * ((s.tile n).bundle + 1)) 16 = false) :
    exec (.loop n c) s = .next (seqNext s n { (s.tile n).applyPost with
      loops := RF.put (s.tile n).applyPost.loops c.sub
        (some ⟨(s.tile n).bundle + 1, (s.tile n).bundle + c.imm.toNat, RF.at (s.tile n).s c.reg⟩) }) := by
  have hfree : (RF.at (s.tile n).loops c.sub).isSome = false := by simp [hl]
  have hpos : 0 < c.imm.toNat := Nat.pos_of_ne_zero fun e => hi (BitVec.eq_of_toNat_eq e)
  rw [exec_loop, execLoop, State.withTile_running h.1]
  simp only [hfree, Bool.false_eq_true, if_false, hi, hz]
  generalize hu : ({ (s.tile n).applyPost with loops := _ } : Tile) = u
  have hgo : (u.goAfter u.bundle).bundle = (s.tile n).bundle + 1 := by
    simp only [← hu, Tile.goAfter, Tile.applyPost, hl]
    rw [loopEnd_put_beyond (by simp only; omega)]
  subst hu
  refine congrArg _ (State.fetchNext_ok s n _ h.2 ?_ ?_)
  · rw [hgo]
    exact hc
  · rw [hgo]
    exact hb

/-- A LOOP whose count is 0 skips its body. -/
theorem loop_skips (h : Runs s n) {c : CtlSlot} (hl : (s.tile n).loops = RF.all 2 none) (hi : c.imm ≠ 0)
    (hz : RF.at (s.tile n).s c.reg = 0) (hc : 16 * ((s.tile n).bundle + c.imm.toNat + 1) + 16 ≤ (s.tile n).codeBytes)
    (hb : (s.tile n).bad (16 * ((s.tile n).bundle + c.imm.toNat + 1)) 16 = false) :
    exec (.loop n c) s = .next (s.setTile n
      ({ (s.tile n).applyPost with bundle := (s.tile n).bundle + c.imm.toNat + 1 }).fetchLine) := by
  have hfree : (RF.at (s.tile n).loops c.sub).isSome = false := by simp [hl]
  rw [exec_loop, execLoop, State.withTile_running h.1]
  simp only [hfree, Bool.false_eq_true, if_false, hi, hz, if_true]
  rw [Tile.goAfter_all_none (t := (s.tile n).applyPost) hl, State.fetchNext_ok s n _ h.2 hc hb]

end Sys2Proof.Machine

open Sys2Proof Machine Claims

/-- Settles O2. -/
theorem controlLoads : Obligations.ControlLoads := by
  intro s n c h hr h0 hu
  exact ⟨lds_loads h hr h0 hu, ldmd_loads h hr h0 hu⟩

/-- Settles O3: a branch by its condition, a LOOP by its count. -/
theorem controlFlow : Obligations.ControlFlow := by
  intro s n c h hr
  refine ⟨br_not_taken h hr, fun ht => br_taken h ?_ ht, fun _ hi hz hl => loop_enters h hl hi hz, fun hl => loop_skips h hl⟩
  rcases ht with hs | ⟨hs, -⟩ | ⟨hs, -⟩ <;> simp [hs]
end

section
/-! PROOFS. The waits, the markers and the ends of the control slot, and what settles O4. -/

namespace Sys2Proof.Machine
open Claims

variable {s : State} {n : Nat} {c : CtlSlot}

/-! ### WAIT and TFENCE -/

/-- R47, R49: what WAIT on a completion counter comes to. -/
theorem wait_eq (h : (s.tile n).st = .running) (h0 : c.sub = 0) :
    exec (.wait n c) s = .next (
      if (RF.at (s.tile n).cc c.reg).count.toNat < c.imm.toNat then s
      else if (RF.at (s.tile n).cc c.reg).bad ≠ 0 ∧ (RF.at (s.tile n).cc c.reg).tolerant = false then s.tileFault n faultRemoteFail
      else s.ctlNext n (s.tile n).applyPost) := by
  rw [exec_wait, execWait, ctlOp_running h (by simp [h0])]
  simp only [Tile.waitCounter, h0, if_true]

/-- R47: a WAIT that is met on a good or tolerant counter goes on. -/
theorem wait_met (h : Runs s n) (hr : Room s n) (h0 : c.sub = 0) (hm : c.imm.toNat ≤ (RF.at (s.tile n).cc c.reg).count.toNat)
    (hb : (RF.at (s.tile n).cc c.reg).bad = 0 ∨ (RF.at (s.tile n).cc c.reg).tolerant = true) :
    exec (.wait n c) s = .next (seqNext s n (s.tile n).applyPost) := by
  have hgood : ¬((RF.at (s.tile n).cc c.reg).bad ≠ 0 ∧ (RF.at (s.tile n).cc c.reg).tolerant = false) := by
    rintro ⟨hne, hf⟩
    exact hb.elim hne (by simp [hf])
  rw [wait_eq h.1 h0, if_neg (Nat.not_lt.mpr hm), if_neg hgood, ctlNext_seqNext h hr _]

/-- R45: a TFENCE on units with nothing unfinished goes on. -/
theorem tfence_idle (h : Runs s n) (hr : Room s n) (h0 : c.sub ≠ 0)
    (hm : c.sub.getLsbD 0 = true → (s.tile n).matrixIdle = true) (hs : c.sub.getLsbD 1 = true → (s.tile n).streamIdle = true) :
    exec (.tfence n c) s = .next (seqNext s n (s.tile n).applyPost) := by
  rw [exec_tfence]
  refine ctlOp_seqNext h hr (bne_iff_ne.mpr h0) _ (if_neg ?_)
  simp only [Bool.or_eq_true, Bool.and_eq_true, Bool.not_eq_true', not_or, not_and, Bool.not_eq_false]
  exact ⟨hm, hs⟩

/-- R45: a TFENCE on a matrix unit that has not finished holds its bundle back. -/
theorem tfence_held (h : Runs s n) (hb : c.sub.getLsbD 0 = true) (hm : (s.tile n).matrixIdle = false) :
    exec (.tfence n c) s = .next s := by
  have h0 : c.sub ≠ 0 := by
    rintro h0
    simp [h0] at hb
  rw [exec_tfence, execTfence, ctlOp_running h.1 (bne_iff_ne.mpr h0), if_pos (by simp [hb, hm])]

/-! ### BLK -/

/-- R72: what the beginning of a block leaves alone. -/
theorem Tile.enterBlock_frame (t : Tile) (table b : Nat) : (t.enterBlock table b).loops = t.loops ∧
    (t.enterBlock table b).bundle = t.bundle ∧ (t.enterBlock table b).codeBytes = t.codeBytes ∧ (t.enterBlock table b).uc = t.uc := by
  simp only [Tile.enterBlock]
  split <;> split <;> exact ⟨rfl, rfl, rfl, rfl⟩

theorem State.listCe_none (h : s.errs.inj = none) (t : Tile) (table b : Nat) : s.listCe n t table b = s := by
  rw [State.listCe, State.sramCe_none s h, State.sramCe_none s h]

/-- R72: BLK of a block that the image has, on a tile whose lists can be read: it begins, or it waits for an epoch value. -/
theorem blk_eq (h : Runs s n) (hr : Room s n) {p : Prog} (h0 : c.sub = 0) (hp : s.tileProg n = some p)
    (hb : c.imm.toNat < p.img.blockCount) (hu : (s.tile n).uc = []) :
    exec (.blk n c) s = .next (
      if ((s.tile n).misses p.img.blockTable c.imm.toNat && (s.tile n).epochBusy) = true then s
      else seqNext s n ((s.tile n).applyPost.enterBlock p.img.blockTable c.imm.toNat)) := by
  obtain ⟨hl, hbu, hc, huc⟩ := (s.tile n).applyPost.enterBlock_frame p.img.blockTable c.imm.toNat
  have hread : (s.tile n).listReadable p.img.blockTable c.imm.toNat = true := by simp [Tile.listReadable, Tile.bad_of_uc hu]
  rw [exec_blk, execBlk, ctlOp_running h.1 (decide_eq_true h0)]
  simp only [hp, Nat.not_le.mpr hb, if_false, hread, Bool.not_true, Bool.and_false, Bool.false_eq_true, State.listCe_none h.2,
    ite_self]
  rw [ctlNext_seqNext h hr _ hl hbu hc (huc ▸ List.Subset.refl _)]

/-! ### The markers and the ends -/

theorem phase_marks (h : Runs s n) (hr : Room s n) {p : Prog} (h0 : c.sub = 0) (hp : s.tileProg n = some p)
    (hi : c.imm.toNat < p.img.phases.length) :
    exec (.phase n c) s = .next (seqNext (s.onProg p.tag (fun p => { p with phase := c.imm.toNat })) n
      { (s.tile n).applyPost with phase := c.imm.toNat }) := by
  rw [exec_phase, execPhase, ctlOp_running h.1 (decide_eq_true h0)]
  simp only [hp, Nat.not_le.mpr hi, if_false]
  exact congrArg _ (ctlNext_seqNext (s := s.onProg _ _) h hr _)

theorem slice_passes (h : Runs s n) (hr : Room s n) (h0 : c.sub = 0) (hq : (s.tile n).holdReq = false) :
    exec (.slice n c) s = .next (seqNext s n { (s.tile n).applyPost with slice := c.imm.toNat }) := by
  rw [exec_slice]
  exact ctlOp_seqNext h hr (decide_eq_true h0) _ (by simp [hq])

theorem slice_holds (h : Runs s n) (h0 : c.sub = 0) (hq : (s.tile n).holdReq = true) (ha : (s.tile n).holdAt = none)
    (hd : (s.tile n).drained = true) :
    exec (.slice n c) s = .next ((s.setTile n
      { (s.tile n).applyPost with slice := c.imm.toNat, st := .sliceHold }).onProg ((s.tile n).prog.getD 0)
        (fun p => { p with reports := SMap.set none p.reports n (some c.imm.toNat) })) := by
  rw [exec_slice, execSlice, ctlOp_running h.1 (decide_eq_true h0)]
  simp [hq, ha, hd]

/-- R169: the event of a trap, by the program's NOTIFY_TRAP and what it has sent this cycle. -/
theorem State.trapEvent_off {p : Prog} (hp : s.tileProg n = some p) (ht : p.notifyTrap = false) (imm : Nat) :
    s.trapEvent n imm = s := by
  simp [State.trapEvent, hp, ht]

theorem State.trapEvent_counted {p : Prog} (hp : s.tileProg n = some p) (ht : p.notifyTrap = true) (hx : p.trapSent = true)
    (imm : Nat) : s.trapEvent n imm = s.onSched (fun x => { x with trapsDropped := satInc x.trapsDropped }) := by
  simp [State.trapEvent, hp, ht, hx]

theorem State.trapEvent_sent {p : Prog} (hp : s.tileProg n = some p) (ht : p.notifyTrap = true) (hx : p.trapSent = false)
    (imm : Nat) : s.trapEvent n imm = (s.onProg p.tag (fun p => { p with trapSent := true })).d2hEvent 0x0107
      (natLE 4 p.tag.toNat ++ natLE 2 n ++ natLE 2 0 ++ natLE 4 imm) := by
  simp [State.trapEvent, hp, ht, hx]

theorem trap_eq (h : Runs s n) (h0 : c.sub = 0) :
    exec (.trap n c) s = .next ((s.trapEvent n c.imm.toNat).ctlNext n (s.tile n).applyPost) := by
  rw [exec_trap]
  exact ctlOp_running h.1 (decide_eq_true h0) _

end Sys2Proof.Machine

open Sys2Proof Machine Claims

/-- Settles O4: WAIT, TFENCE and BLK by what they wait for, TRAP by what becomes of its event, and each other marker and end at once. -/
theorem controlWaitsAndMarkers : Obligations.ControlWaitsAndMarkers := by
  refine ⟨fun s n c h hr => ⟨wait_met h hr, fun h0 hl => ?_, fun h0 hm hb ht => ?_, tfence_idle h hr, tfence_held h⟩,
    fun s n c p h hr h0 hp => ⟨fun hi hu => ⟨fun hm => ?_, fun hm he => ?_⟩, phase_marks h hr h0 hp, slice_passes h hr h0,
      slice_holds h h0, ?_, ?_, fun ht => ?_, fun ht hx => ?_, fun ht hx => ?_⟩⟩
  · rw [wait_eq h.1 h0, if_pos hl]
  · rw [wait_eq h.1 h0, if_neg (Nat.not_lt.mpr hm), if_pos ⟨hb, ht⟩]
    rfl
  · rw [blk_eq h hr h0 hp hi hu, if_neg]
    rcases hm with hm | hm <;> simp [hm]
  · rw [blk_eq h hr h0 hp hi hu, if_pos (by simp [hm, he])]
  · exact (exec_phaseDone s).trans (ctlOp_running h.1 (decide_eq_true h0) _)
  · exact (exec_halt s).trans (ctlOp_running h.1 (decide_eq_true h0) _)
  · rw [trap_eq h h0, State.trapEvent_off hp ht, ctlNext_seqNext h hr _]
  · rw [trap_eq h h0, State.trapEvent_counted hp ht hx]
    exact congrArg _ (ctlNext_seqNext (s := s.onSched _) h hr _)
  · rw [trap_eq h h0, State.trapEvent_sent hp ht hx]
end

section
/-! PROOFS. The matrix slot and the matrix engine, and what settles O5 and O6. -/

namespace Sys2Proof.Machine
open Claims

variable {s : State} {n : Nat}

/-! ### Issue -/

/-- The post-increments of a matrix operation touch neither the queue nor the generator. -/
theorem Tile.matPost_queued (t : Tile) (m : MatSlot) (d : BitVec 256) (q : List MatOp) (g : W32) :
    ({ t with matQ := q, g := g } : Tile).matPost m d = { t.matPost m d with matQ := q, g := g } := by
  simp only [Tile.matPost]
  split <;> rfl

theorem Tile.matPost_matQ (t : Tile) (m : MatSlot) (d : BitVec 256) : (t.matPost m d).matQ = t.matQ := by
  simp only [Tile.matPost]
  split <;> rfl

theorem Tile.matPost_g (t : Tile) (m : MatSlot) (d : BitVec 256) : (t.matPost m d).g = t.g := by
  simp only [Tile.matPost]
  split <;> rfl

/-- R51: a matrix operation enters a queue that has room. -/
theorem matIssue_enters (h : (s.tile n).st = .running) (hq : (s.tile n).matQ.length < 2) (k : MatKind) (m : MatSlot) :
    matIssue k n m s = .next (s.setTile n { (s.tile n).matPost m (RF.at (s.tile n).md m.md) with
      matQ := ((s.tile n).matPost m (RF.at (s.tile n).md m.md)).matQ ++ [(s.tile n).matOp k m]
      g := if outDraws k (RF.at (s.tile n).md m.md) then draws (s.tile n).g 16 else (s.tile n).g }) := by
  rw [matIssue, State.withTile_running h]
  simp only [Nat.not_le.mpr hq, if_false, Tile.matPost_queued, Tile.matPost_matQ]

/-- R107: an operation that is not an output takes no draws when it issues. -/
theorem matIssue_enters_drawless (h : (s.tile n).st = .running) (hq : (s.tile n).matQ.length < 2) {k : MatKind}
    (hk : ∀ d, outDraws k d = false) (m : MatSlot) :
    matIssue k n m s = .next (s.setTile n { (s.tile n).matPost m (RF.at (s.tile n).md m.md) with
      matQ := ((s.tile n).matPost m (RF.at (s.tile n).md m.md)).matQ ++ [(s.tile n).matOp k m] }) := by
  have hg : (if outDraws k (RF.at (s.tile n).md m.md) = true then draws (s.tile n).g 16 else (s.tile n).g) =
      ((s.tile n).matPost m (RF.at (s.tile n).md m.md)).g := by
    rw [hk, if_neg Bool.false_ne_true, Tile.matPost_g]
  rw [matIssue_enters h hq, hg]

/-- R42: a full queue holds the operation back. -/
theorem matIssue_held (h : (s.tile n).st = .running) (hq : 2 ≤ (s.tile n).matQ.length) (k : MatKind) (m : MatSlot) :
    matIssue k n m s = .next s := by
  rw [matIssue, State.withTile_running h, if_pos hq]

/-! ### The engine -/

/-- R122: the front operation is ready when it is of a kind that is wanted. -/
theorem firstReady_front {want : MatKind → Bool} {o : MatOp} (h : want o.kind = true) (q : List MatOp) :
    firstReady want (o :: q) = some (0, o) := by
  cases q <;> simp [firstReady, h]

theorem firstReady_start {o : MatOp} (h : o.kind ≠ .mma) (hz : o.kind ≠ .mmaz) (q : List MatOp) :
    firstReady (fun k => k = .mout || k = .moutz || k = .mzero || k = .mload) (o :: q) = some (0, o) :=
  firstReady_front (by cases hk : o.kind <;> simp_all) q

theorem stepBad_of_uc {t : Tile} (h : t.uc = []) (o : MatOp) (a b : Nat) : stepBad t o a b = false := by
  simp [stepBad, Tile.bad_of_uc h]

theorem rowsBad_of_uc {t : Tile} (h : t.uc = []) (o : MatOp) (w : Nat) : rowsBad t o w = false := by
  simp [rowsBad, Tile.bad_of_uc h]

theorem State.stepCe_none (h : s.errs.inj = none) (o : MatOp) (a b : Nat) : s.stepCe n o a b = s := by
  simp only [State.stepCe, State.sramCe_none s h, ite_self]

theorem State.rowsCe_none (h : s.errs.inj = none) (o : MatOp) (w : Nat) : s.rowsCe n o w = s :=
  foldl_eq_self fun _ _ => State.sramCe_none s h _ _ _

/-- R397: a slot that the limiter does not grant admits nothing. -/
theorem matrixStepAdmit_ungranted (h : (s.tile n).st = .running) (hg : s.slotGranted n = false) :
    exec (.matrixStepAdmit n) s = .next s := by
  rw [exec_matrixStepAdmit, execMatrixStepAdmit, State.withTile_running h]
  simp only [hg, Bool.false_eq_true, if_false]

section
variable {o : MatOp} {q : List MatOp} (h : (s.tile n).st = .running) (hq : (s.tile n).matQ = o :: q)
include h hq

/-- R52, R121: what a granted slot does with an MMA or MMAZ at the front of the queue, on a tile with no uncorrectable word. -/
theorem matrixStepAdmit_eq (hi : s.errs.inj = none) (hu : (s.tile n).uc = []) (hg : s.slotGranted n = true)
    (hk : o.kind = .mma ∨ o.kind = .mmaz) (acc : AccSet)
    (ha : (if o.kind = .mmaz && o.done == 0 then AccSet.zeroed o.desc else RF.at (s.tile n).acc o.set) = acc)
    (hm : acc.fp64 = descFp64 o.desc)
    (hx : (o.aa.toNat + o.done * stepBytes (descFmtA o.desc)) % 2 ^ 20 % 32 = 0)
    (hy : (o.ab.toNat + o.done * stepBytes (descFmtB o.desc)) % 2 ^ 20 % 32 = 0) :
    exec (.matrixStepAdmit n) s = .next (s.setTile n { s.tile n with
      acc := RF.put (s.tile n).acc o.set (acc.step (s.tile n) o
        ((s.tile n).read ((o.aa.toNat + o.done * stepBytes (descFmtA o.desc)) % 2 ^ 20) (stepBytes (descFmtA o.desc)))
        ((s.tile n).read ((o.ab.toNat + o.done * stepBytes (descFmtB o.desc)) % 2 ^ 20) (stepBytes (descFmtB o.desc))))
      matQ := if o.done + 1 = o.count then q else { o with done := o.done + 1 } :: q }) := by
  have hr := firstReady_front (want := fun k => k = .mma || k = .mmaz) (o := o) (by simpa using hk) q
  rw [exec_matrixStepAdmit, execMatrixStepAdmit, State.withTile_running h]
  simp only [hg, if_true, hq, hr, ha, hm, bne_self_eq_false, Bool.and_false, Bool.false_eq_true, if_false, hx, hy, ne_eq,
    not_true_eq_false, or_self, stepBad_of_uc hu, State.stepCe_none hi, List.eraseIdx_cons_zero, List.set_cons_zero]
  rfl

/-- R120: MZERO zeroes its set in the mode of its descriptor. -/
theorem matrixOpStart_mzero (hk : o.kind = .mzero) : exec (.matrixOpStart n) s =
    .next (s.setTile n (({ s.tile n with matQ := q } : Tile).setAcc o.set (AccSet.zeroed o.desc))) := by
  rw [exec_matrixOpStart, execMatrixOpStart, State.withTile_running h]
  simp only [hq, firstReady_start (o := o) (by simp [hk]) (by simp [hk]),
    hk, List.eraseIdx_cons_zero]

/-- R122: MLOAD whose rows are aligned and can be read loads its set. -/
theorem matrixOpStart_mload (hi : s.errs.inj = none) (hu : (s.tile n).uc = []) (hk : o.kind = .mload)
    (ha : rowsAligned (if descFp64 o.desc then 0 else 14) o.aa.toNat (descWord o.desc 4).toNat = true) :
    exec (.matrixOpStart n) s = .next (s.setTile n (({ s.tile n with matQ := q } : Tile).setAcc o.set
      (loadSet { s.tile n with matQ := q } o))) := by
  rw [exec_matrixOpStart, execMatrixOpStart, State.withTile_running h]
  simp only [hq, firstReady_start (o := o) (by simp [hk]) (by simp [hk]),
    hk, List.eraseIdx_cons_zero, ha, Bool.true_eq_false, if_false,
    rowsBad_of_uc (t := { s.tile n with matQ := q }) hu, Bool.false_eq_true, State.rowsCe_none hi]

/-- R131: an output of a set in its descriptor's mode, with its rows aligned, writes its four rows; MOUTZ zeroes the set after. -/
theorem matrixOpStart_out (hk : o.kind = .mout ∨ o.kind = .moutz) (hm : (RF.at (s.tile n).acc o.set).fp64 = descFp64 o.desc)
    (ha : rowsAligned (descFmtOut o.desc) o.ac.toNat (descWord o.desc 4).toNat = true) :
    exec (.matrixOpStart n) s = .next (s.setTile n
      (let t := ({ s.tile n with matQ := q } : Tile).writeRows o (RF.at (s.tile n).acc o.set)
       if o.kind = .moutz then t.setAcc o.set { AccSet.zero with fp64 := (RF.at (s.tile n).acc o.set).fp64 } else t)) := by
  rw [exec_matrixOpStart, execMatrixOpStart, State.withTile_running h]
  rcases hk with hk | hk
  all_goals
    simp only [hq, firstReady_start (o := o) (by simp [hk]) (by simp [hk]),
      hk, List.eraseIdx_cons_zero, hm, bne_self_eq_false, Bool.false_eq_true, if_false, ha, Bool.true_eq_false]

end

end Sys2Proof.Machine

open Sys2Proof Machine Claims

/-- Settles O5: every matrix operation is one issue, which the state of the queue decides. -/
theorem matrixIssue : Obligations.MatrixIssue := by
  intro s n m
  simp only [exec_mnop, exec_mma, exec_mmaz, exec_mzero, exec_mload, exec_mout, exec_moutz]
  exact ⟨rfl, fun h hq => ⟨matIssue_enters_drawless h hq (fun _ => rfl) m, matIssue_enters_drawless h hq (fun _ => rfl) m,
    matIssue_enters_drawless h hq (fun _ => rfl) m, matIssue_enters_drawless h hq (fun _ => rfl) m,
    matIssue_enters h hq .mout m, matIssue_enters h hq .moutz m⟩, fun h hq => matIssue_held h hq .mma m⟩

/-- Settles O6: a slot by its grant, the front operation by its kind. -/
theorem matrixEngine : Obligations.MatrixEngine := by
  refine ⟨fun s n => matrixStepAdmit_ungranted, fun s n o q h hu hg hq hk => ?_, fun s n o q h hu hq => ?_⟩
  · intro t fa fb a b acc hm ha hb
    exact matrixStepAdmit_eq h.1 hq h.2 hu hg hk acc (by simp [acc, t]) hm ha hb
  · refine ⟨matrixOpStart_mzero h.1 hq, matrixOpStart_mload h.1 hq h.2 hu, fun hk hm ha => ?_, fun hk hm ha => ?_⟩
    · rw [matrixOpStart_out h.1 hq (.inl hk) hm ha]
      simp only [hk]
      rfl
    · rw [matrixOpStart_out h.1 hq (.inr hk) hm ha]
      simp only [hk]
      rfl
end

section
/-! PROOFS. The vector slot and the vector unit, and what settles O7, O8 and O9. -/

namespace Sys2Proof.Machine
open Claims

variable {s : State} {n : Nat} {v : VecSlot}

/-! ### Issue and writing back -/

/-- R42: a legal operation issues where no write is pending. -/
theorem vecIssue_issues (h : (s.tile n).st = .running) (hp : (s.tile n).vPend = []) {legal : Bool} (hl : legal = true)
    (vs : List (BitVec 5)) (ps : List (BitVec 2)) (f : Tile → State) : vecIssue n s vs ps legal f = .next (f (s.tile n)) := by
  have hv : (s.tile n).vPending = fun _ => false := funext fun r => by simp [Tile.vPending, hp]
  have hq : (s.tile n).pPending = fun _ => false := funext fun r => by simp [Tile.pPending, hp]
  rw [vecIssue, State.withTile_running h]
  simp [hl, hv, hq]

/-- R42: a register with a write pending holds a legal operation back. -/
theorem vecIssue_held (h : (s.tile n).st = .running) {legal : Bool} (hl : legal = true) {vs : List (BitVec 5)}
    (hp : vs.any (s.tile n).vPending = true) (ps : List (BitVec 2)) (f : Tile → State) :
    vecIssue n s vs ps legal f = .next s := by
  rw [vecIssue, State.withTile_running h]
  simp only [hl, Bool.true_eq_false, if_false, hp, Bool.true_or, if_true]

theorem arithFmt_of (hf : v.vfmt = 0 ∨ v.vfmt = 1 ∨ v.vfmt = 11) : arithFmt v.vfmt = true := by
  simpa [arithFmt, or_assoc] using hf

theorem floatFmt_of (hf : v.vfmt = 0 ∨ v.vfmt = 1) : floatFmt v.vfmt = true := by simpa [floatFmt] using hf

/-- R60: a result is written to the register or predicate that it waits for. -/
theorem vectorResultWrite_reg {i : Nat} {r : BitVec 5} {x : BitVec 1024} (h : (s.tile n).vPend[i]? = some (.reg r x)) :
    exec (.vectorResultWrite n i) s =
      .next (s.setTile n { s.tile n with vPend := (s.tile n).vPend.eraseIdx i, v := RF.put (s.tile n).v r x }) := by
  simp only [exec_vectorResultWrite, execVectorResultWrite, h]

theorem vectorResultWrite_pred {i : Nat} {r : BitVec 2} {m : W32} (h : (s.tile n).vPend[i]? = some (.pred r m)) :
    exec (.vectorResultWrite n i) s =
      .next (s.setTile n { s.tile n with vPend := (s.tile n).vPend.eraseIdx i, p := RF.put (s.tile n).p r m }) := by
  simp only [exec_vectorResultWrite, execVectorResultWrite, h]

/-! ### Comparison -/

/-- Setting one bit of a number changes that bit alone. -/
theorem testBit_setField_one (w lo x j : Nat) :
    (setField w lo 1 x).testBit j = if j = lo then x.testBit 0 else w.testBit j := by
  simp only [setField, Nat.testBit_or, Nat.testBit_shiftLeft, Nat.testBit_shiftRight, Nat.testBit_mod_two_pow]
  rcases Nat.lt_trichotomy j lo with h | h | h
  · simp [h, h.ne, Nat.not_le.mpr h, Nat.not_le.mpr (Nat.lt_succ_of_lt h)]
  · simp [h]
  · have hj : lo + 1 + (j - (lo + 1)) = j := by omega
    have hk : ¬ j - lo < 1 := by omega
    simp [h.ne', Nat.not_lt.mpr h.le, Nat.succ_le_of_lt h, h.le, hj, hk]

/-- R58: the bits of the enabled lanes follow their comparison, the others stay. -/
def cmpBits (on rel : Nat → Bool) (k old : Nat) : Nat :=
  (List.range k).foldl (fun m i => if on i then setField m i 1 (if rel i then 1 else 0) else m) old

theorem testBit_cmpBits (on rel : Nat → Bool) (old j : Nat) : ∀ k : Nat,
    (cmpBits on rel k old).testBit j = if j < k ∧ on j = true then rel j else old.testBit j
  | 0 => by simp [cmpBits]
  | k + 1 => by
    have ih := testBit_cmpBits on rel old j k
    have hstep : cmpBits on rel (k + 1) old =
        if on k then setField (cmpBits on rel k old) k 1 (if rel k then 1 else 0) else cmpBits on rel k old := by
      simp [cmpBits, List.range_succ]
    rw [hstep]
    by_cases hj : j = k
    · subst hj
      cases hon : on j
      · simp [ih]
      · cases hr : rel j <;> simp [testBit_setField_one]
    · have hlt : (j < k + 1) = (j < k) := propext (by omega)
      cases hon : on k <;> simp [testBit_setField_one, hj, hlt, ih]

/-- R58: VCMP of a defined relation leaves its bits waiting for a predicate other than P0. -/
theorem vcmp_waits (h : (s.tile n).st = .running) (hp : (s.tile n).vPend = []) (hf : arithFmt v.vfmt = true)
    (hr : v.vc.toNat % 8 ≠ 7) : exec (.vcmp n v) s = .next (
      if (v.vd.setWidth 2 : BitVec 2) = 0 then s
      else s.setTile n { s.tile n with vPend := [.pred (v.vd.setWidth 2) (BitVec.ofNat 32 (cmpBits
        (laneOn ((s.tile n).mask v.pred))
        (fun i => cmpLane (v.vc.toNat % 8) v.vfmt.toNat ((s.tile n).lane v v.va i) ((s.tile n).lane v v.vb i))
        (laneCount v.vfmt.toNat) (RF.at (s.tile n).p (v.vd.setWidth 2)).toNat))] }) := by
  rw [exec_vcmp, execVcmp, vecIssue_issues h hp (by simp [hf, hr]), hp]
  rfl

/-! ### Loads and stores -/

theorem vld_loads (h : Runs s n) (hp : (s.tile n).vPend = []) (hu : (s.tile n).uc = []) (hf : v.vfmt ≠ 14)
    (ha : (s.tile n).vecAddr v % 128 = 0) : exec (.vld n v) s = .next (s.setTile n ((s.tile n).pendLanes v
      (fun i => (s.tile n).read ((s.tile n).vecAddr v) 128 >>> (i * laneBits v.vfmt.toNat)))) := by
  rw [exec_vld, execVld, vecIssue_issues h.1 hp (bne_iff_ne.mpr hf)]
  simp only [ha, ne_eq, not_true_eq_false, if_false, Tile.bad_of_uc hu, Bool.false_eq_true, State.sramCe_none s h.2]

theorem vst_stores (h : Runs s n) (hp : (s.tile n).vPend = []) (hf : v.vfmt ≠ 14)
    (ha : (s.tile n).vecAddr v % 128 = 0) : exec (.vst n v) s = .next (s.setTile n ((s.tile n).writeMasked
      ((s.tile n).vecAddr v) (natLE 128 (RF.at (s.tile n).v v.vd).toNat)
      (fun i => laneOn ((s.tile n).mask v.pred) (i / (laneBits v.vfmt.toNat / 8))))) := by
  rw [exec_vst, execVst, vecIssue_issues h.1 hp (bne_iff_ne.mpr hf)]
  simp only [ha, ne_eq, not_true_eq_false, if_false]

/-! ### Conversions -/

theorem vcvti_converts (h : Runs s n) (hp : (s.tile n).vPend = []) (hl : convLegal v = true) (hf : v.vfmt ≠ 10)
    (hb : v.vb.toNat < cvtiRange v) : exec (.vcvti n v) s = .next (s.setTile n
      { (s.tile n).pendV v.vd (mergeLanes (if convTo64 v then 0 else 1) ((s.tile n).mask v.pred) (RF.at (s.tile n).v v.vd)
          (fun i => if i < cvtiCount v then (s.tile n).cvtiElem v i else 0)) with
        g := if (s.tile n).rnd.toNat = srm then draws (s.tile n).g (cvtiCount v) else (s.tile n).g }) :=
  (exec_vcvti s).trans (vecIssue_issues h.1 hp (by simp only [hl, bne_iff_ne.mpr hf, hb, decide_true, Bool.and_self]) _ _ _)

theorem vcvto_scale (h : Runs s n) (hp : (s.tile n).vPend = []) (hf : v.vfmt = 10)
    (hm : isMxFmt (v.vc.toNat / 2) false = true) (h0 : v.vc.getLsbD 0 = false) :
    exec (.vcvto n v) s = .next (s.setTile n ((s.tile n).cvtoScale v)) := by
  rw [exec_vcvto, execVcvto, if_pos hf]
  exact vecIssue_issues h.1 hp (by simp only [hm, h0, Bool.not_false, Bool.and_true]) _ _ _

theorem vcvto_group (h : Runs s n) (hp : (s.tile n).vPend = []) (hf : v.vfmt ≠ 10) (hl : convLegal v = true)
    (h0 : v.vc.getLsbD 0 = false) (hb : v.vb.toNat < groupsOf v.vfmt.toNat) :
    exec (.vcvto n v) s = .next (s.setTile n ((s.tile n).cvtoGroup v)) := by
  rw [exec_vcvto, execVcvto, if_neg hf]
  exact vecIssue_issues h.1 hp (by simp only [hl, h0, hb, Bool.not_false, Bool.and_true, decide_true]) _ _ _

end Sys2Proof.Machine

open Sys2Proof Machine Claims

/-- Settles O7: each operation issues as a legal one, which pending writes hold back; a result is written by its kind. -/
theorem vectorArithmetic : Obligations.VectorArithmetic := by
  refine ⟨fun s n v h hp hf => ?_, fun s n => ⟨fun i r x => vectorResultWrite_reg, fun i r m => vectorResultWrite_pred,
    fun v h hf hp => ?_⟩⟩
  · have issues := vecIssue_issues h hp (arithFmt_of hf)
    simp only [exec_vadd, exec_vsub, exec_vmul, exec_vfma, exec_vred, execVadd, execVsub, execVmul, execVfma, execVred, vecBin, issues, true_and]
  · have hany : [v.va, v.vb, v.vd].any (s.tile n).vPending = true := by simpa using hp
    rw [exec_vadd, execVadd, vecBin, vecIssue_held h (arithFmt_of hf) hany]

/-- Settles O8: every lane operation issues as a legal one. -/
theorem vectorLaneOperations : Obligations.VectorLaneOperations := by
  intro s n v
  simp only [exec_vnop, exec_vmin, exec_vmax, exec_vabs, exec_vneg, exec_vand, exec_vor, exec_vxor, exec_vshl, exec_vshr, exec_vsel,
    exec_vperm, exec_vbcast, exec_vrcp, exec_vrsq, exec_vexp2, exec_vlog2]
  refine ⟨rfl, fun h hp => ⟨fun hf => ?_, fun hf => ?_⟩⟩
  · have issues := vecIssue_issues h hp (arithFmt_of hf)
    simp only [execVmin, execVmax, execVabs, execVneg, execVand, execVor, execVxor, execVshl, execVshr, execVsel, execVperm, vecTwo,
      vecUn, issues, true_and]
    exact fun hb => vecIssue_issues h hp (by simp only [arithFmt_of hf, hb, decide_true, Bool.and_self]) _ _ _
  · have issues := vecIssue_issues h hp (floatFmt_of hf)
    simp only [execVrcp, execVrsq, execVexp2, execVlog2, vecUn, issues, true_and]

/-- Settles O9: VCMP by its predicate, and its bits one by one; each conversion and move as a legal operation. -/
theorem vectorCompareConvertMove : Obligations.VectorCompareConvertMove := by
  intro s n v h hp hu
  refine ⟨fun hf hr => ⟨fun h0 => ?_, fun h0 => ?_⟩, vcvti_converts h hp, vcvto_scale h hp, vcvto_group h hp,
    fun hf ha => ⟨vld_loads h hp hu hf ha, vst_stores h hp hf ha⟩⟩
  · rw [vcmp_waits h.1 hp (arithFmt_of hf) hr, if_pos h0]
  · rw [vcmp_waits h.1 hp (arithFmt_of hf) hr, if_neg h0]
    refine ⟨_, rfl, fun i hi => ?_⟩
    rw [BitVec.getLsbD_ofNat, testBit_cmpBits, decide_eq_true hi, Bool.true_and]
    rfl
end

section
/-! PROOFS. Where a running tile stops, and what settles O10. -/

namespace Sys2Proof.Machine
open Claims

variable {s : State} {n : Nat}

/-! ### What a fault leaves alone -/

/-- A log entry keeps a view of the state that holds neither the log nor the outputs. -/
theorem State.log_keeps {γ : Type} {v : State → γ} (hl : ∀ (s : State) f, v (s.onLog f) = v s)
    (ho : ∀ (s : State) o, v (s.emit o) = v s) (s : State) (core sev : Nat) (p : List Byte) (x : Bool) :
    v (s.log core sev p x) = v s := by
  simp only [State.log]
  split
  · rfl
  · split
    · rw [ho, hl]
    · rw [hl]

@[simp] theorem State.raise'_serac (s : State) (r : Raise) : (s.raise' r).serac = s.serac :=
  State.raise'_keeps (v := State.serac) (fun _ _ => rfl) (State.log_keeps (fun _ _ => rfl) (fun _ _ => rfl)) s r

/-- R73: a fault makes the tile a stopped one and changes nothing else of it. -/
theorem State.tile_tileFault (s : State) (n code : Nat) : (s.tileFault n code).tile n = { s.tile n with st := .stopped } := by
  have htile (u : State) (h : u.serac.tiles = (s.setTile n { s.tile n with st := .stopped }).serac.tiles) :
      u.tile n = { s.tile n with st := .stopped } := by
    rw [State.tile, h]
    exact State.tile_setTile s n _
  simp only [State.tileFault]
  split
  · exact htile _ (by simp [State.abortProg]; rfl)
  · exact htile _ (by simp; rfl)

/-! ### Illegal operations -/

/-- R46: a control operation whose SUB value it does not define. -/
theorem ctlOp_undefined (h : (s.tile n).st = .running) {ok : Bool} (hk : ok = false) (f : Tile → State) :
    ctlOp s n ok f = .next (s.tileFault n faultIllegalOp) := by
  rw [ctlOp, State.withTile_running h, if_neg (by simp [hk])]

/-- R48: a LOOP at an active level. -/
theorem loop_active (h : (s.tile n).st = .running) {c : CtlSlot} (hl : RF.at (s.tile n).loops c.sub ≠ none) :
    exec (.loop n c) s = .next (s.tileFault n faultLoopDepth) := by
  rw [exec_loop, execLoop, State.withTile_running h]
  simp only [Option.isSome_iff_ne_none.mpr hl, if_true]

/-- A mode above 4 or a high bit set makes the immediate more than 4. -/
theorem imm_of_extracts {i : BitVec 20} (h : 5 ≤ (i.extractLsb' 0 3).toNat ∨ i.extractLsb' 3 17 ≠ 0) : 4 < i.toNat := by
  rcases h with h | h
  · rw [BitVec.extractLsb'_toNat] at h
    have := Nat.mod_le (i.toNat >>> 0) (2 ^ 3)
    rw [Nat.shiftRight_zero] at *
    omega
  · by_contra hi
    refine h (BitVec.eq_of_toNat_eq ?_)
    rw [BitVec.extractLsb'_toNat, Nat.shiftRight_eq_div_pow]
    rw [Nat.div_eq_of_lt (show i.toNat < 2 ^ 3 by omega)]
    rfl

/-- R102: a SETRND whose immediate is no rounding mode. -/
theorem setrnd_undefined (h : (s.tile n).st = .running) {c : CtlSlot} (hs : c.sub = 0 ∨ c.sub = 1) (hi : 4 < c.imm.toNat) :
    exec (.setrnd n c) s = .next (s.tileFault n faultIllegalOp) := by
  have hk : decide (c.sub.toNat < 2) = true := by rcases hs with hs | hs <;> simp [hs]
  rw [exec_setrnd, execSetrnd, ctlOp_running h hk, if_pos hi]

/-- R46: a vector operation of a form that is refused. -/
theorem vecIssue_illegal (h : (s.tile n).st = .running) {legal : Bool} (hl : legal = false) (vs : List (BitVec 5))
    (ps : List (BitVec 2)) (f : Tile → State) : vecIssue n s vs ps legal f = .next (s.tileFault n faultIllegalOp) := by
  rw [vecIssue, State.withTile_running h, if_pos hl]

/-! ### Links off the die (R65) -/

/-- The directions that leave the die from a tile at its edge. -/
theorem nbr_of_edge {d : BitVec 2} (h : d = 0 ∧ n / 16 % 16 = 15 ∨ d = 1 ∧ n % 16 = 15 ∨ d = 2 ∧ n / 16 % 16 = 0 ∨ d = 3 ∧ n % 16 = 0) :
    nbr n d = none := by
  rcases h with ⟨rfl, h⟩ | ⟨rfl, h⟩ | ⟨rfl, h⟩ | ⟨rfl, h⟩ <;> exact if_pos h

theorem linkIssue_edge (h : (s.tile n).st = .running) {x : StrSlot} {dir2 : Bool} (hx : strReserved x dir2 false false = true)
    (he : nbr n x.dir = none ∨ dir2 = true ∧ nbr n x.dir2 = none) (aligned : Bool) (free : Tile → Bool) (f : Tile → State) :
    linkIssue n x s dir2 aligned free f = .next (s.tileFault n faultEdgeLink) := by
  have hedge : ((nbr n x.dir).isNone || (dir2 && (nbr n x.dir2).isNone)) = true := by simpa using he
  rw [linkIssue, State.withTile_running h]
  simp only [hx, Bool.true_eq_false, if_false, hedge, if_true]

/-! ### The matrix engine -/

section
variable {o : MatOp} {q : List MatOp} (h : (s.tile n).st = .running) (hq : (s.tile n).matQ = o :: q)
include h hq

/-- R121: an MMA that begins on a set of another mode. -/
theorem matrixStepAdmit_mode (hg : s.slotGranted n = true) (hk : o.kind = .mma) (hd : o.done = 0)
    (hm : (RF.at (s.tile n).acc o.set).fp64 ≠ descFp64 o.desc) :
    exec (.matrixStepAdmit n) s = .next (s.tileFault n faultBadDescriptor) := by
  rw [exec_matrixStepAdmit, execMatrixStepAdmit, State.withTile_running h]
  simp only [hg, if_true, hq, firstReady_front (want := fun k => k = .mma || k = .mmaz) (o := o) (by simp [hk])]
  simp [hk, hd, hm]

/-- R121: an output of a set of another mode. -/
theorem matrixOpStart_mode (hk : o.kind = .mout ∨ o.kind = .moutz) (hm : (RF.at (s.tile n).acc o.set).fp64 ≠ descFp64 o.desc) :
    exec (.matrixOpStart n) s = .next (s.tileFault n faultBadDescriptor) := by
  rw [exec_matrixOpStart, execMatrixOpStart, State.withTile_running h]
  rcases hk with hk | hk
  all_goals simp only [hq, firstReady_start (o := o) (by simp [hk]) (by simp [hk]), hk, bne_iff_ne.mpr hm, if_true]

/-- R57: an output whose rows are not aligned. -/
theorem matrixOpStart_outMisaligned (hk : o.kind = .mout ∨ o.kind = .moutz) (hm : (RF.at (s.tile n).acc o.set).fp64 = descFp64 o.desc)
    (ha : rowsAligned (descFmtOut o.desc) o.ac.toNat (descWord o.desc 4).toNat = false) :
    exec (.matrixOpStart n) s = .next (s.tileFault n faultMisaligned) := by
  rw [exec_matrixOpStart, execMatrixOpStart, State.withTile_running h]
  rcases hk with hk | hk
  all_goals simp only [hq, firstReady_start (o := o) (by simp [hk]) (by simp [hk]), hk, hm, bne_self_eq_false, Bool.false_eq_true,
    if_false, ha, if_true]

/-- R57: an MLOAD whose rows are not aligned. -/
theorem matrixOpStart_mloadMisaligned (hk : o.kind = .mload)
    (ha : rowsAligned (if descFp64 o.desc then 0 else 14) o.aa.toNat (descWord o.desc 4).toNat = false) :
    exec (.matrixOpStart n) s = .next (s.tileFault n faultMisaligned) := by
  rw [exec_matrixOpStart, execMatrixOpStart, State.withTile_running h]
  simp only [hq, firstReady_start (o := o) (by simp [hk]) (by simp [hk]), hk, ha, if_true]

end

end Sys2Proof.Machine

open Sys2Proof Machine Claims

/-- Settles O10, one lemma for each fault; a fault changes nothing of its tile but that it stops. -/
theorem tileFaults : Obligations.TileFaults := by
  intro s n h
  refine ⟨fun c => loop_active h, fun c hs hi => setrnd_undefined h hs (imm_of_extracts hi), fun v h0 h1 h11 => ?_,
    fun x h0 ha => ⟨fun he h2 => ?_, fun he => ?_⟩,
    fun o q hq hm => ⟨fun hk hd hg => matrixStepAdmit_mode h hq hg hk hd hm, fun hk => matrixOpStart_mode h hq hk hm⟩,
    fun o q hq => ?_, fun code => ?_⟩
  · have hl : arithFmt v.vfmt = false := by simpa [arithFmt] using ⟨⟨h0, h1⟩, h11⟩
    simp only [exec_vadd, exec_vsub, exec_vmul, exec_vfma, execVadd, execVsub, execVmul, execVfma, vecBin, vecIssue_illegal h hl]
    exact ⟨rfl, rfl, rfl, rfl⟩
  · have hx : strReserved x false false false = true := by simp [strReserved, h0, ha, h2]
    simp only [exec_ssend, exec_srecv, execSsend, execSrecv, linkIssue_edge h hx (.inl (nbr_of_edge he))]
    exact ⟨rfl, rfl⟩
  · have hx : strReserved x true false false = true := by simp [strReserved, h0, ha]
    have hn : nbr n x.dir = none ∨ true = true ∧ nbr n x.dir2 = none := he.imp nbr_of_edge fun h => ⟨rfl, nbr_of_edge h⟩
    simp only [exec_spass, exec_spassw, execSpass, execSpassw, passIssue, linkIssue_edge h hx hn]
    exact ⟨rfl, rfl⟩
  · rintro stride (⟨hk, ha⟩ | ⟨hk, hm, ha⟩)
    · exact matrixOpStart_mloadMisaligned h hq hk ha
    · exact matrixOpStart_outMisaligned h hq hk hm ha
  · rw [State.tile_tileFault]
    exact ⟨rfl, rfl⟩
end

section
/-! PROOFS. The links of a running tile, and what settles O11 and O12. -/

namespace Sys2Proof.Machine
open Claims

variable {s : State} {n : Nat}

/-! ### Issue (R61 to R65) -/

/-- A link operation whose directions stay on the die, whose address is aligned where it uses the SRAM, and whose channels are free. -/
theorem linkIssue_takes (h : (s.tile n).st = .running) {x : StrSlot} {dir2 aligned : Bool} {free : Tile → Bool}
    (hx : strReserved x dir2 false false = true) (hn : nbr n x.dir ≠ none) (hn2 : dir2 = true → nbr n x.dir2 ≠ none)
    (ha : aligned = true → (RF.at (s.tile n).a x.areg).toNat % 64 = 0) (hf : free (s.tile n) = true) (f : Tile → State) :
    linkIssue n x s dir2 aligned free f = .next (f (s.tile n)) := by
  have hedge : ((nbr n x.dir).isNone || (dir2 && (nbr n x.dir2).isNone)) = false := by
    simpa only [Bool.or_eq_false_iff, Bool.and_eq_false_imp, Option.isNone_eq_false_iff, Option.isSome_iff_ne_none] using ⟨hn, hn2⟩
  have halign : (aligned && (RF.at (s.tile n).a x.areg).toNat % 64 != 0) = false := by simpa using ha
  rw [linkIssue, State.withTile_running h]
  simp only [hx, Bool.true_eq_false, if_false, hedge, Bool.false_eq_true, halign, hf, if_true]

theorem sendFree_of_idle {t : Tile} {d : BitVec 2} (h : RF.at t.sendCh d = .idle) : sendFree t d = true := by
  simp only [sendFree, h]

theorem recvFree_of_none {t : Tile} {d : BitVec 2} (h : RF.at t.recvCh d = none) : recvFree t d = true := by
  simp only [recvFree, h, Option.isNone_none]

/-! ### One flit (R63, R64) -/

/-- A neighbour is another tile. -/
theorem nbr_ne {d : BitVec 2} {m : Nat} (h : nbr n d = some m) : m ≠ n := by
  unfold nbr at h
  simp only at h
  split at h
  all_goals
    split at h
    · cases h
    · cases h
      omega

@[simp] theorem State.tile_onTile (s : State) (n : Nat) (f : Tile → Tile) : (s.onTile n f).tile n = f (s.tile n) :=
  s.tile_setTile n _

theorem State.tile_onTile_other (s : State) {n m : Nat} (h : m ≠ n) (f : Tile → Tile) : (s.onTile n f).tile m = s.tile m :=
  s.tile_setTile_other n m _ h

/-- R38: a send from correctable words, with no injection armed, carries them unpoisoned. -/
theorem State.sendFlit_clean (hi : s.errs.inj = none) (hu : (s.tile n).uc = []) (a : Nat) :
    s.sendFlit n a = (⟨BitVec.ofNat 512 ((s.tile n).read a 64), false⟩, s) := by
  have hfind : (List.range 4).find? (fun i => s.injects (tileUnit n) 3 (a + 16 * i) 16) = none := by
    simp [State.injects_none s hi]
  simp only [State.sendFlit, hfind, Tile.bad_of_uc hu, State.sramCe_none s hi]

/-- R63: a flit on the wire towards a neighbour uses a credit and is the last on that wire; nothing else of the tile changes. -/
theorem State.tile_wireOut {d : BitVec 2} {m : Nat} (hd : nbr n d = some m) (f : Flit) :
    (s.wireOut n d f).tile n = { s.tile n with credit := RF.put (s.tile n).credit d (RF.at (s.tile n).credit d - 1) } := by
  simp only [State.wireOut, hd]
  rw [State.tile_onTile_other _ (nbr_ne hd).symm, State.tile_onTile]

theorem State.tile_wireOut_neighbour {d : BitVec 2} {m : Nat} (hd : nbr n d = some m) (f : Flit) :
    RF.at ((s.wireOut n d f).tile m).wire (opp d) = RF.at (s.tile m).wire (opp d) ++ [f] := by
  simp only [State.wireOut, hd, State.tile_onTile, RF.at_put_same]
  rw [State.tile_onTile_other _ (nbr_ne hd)]

/-- R63: the last flit of an SSEND. -/
theorem State.trySend_last {d : BitVec 2} {op : SendOp} (hi : s.errs.inj = none) (hb : s.isBridge n = false)
    (hu : (s.tile n).uc = []) (hs : RF.at (s.tile n).sendCh d = .send op) (hl : op.left = 1)
    (hc : RF.at (s.tile n).credit d ≠ 0) :
    s.trySend n d = some ((s.onTile n (fun t => { t with sendCh := RF.put t.sendCh d .idle }.finish (.cc op.cc) 0)).wireOut n d
      ⟨BitVec.ofNat 512 ((s.tile n).read op.addr.toNat 64), false⟩, [⟨n, d, true⟩]) := by
  simp only [State.trySend, hc, if_false, hb, Bool.false_eq_true, hs, State.sendFlit_clean hi hu, hl, le_refl, if_true]

end Sys2Proof.Machine

open Sys2Proof Machine Claims

/-- Settles O11: each link operation is one issue, with the channels that it takes. -/
theorem linkIssue : Obligations.LinkIssue := by
  intro s n x t k a
  refine ⟨rfl, fun h hr ht hn => ⟨fun h2 ha hs => ?_, fun h2 ha hv => ?_, fun hn2 hv hs => ?_⟩⟩
  · have hx : strReserved x false false false = true := by simp [strReserved, hr, ht, h2]
    exact (exec_ssend s).trans (linkIssue_takes h hx hn (fun e => nomatch e) (fun _ => ha) (sendFree_of_idle hs) _)
  · have hx : strReserved x false false false = true := by simp [strReserved, hr, ht, h2]
    exact (exec_srecv s).trans (linkIssue_takes h hx hn (fun e => nomatch e) (fun _ => ha) (recvFree_of_none hv) _)
  · have hx : strReserved x true false false = true := by simp [strReserved, hr, ht]
    have hf : (recvFree t x.dir && sendFree t x.dir2) = true := by rw [recvFree_of_none hv, sendFree_of_idle hs]; rfl
    simp only [exec_spass, exec_spassw, execSpass, execSpassw, passIssue]
    exact ⟨linkIssue_takes h hx hn (fun _ => hn2) (fun e => absurd e (by decide)) hf _,
      fun ha => linkIssue_takes h hx hn (fun _ => hn2) (fun _ => ha) hf _⟩

/-- Settles O12: an arrival, a completion, and the last flit of a send. -/
theorem linkFlits : Obligations.LinkFlits := by
  intro s n
  refine ⟨fun d f rest hw => ?_, fun k code rest hd => ?_, fun d op m hi hb hu hd hs hl hc => ?_⟩
  · simp only [exec_flitArrive, execFlitArrive, hw, State.onTile]
  · simp only [exec_streamOpComplete, execStreamOpComplete, hd]
    rfl
  · refine ⟨_, State.trySend_last hi hb hu hs hl hc, ?_⟩
    rw [State.tile_wireOut hd, State.tile_wireOut_neighbour hd, State.tile_onTile, State.tile_onTile_other _ (nbr_ne hd)]
    exact ⟨rfl, rfl, RF.at_put_same _ _ _, rfl⟩
end

section
/-! PROOFS. The memory operations of the stream slot, and what settles O13. -/

namespace Sys2Proof.Machine
open Claims

variable {s : State} {n : Nat}

/-- R62, R162: the queue entry of an operation that passes its check in segment `g`. -/
def Tile.memOp (u : Tile) (t : Tile) (x : StrSlot) (g : Seg) (kind : MemKind) (bytes : Nat) : MemOp :=
  { id := u.nextOp, kind := kind, addr := RF.at t.a x.areg, ga := (g.base.toNat + (RF.at t.s x.sreg).toNat % 2 ^ 40) % 2 ^ 48,
    fc := g.fc, bytes := bytes, cc := x.cc, atop := x.atop, sent := 0, done := 0, code := 0 }

/-- R62, R162: what an operation comes to once its shape is right: it enters the queue, or completes with ACCESS_DENIED. -/
def State.memOutcome (s : State) (n : Nat) (x : StrSlot) (g : Seg) (kind : MemKind) (bytes : Nat) (ok : Bool) : State :=
  let t := s.tile n
  let u := t.memPost x kind bytes
  if ok then s.setTile n { u with memQ := u.memQ ++ [u.memOp t x g kind bytes], nextOp := u.nextOp + 1 }
  else s.setTile n (u.finish (.cc x.cc) scDenied)

section
variable {x : StrSlot} {p : Prog} (h : (s.tile n).st = .running) (hp : s.tileProg n = some p) (hd : x.dir2 = 0)
  (hq : (s.tile n).memQ.length < 16)
include h hp hd hq

/-- An operation with its reserved fields 0, its addresses aligned and room in the queue comes to its outcome. -/
theorem memIssue_outcome {kind : MemKind} {bytes align : Nat} (hm : memShape kind x.count = (bytes, align))
    (ht : kind = .gat ∨ x.atop = 0)
    (hb : kind = .gat → x.count.toNat ≤ 2 ∧
      (atomSize x.atop.toNat (if bytes = 4 then 0 else if bytes = 8 then 1 else 3)).isSome = true)
    (ho : (RF.at (s.tile n).s x.sreg).toNat % 2 ^ 40 % align = 0)
    (ha : kind.usesSram = true → (RF.at (s.tile n).a x.areg).toNat % align = 0) {ok : Bool}
    (hok : ((RF.at p.segs ((RF.at (s.tile n).s x.sreg).extractLsb' 60 4)).ok kind.right
      ((RF.at (s.tile n).s x.sreg).toNat % 2 ^ 40) bytes && (kind != .gstf || p.privCh.isSome)) = ok) :
    memIssue kind n x s =
      .next (s.memOutcome n x (RF.at p.segs ((RF.at (s.tile n).s x.sreg).extractLsb' 60 4)) kind bytes ok) := by
  have hx : strReserved x false true (kind = .gat) = true := by simpa [strReserved, hd] using ht
  have hsize : (decide (kind = .gat) && (decide (2 < x.count.toNat) ||
      (atomSize x.atop.toNat (if bytes = 4 then 0 else if bytes = 8 then 1 else 3)).isNone)) = false := by
    rw [Bool.and_eq_false_imp]
    intro hk
    obtain ⟨hc, hs⟩ := hb (of_decide_eq_true hk)
    rw [decide_eq_false (Nat.not_lt.mpr hc), Option.isNone_eq_false_iff.mpr hs]
    rfl
  have halign : ((RF.at (s.tile n).s x.sreg).toNat % 2 ^ 40 % align != 0 ||
      (kind.usesSram && (RF.at (s.tile n).a x.areg).toNat % align != 0)) = false := by
    rw [ho]
    simpa using ha
  rw [memIssue, State.withTile_running h]
  simp only [hm, hx, Bool.true_eq_false, if_false, hsize, Bool.false_eq_true, halign, Nat.not_le.mpr hq, hp, Option.bind_some, hok]
  rfl

end

end Sys2Proof.Machine

open Sys2Proof Machine Claims

/-- Settles O13: every memory operation is one issue, whose check decides its outcome. -/
theorem memoryIssue : Obligations.MemoryIssue := by
  intro s n x p h hp hd hq
  have issues (kind : MemKind) (bytes align : Nat) := memIssue_outcome h hp hd hq (kind := kind) (bytes := bytes) (align := align)
  have plain {kind : MemKind} (hk : kind ≠ .gat) {P : Prop} : kind = .gat → P := fun e => absurd e hk
  simp only [exec_frd, exec_fwr, exec_ffl, exec_fiv, exec_gld, exec_gst, exec_gstf, exec_gat, execFrd, execFwr, execFfl, execFiv, execGld,
    execGst, execGstf, execGat]
  refine ⟨fun ht ho => ⟨fun ha => ⟨?_, ?_⟩, ?_, ?_⟩, fun ht ho ha => ⟨?_, ?_, ?_⟩, fun hc ht h2 h4 ho ha => ?_, fun hc ht ho ha => ?_,
    fun hc ht ho ha => ?_⟩
  · exact issues .frd (256 * strCount x.count) 256 rfl (.inr ht) (plain (by decide)) ho (fun _ => ha) (Bool.and_true _)
  · exact issues .fwr (256 * strCount x.count) 256 rfl (.inr ht) (plain (by decide)) ho (fun _ => ha) (Bool.and_true _)
  · exact issues .ffl (256 * strCount x.count) 256 rfl (.inr ht) (plain (by decide)) ho (fun e => nomatch e) (Bool.and_true _)
  · exact issues .fiv (256 * strCount x.count) 256 rfl (.inr ht) (plain (by decide)) ho (fun e => nomatch e) (Bool.and_true _)
  · exact issues .gld (8 * strCount x.count) 8 rfl (.inr ht) (plain (by decide)) ho (fun _ => ha) (Bool.and_true _)
  · exact issues .gst (8 * strCount x.count) 8 rfl (.inr ht) (plain (by decide)) ho (fun _ => ha) (Bool.and_true _)
  · exact issues .gstf (8 * strCount x.count) 8 rfl (.inr ht) (plain (by decide)) ho (fun _ => ha) rfl
  · have hs : (atomSize x.atop.toNat 0).isSome = true := by
      have h2' : x.atop.toNat ≠ 2 := fun e => h2 (BitVec.eq_of_toNat_eq e)
      have h4' : x.atop.toNat ≠ 4 := fun e => h4 (BitVec.eq_of_toNat_eq e)
      simp [atomSize, h2', h4', ht]
    exact issues .gat 4 4 (by rw [hc]; rfl) (.inl rfl) (fun _ => ⟨by simp [hc], hs⟩) ho (fun _ => ha) (Bool.and_true _)
  · have hs : (atomSize x.atop.toNat 1).isSome = true := by simp [atomSize, ht]
    exact issues .gat 8 8 (by rw [hc]; rfl) (.inl rfl) (fun _ => ⟨by simp [hc], hs⟩) ho (fun _ => ha) (Bool.and_true _)
  · exact issues .gat 16 16 (by rw [hc]; rfl) (.inl rfl) (fun _ => ⟨by simp [hc], by rw [ht]; rfl⟩) ho (fun _ => ha) (Bool.and_true _)
end

section
/-! PROOFS. The run-ahead unit, and what settles O14. -/

namespace Sys2Proof.Machine
open Claims

variable {s : State} {n : Nat}

/-- R38: with no injection armed the lists of the blocks reached are read without an event. -/
theorem State.listCes_none (h : s.errs.inj = none) (t : Tile) (table : Nat) (bs : List Nat) :
    bs.foldl (fun s b => s.listCe n t table b) s = s :=
  foldl_eq_self fun b _ => State.listCe_none h t table b

/-- R69, R70: the first entry of the block that runs is requested where its part can be. -/
theorem runaheadIssue_requests {p : Prog} {t : Tile} (hp : s.tileProg n = some p) (h : Runs s n)
    (ht : reachMore p.img.blockTable p.img.blockCount 4 (s.tile n) = t) {e : RaEntry} {es : List RaEntry} {off len : Nat}
    (hl : (s.tile n).ra.out.length < 32) (he : t.ra.entries = e :: es) (hc : t.ra.block = some e.block) (hr : e.redo = [])
    (hs : e.shapeOk = true) (hk : (RF.at p.segs e.seg).ok .rd e.off.toNat e.len = true)
    (hq : e.part (RF.at p.segs e.seg) true ((RF.at p.segs e.seg).fc ||
      s.portScratch n ((RF.at p.segs e.seg).base.toNat + e.off.toNat + e.sent)) = some (off, len)) :
    exec (.runaheadIssue n) s = .next (s.setTile n { t with ra := { t.ra with
      entries := t.ra.entries.map (fun x => if x.id = e.id then { e with sent := e.sent + len } else x)
      out := t.ra.out ++ [⟨t.ra.nextId, t.ra.epoch, e.id, off, len,
        ((RF.at p.segs e.seg).base.toNat + e.off.toNat + off) % 2 ^ 48, (RF.at p.segs e.seg).fc, false, false, none⟩]
      nextId := t.ra.nextId + 1 } }) := by
  have hgo : ((s.tile n).st != .running || decide (32 ≤ (s.tile n).ra.out.length)) = false := by
    simpa [h.1] using hl
  have hcur : (t.ra.block == some e.block) = true := by simp [hc]
  simp only [exec_runaheadIssue, execRunaheadIssue, hp, hgo, Bool.false_eq_true, if_false, ht, State.listCes_none h.2]
  simp only [he, List.findSome?_cons, hs, Bool.true_eq_false, if_false, hk, hcur, hq, Option.map_some, Bool.not_true, Bool.true_and, hr,
    List.head?_nil]
  simp

/-- R72: a reply of another epoch is dropped. -/
theorem runaheadReply_drops {id : Nat} {q : RaReq} {r : RaRsp} (hf : (s.tile n).ra.out.find? (fun q => q.id == id) = some q)
    (hr : q.rsp = some r) (he : q.epoch ≠ (s.tile n).ra.epoch) :
    exec (.runaheadReply n id) s = .next (s.setTile n { s.tile n with
      ra := { (s.tile n).ra with out := (s.tile n).ra.out.filter (fun x => x.id != id) } }) := by
  simp only [exec_runaheadReply, execRunaheadReply, hf, hr, he, if_false]

end Sys2Proof.Machine

open Sys2Proof Machine Claims

/-- Settles O14: the first eligible entry, and a reply of another epoch. -/
theorem runAhead : Obligations.RunAhead := by
  intro s n p hp h t
  refine ⟨fun e es off len hl he hc hr hs hk hq => ?_, fun id q r hf hr he => runaheadReply_drops hf hr he⟩
  refine ⟨_, runaheadIssue_requests hp h rfl hl he hc hr hs hk hq, ?_⟩
  rw [State.tile_setTile]
  exact ⟨rfl, rfl⟩
end

section
/-! PROOFS. The steps of a preemption and the end of a program: what settles O17 and O19. -/

namespace Sys2Proof.Machine
open Claims

variable {s : State} {tag : W32} {p : Prog} (hp : s.prog? tag = some p)
include hp

/-! ### Preemption (R82, R176, R177) -/

theorem sliceReportsComplete_sets (hr : p.st = .running) (hq : p.preempting = true) (ht : p.sliceT = none)
    (ha : s.allHold p = true) (hh : s.allHalted p = false) :
    let t := p.reports.foldl (fun m r => max m (r.2.getD 0)) 0
    let lower := p.tiles.filter (fun n => (s.tile n).st = .sliceHold && (s.tile n).slice < t)
    exec (.sliceReportsComplete tag) s = .next (((s.onProg tag (fun p =>
        { p with sliceT := some t, reports := lower.foldl (fun r n => SMap.del n r) p.reports })).onTiles p.tiles
      (fun x => { x with holdAt := some t })).runOn lower (fun x => x)) := by
  simp only [exec_sliceReportsComplete, execSliceReportsComplete, hp]
  exact if_pos (by simp [hr, hq, ht, ha, hh])

theorem preemptAllHeld_saves (hh : s.heldForSave p = true) (hb : p.tiles.any (fun n => (s.tile n).epochBusy) = false) :
    let halted := (p.tiles.filter (fun n => (s.tile n).st = .halted)).foldl (fun l n => NSet.add n l) []
    let q := { p with savedScratch := s.scratchWanted p, haltedTiles := halted }
    exec (.preemptAllHeld tag) s = .next (((s.onTiles p.tiles Tile.undoRunAhead).saveContext q).onProg tag (fun r =>
      { r with st := .saving, savedScratch := s.scratchWanted p, haltedTiles := halted,
               atBarrierSaved := p.st == .atBarrier })) := by
  simp only [exec_preemptAllHeld, execPreemptAllHeld, hp]
  exact if_pos (by rw [hh, hb]; rfl)

theorem contextSaveComplete_frees (hs : p.st = .saving) :
    let u := p.savedScratch.foldl (fun s k => s.dropSlice tag false k) (s.freeTiles p)
    exec (.contextSaveComplete tag) s = .next ((u.onSched (fun x =>
        { x with preemptions := satInc x.preemptions })).onProg tag (fun p =>
      { p with st := .preempted, since := u.now, preempting := false, reports := [], sliceT := none, attempts := 0,
               preemptions := p.preemptions + 1, scratch := p.scratch.filter (fun k => !p.savedScratch.contains k) })) := by
  simp only [exec_contextSaveComplete, execContextSaveComplete, hp]
  exact if_pos hs

/-- R177: a preemption that is abandoned, and the abort that the third in a row brings. -/
theorem sliceTimeout_abandons (hr : p.st = .running) (hq : p.preempting = true)
    (ha : p.tiles.any (fun n => (s.tile n).holdReq) = true) (hh : s.heldForSave p = false) :
    let u := ((s.onSched (fun x => { x with sliceAbandons := satInc x.sliceAbandons })).onProg tag (fun p =>
        { p with preempting := false, reports := [], sliceT := none, attempts := p.attempts + 1 })).runOn p.tiles
      (fun x => { x with holdReq := false, holdAt := none })
    exec (.sliceTimeout tag) s = .next (if 2 ≤ p.attempts then
      u.abortProg tag stSliceOverrun (p.sliceT.getD (p.reports.foldl (fun m r => max m (r.2.getD 0)) 0)) else u) := by
  simp only [exec_sliceTimeout, execSliceTimeout, hp]
  exact if_pos (by simp only [hr, hq, ha, hh, decide_true, Bool.and_self, Bool.not_false])

/-! ### The end (R74, R167, R200) -/

section
variable {k : Nat} (hk : p.slot = some k)
include hk

theorem tileAbort_clears (he : p.st = .ending) (hc : p.cleared = false) :
    let mine := p.tiles.filter (fun n => (s.tile n).prog == some tag)
    mine.any (fun n => (s.tile n).epochBusy) = false →
    let u := ((mine.foldl (fun s n => (s.clearLinks n).clearBridges n) s).onTiles mine Tile.undoRunAhead).freeTiles p
    exec (.tileAbort tag) s = .next (((u.onFirn (fun f => { f with walks := f.walks ++ [⟨k, p.tag, true⟩] })).onSched (fun x =>
        { x with walkSlots := NSet.add k x.walkSlots })).onProg tag (fun p => { p with cleared := true })) := by
  intro mine hb
  have hgo : (decide (p.st = .ending) && !p.cleared) = true := by simp [he, hc]
  simp only [exec_tileAbort, execTileAbort, hp, hk]
  rw [if_pos hgo]
  exact if_neg (Bool.eq_false_iff.mp hb)

theorem programEnd_completes (cycles : W64) (hu : s.schedUp = true) (hr : p.st = .running) (hh : s.allHalted p = true) :
    exec (.programEnd tag cycles) s = .next
      ((((s.freeTiles p).completeProg p stCompleted 0 cycles).onFirn (fun f => { f with walks := f.walks ++ [⟨k, p.tag, false⟩] })).onSched
        (fun x => { x with walkSlots := NSet.add k x.walkSlots })) := by
  simp only [exec_programEnd, execProgramEnd, hp, hk, hu, hr, hh, Bool.true_eq_false, if_false, decide_true, Bool.and_self, if_true]

theorem programEnd_aborted (cycles : W64) (hu : s.schedUp = true) (he : p.st = .ending) (hc : p.cleared = true)
    (hw : s.sched.walkSlots.contains k = false) {e : EndCode} (hx : p.ending = some e) :
    exec (.programEnd tag cycles) s = .next (s.completeProg p e.status.toNat e.detail.toNat cycles) := by
  simp only [exec_programEnd, execProgramEnd, hp, hk, hu, he, hc, hw, hx, Bool.true_eq_false, if_false, reduceCtorEq, decide_false,
    Bool.false_and, Bool.false_eq_true, decide_true, Option.any_some, Bool.not_false, Bool.and_self, if_true, Option.getD_some]

end

end Sys2Proof.Machine

open Sys2Proof Machine Claims

/-- Settles O17, one lemma for each step. -/
theorem preemption : Obligations.Preemption := by
  intro s tag p hp
  refine ⟨sliceReportsComplete_sets hp, preemptAllHeld_saves hp, contextSaveComplete_frees hp, fun hr hq ha hh => ⟨fun hn => ?_, fun hn => ?_⟩⟩
  · rw [sliceTimeout_abandons hp hr hq ha hh, if_neg (Nat.not_le.mpr hn)]
  · rw [sliceTimeout_abandons hp hr hq ha hh, if_pos hn]
    rfl

/-- Settles O19: a fault, a zeroed tile, the abort's effects and the two ends of a program. -/
theorem programEnd : Obligations.ProgramEnd := by
  intro s tag p k hp hk
  refine ⟨fun n code h => (exec_tileFault s).trans (State.withTile_running h _), fun n h => ?_, tileAbort_clears hp hk, programEnd_completes hp hk,
    fun cycles e hu he hc hw => programEnd_aborted hp hk cycles hu he hc hw⟩
  simp only [exec_tileZeroComplete, execTileZeroComplete, h, if_true]
  rfl
end

section
/-! PROOFS. A step of the device, and what settles O55. -/

namespace Sys2Proof.Machine

variable (s : State)

/-- With no command waiting a step is a tick. -/
theorem step_tick (h : s.pending = []) : step s = .next (tick s) := by
  simp only [step, h]

/-- A stack whose Serac clock does not run does nothing in a TB cycle. -/
theorem State.seracTick_off {t : BitVec 2} (h : s.pkg.dev = .cold ∨ s.pll t.toNat ≠ .locked) : s.seracTick t = s :=
  if_pos (by simpa using h)

/-- R379: where no Serac clock runs and no interrupt waits, a tick is the passing of time and the counts it publishes. -/
theorem tick_idle (hi : s.firm.mbx.irqDue = false) (hp : s.pkg.dev = .cold ∨ ∀ t : BitVec 2, s.pll t.toNat ≠ .locked) :
    tick s = if s.tbTick.tenMs = s.tenMs then s.tbTick else s.tbTick.publish := by
  have hpll (t : BitVec 2) : s.tbTick.pll t.toNat = s.pll t.toNat := by
    simp only [State.pll, State.tbTick]
    split
    · rfl
    · split <;> rfl
  have hs : ([0, 1, 2, 3] : List (BitVec 2)).foldl State.seracTick s.tbTick = s.tbTick :=
    foldl_eq_self fun t _ => State.seracTick_off _ (hp.imp id fun h => (hpll t).symm ▸ h t)
  have hm : s.tbTick.msgIrqDue = s.tbTick := by
    have hd : s.tbTick.firm.mbx.irqDue = false := hi
    simp only [State.msgIrqDue, hd, Bool.false_and, Bool.false_eq_true, if_false]
  simp only [tick, hs, hm]

/-- R379: the local count advances by 16 units, but not in COLD. -/
theorem State.tbTick_ftLocal (h : s.pkg.dev ≠ .cold) : s.tbTick.clk.ftLocal = s.clk.ftLocal + 16 := by
  simp only [State.tbTick, h, if_false]
  split <;> rfl

/-- R379: fabric time that is UNSET stands. -/
theorem State.tbTick_ft_unset (h : s.clk.ftState = .unset) : s.tbTick.clk.ft = s.clk.ft := by
  simp only [State.tbTick, h, if_true]
  split <;> rfl

/-- R544: operating time is no part of what is sampled or stored. -/
theorem State.tbTick_mor : s.tbTick.mor.d = s.mor.d ∧ s.tbTick.mor.stored = s.mor.stored := by
  simp only [State.tbTick, Moraine.elapse]
  split
  · split <;> exact ⟨rfl, rfl⟩
  · exact ⟨rfl, rfl⟩

end Sys2Proof.Machine

open Sys2Proof Machine Claims

/-- Settles O55: a step by its queue; an idle tick changes what `State.tbTick` and `State.publish` write. -/
theorem stepRunsQueue : Obligations.StepRunsQueue := by
  refine ⟨fun c s rest h => by simp only [step, h], fun s h => ⟨⟨_, step_tick s h⟩, fun hi hp => ?_⟩⟩
  have hc : s.pkg.dev = .cold → s.tbTick.clk = s.clk := fun hd => by simp only [State.tbTick, hd, if_true]
  rw [step_tick s h, tick_idle s hi hp]
  split
  · exact ⟨s.tbTick.clk, s.tbTick.mor, s.floe.fecPub, s.fab.cntPub, rfl, s.tbTick_ftLocal, hc, s.tbTick_ft_unset, s.tbTick_mor⟩
  · exact ⟨s.tbTick.clk, s.tbTick.mor, s.tbTick.publish.floe.fecPub, s.fab.counters, rfl, s.tbTick_ftLocal, hc, s.tbTick_ft_unset,
      s.tbTick_mor⟩
end

section
/-! PROOFS. The vertical bundles of the Firn (R209 to R214), and what settles O30. -/

namespace Sys2Proof.Machine

variable {s : State} {t : BitVec 2} {n : Nat} {pos : BitVec 6}

/-- R211: the first free spare of a bundle. -/
theorem find_spare {sp : RF 2 (Option (BitVec 6))} {i : BitVec 2} (hi : RF.at sp i = none) (hj : ∀ j < i, RF.at sp j ≠ none) :
    ([0, 1, 2, 3] : List (BitVec 2)).find? (fun i => (RF.at sp i).isNone) = some i := by
  have used {j : BitVec 2} (h : j < i) : (RF.at sp j).isNone = false := Option.isNone_eq_false_iff.mpr (Option.isSome_iff_ne_none.mpr (hj j h))
  have four : ∀ j : BitVec 2, j = 0 ∨ j = 1 ∨ j = 2 ∨ j = 3 := by decide
  rcases four i with rfl | rfl | rfl | rfl
  · simp only [List.find?_cons, hi, Option.isNone_none]
  · simp only [List.find?_cons, hi, Option.isNone_none, used (j := 0) (by decide)]
  · simp only [List.find?_cons, hi, Option.isNone_none, used (j := 0) (by decide), used (j := 1) (by decide)]
  · simp only [List.find?_cons, hi, Option.isNone_none, used (j := 0) (by decide), used (j := 1) (by decide),
      used (j := 2) (by decide)]

theorem find_spare_none {sp : RF 2 (Option (BitVec 6))} (h : ∀ i, RF.at sp i ≠ none) :
    ([0, 1, 2, 3] : List (BitVec 2)).find? (fun i => (RF.at sp i).isNone) = none :=
  List.find?_eq_none.mpr fun i _ => by simpa using h i

/-- R210: a bundle once a channel's failure is taken up. -/
def State.vbTaken (s : State) (t : BitVec 2) (n : Nat) (pos : BitVec 6) : State :=
  s.onVb t n (fun v => { v with due := NSet.del pos.toNat v.due, replays := v.replays.filter (fun r => r.1 != pos.toNat) })

section
variable (hl : s.vbLive t n = true) (hd : (s.vb t n).due.contains pos.toNat = true) (hf : (s.vb t n).st = .full)
include hl hd hf

/-- R211: a failing channel of a FULL bundle takes the first free spare. -/
theorem vbChannelFailing_spare {i : BitVec 2} (hi : RF.at (s.vb t n).spares i = none) (hj : ∀ j < i, RF.at (s.vb t n).spares j ≠ none) :
    exec (.vbChannelFailing t n pos) s = .next
      ((((s.vbTaken t n pos).onVb t n (fun v => { v with spares := RF.put v.spares i (some pos), remap := true })).onFirn (fun f =>
        { f with spareSwaps := satInc f.spareSwaps })).raise'
          { unit := vbUnit t n, cause := 0x12, cls := .ce, detail := BitVec.ofNat 64 (pos.toNat + 256 * i.toNat) }) := by
  simp only [exec_vbChannelFailing, execVbChannelFailing, hl, hd, hf, Bool.true_eq_false, decide_false, Bool.or_self,
    Bool.false_eq_true, if_false, find_spare hi hj]
  rfl

/-- R210: with no spare left and no other channel failed the bundle goes HALF, on the positions of the failed one. -/
theorem vbChannelFailing_half (hs : ∀ i, RF.at (s.vb t n).spares i ≠ none) (he : (s.vb t n).failed = []) :
    exec (.vbChannelFailing t n pos) s = .next
      (((s.vbTaken t n pos).onVb t n (fun v => { v with failed := [pos.toNat] })).vbHalf t n (pos.toNat < 32)) := by
  have hhalf : ¬(pos.toNat < 32 ∧ 32 ≤ pos.toNat) := by omega
  simp only [exec_vbChannelFailing, execVbChannelFailing, hl, hd, hf, Bool.true_eq_false, decide_false, Bool.or_self,
    Bool.false_eq_true, if_false, find_spare_none hs, he, NSet.add, List.any_cons, List.any_nil, Bool.or_false, Bool.and_eq_true,
    decide_eq_true_eq, hhalf]
  rfl

end

end Sys2Proof.Machine

open Sys2Proof Machine Claims

/-- Settles O30: a replay, an eye, a failing channel with and without a spare, the end of a remap, and the stored list. -/
theorem verticalBundles : Obligations.VerticalBundles := by
  intro s t n pos hl v rs
  refine ⟨if_pos hl, fun eye he => if_pos (by simp [hl, he]), fun i hd hf hi hj => vbChannelFailing_spare hl hd hf hi hj,
    fun hd hf hs he => vbChannelFailing_half hl hd hf hs he, fun hr => if_pos hr, fun hu hm => if_pos (by simp [hu, hm])⟩
end

section
/-! PROOFS. The discrete inputs of a device that runs (R606, R607), and what settles O52. -/

namespace Sys2Proof.Machine
open Claims

variable (s : State)

/-! ### What inputs are and what they leave alone -/

@[simp] theorem State.pin_onPin (p : Nat) (f : PinSt → PinSt) : (s.onPin p f).pin p = f (s.pin p) := by
  simp [State.pin, State.onPin, SMap.upd]

@[simp] theorem State.onPin_now (p : Nat) (f : PinSt → PinSt) : (s.onPin p f).now = s.now := rfl

@[simp] theorem State.onPin_since (p : Nat) (f : PinSt → PinSt) (t : W64) : (s.onPin p f).since t = s.since t := rfl

/-- What no discrete input changes of itself: the memory semantics, the programs, the package, light and power. -/
def State.beyondPins (s : State) : MemSem × Sched × Pkg × Floe × Power := (s.mem, s.sched, s.pkg, s.floe, s.pow)

theorem State.beyondPins_eq_iff {s t : State} : t.beyondPins = s.beyondPins ↔
    t.mem = s.mem ∧ t.sched = s.sched ∧ t.pkg = s.pkg ∧ t.floe = s.floe ∧ t.pow = s.pow := by
  simp only [State.beyondPins, Prod.mk.injEq]

theorem State.onPin_beyondPins (p : Nat) (f : PinSt → PinSt) : (s.onPin p f).beyondPins = s.beyondPins := rfl

theorem State.log_beyondPins (core sev : Nat) (b : List Byte) (x : Bool) : (s.log core sev b x).beyondPins = s.beyondPins :=
  State.log_keeps (fun _ _ => rfl) (fun _ _ => rfl) s core sev b x

theorem State.log_pins (core sev : Nat) (b : List Byte) (x : Bool) : (s.log core sev b x).pins = s.pins :=
  State.log_keeps (fun _ _ => rfl) (fun _ _ => rfl) s core sev b x

theorem State.log_clk (core sev : Nat) (b : List Byte) (x : Bool) : (s.log core sev b x).clk = s.clk :=
  State.log_keeps (fun _ _ => rfl) (fun _ _ => rfl) s core sev b x

/-- R607: a pin event is a log entry, and the pin's ignored edges count anew. -/
theorem State.pinEvent_beyondPins (p ev : Nat) : (s.pinEvent p ev).beyondPins = s.beyondPins := by
  simp only [State.pinEvent, State.onPin_beyondPins, State.log_beyondPins]

theorem State.pinEvent_pin (p ev : Nat) : (s.pinEvent p ev).pin p = { s.pin p with ignored := 0 } := by
  simp only [State.pinEvent, State.pin_onPin]
  rw [State.pin, State.log_pins, ← State.pin]

/-- R606, R607: an excess edge is counted, and makes an event or not. -/
theorem State.excess_cases (p : Nat) :
    s.excess p = ((s.onPin p (fun x => { x with ignored := x.ignored + 1 })).pinEvent p 3).onPin p (fun x =>
      { x with excessAt := some s.now }) ∨
    s.excess p = s.onPin p (fun x => { x with ignored := x.ignored + 1 }) :=
  ite_eq_or_eq _ _ _

/-- R606: an excess edge touches nothing beyond its pin. -/
theorem State.excess_beyondPins (p : Nat) : (s.excess p).beyondPins = s.beyondPins := by
  rcases s.excess_cases p with h | h <;> simp only [h, State.onPin_beyondPins, State.pinEvent_beyondPins]

/-- R606: an excess edge leaves an input asserted as it was. -/
theorem State.excess_pin_since (p : Nat) : ((s.excess p).pin p).since = (s.pin p).since := by
  rcases s.excess_cases p with h | h
  · rw [h, State.pin_onPin, State.pinEvent_pin, State.pin_onPin]
  · rw [h, State.pin_onPin]

/-- R607: within a second of the last event an excess edge is counted. -/
theorem State.excess_ignored {p : Nat} {w : W64} (hw : (s.pin p).excessAt = some w) (hs : s.since w < msU 1000) :
    ((s.excess p).pin p).ignored = (s.pin p).ignored + 1 := by
  simp [State.excess, hw, Nat.not_le.mpr hs]

theorem State.asserted_eq (p : Nat) : s.asserted p = pinNow s p := rfl

/-- R606: the release of an input that is not stuck. -/
theorem State.released_free {p : Nat} (h : (s.pin p).stuck = false) : s.released p = pinEnds s p := by
  simp [State.released, h, pinEnds]

theorem State.released_beyondPins (p : Nat) : (s.released p).beyondPins = s.beyondPins := by
  simp only [State.released, State.onPin_beyondPins]
  split
  · exact State.pinEvent_beyondPins _ _ _
  · rfl

@[simp] theorem State.released_since (p : Nat) : ((s.released p).pin p).since = none := by
  simp only [State.released, State.pin_onPin]

/-! ### Entries that land -/

theorem State.lookDom_pins (k : Nat) (v : List Byte) (fresh : Bool) : (s.lookDom k v fresh).pins = s.pins := by
  unfold State.lookDom
  split
  · split <;> rfl
  · rfl

theorem State.applyEntry_pins (k : Nat) (v : List Byte) : (s.applyEntry k v).pins = s.pins := by
  simp only [State.applyEntry, apply_ite State.pins, State.lookDom_pins]
  simp

theorem State.land_pins (k : Nat) : (s.land k).pins = s.pins := by
  unfold State.land
  split
  · rfl
  · dsimp only
    split
    · rfl
    · exact State.applyEntry_pins _ _ _

/-! ### PWRBRK_N -/

theorem State.brkOn_pin (p : Nat) : s.brkOn.pin p = s.pin p := by
  have h : s.brkOn.pins = s.pins := (State.land_pins _ _).trans (State.land_pins _ _)
  rw [State.pin, h, ← State.pin]

theorem alerted_pow (t : State) : (alerted s t).pow = t.pow := by
  unfold alerted
  split <;> rfl

theorem alerted_pins (t : State) : (alerted s t).pins = t.pins := by
  unfold alerted
  split <;> rfl

/-- R606: an assertion of PWRBRK_N and its stamps. -/
def State.brkStamped (s : State) : State :=
  (pinNow s pinBrk).onPin pinBrk (fun x => { x with recent := s.now :: s.lately (msU 1000) x.recent })

/-- R428: an acted assertion of PWRBRK_N. -/
def State.brkPulled (s : State) : State :=
  if s.powered && !s.pow.brk then s.brkStamped.brkOn else s.brkStamped

theorem State.brkPulled_brk (h : s.powered = true) : s.brkPulled.pow.brk = true := by
  unfold State.brkPulled
  split
  · rfl
  next hn =>
    have hp : s.pow.brk ≠ false := fun hb => hn (by simpa using ⟨h, hb⟩)
    simpa [State.brkStamped, pinNow] using hp

theorem State.brkPulled_since : (s.brkPulled.pin pinBrk).since = some s.now := by
  unfold State.brkPulled
  split <;> simp [State.brkOn_pin, State.brkStamped, pinNow]

theorem pwrbrkNAssert_sets (h : s.powered = true) :
    ∃ t, exec .pwrbrkNAssert s = .next t ∧ t.pow.brk = true ∧ (t.pin pinBrk).since = some s.now := by
  refine ⟨alerted s s.brkPulled, ?_, ?_, ?_⟩
  · rw [exec_pwrbrkNAssert, execPwrbrkNAssert, State.withAlert_eq]
    rfl
  · rw [alerted_pow, State.brkPulled_brk s h]
  · rw [State.pin, alerted_pins, ← State.pin, State.brkPulled_since]

theorem pwrbrkNRelease_ends (ha : (s.pin pinBrk).since.isSome = true) (hs : (s.pin pinBrk).stuck = false)
    (hf : s.flooded pinBrk (msU 1000) 100 = false) :
    exec .pwrbrkNRelease s = .next (alerted s ((pinEnds s pinBrk).onPow (fun p => { p with brk := false }))) := by
  have hn : (s.pin pinBrk).since.isNone = false := by simpa using ha
  rw [exec_pwrbrkNRelease, execPwrbrkNRelease, State.withAlert_eq]
  simp only [hn, Bool.false_eq_true, if_false, hf, State.released_free s hs, State.brkOff]

/-! ### LSR_INTLK_N -/

/-- R269: probing leaves the interlock and the pins alone. -/
theorem State.startProbing_intlk (q : Nat) : ((s.startProbing q).floe.intlk, (s.startProbing q).pins) = (s.floe.intlk, s.pins) := by
  unfold State.startProbing
  split <;> rfl

/-- R270, R606: a release of LSR_INTLK_N that acts, and its stamps. -/
def State.intlkStamped (s : State) : State :=
  ((s.released pinIntlk).onPin pinIntlk (fun x =>
    { x with recent := s.now :: s.lately (10 * msU 1000) x.recent })).onFloe (fun f => { f with intlk := false })

theorem State.intlkStamped_since : (s.intlkStamped.pin pinIntlk).since = none := by
  simp only [State.intlkStamped, State.pin, State.onFloe_pins]
  rw [← State.pin, State.pin_onPin, State.released_since]

/-- R270: what a release of LSR_INTLK_N that acts makes of the device. -/
def State.intlkEnds (s : State) : State :=
  if s.intlkStamped.floe.en && s.intlkStamped.pkg.dev != .icebound then
    (List.range 16).foldl (fun s q => if s.lambdaLost (q / 4) then s else s.startProbing q) s.intlkStamped else s.intlkStamped

theorem lsrIntlkNRelease_ends (ha : (s.pin pinIntlk).since.isSome = true) (hf : s.flooded pinIntlk (10 * msU 1000) 10 = false) :
    ∃ t, exec .lsrIntlkNRelease s = .next t ∧ t.floe.intlk = false ∧ (t.pin pinIntlk).since = none := by
  have hn : (s.pin pinIntlk).since.isNone = false := by simpa using ha
  have hk : (s.intlkEnds.floe.intlk, s.intlkEnds.pins) = (s.intlkStamped.floe.intlk, s.intlkStamped.pins) := by
    unfold State.intlkEnds
    split
    · refine foldl_keeps (fun t : State => (t.floe.intlk, t.pins)) (fun t q => ?_) _ _
      split
      · rfl
      · exact t.startProbing_intlk q
    · rfl
  obtain ⟨hi, hp⟩ := Prod.mk.inj hk
  refine ⟨s.intlkEnds, ?_, hi, ?_⟩
  · simp only [exec_lsrIntlkNRelease, execLsrIntlkNRelease, hn, Bool.false_eq_true, if_false, hf, State.intlkEnds, State.intlkStamped]
    rfl
  · rw [State.pin, hp, ← State.pin, State.intlkStamped_since]

/-- R606: a release that the excess rule holds. -/
theorem lsrIntlkNRelease_held (ha : (s.pin pinIntlk).since.isSome = true) (hf : s.flooded pinIntlk (10 * msU 1000) 10 = true) :
    ∃ t, exec .lsrIntlkNRelease s = .next t ∧ t.floe = s.floe ∧ (t.pin pinIntlk).since = (s.pin pinIntlk).since ∧
      (t.pin pinIntlk).held = true := by
  have hn : (s.pin pinIntlk).since.isNone = false := by simpa using ha
  refine ⟨(s.excess pinIntlk).onPin pinIntlk (fun x => { x with held := true }), ?_, ?_, ?_, ?_⟩
  · simp only [exec_lsrIntlkNRelease, execLsrIntlkNRelease, hn, Bool.false_eq_true, if_false, hf, if_true]
  · exact (State.beyondPins_eq_iff.mp (s.excess_beyondPins pinIntlk)).2.2.2.1
  · rw [State.pin_onPin]
    exact s.excess_pin_since pinIntlk
  · rw [State.pin_onPin]

/-! ### FENCE_N and SYNC_PPS -/

theorem fenceNAssert_raises (hp : s.powered = true) (hf : s.flooded pinFence (msU 1) 0 = false) :
    exec .fenceNAssert s = .next (if s.pkg.dev = .icebound then pinNow s pinFence
      else ((pinNow s pinFence).onMem (fun m => { m with memFence := true })).onDict (fun d => { d with gen := d.gen + 1 })) := by
  have hpow : (pinNow s pinFence).powered = true := hp
  have hdev : (pinNow s pinFence).pkg = s.pkg := rfl
  simp only [exec_fenceNAssert, execFenceNAssert, hf, Bool.false_eq_true, if_false, State.asserted_eq, State.fenceNow, hpow, Bool.not_true,
    Bool.false_or, decide_eq_true_eq, hdev]

theorem fenceNRelease_keeps (ha : (s.pin pinFence).since.isSome = true) :
    ∃ t, exec .fenceNRelease s = .next t ∧ t.mem = s.mem ∧ (t.pin pinFence).since = none := by
  have hn : (s.pin pinFence).since.isNone = false := by simpa using ha
  refine ⟨s.released pinFence, ?_, (State.beyondPins_eq_iff.mp (s.released_beyondPins pinFence)).1, s.released_since pinFence⟩
  simp only [exec_fenceNRelease, execFenceNRelease, hn, Bool.false_eq_true, if_false]

theorem State.onClk_congr {f g : Clk → Clk} (h : f s.clk = g s.clk) : s.onClk f = s.onClk g := by
  simp only [State.onClk, h]

theorem syncPpsEdge_steers (hf : s.flooded pinPps (msU 900) 0 = false) (hs : (s.pin pinPps).stuck = false) (he : s.clk.ppsEn = true)
    (hd : s.staged (dk 0x4000 8) = none) (hg : s.clk.ftState = .grandmaster) : exec .syncPpsEdge s =
      .next ((pinNow (pinEnds s pinPps) pinPps).onClk (fun c => { c with servo := clampRate 4294 (Config.ppsRate s.clk.taiPhase) })) := by
  have hd' : (pinNow (pinEnds s pinPps) pinPps).staged (dk 0x4000 8) = none := hd
  have hclk : (pinNow (pinEnds s pinPps) pinPps).clk = s.clk := rfl
  simp only [exec_syncPpsEdge, execSyncPpsEdge, hf, Bool.false_eq_true, if_false, State.released_free s hs, State.asserted_eq, State.land,
    hd', State.ppsSteer, hclk, he, hg, decide_true, Bool.and_self, if_true]
  exact congrArg _ (State.onClk_congr _ (by rw [hclk]))

/-! ### Straps, timers and excess edges -/

theorem pinStuckTimeout_marks {p : Nat} (hp : s.powered = true) (hs : (s.pin p).stuck = false)
    (ha : (s.pin p).since.isSome = true ∨ p = pinPps) (hk : p = pinBrk ∨ p = pinIntlk ∨ p = pinFence ∨ p = pinPps ∧ s.clk.ppsEn = true) :
    exec (.pinStuckTimeout p) s = .next ((s.pinEvent p 1).onPin p (fun x => { x with stuck := true })) := by
  have hgo : (!s.powered || (s.pin p).stuck || ((s.pin p).since.isNone && p != pinPps)) = false := by
    rcases ha with ha | ha
    · simp [hp, hs, Option.isNone_eq_false_iff.mpr ha]
    · subst ha
      simp [hp, hs]
  rw [exec_pinStuckTimeout, execPinStuckTimeout, if_neg (by simp [hgo]), if_pos (by simpa [or_assoc] using hk)]

end Sys2Proof.Machine

open Sys2Proof Machine Claims

/-- Settles O52, one lemma for each input and each of its edges. -/
theorem discreteInputs : Obligations.DiscreteInputs := by
  refine ⟨fun s hp => ⟨pwrbrkNAssert_sets s hp, pwrbrkNRelease_ends s, ?_, lsrIntlkNRelease_ends s, lsrIntlkNRelease_held s,
    fun hf => ⟨fun hd => ?_, fun hd => ?_⟩, fenceNRelease_keeps s, syncPpsEdge_steers s⟩,
    fun s hp => ⟨fun strap h => ⟨if_pos (by simp [hp, h]), State.beyondPins_eq_iff.mp (s.pinEvent_beyondPins _ _)⟩,
      fun p hk hs ha => ⟨pinStuckTimeout_marks s hp hs (.inl ha) (by tauto), State.beyondPins_eq_iff.mp (s.pinEvent_beyondPins _ _)⟩,
      fun hs he => pinStuckTimeout_marks s hp hs (.inr rfl) (.inr (.inr (.inr ⟨rfl, he⟩))),
      fun p h2 h5 => ⟨s.excess p, if_pos (by simp [hp, h2, h5]), State.beyondPins_eq_iff.mp (s.excess_beyondPins p), ?_⟩⟩⟩
  · have hq : ((pinNow s pinIntlk).onFloe (fun f => { f with intlk := true })).powered = true := hp
    simp only [exec_lsrIntlkNAssert, execLsrIntlkNAssert, State.asserted_eq, hq, if_true]
  · rw [fenceNAssert_raises s hp hf, if_pos hd]
  · rw [fenceNAssert_raises s hp hf, if_neg hd]
  · rintro ⟨w, hw, hs⟩
    exact s.excess_ignored hw hs
end

section
/-! PROOFS. The entries of control that act when they are written (R80, R280 to R364, R390, R463 to R484, R574 to R611). -/

namespace Sys2Proof.Machine

variable {s : State} {n : Nat} {v : List Byte}

/-! ### What the entries do with a value -/

theorem State.putEntry_notBool {ty : EType} {k : Nat} (ht : ty ≠ .bool ∨ leNat v < 2) :
    s.putEntry ty k v = s.putEntry .u8 k v := by
  have hb : ¬ (ty = .bool ∧ 2 ≤ leNat v) := by
    rintro ⟨h, hn⟩
    obtain ht | ht := ht
    · exact ht h
    · omega
  exact (if_neg (by simpa using hb)).trans (if_neg (by simp)).symm

theorem State.calRestore_stages (hh : s.inHold = true) (hc : s.restoreCause v = 1) :
    s.calRestore v = (0, (s.onCal (fun x => { x with result := 1 })).stage (dk 0x6300 3) v) := by
  simp [State.calRestore, hh, hc]

theorem State.putSchedSwap_asks (hh : s.firm.lease.health = .healthy) (hu : s.schedUp = true) :
    s.putSchedSwap 1 = (0, s.onLease (fun l => { l with swapPending := true })) := by
  simp [State.putSchedSwap, State.askSwap, hh, hu, took]

/-- R80: a list that keeps every retired tile is taken. -/
theorem State.putRetired_result (h : ∀ i ∈ s.serac.retiredList, i < 1024 ∧ (v.getD (i / 8) 0).getLsbD (i % 8) = true) :
    s.putRetired v = (0, (s.putRetired v).2) := by
  have hl : ¬ s.serac.retiredList.any (fun n =>
      !((List.range 1024).filter (fun i => (v.getD (i / 8) 0).getLsbD (i % 8))).contains n) = true := by
    simpa using h
  unfold State.putRetired
  dsimp only
  rw [if_neg hl]

/-- R328, R364: windows whose REGION is not 0b11 are taken. -/
theorem State.putWindows_result (h : ∀ i < 32, (Window.of ((v.drop (32 * i)).take 32)).region ≠ 3) :
    s.putWindows v = (0, (s.putWindows v).2) := by
  have hw : ¬ (List.range 32).any (fun i => (Window.of ((v.drop (32 * i)).take 32)).region = 3) = true := by
    simpa using h
  unfold State.putWindows
  dsimp only
  rw [if_neg hw]

theorem State.steerGo_requests (hn : n < 8) : s.steerGo n = (true,
    ((s.land (dk 0x3000 6)).requestSteer (BitVec.ofNat 3 n) (s.land (dk 0x3000 6)).floe.steerTime .dictionary).2) := by
  rw [State.steerGo, if_neg (by omega)]

theorem State.wrapTest_presets (hr : s.firm.dm.role = .holder) (hl : 1 ≤ n) (hu : n ≤ 10) (hp : s.errs.prodLock = false)
    (ht : serLe s.ftime (BitVec.ofNat 64 (2 ^ 64 - n * 64 * 10 ^ 9)) = true) :
    s.wrapTest n = (true, s.onClk (fun c => { c with wrapTest := some n })) := by
  have h1 : ¬ n < 1 := by omega
  have h2 : ¬ 10 < n := by omega
  unfold State.wrapTest
  dsimp only
  rw [ht]
  simp [hr, h1, h2, hp]

theorem State.applyEntry_bar4Base : (s.applyEntry (dk 0x3200 0x0C) v).mem.bar4Base = BitVec.ofNat 48 (leNat v) := by
  simp [State.applyEntry, dk]

theorem State.calTake_takes (h : s.pkg.dev = .flow ∨ s.pkg.dev = .drift) :
    s.calTake 1 = (0, (s.onCal (fun c => { c with exported := s.calBlob })).lookDom (dk 0x6300 6) s.calBlob true) := by
  obtain h | h := h <;> simp [State.calTake, h]

end Sys2Proof.Machine

namespace Sys2Proof.Claims
open Machine

variable {s t u : State} {m : List Byte} {rest : List (List Byte)} {e : Entry} {v : List Byte}

section
variable (h : MailWrite s m rest e v u)
include h

/-- A command of its own is its entry's write, and the entry takes the value. -/
theorem MailWrite.ownWrite_puts {o : OwnWrite} (hk : mailKey m = o.key)
    (ho : o.ok (mailReq true m) (s.valueWith (mailReq true m)) = true) (ht : e.ty ≠ .bool ∨ leNat v < 2)
    (hp : u.putEntry .u8 o.key v = (0, t)) : s.ownWrite o .mailbox = .next (accepted m e t) := by
  rw [h.ownWrite_eq hk ho]
  refine h.accepts ?_
  rw [hk, State.putEntry_notBool ht, hp]

/-- N0 serves the mailbox. -/
theorem MailWrite.schedUp : u.schedUp = true := by
  obtain ⟨-, hu, -⟩ := h.taken
  obtain ⟨-, rfl, -⟩ | ⟨-, -, x, -, -, -, -, -, rfl⟩ := h.whole
  · exact hu
  · exact hu

/-- R485: the data of a message that writes a scalar is the value. -/
theorem MailWrite.data_eq (hd : e.ty ≠ .domain) (hs : e.ty ≠ .str) : (mailReq true m).data = v := by
  obtain ⟨rfl, -, -⟩ | ⟨hd', -⟩ := h.whole
  · have hl := h.length
    simp [lengthBad, hd, hs] at hl
    exact (padTo_of_length (by omega)).symm
  · exact absurd hd' hd

theorem thawProceed_mailbox (hk : mailKey m = dk 0x6300 2) (hn : leNat v = 1) (hh : u.inHold = true) :
    exec (.thawProceed .mailbox) s = .next (accepted m e u.proceed) := by
  have he := h.entry_eq (by decide) hk rfl
  exact MailWrite.ownWrite_puts h hk rfl (.inl (by simp [he]))
    (by simp [State.putEntry, State.putRas, entryOnly, dk, hn, State.thawProceed, hh])

theorem calRestore_mailbox (hk : mailKey m = dk 0x6300 3) (hh : u.inHold = true) (hc : u.restoreCause v = 1) :
    exec (.calRestore .mailbox) s =
      .next (accepted m e ((u.onCal (fun x => { x with result := 1 })).stage (dk 0x6300 3) v)) := by
  have he := h.entry_eq (by decide) hk rfl
  obtain ⟨hlast, -⟩ := h.valueWith_eq (by simp [he])
  exact MailWrite.ownWrite_puts h hk hlast (.inl (by simp [he])) (State.calRestore_stages hh hc)

theorem softReset_mailbox (hk : mailKey m = dk 0x1200 7) (hn : leNat v = 0x5A) :
    exec (.softReset .mailbox) s = .next (accepted m e { u.dueSnap with pkg := { u.dueSnap.pkg with softReset := true } }) := by
  have he := h.entry_eq (by decide) hk rfl
  exact MailWrite.ownWrite_puts h hk rfl (.inl (by simp [he]))
    (by simp [State.putEntry, State.putSys, entryOnly, dk, hn, State.askReset])

theorem schedSwap_mailbox (hk : mailKey m = dk 0x5010 4) (hn : leNat v = 1) (hh : u.firm.lease.health = .healthy) :
    exec (.schedSwap .mailbox) s = .next (accepted m e (u.onLease (fun l => { l with swapPending := true }))) := by
  have he := h.entry_eq (by decide) hk rfl
  exact MailWrite.ownWrite_puts h hk rfl (.inl (by simp [he]))
    (by simp [State.putEntry, State.putFirm, entryOnly, dk, hn, State.putSchedSwap_asks hh (MailWrite.schedUp h)])

theorem dmSwap_mailbox (hk : mailKey m = dk 0x5030 7) (hn : leNat v = 1) (hh : u.isHolder = true) :
    exec (.dmSwap .mailbox) s = .next (accepted m e u.giveRole) := by
  have he := h.entry_eq (by decide) hk rfl
  exact MailWrite.ownWrite_puts h hk rfl (.inl (by simp [he]))
    (by simp [State.putEntry, State.putFirm, entryOnly, dk, hn, State.putDmSwap, hh])

theorem dictLock_mailbox (hk : mailKey m = dk 0x1000 0x10) (hv : v = [1]) :
    exec (.dictLock .mailbox) s = .next (accepted m e u.lockAll) := by
  have he := h.entry_eq (by decide) hk rfl
  have hd : (mailReq true m).data = [1] := (MailWrite.data_eq h (by simp [he]) (by simp [he])).trans hv
  have hn : leNat v = 1 := by rw [hv]; rfl
  exact MailWrite.ownWrite_puts h hk (by simp [hd]) (.inr (by omega))
    (by simp [State.putEntry, State.putSys, entryOnly, dk, hn])

theorem tileRetiredListWrite_mailbox (hk : mailKey m = dk 0x2000 9)
    (hr : ∀ i ∈ u.serac.retiredList, i < 1024 ∧ (v.getD (i / 8) 0).getLsbD (i % 8) = true) :
    exec (.tileRetiredListWrite .mailbox) s = .next (accepted m e (u.putRetired v).2) := by
  have he := h.entry_eq (by decide) hk rfl
  exact MailWrite.ownWrite_puts h hk rfl (.inl (by simp [he])) (State.putRetired_result hr)

theorem phoSteerGo_mailbox (hk : mailKey m = dk 0x3000 7) (hn : leNat v < 8) :
    exec (.phoSteerGo .mailbox) s = .next (accepted m e ((u.land (dk 0x3000 6)).requestSteer (BitVec.ofNat 3 (leNat v))
      (u.land (dk 0x3000 6)).floe.steerTime .dictionary).2) := by
  have he := h.entry_eq (by decide) hk rfl
  exact MailWrite.ownWrite_puts h hk rfl (.inl (by simp [he])) (congrArg took (State.steerGo_requests hn))

theorem ftWrapTest_mailbox (hk : mailKey m = dk 0x4000 9) (hr : u.firm.dm.role = .holder) (hl : 1 ≤ leNat v) (hu : leNat v ≤ 10)
    (hp : u.errs.prodLock = false) (ht : serLe u.ftime (BitVec.ofNat 64 (2 ^ 64 - leNat v * 64 * 10 ^ 9)) = true) :
    exec (.ftWrapTest .mailbox) s = .next (accepted m e (u.onClk (fun c => { c with wrapTest := some (leNat v) }))) := by
  have he := h.entry_eq (by decide) hk rfl
  exact MailWrite.ownWrite_puts h hk rfl (.inl (by simp [he])) (congrArg took (State.wrapTest_presets hr hl hu hp ht))

theorem memWindowsWrite_mailbox (hk : mailKey m = dk 0x3200 1)
    (hw : ∀ i < 32, (Window.of ((v.drop (32 * i)).take 32)).region ≠ 3) :
    exec (.memWindowsWrite .mailbox) s = .next (accepted m e (u.putWindows v).2) := by
  have he := h.entry_eq (by decide) hk rfl
  exact MailWrite.ownWrite_puts h hk rfl (.inl (by simp [he])) (State.putWindows_result hw)

theorem memFence_mailbox (hk : mailKey m = dk 0x3200 2) (hn : leNat v < 2) :
    exec (.memFence .mailbox) s = .next (accepted m e (u.onMem (fun x => { x with memFence := leNat v != 0 }))) :=
  MailWrite.ownWrite_puts h hk rfl (.inr hn) (by simp [State.putEntry, State.putMemory, entryOnly, dk])

theorem hostBar4Base_mailbox (hk : mailKey m = dk 0x3200 0x0C) (ho : u.bar4Ok (leNat v) = true) :
    ∃ t, exec (.hostBar4Base .mailbox) s = .next (accepted m e t) ∧ t.mem.bar4Base = BitVec.ofNat 48 (leNat v) := by
  have he := h.entry_eq (by decide) hk rfl
  refine ⟨u.applyEntry (dk 0x3200 0x0C) v, ?_, State.applyEntry_bar4Base⟩
  exact MailWrite.ownWrite_puts h hk rfl (.inl (by simp [he]))
    (by simp [State.putEntry, State.putMemory, entryOnly, dk, State.applyIf, ho])

theorem calExportTake_mailbox (hk : mailKey m = dk 0x6300 5) (hn : leNat v = 1) (hd : u.pkg.dev = .flow ∨ u.pkg.dev = .drift) :
    exec (.calExportTake .mailbox) s =
      .next (accepted m e ((u.onCal (fun c => { c with exported := u.calBlob })).lookDom (dk 0x6300 6) u.calBlob true)) := by
  have he := h.entry_eq (by decide) hk rfl
  refine MailWrite.ownWrite_puts h hk rfl (.inl (by simp [he])) (?_ : u.calTake (leNat v) = _)
  rw [hn, State.calTake_takes hd]

end

end Sys2Proof.Claims

open Sys2Proof Machine Claims

/-- Settles O48: each entry's command is its write, and the entry takes the value. -/
theorem dictionaryControl : Obligations.DictionaryControl := by
  unfold Obligations.DictionaryControl
  intro s m rest e v u h
  exact ⟨thawProceed_mailbox h, calRestore_mailbox h, softReset_mailbox h, schedSwap_mailbox h, dmSwap_mailbox h,
    dictLock_mailbox h, tileRetiredListWrite_mailbox h, phoSteerGo_mailbox h, ftWrapTest_mailbox h, memWindowsWrite_mailbox h,
    memFence_mailbox h, hostBar4Base_mailbox h, calExportTake_mailbox h⟩

end

section
/-! PROOFS. Loads, stores, atomics and sync queries at their destination (R326 to R347). -/

namespace Sys2Proof.Machine

variable {s u : State} {q : BitVec 4} {ch : BitVec 2} {p : Packet} {op : Nat}

/-! ### A store of a peer in its turn (R329, R342, R347) -/

/-- R329: a store of a peer, as its window and its address let it. -/
def State.peerStored (s : State) (p : Packet) (flagged : Bool) : State × Byte :=
  s.serveStore (.peer p false) p.addr.toNat (p.payload.take p.size) p.poison flagged { w := true, f := flagged }

/-- R347: after the store, a status that is not OK is in the result cache. -/
def State.peerKept (s : State) (q : BitVec 4) (p : Packet) (flagged : Bool) : State :=
  let v := (s.peerStored p flagged).1.moved (q.toNat / 4) p.addr.toNat p.size true (s.peerStored p flagged).2
  if (s.peerStored p flagged).2 = 0 then v else v.cachePut (v.cacheEnt p .store (s.peerStored p flagged).2 [])

theorem State.peerStore_now (ht : s.turnOf p = .now) (flagged : Bool) : s.peerStore q p flagged =
    ((s.peerKept q p flagged).expUp p).answer' q ((s.peerKept q p flagged).replyTo p opAck (s.peerStored p flagged).2) := by
  simp only [State.peerStore, ht]
  rfl

theorem State.peerStore_early (ht : s.turnOf p = .early) (flagged : Bool) : s.peerStore q p flagged = s.seqDrop := by
  simp only [State.peerStore, ht]

/-- R334, R347: an atomic in its turn, with room for its result. -/
theorem State.peerAtomic_now (ht : s.turnOf p = .now) (hc : s.cacheRoom.isSome = true) :
    let x := s.serveAtomic (.peer p false) p
    s.peerAtomic q p = (((x.1.moved (q.toNat / 4) p.addr.toNat 16 true x.2.1).cachePut (x.1.cacheEnt p .atomic x.2.1 x.2.2)).expUp p
      ).answerAtomic q p x.2.1 x.2.2 := by
  have hn : s.cacheRoom.isNone = false := by simpa using hc
  simp only [State.peerAtomic, ht, hn, Bool.false_eq_true, if_false]

/-! ### The request at the head of a channel (R310, R344) -/

section
variable (hh : s.headOf q ch = some p) (hd : p.dst = s.fab.devid) (hq : q.toNat < 14) (hr : s.replyRoom = true)
  (hold : s.tooOld p = false)
include hh hd hq hr hold

theorem State.storeReq_port (hw : s.headWaits q ch = false) (ho : p.opcode.toNat = op) (flagged : Bool) :
    s.storeReq (.port q ch) op flagged = .next ((s.pop q ch).peerStore q p flagged) := by
  simp only [State.storeReq, hw, State.takeReq_takes hh hd hq hr hold ho, Bool.false_eq_true, if_false]

theorem ldReq_port (hw : s.headWaits q ch = false) (ho : p.opcode.toNat = opLd) :
    let x := (s.pop q ch).serveLoad (.peer p false) p.addr.toNat p.size { rd := true, pf := p.tag.getLsbD 15 }
    exec (.ldReq (.port q ch)) s =
      .next ((x.1.moved (q.toNat / 4) p.addr.toNat p.size false x.2.st).answerLoad q p p.size x.2) := by
  simp only [exec_ldReq, execLdReq, hw, State.takeReq_takes hh hd hq hr hold ho, Bool.false_eq_true, if_false]

theorem atomic_port (ho : p.opcode.toNat = opAt) (ha : p.atop ≠ 15) :
    exec (.atomic (.port q ch)) s = .next ((s.pop q ch).peerAtomic q p) := by
  simp only [exec_atomic, execAtomic, hh, if_neg ha, State.takeReq_takes hh hd hq hr hold ho]

/-- R345: a sync query is answered with EXP of its pair. -/
theorem syncQuery_answers (ho : p.opcode.toNat = opAt) (ha : p.atop = 15) :
    let u := s.pop q ch
    exec (.syncQuery q ch) s =
      .next ((u.cachePut (u.cacheEnt p .sync 0 (natLE 4 (u.expOf p).toNat))).answerAtomic q p 0 (natLE 4 (u.expOf p).toNat)) := by
  have hn : (p.atop != 15) = false := by simp [ha]
  simp only [exec_syncQuery, execSyncQuery, hh, hn, State.takeReq_takes hh hd hq hr hold ho, Bool.false_eq_true, if_false, scOk]

end

/-! ### A request of this device to itself (R337) -/

section
variable {id : Nat} {r : Req}

theorem ldReq_own (h : s.ownReq id opLd = some r) :
    let x := s.serveLoad .own r.pkt.addr.toNat r.pkt.size { rd := true }
    exec (.ldReq (.own id)) s =
      .next ((x.1.moved (engTile r.eng) r.pkt.addr.toNat r.pkt.size false x.2.st).complete r x.2) := by
  simp only [exec_ldReq, execLdReq, h]

theorem State.storeReq_own (h : s.ownReq id op = some r) (hp : ∀ l d bad, r.owner ≠ .writeBack l d bad) (flagged : Bool) :
    let x := s.serveStore .own r.pkt.addr.toNat (r.pkt.payload.take r.pkt.size) r.pkt.poison flagged {}
    s.storeReq (.own id) op flagged =
      .next ((x.1.moved (engTile r.eng) r.pkt.addr.toNat r.pkt.size true x.2).complete r (Answer.plain x.2)) := by
  simp only [State.storeReq, h]

theorem atomic_own (h : s.ownReq id opAt = some r) :
    let x := s.serveAtomic .own r.pkt
    exec (.atomic (.own id)) s =
      .next ((x.1.moved (engTile r.eng) r.pkt.addr.toNat 16 true x.2.1).complete r ⟨x.2.1, x.2.2, [], true, true⟩) := by
  simp only [exec_atomic, execAtomic, h]

end

end Sys2Proof.Machine

open Sys2Proof Machine Claims

/-- Settles O24: the request is taken off its channel (`State.takeReq_takes`), or is one that nothing holds back, and then served. -/
theorem requestsServed : Obligations.RequestsServed := by
  unfold Obligations.RequestsServed
  refine ⟨fun s q ch p hh hd hq hr hold hw => ?_, fun s id r => ?_⟩
  · have hst {op : Nat} (ho : p.opcode.toNat = op) := State.storeReq_port hh hd hq hr hold hw ho
    refine ⟨fun ho => ldReq_port hh hd hq hr hold hw (Packet.opcode_toNat ho), fun ht => ?_, fun ht ho => ?_, fun ho ha =>
      syncQuery_answers hh hd hq hr hold (Packet.opcode_toNat ho) ha⟩
    · exact ⟨fun ho => (hst (Packet.opcode_toNat ho) false).trans (congrArg _ (State.peerStore_now ht false)),
        fun ho => (hst (Packet.opcode_toNat ho) false).trans (congrArg _ (State.peerStore_now ht false)),
        fun ho => (hst (Packet.opcode_toNat ho) true).trans (congrArg _ (State.peerStore_now ht true)),
        fun ho => (hst (Packet.opcode_toNat ho) true).trans (congrArg _ (State.peerStore_now ht true)),
        fun ho ha hc => (atomic_port hh hd hq hr hold (Packet.opcode_toNat ho) ha).trans
          (congrArg _ (State.peerAtomic_now ht hc))⟩
    · exact (hst (Packet.opcode_toNat ho) false).trans (congrArg _ (State.peerStore_early ht false))
  · intro t a stored ended plain
    have hp (h : plain) : ∀ l d bad, r.owner ≠ .writeBack l d bad := by
      intro l d bad ho
      simp [plain, ho] at h
    exact ⟨ldReq_own, fun h hw => State.storeReq_own h (hp hw) false, fun h hw => State.storeReq_own h (hp hw) false,
      fun h hw => State.storeReq_own h (hp hw) true, fun h hw => State.storeReq_own h (hp hw) true, atomic_own⟩

end

section
/-! PROOFS. A port of the fabric: frames, credits, packets and the loss of a neighbour (R257 to R260, R294 to R314). -/

namespace Sys2Proof.Machine

variable {s u : State} {q : BitVec 4}

/-! ### What the operations on ports leave -/

@[simp] theorem State.port_onPort (s : State) (q : BitVec 4) (f : FabPort → FabPort) :
    RF.at (s.onPort q f).fab.ports q = f (RF.at s.fab.ports q) :=
  RF.at_put_same _ _ _

@[simp] theorem State.ports_fabCount (s : State) (k i n : Nat) : (s.fabCount k i n).fab.ports = s.fab.ports := rfl

@[simp] theorem State.ports_emitFrame (s : State) (f : Option (Lane × Nat × FrameHdr)) :
    (s.emitFrame f).fab.ports = s.fab.ports := by
  cases f <;> rfl

@[simp] theorem State.rx_onRx (s : State) (q : BitVec 4) (f : RxStream → RxStream) :
    RF.at (s.onRx q f).floe.rx q = f (RF.at s.floe.rx q) :=
  RF.at_put_same _ _ _

/-! ### Flits that are dealt (R260, R294) -/

section
variable (x : TxFrames) (next : BitVec 24) (lanes : List LaneInfo) (now gen kind m : Nat)

theorem TxFrames.deal_next :
    (x.deal next lanes now gen kind m).next = (x.deal next lanes now gen kind m).seq + BitVec.ofNat 24 m := by
  unfold TxFrames.deal
  dsimp only
  generalize (if 15 < x.fill + m then 15 - x.fill else 0) = pad
  generalize (if pad = 0 then x.fill else 0) = fill
  split
  · rfl
  · split <;> rfl

/-- R294: flits that fit into the open frame need no padding. -/
theorem TxFrames.deal_seq (h : x.fill + m ≤ 15) : (x.deal next lanes now gen kind m).seq = next := by
  have hp : (if 15 < x.fill + m then 15 - x.fill else 0) = 0 := if_neg (by omega)
  unfold TxFrames.deal
  dsimp only
  rw [hp]
  generalize (if 0 = 0 then x.fill else 0) = fill
  split
  · exact BitVec.add_zero _
  · split <;> exact BitVec.add_zero _

end

theorem State.port_dealPort (s : State) (q : BitVec 4) (idle m : Nat) :
    RF.at (s.dealPort q idle m).1.fab.ports q = { RF.at s.fab.ports q with
      tx := { (RF.at s.fab.ports q).tx with next := (s.dealPort q idle m).2.next }, frm := (s.dealPort q idle m).2.tx } := by
  simp [State.dealPort]

theorem FabPort.idleIn_zero (f : FabPort) : f.idleIn 0 = 0 := by
  simp [FabPort.idleIn]

/-- R294: one flit is the next of the stream. -/
theorem State.dealPort_one (s : State) (q : BitVec 4) :
    (s.dealPort q 0 1).2.next = (RF.at s.fab.ports q).tx.next + 1 := by
  have hf : (RF.at s.fab.ports q).frm.fill % 15 + 1 ≤ 15 := by omega
  simp only [State.dealPort, FabPort.idleIn_zero, Nat.add_zero]
  rw [TxFrames.deal_next, TxFrames.deal_seq _ _ _ _ _ _ _ hf]
  simp

/-! ### Frames (R257 to R260) -/

theorem frameReceive_lost {fibreB half : Bool} {errs : List (BitVec 10)} {w : W64} {items : List StreamItem}
    (hd : frameDecodes errs = false) : exec (.frameReceive (.slot q fibreB half) errs w items) s =
      .next (s.countLostFrame (.slot q fibreB half)) := by
  rw [exec_frameReceive, execFrameReceive, if_pos hd]

theorem frameReceive_takes {l : Lane} {errs : List (BitVec 10)} {w : W64} {items : List StreamItem} {h : FrameHdr}
    (hd : frameDecodes errs = true) (hh : frameHdrOf w = some h) :
    exec (.frameReceive l errs w items) s = .next ((s.countFec l errs).takeFrame l h items) := by
  simp only [exec_frameReceive, execFrameReceive, hd, hh, Bool.true_eq_false, if_false]

/-- What a port takes from a frame goes to its channels and its counters, not to the photonics. -/
theorem State.takeItem_floe (s : State) (q : BitVec 4) (x : StreamItem) : (s.takeItem q x).floe = s.floe := by
  cases x with
  | packet p =>
    simp only [State.takeItem]
    split <;> rfl
  | credit c =>
    simp only [State.takeItem]
    split <;> rfl
  | reserved r => rfl

/-- R260: with nothing held, nothing is released. -/
theorem rxRelease_nothing (hh : (RF.at s.floe.rx q).held = []) (n : Nat) : rxRelease q n s = s := by
  cases n with
  | zero => rfl
  | succ n => simp [rxRelease, hh]

/-- R260: where only the frame that comes next is held, it is released, and the order is 15 flits on. -/
theorem rxRelease_next {items : List StreamItem} (hh : (RF.at s.floe.rx q).held = [((RF.at s.floe.rx q).expect, items)]) (n : Nat) :
    RF.at (rxRelease q (n + 1) s).floe.rx q =
      { RF.at s.floe.rx q with expect := (RF.at s.floe.rx q).expect + 15, held := [] } := by
  let v := s.onRx q (fun r => { r with expect := r.expect + 15, held := r.held.filter (fun h => h.1 != (RF.at s.floe.rx q).expect) })
  let w := (items.foldl (fun s x => s.takeItem q x) v).onPort q (fun f => { f with frames := f.frames + 1 })
  have hv : RF.at v.floe.rx q = { RF.at s.floe.rx q with expect := (RF.at s.floe.rx q).expect + 15, held := [] } := by
    simp [v, hh]
  have hw : w.floe = v.floe := foldl_keeps (·.floe) (fun s x => State.takeItem_floe s q x) items v
  have hr : rxRelease q (n + 1) s = rxRelease q n w := by
    simp [rxRelease, hh, w, v]
  rw [hr, rxRelease_nothing (by rw [hw, hv]), hw, hv]

/-- R260: a frame that comes next, with nothing held, is released at once. -/
theorem State.joinStream_next (hy : (RF.at s.floe.rx q).synced = true) (hh : (RF.at s.floe.rx q).held = [])
    (items : List StreamItem) : RF.at (s.joinStream (.port q) (RF.at s.floe.rx q).expect items).floe.rx q =
      { RF.at s.floe.rx q with expect := (RF.at s.floe.rx q).expect + 15, held := [] } := by
  have hj : (RF.at s.floe.rx q).join (RF.at s.floe.rx q).expect items =
      { RF.at s.floe.rx q with held := [((RF.at s.floe.rx q).expect, items)] } := by
    simp [RxStream.join, hy, serBefore, hh]
  simp only [State.joinStream, State.rxRun]
  rw [rxRelease_next (items := items)]
  · simp [hj]
  · simp [hj]

/-- R259: counting corrected bytes leaves the ports, the streams and the lanes. -/
theorem State.countFec_slot (s : State) (b half : Bool) (errs : List (BitVec 10)) :
    let v := s.countFec (.slot q b half) errs
    (v.floe.ports, v.floe.rx, v.floe.rxReleased) = (s.floe.ports, s.floe.rx, s.floe.rxReleased) := by
  intro v
  refine foldl_keeps (fun s : State => (s.floe.ports, s.floe.rx, s.floe.rxReleased)) (fun s i => ?_) _ _
  split <;> rfl

/-- R258, R260: a data frame that comes next on a lane of an UP port. -/
theorem State.takeFrame_next {b half : Bool} {h : FrameHdr} (hk : h.kind = 0) (hp : s.portUp q.toNat = true)
    (hl : s.floe.rxReleased.contains (laneKey (.slot q b half)) = false) (hy : (RF.at s.floe.rx q).synced = true)
    (hh : (RF.at s.floe.rx q).held = []) (he : (RF.at s.floe.rx q).expect = h.seq) (items : List StreamItem) :
    RF.at (s.takeFrame (.slot q b half) h items).floe.rx q = { RF.at s.floe.rx q with expect := h.seq + 15, held := [] } := by
  let v := s.onFloe (fun f => { f with rxActive := SMap.set none f.rxActive (laneKey (.slot q b half)) (some h.active) })
  have ht : s.takeFrame (.slot q b half) h items = v.joinStream (.port q) (RF.at s.floe.rx q).expect items := by
    have hn : laneKey (.slot q b half) ∉ s.floe.rxReleased := by simpa using hl
    simp [State.takeFrame, State.laneStream, hp, hk, hn, he, v]
  rw [ht, ← he]
  exact State.joinStream_next (s := v) hy hh items

theorem frameSkipTimeout_skips {k : BitVec 24} (hk : (RF.at s.floe.rx q).first = some k) :
    exec (.frameSkipTimeout (.port q)) s = .next ((s.onRx q (fun r => { r with expect := k })).rxRun q) := by
  simp only [exec_frameSkipTimeout, execFrameSkipTimeout, hk]

/-! ### Credits (R306 to R308) -/

theorem creditFlit_reports {c : CreditFlit} {rest : List CreditFlit} (hc : (RF.at s.fab.ports q).creditIn = c :: rest) :
    exec (.creditFlit q) s = .next (s.onPort q (fun f => { f with creditIn := rest, tx := f.tx.report c })) := by
  simp only [exec_creditFlit, execCreditFlit, hc]

theorem credit_reports {h : SvcHdr} {c : CreditFlit} (hc : c.crcOk = true) (hs : s.svcIn h 0x30 (creditBytes c) = (true, u)) :
    exec (.credit h c) s = .next (u.onPort h.port (fun f => { f with tx := f.tx.report c })) := by
  rw [exec_credit, execCredit, State.onSvc_acts hs, if_pos hc]

/-- R308: a lit port reports in its stream, with one flit. -/
theorem creditSend_reports (hp : s.portUp q.toNat = true) (hl : s.portLit q.toNat = true) :
    ∃ u, exec (.creditSend q) s = .next u ∧ (RF.at u.fab.ports q).reported = (RF.at s.fab.ports q).occ ∧
      (RF.at u.fab.ports q).tx.next = (RF.at s.fab.ports q).tx.next + 1 := by
  simp only [exec_creditSend, execCreditSend, hp, hl, Bool.true_eq_false, if_false, if_true]
  refine ⟨_, rfl, ?_, ?_⟩
  · simp [State.port_dealPort]
  · simp [State.port_dealPort, State.dealPort_one]

/-! ### Packets (R294, R300 to R302, R307, R309, R310) -/

theorem packetStart_deals {idle i : Nat} {x : Queued} (hp : s.portUp q.toNat = true) (hl : s.portLit q.toNat = true)
    (hx : (RF.at s.fab.ports q).pick idle = some (i, x)) :
    ∃ u, exec (.packetStart q idle 0 0) s = .next u ∧ (RF.at u.fab.ports q).out = (RF.at s.fab.ports q).out.eraseIdx i ∧
      (RF.at u.fab.ports q).tx.dealt = (RF.at s.fab.ports q).tx.dealt ++ (List.range x.pkt.flits).map (fun k =>
        ((s.dealPort q idle x.pkt.flits).2.seq + BitVec.ofNat 24 k, x.pkt.channel x.pkt.hop)) := by
  simp only [exec_packetStart, execPacketStart, hp, hl, Bool.true_eq_false, Bool.or_self, decide_false, Bool.false_eq_true,
    if_false, hx]
  refine ⟨_, rfl, ?_, ?_⟩
  · simp [State.port_dealPort]
  · simp [State.port_dealPort, TxCredit.deal]

section
variable {ch : BitVec 2} {p : Packet} (hh : s.headOf q ch = some p)
include hh

theorem packetForward_secondHop (hd : p.dst ≠ s.fab.devid) (hq : q.toNat < 14) (hp : p.hop = true) :
    exec (.packetForward q ch) s = .next ((s.pop q ch).discard (some q) discRoute) := by
  simp [execPacketForward, hh, hd, hq, hp]

theorem packetForward_firstHop (hd : p.dst ≠ s.fab.devid) (hq : q.toNat < 14) (hp : p.hop = false)
    (hi : inShape s.shape p.dst.toNat = true) : exec (.packetForward q ch) s =
      .next ((s.pop q ch).sendTo ⟨{ p with hop := true }, p.dst.toNat, some q⟩ (q.toNat / 4)) := by
  have hi' : inShape (s.pop q ch).shape p.dst.toNat = true := hi
  simp [execPacketForward, hh, hd, hq, hp, hi', State.nextHop]

theorem headBusyTimeout_discards (hr : isReplyOp p.opcode.toNat = false)
    (hd : q.toNat < 14 ∧ p.dst = s.fab.devid ∨ 14 ≤ q.toNat ∧ isOuterOp p.opcode.toNat = true) :
    exec (.headBusyTimeout q ch) s = .next ((s.pop q ch).discard (some q) discBusy) := by
  obtain ⟨hq, hd⟩ | ⟨hq, ho⟩ := hd
  · simp [execHeadBusyTimeout, hh, hr, hq, hd]
  · simp [execHeadBusyTimeout, hh, hr, Nat.not_lt.mpr hq, ho]

end

theorem neighbourPortsDown_takesDown {d : BitVec 6} (hd : s.portsTo d.toNat ≠ []) :
    exec (.neighbourPortsDown d) s = .next ((s.portsTo d.toNat).foldl (fun s k =>
      if s.portUp k || s.portSt k = .training then s.portDown (BitVec.ofNat 4 k) .down else s) (s.onFab (fun f =>
      { f with silent := NSet.add d.toNat f.silent, silentDown := NSet.add d.toNat f.silentDown }))) := by
  have he : (s.portsTo d.toNat).isEmpty = false := by simpa using hd
  simp only [exec_neighbourPortsDown, execNeighbourPortsDown, he, Bool.false_eq_true, if_false]

end Sys2Proof.Machine

open Sys2Proof Machine Claims

/-- Settles O23, one lemma for each command of a port. -/
theorem fabricPorts : Obligations.FabricPorts := by
  unfold Obligations.FabricPorts
  intro s q rx f
  refine ⟨fun fibreB half errs w items => frameReceive_lost, fun l errs w items h => frameReceive_takes,
    fun b half w items h hw hk hp hl hy hh he => ?_, fun k => frameSkipTimeout_skips, fun c rest => creditFlit_reports,
    creditSend_reports, fun idle i x => packetStart_deals,
    fun ch p hh hd hq => ⟨packetForward_secondHop hh hd hq, packetForward_firstHop hh hd hq⟩,
    fun ch p => headBusyTimeout_discards, fun d => neighbourPortsDown_takesDown, fun h c u => credit_reports⟩
  obtain ⟨hpt, hrx, hrl⟩ : _ ∧ _ ∧ _ := by simpa only [Prod.mk.injEq] using s.countFec_slot (q := q) b half []
  refine ⟨_, frameReceive_takes rfl hw, ?_⟩
  rw [State.takeFrame_next hk]
  · exact ⟨rfl, rfl⟩
  · unfold State.portUp State.portSt
    rwa [hpt]
  · rwa [hrl]
  · rwa [hrx]
  · rwa [hrx]
  · rwa [hrx]

end

section
/-! PROOFS. Service slots, tracking errors, notices and margins (R249, R251, R271 to R274, R587). -/

namespace Sys2Proof.Machine

variable {s u : State} {k : Nat} {h : SvcHdr}

/-! ### Immediate slots (R249, R273) -/

/-- R249: a tracking error is counted. -/
def State.countTracking (s : State) : State := s.onFloe (fun x => { x with trackEvents := satInc x.trackEvents })

theorem ringTrackingError_transmit : exec (.ringTrackingError k false) s = .next (s.countTracking.immediate k) := rfl

theorem ringTrackingError_receive (hk : k < 512) : exec (.ringTrackingError k true) s =
    .next (s.countTracking.phoSend (k / 32) (s.countTracking.svcB (k / 32)) 0x21 (.request (BitVec.ofNat 5 k) true)) := by
  simp [execRingTrackingError, hk, State.countTracking]

theorem slotRequest_acts {c : BitVec 5} (hs : s.svcIn h 0x21 [] = (true, u)) :
    exec (.slotRequest h c) s = .next (u.immediate (32 * h.port.toNat + c.toNat)) := by
  rw [exec_slotRequest, execSlotRequest, State.onSvc_acts hs]

/-! ### Scheduled slots (R271, R272) -/

/-- R487: with nothing staged an entry's moment changes nothing. -/
theorem State.land_nothing {e : Nat} (hs : s.staged e = none) : s.land e = s := by
  simp only [State.land, hs]

/-- R272: the channel is out for a scheduled slot of its owner. -/
def State.slotBegun (s : State) (o k : Nat) : State :=
  s.onOwner o (fun w => { w with
    noticed := none, running := w.running ++ [⟨.scheduled, k, s.now⟩], next := if (s.chan k).retry then w.next else chanPlace k })

theorem serviceSlotStart_begins {o : BitVec 5} {rest : List Nat} (hf : s.slotFree o.toNat = true)
    (hn : s.hasNotice o.toNat .scheduled = true) (ho : s.slotOrder o.toNat = k :: rest)
    (hr : (s.owner o.toNat).running.any (fun x => x.chan == k) = false) (hd : s.staged (dk 0x3000 4) = none) :
    exec (.serviceSlotStart o) s =
      .next (((s.slotBegun o.toNat k).onChan k (fun c => { c with active := false, retry := false })).laneCheck k) := by
  simp only [exec_serviceSlotStart, execServiceSlotStart, hf, hn, ho, hr, State.land_nothing hd, State.slotBegun, Bool.not_true,
    Bool.or_self, Bool.false_eq_true, if_false]

theorem slotNotice_sends {q : BitVec 4} {start : W64} {kind : SlotKind} (hp : s.portUp q.toNat = true)
    (hk : s.nextSlot q.toNat = some (kind, k)) :
    let u := s.onOwner q.toNat (fun w => { w with noticed := some kind })
    exec (.slotNotice (.sent q start)) s = .next (u.phoSend q.toNat (u.svcB q.toNat) 0x20 (.notice (BitVec.ofNat 5 k) kind start)) := by
  simp only [exec_slotNotice, execSlotNotice, hp, hk, Bool.not_true, Bool.false_eq_true, if_false]
  rfl

theorem slotNotice_hears {c : BitVec 5} {kind : SlotKind} {start : W64} (hs : s.svcIn h 0x20 [] = (true, u)) :
    exec (.slotNotice (.heard h c kind start)) s = .next (u.onFloe (fun x => { x with
      peerSlots := x.peerSlots.filter (fun y => y.chan / 32 != h.port.toNat) ++ [⟨kind, 32 * h.port.toNat + c.toNat, start⟩] })) := by
  simp only [exec_slotNotice, execSlotNotice, State.onSvc_acts hs]

/-! ### Judgements and ends (R272, R274, R587) -/

theorem serviceSlotJudge_own {x : Slot} {vals : List (Nat × Nat × CalRun)} {margin : Int} (hx : s.chanSlot k = some x)
    (hk : x.kind ≠ .swap) (hw : ((s.judgeSlot k vals).1.owner (chanOwner k)).swaps.contains k = false) :
    exec (.serviceSlotJudge k false vals margin) s =
      .next ((s.judgeSlot k vals).1.onChan k (fun c => { c with retry := (s.judgeSlot k vals).2, margin := margin })) := by
  simp only [exec_serviceSlotJudge, execServiceSlotJudge, hx, hk, hw, Bool.false_eq_true, if_false]

theorem serviceSlotJudge_receive {x : Slot} {vals : List (Nat × Nat × CalRun)} {margin : Int}
    (hx : s.floe.peerSlots.find? (fun x => x.chan == k) = some x) (hk : x.kind ≠ .swap) :
    exec (.serviceSlotJudge k true vals margin) s = .next (s.judgeSlot (4096 + k) vals).1 := by
  simp only [exec_serviceSlotJudge, execServiceSlotJudge, hx, hk, if_true, if_false]

/-- R272, R274: the slot is over, and the sweep of its owner goes on. -/
def State.slotOver (s : State) (k : Nat) (x : Slot) : State :=
  (s.onCal (fun c => { c with slotOld := c.slotOld.filter (fun p => p.1 != k) })).onOwner (chanOwner k) (fun w => { w with
    running := w.running.filter (fun y => y != x)
    next := if x.kind = .scheduled && chanPlace k = w.next then (w.next + 1) % ownerSize (chanOwner k) else w.next })

theorem serviceSlotEnd_own {x : Slot} (hx : s.chanSlot k = some x)
    (hk : x.kind = .scheduled ∨ s.floe.drained.contains k = false) :
    exec (.serviceSlotEnd k false) s = .next ((s.slotOver k x).settle k) := by
  have hd : (x.kind = .immediate && s.floe.drained.contains k) = false := by
    obtain hk | hk := hk
    · rw [hk]
      rfl
    · rw [hk, Bool.and_false]
  simp only [exec_serviceSlotEnd, execServiceSlotEnd, hx, hd, State.slotOver, Bool.false_eq_true, if_false]

theorem serviceSlotEnd_receive : ∃ u, exec (.serviceSlotEnd k true) s = .next u ∧
    u.floe.peerSlots = s.floe.peerSlots.filter (fun y => y.chan != k) := by
  rw [exec_serviceSlotEnd, execServiceSlotEnd, if_pos rfl]
  exact ⟨_, rfl, rfl⟩

/-! ### Margins (R251, R273) -/

theorem marginReport_sends {q : BitVec 4} {ms : List (BitVec 5 × Int)} (hp : s.portUp q.toNat = true) :
    let u := s.phoSend q.toNat (s.svcB q.toNat) 0x22 (.margins ms)
    exec (.marginReport (.sent q ms)) s = .next ((ms.filter (fun m => m.2 < 5)).foldl (fun s m =>
      s.phoSend q.toNat (s.svcB q.toNat) 0x21 (.request m.1 false)) u) := by
  have hu : (s.phoSend q.toNat (s.svcB q.toNat) 0x22 (.margins ms)).portUp q.toNat = true := hp
  simp only [exec_marginReport, execMarginReport, hp, hu, Bool.true_or, Bool.not_true, Bool.false_eq_true, if_false]

end Sys2Proof.Machine

open Sys2Proof Machine Claims

/-- Settles O41, one lemma for each command and each end of a port. -/
theorem serviceSlots : Obligations.ServiceSlots := by
  unfold Obligations.ServiceSlots
  intro s k
  exact ⟨⟨ringTrackingError_transmit, ringTrackingError_receive⟩, fun o rest => serviceSlotStart_begins,
    fun q start kind => slotNotice_sends, fun h c kind start u => slotNotice_hears, fun x vals margin => serviceSlotJudge_own,
    fun x => serviceSlotEnd_own, fun x vals margin => serviceSlotJudge_receive, serviceSlotEnd_receive,
    fun h c u => slotRequest_acts, fun q ms => marginReport_sends⟩

end

section
/-! PROOFS. Ports probe, identify themselves and train (R264, R265, R267, R269). -/

namespace Sys2Proof.Machine

variable {s u : State} {h : SvcHdr}

/-! ### What traffic leaves of the ports and of the steers -/

/-- The ports of the photonics with their steers and the steer generation. -/
def State.optics (s : State) : RF 4 Port × List Steer × W32 := (s.floe.ports, s.floe.steers, s.floe.steerGen)

theorem State.optics_eq_iff {t : State} : t.optics = s.optics ↔
    t.floe.ports = s.floe.ports ∧ t.floe.steers = s.floe.steers ∧ t.floe.steerGen = s.floe.steerGen := by
  simp only [State.optics, Prod.mk.injEq]

@[simp] theorem State.emitFrame_optics (f : Option (Lane × Nat × FrameHdr)) : (s.emitFrame f).optics = s.optics := by
  cases f <;> rfl

@[simp] theorem State.dealRole_optics (dir role : Nat) (lanes : List LaneInfo) (m : Nat) (first : Bool) :
    (s.dealRole dir role lanes m first).optics = s.optics :=
  State.emitFrame_optics _

@[simp] theorem State.crossPacket_optics (t u m : Nat) : (s.crossPacket t u m).optics = s.optics := by
  unfold State.crossPacket
  split
  · rfl
  · split
    · simp
    · split <;> simp

@[simp] theorem State.enqueue_optics (q : Nat) (x : Queued) : (s.enqueue q x).optics = s.optics := rfl

@[simp] theorem State.discard_optics (p : Option (BitVec 4)) (i : Nat) : (s.discard p i).optics = s.optics := by
  cases p <;> rfl

@[simp] theorem State.sendTo_optics (x : Queued) (tile : Nat) : (s.sendTo x tile).optics = s.optics := by
  unfold State.sendTo
  split
  · simp
  · split
    · simp
    · rfl
    · simp

@[simp] theorem State.retryWaiting_optics : s.retryWaiting.optics = s.optics :=
  foldl_keeps State.optics (fun _ x => State.sendTo_optics x x.tile) _ _

theorem State.setOuter_floe (s : State) (q : Nat) (dom dev : Byte) : (s.setOuter q dom dev).floe = s.floe := by
  unfold State.setOuter
  split <;> rfl

theorem State.phoPort_onPho (s : State) (q : Nat) (f : Port → Port) : (s.onPho q f).phoPort q = f (s.phoPort q) :=
  RF.at_put_same _ _ _

theorem Port.fibre_onFibre (p : Port) (b : Bool) (f : Fibre → Fibre) : (p.onFibre b f).fibre b = f (p.fibre b) := by
  cases b <;> rfl

theorem Port.fibre_onFibre_other (p : Port) (b : Bool) (f : Fibre → Fibre) : (p.onFibre b f).fibre (!b) = p.fibre (!b) := by
  cases b <;> rfl

/-- A condition on both fibres of a port is one on a fibre and on the other. -/
theorem Port.both_iff (p : Port) (b : Bool) (c : Fibre → Bool) : (c p.a && c p.b) = (c (p.fibre b) && c (p.fibre (!b))) := by
  cases b
  · rfl
  · exact Bool.and_comm _ _

/-! ### Probing (R264, R267, R269) -/

theorem probeBurst_sends {q : BitVec 4} {b : Bool} (hp : ((s.phoPort q.toNat).fibre b).probing = true) (hi : s.pkg.dev ≠ .icebound)
    (hc : s.pkg.dev ≠ .cold) : exec (.probeBurst q b) s = .next (s.sendProbe q.toNat b false) := by
  simp [execProbeBurst, hp, hi, hc]

section
variable (hs : s.svcIn h 0x01 [] = (true, u)) (hm : u.mayHear h.port.toNat = true)
include hs hm

theorem probe_answers : exec (.probe h false) s = .next (u.sendProbe h.port.toNat h.fibreB true) := by
  rw [exec_probe, execProbe, State.onSvc_acts hs]
  simp [hm]

/-- R264: HEARD on the second of the two fibres starts training. -/
theorem probe_trains (hp : ((u.phoPort h.port.toNat).fibre h.fibreB).probing = true)
    (ho : ((u.phoPort h.port.toNat).fibre (!h.fibreB)).heard = true) :
    let v := (u.sendProbe h.port.toNat h.fibreB true).onPho h.port.toNat (fun p => p.onFibre h.fibreB (fun f => { f with heard := true }))
    exec (.probe h true) s = .next (v.startTraining h.port.toNat) := by
  intro v
  have hw : (true && (((u.sendProbe h.port.toNat h.fibreB true).phoPort h.port.toNat).fibre h.fibreB).probing &&
      (u.sendProbe h.port.toNat h.fibreB true).mayHear h.port.toNat) = true := by
    show (true && ((u.phoPort h.port.toNat).fibre h.fibreB).probing && u.mayHear h.port.toNat) = true
    rw [hp, hm]
    rfl
  have hb : ((v.phoPort h.port.toNat).a.heard && (v.phoPort h.port.toNat).b.heard) = true := by
    rw [Port.both_iff _ h.fibreB Fibre.heard, State.phoPort_onPho, Port.fibre_onFibre, Port.fibre_onFibre_other]
    exact ho
  rw [exec_probe, execProbe, State.onSvc_acts hs]
  dsimp only
  rw [if_pos hm, if_pos hw, if_pos hb]

end

/-! ### Identities (R265) -/

section
variable {dev : BitVec 6} {port : BitVec 4} {fb : Bool} {dom : Byte}

/-- R265: what a port learns of its peer on a fibre. -/
def State.identified (s : State) (h : SvcHdr) (dev : BitVec 6) (port : BitVec 4) (fb : Bool) (dom : Byte) : State :=
  s.onPho h.port.toNat (fun p => { p with peerDev := dev, peerPort := port, peerDom := dom }.onFibre h.fibreB
    (fun f => { f with ident := some (s.wiringOf h.port.toNat h.fibreB dev port fb dom) }))

variable (hs : s.svcIn h 0x02 [] = (true, u))
  (hst : u.portSt h.port.toNat = .training ∨ u.portSt h.port.toNat = .miswired ∨ u.portSt h.port.toNat = .crossed)
include hs hst

theorem ident_waits (hv : ((u.identified h dev port fb dom).phoPort h.port.toNat).verdict = none) :
    exec (.ident h dev port fb dom) s = .next (u.identified h dev port fb dom) := by
  rw [State.identified] at hv
  rw [exec_ident, execIdent, State.onSvc_acts hs]
  dsimp only
  rw [if_pos (by simpa [or_assoc] using hst), hv]
  rfl

theorem ident_opens (hi : u.errs.inj = none)
    (hv : ((u.identified h dev port fb dom).phoPort h.port.toNat).verdict = some .training) :
    let w := (u.identified h dev port fb dom).onPho h.port.toNat (fun p => { p with st := .training, wired := true })
    exec (.ident h dev port fb dom) s = .next ((w.setGate h.port.toNat false false).setGate h.port.toNat true false) := by
  intro w
  have hn : (PortSt.training != .training && PortSt.training != u.portSt h.port.toNat ||
      w.armed (unitCode 6 (h.port.toNat / 4) (h.port.toNat % 4)) 0x34) = false := by
    rw [State.armed_none (s := w) hi]
    rfl
  rw [State.identified] at hv
  rw [exec_ident, execIdent, State.onSvc_acts hs]
  dsimp only
  rw [if_pos (by simpa [or_assoc] using hst), hv]
  dsimp only
  rw [if_pos rfl]
  exact congrArg _ (if_neg (Bool.eq_false_iff.mp hn))

variable {bad : PortSt}

/-- R265: a port that does not pass closes its gates, and what waits for it chooses again. -/
def State.barred (s : State) (q : Nat) (bad : PortSt) : State :=
  let w := s.onPho q (fun p => { p with st := bad, wired := false })
  ((w.setGate q false true).setGate q true true).retryWaiting

theorem ident_bars (hi : u.errs.inj = none)
    (hv : ((u.identified h dev port fb dom).phoPort h.port.toNat).verdict = some bad) (hb : bad ≠ .training) :
    let x := (u.identified h dev port fb dom).barred h.port.toNat bad
    exec (.ident h dev port fb dom) s = .next (if bad = u.portSt h.port.toNat then x else x.raise'
      { unit := unitCode 6 (h.port.toNat / 4) (h.port.toNat % 4), cause := 0x34, cls := .ce
        detail := (x.portWord h.port.toNat).setWidth 64 }) := by
  intro x
  let w := (u.identified h dev port fb dom).onPho h.port.toNat (fun p => { p with st := bad, wired := false })
  have hn : (bad != .training && bad != u.portSt h.port.toNat ||
      w.armed (unitCode 6 (h.port.toNat / 4) (h.port.toNat % 4)) 0x34) = (bad != u.portSt h.port.toNat) := by
    rw [State.armed_none (s := w) hi, bne_iff_ne.mpr hb, Bool.true_and, Bool.or_false]
  have hd : Decidable.decide (bad = .training) = false := decide_eq_false hb
  rw [State.identified] at hv
  rw [exec_ident, execIdent, State.onSvc_acts hs]
  dsimp only
  rw [if_pos (by simpa [or_assoc] using hst), hv]
  dsimp only
  rw [if_neg hb, hd]
  refine congrArg _ ?_
  by_cases hw : bad = u.portSt h.port.toNat
  · exact (if_neg (Bool.eq_false_iff.mp (hn.trans (bne_eq_false_iff_eq.mpr hw)))).trans (if_pos hw).symm
  · exact (if_pos (hn.trans (bne_iff_ne.mpr hw))).trans (if_neg hw).symm

end

/-! ### Rechecks and the end of training (R264, R265) -/

theorem wiringRecheck_asks {q : BitVec 4} (hst : s.portSt q.toNat = .miswired ∨ s.portSt q.toNat = .crossed)
    (hl : (s.phoPort q.toNat).a.lost = false ∨ (s.phoPort q.toNat).b.lost = false) : exec (.wiringRecheck q) s =
      .next ((s.onPho q.toNat (fun p => { p with a := { p.a with ident := none }, b := { p.b with ident := none } })).sendIdent q.toNat) := by
  have hb : ((s.phoPort q.toNat).a.lost && (s.phoPort q.toNat).b.lost) = false := by
    obtain hl | hl := hl <;> simp [hl]
  have hc : ((s.portSt q.toNat = .miswired || s.portSt q.toNat = .crossed) &&
      !((s.phoPort q.toNat).a.lost && (s.phoPort q.toNat).b.lost)) = true := by
    rw [hb]
    simpa using hst
  rw [exec_wiringRecheck, execWiringRecheck]
  dsimp only
  rw [if_pos hc]

theorem State.portUp_congr {t : State} (h : t.floe.ports = s.floe.ports) (q : Nat) : t.portUp q = s.portUp q := by
  unfold State.portUp State.portSt
  rw [h]

theorem State.portUp_retryWaiting (s : State) (q : Nat) : s.retryWaiting.portUp q = s.portUp q :=
  State.portUp_congr (State.optics_eq_iff.mp State.retryWaiting_optics).1 q

/-- R264: the channels of a port by the margins that were measured, and its receive sites by what they found. -/
def State.trainChans (s : State) (q : Nat) (ms : List (BitVec 5 × Int)) (sites : List (BitVec 5)) : State :=
  (List.range 32).foldl (fun s i =>
      s.onElem (elemKey 6 (4096 + 32 * q + i)) (fun e => { e with degraded := sites.any (fun x => x.toNat == i) }))
    ((List.range 32).foldl (fun s i =>
      let m := (ms.find? (fun x => x.1.toNat == i)).map (·.2)
      let ok := !(s.calElem (elemKey 6 (32 * q + i))).degraded && (match m with | some v => 5 ≤ v | none => false)
      (s.onChan (32 * q + i) (fun c => { c with ok := ok, retry := false, margin := m.getD c.margin })).settle (32 * q + i)) s)

/-- R264: a fibre of a port that is UP. -/
def Fibre.opened (f : Fibre) : Fibre :=
  { f with gate := false, closing := false, lost := false, los := false, probing := false, heard := false, ident := none }

/-- R264, R307: the port is UP, and its streams begin anew. -/
def State.linkUp (s : State) (q : BitVec 4) : State :=
  (((s.onPho q.toNat (fun p => { p with st := .up, a := p.a.opened, b := p.b.opened })).onPort q FabPort.fresh).onRx q
      (fun _ => { RxStream.reset with synced := true })).onFloe (fun x => { x with
    rxActive := x.rxActive.filter (fun p => p.1 / 4 != q.toNat), rxReleased := x.rxReleased.filter (fun k => k / 4 != q.toNat)
    bound := x.bound.filter (fun b => b.port != q) })

theorem State.linkUp_portUp (s : State) (q : BitVec 4) : (s.linkUp q).portUp q.toNat = true := by
  let v := s.onPho q.toNat (fun p => { p with st := .up, a := p.a.opened, b := p.b.opened })
  have hv : (v.phoPort q.toNat).st = .up := congrArg Port.st (s.phoPort_onPho q.toNat _)
  have hp : (s.linkUp q).floe.ports = v.floe.ports := rfl
  rw [State.portUp_congr hp]
  exact decide_eq_true hv

/-- R314, R318: what the device knows of the neighbour on a port that has come UP. -/
def State.meetPeer (s : State) (q : Nat) : State :=
  let w := s.setOuter q (s.phoPort q).peerDom ((s.phoPort q).peerDev.setWidth 8)
  let x := match wiring w.shape w.devid q with
    | some (d, _) => w.onFab (fun f => { f with silent := NSet.del d f.silent, silentDown := NSet.del d f.silentDown })
    | none => w
  x.onFloe (fun f => { f with lostMoves := f.lostMoves.filter (fun m => m.1 / 2 != q) })

theorem State.meetPeer_ports (s : State) (q : Nat) : (s.meetPeer q).floe.ports = s.floe.ports := by
  unfold State.meetPeer
  dsimp only
  split
  all_goals
    show (s.setOuter q _ _).floe.ports = _
    rw [State.setOuter_floe]

/-- R264: training ends with the port UP. -/
theorem linkTrainingComplete_up {q : BitVec 4} {ms : List (BitVec 5 × Int)} {sites : List (BitVec 5)}
    (hst : s.portSt q.toNat = .training) (hw : (s.phoPort q.toNat).wired = true) (hi : s.floe.intlk = false) :
    ∃ u, exec (.linkTrainingComplete q ms sites) s = .next u ∧ u.portUp q.toNat = true := by
  have hg : (s.portSt q.toNat != .training || !(s.phoPort q.toNat).wired || s.floe.intlk) = false := by
    rw [hst, hw, hi]
    rfl
  refine ⟨(((s.trainChans q.toNat ms sites).linkUp q).meetPeer q.toNat).retryWaiting, ?_, ?_⟩
  · rw [exec_linkTrainingComplete, execLinkTrainingComplete]
    exact if_neg (Bool.eq_false_iff.mp hg)
  · rw [State.portUp_retryWaiting, State.portUp_congr (State.meetPeer_ports _ _), State.linkUp_portUp]

end Sys2Proof.Machine

open Sys2Proof Machine Claims

/-- Settles O42, one lemma for each command of a port that comes up. -/
theorem portTraining : Obligations.PortTraining := by
  unfold Obligations.PortTraining
  intro s q b
  refine ⟨probeBurst_sends, fun h u hs hm => ⟨probe_answers hs hm, probe_trains hs hm⟩,
    fun h dev port fb dom u hs hi hst => ⟨ident_waits hs hst, ident_opens hs hst hi, fun bad hv hb => ⟨fun hw => ?_, fun hw => ?_⟩⟩,
    wiringRecheck_asks, fun ms sites => linkTrainingComplete_up⟩
  · exact (ident_bars hs hst hi hv hb).trans (congrArg _ (if_pos hw.symm))
  · exact (ident_bars hs hst hi hv hb).trans (congrArg _ (if_neg (Ne.symm hw)))

end

section
/-! PROOFS. Steers, and the loss and return of light (R266 to R268, R278 to R285). -/

namespace Sys2Proof.Machine

variable {s u : State} {h : SvcHdr} {q : BitVec 4} {b : Bool}

/-! ### Proposals of a peer (R281) -/

/-- R281: the answer to a proposal. -/
def State.answerSteer (s : State) (q : Nat) (gen : W32) (cause : Byte) : State :=
  s.phoSend q (s.svcB q) 0x11 (.answer gen (cause = 0) cause)

section
variable {gen : W32} {t : W64} {groups : List (BitVec 5 × Byte)} (hs : s.svcIn h 0x10 [] = (true, u))
include hs

theorem steerPropose_late
    (hl : u.clk.ftState = .unset ∨ serBefore (t - BitVec.ofNat 64 (usU 30)) u.ftime = true) :
    exec (.steerPropose h gen t groups) s = .next (u.answerSteer h.port.toNat gen 1) := by
  have hc : (u.clk.ftState = .unset || serBefore (t - BitVec.ofNat 64 (usU 30)) u.ftime) = true := by simpa using hl
  rw [exec_steerPropose, execSteerPropose, State.onSvc_acts hs]
  dsimp only
  rw [if_pos hc]
  rfl

variable (hl : ¬ (u.clk.ftState = .unset ∨ serBefore (t - BitVec.ofNat 64 (usU 30)) u.ftime = true))
include hl

theorem steerPropose_siteFailed (hf : u.siteFailed h.port.toNat groups = true) :
    exec (.steerPropose h gen t groups) s = .next (u.answerSteer h.port.toNat gen 2) := by
  have hc : ¬ (u.clk.ftState = .unset || serBefore (t - BitVec.ofNat 64 (usU 30)) u.ftime) = true := by simpa using hl
  rw [exec_steerPropose, execSteerPropose, State.onSvc_acts hs]
  dsimp only
  rw [if_neg hc, if_pos hf]
  rfl

theorem steerPropose_fibreDown (hf : u.siteFailed h.port.toNat groups = false) (hd : u.rxDown h.port.toNat groups = true) :
    exec (.steerPropose h gen t groups) s = .next (u.answerSteer h.port.toNat gen 3) := by
  have hc : ¬ (u.clk.ftState = .unset || serBefore (t - BitVec.ofNat 64 (usU 30)) u.ftime) = true := by simpa using hl
  rw [exec_steerPropose, execSteerPropose, State.onSvc_acts hs]
  dsimp only
  rw [if_neg hc, if_neg (Bool.eq_false_iff.mp hf), if_pos hd]
  rfl

/-- R281: an accepted proposal binds this device. -/
theorem steerPropose_accepts (hf : u.siteFailed h.port.toNat groups = false) (hd : u.rxDown h.port.toNat groups = false) :
    let v := u.onFloe (fun f => { f with
      bound := f.bound.filter (fun b => b.port != h.port || b.gen != gen) ++ [⟨h.port, gen, t, groups⟩] })
    exec (.steerPropose h gen t groups) s = .next (v.answerSteer h.port.toNat gen 0) := by
  have hc : ¬ (u.clk.ftState = .unset || serBefore (t - BitVec.ofNat 64 (usU 30)) u.ftime) = true := by simpa using hl
  rw [exec_steerPropose, execSteerPropose, State.onSvc_acts hs]
  dsimp only
  rw [if_neg hc, if_neg (Bool.eq_false_iff.mp hf), if_neg (Bool.eq_false_iff.mp hd)]
  rfl

end

theorem steerAnswer_holds {gen : W32} {ok : Bool} (hs : s.svcIn h 0x11 [] = (true, u)) :
    exec (.steerAnswer h gen ok) s = .next (u.onFloe (fun f => { f with
      steers := f.steers.map (fun x =>
        if x.gen = gen && x.decided.isNone && x.asked.contains h.port.toNat then
          { x with answers := SMap.set none x.answers h.port.toNat (some ok) }
        else x) })) := by
  rw [exec_steerAnswer, execSteerAnswer, State.onSvc_acts hs]

/-! ### Decisions and steers that take effect (R281, R282, R285) -/

/-- R281: the outcome of a steer at each port. -/
def State.steerOutcome (s : State) (t : Steer) : SMap Nat :=
  (List.range 16).foldl (fun m p => SMap.set 0 m p (s.portOutcome t (s.assignBefore t.time) p)) []

/-- R281: a steer is decided. -/
def State.steerDecided (s : State) (t : Steer) : State :=
  s.onFloe (fun f => { f with steers := f.steers.map (fun x =>
    if x.gen = t.gen then { x with decided := some (t.decide (s.assignBefore t.time)), outcome := s.steerOutcome t } else x) })

theorem steerDecide_decides {t : Steer} (ht : s.floe.steers.find? (fun x => x.decided.isNone) = some t) : exec .steerDecide s =
    .next (if t.internal then s.steerDecided t else (s.steerDecided t).steerResult t.src 0 (s.steerOutcome t)) := by
  rw [exec_steerDecide, execSteerDecide, ht]
  rfl

@[simp] theorem State.onChan_optics (k : Nat) (f : Chan → Chan) : (s.onChan k f).optics = s.optics := rfl
@[simp] theorem State.onOwner_optics (o : Nat) (f : Owner → Owner) : (s.onOwner o f).optics = s.optics := rfl
@[simp] theorem State.onElem_optics (k : Nat) (f : CalElem → CalElem) : (s.onElem k f).optics = s.optics := rfl
@[simp] theorem State.onPort_optics (q : BitVec 4) (f : FabPort → FabPort) : (s.onPort q f).optics = s.optics := rfl
@[simp] theorem State.settle_optics (k : Nat) : (s.settle k).optics = s.optics := rfl

@[simp] theorem State.undoJudged_optics (k : Nat) : (s.undoJudged k).optics = s.optics := by
  have h := foldl_keeps State.optics (fun s (e : Nat × CalElem) => State.onElem_optics (s := s) e.1 (fun _ => e.2))
    ((s.cal.slotOld.filter (fun p => p.1 == k)).flatMap (·.2)) s
  exact h

@[simp] theorem State.abandonSlot_optics (o : Nat) (x : Slot) : (s.abandonSlot o x).optics = s.optics := by
  simp [State.abandonSlot]

@[simp] theorem State.abandonOn_optics (p : Nat → Bool) : (s.abandonOn p).optics = s.optics :=
  foldl_keeps State.optics (fun s _ => foldl_keeps State.optics (fun s x => State.abandonSlot_optics (s := s) _ x) _ s) _ s

@[simp] theorem State.groupFrame_optics (g : Nat) (a : Byte) (kind : Nat) : (s.groupFrame g a kind).optics = s.optics := by
  simp [State.groupFrame]

@[simp] theorem State.reselect_optics (k : Nat) (sel : Option Bool) : (s.reselect k sel).optics = s.optics := by
  simp [State.reselect]

theorem State.groupFrames_optics (a : Nat → Byte) (kind : Nat) (l : List Nat) :
    (l.foldl (fun s g => s.groupFrame g (a g) kind) s).optics = s.optics :=
  foldl_keeps State.optics (fun s g => State.groupFrame_optics (s := s) g (a g) kind) l s

theorem State.endFrames_optics (a : RF 5 Byte) (l : List Nat) :
    (l.foldl (fun s g => if s.portUp ((setByte a g).toNat % 16) then s.groupFrame g (setByte a g) 1 else s) s).optics = s.optics := by
  refine foldl_keeps State.optics (fun s g => ?_) l s
  split
  · exact State.groupFrame_optics _ _ _
  · rfl

theorem State.reselects_optics (l : List (Nat × Option Bool)) :
    (l.foldl (fun (s : State) p => s.reselect p.1 p.2) s).optics = s.optics :=
  foldl_keeps State.optics (f := fun (s : State) (p : Nat × Option Bool) => s.reselect p.1 p.2)
    (fun s p => State.reselect_optics (s := s) p.1 p.2) l s

/-- R282: what taking effect makes of a state: the steer is over, and the steer generation goes up by one. -/
theorem State.optics_onFloe_applied {f : Floe → Floe} {rest : List Steer}
    (hf : ∀ x, (f x).ports = x.ports ∧ (f x).steers = rest ∧ (f x).steerGen = x.steerGen + 1) :
    (s.onFloe f).optics = (s.floe.ports, rest, s.floe.steerGen + 1) := by
  obtain ⟨hp, hs, hg⟩ := hf s.floe
  simp only [State.optics, State.onFloe, hp, hs, hg]

theorem State.applySteer_optics (t : Steer) (rest : List Steer) (d : RF 5 Byte) :
    (s.applySteer t rest d).optics = (s.floe.ports, rest, s.floe.steerGen + 1) := by
  unfold State.applySteer
  extract_lets old moved goal left lit chans v w sels dark x y
  have hw : w.optics = s.optics := (State.endFrames_optics old left).trans (State.abandonOn_optics _)
  obtain ⟨hp, -, hg⟩ := State.optics_eq_iff.mp hw
  have hx : x.optics = (w.floe.ports, rest, w.floe.steerGen + 1) := State.optics_onFloe_applied (fun _ => ⟨rfl, rfl, rfl⟩)
  rw [State.groupFrames_optics, State.reselects_optics, hx, hp, hg]

theorem steerApply_steers {t : Steer} {rest : List Steer} {d : RF 5 Byte} (ht : s.floe.steers = t :: rest) (hd : t.decided = some d)
    (hb : ∀ b, s.floe.nextBound = some b → serBefore b.time t.time = false) :
    exec .steerApply s = .next (s.applySteer t rest d) := by
  have hn : s.floe.nextBound.filter (fun b => serBefore b.time t.time) = none := by
    cases hc : s.floe.nextBound with
    | none => rfl
    | some b => simp [hb b hc]
  simp only [exec_steerApply, execSteerApply, ht, hn, hd]

theorem steerApply_bound {b : Bound} (hb : s.floe.nextBound = some b)
    (ht : ∀ t, s.floe.steers.head? = some t → serBefore b.time t.time = true) :
    exec .steerApply s = .next (s.applyBound b) := by
  cases hc : s.floe.steers with
  | nil => simp only [exec_steerApply, execSteerApply, hc, hb]
  | cons t rest =>
    have hf : s.floe.nextBound.filter (fun b => serBefore b.time t.time) = some b := by
      simp [hb, ht t (by simp [hc])]
    simp only [exec_steerApply, execSteerApply, hc, hf]

/-- R282: a moved group that nothing waits for starts. -/
theorem groupStart_starts {g : BitVec 5} (hg : s.floe.starting.contains g.toNat = true) (hd : s.floe.deferred = [])
    (hl : s.groupLit g.toNat = true) (hp : s.portUp ((s.groupByte g.toNat).toNat % 16) = true) :
    let v := s.onFloe (fun f => { f with starting := NSet.del g.toNat f.starting })
    exec (.groupStart g) s = .next (v.groupFrame g.toNat (s.groupByte g.toNat) 2) := by
  intro v
  have hk : (slotChans g.toNat (s.groupByte g.toNat)).filter (fun k => s.floe.deferred.contains k) = [] := by
    rw [hd]
    exact List.filter_eq_nil_iff.mpr (fun _ _ => Bool.false_ne_true)
  have hv : s.onFloe (fun f => { f with
      starting := NSet.del g.toNat f.starting, deferred := f.deferred.filter (fun k => !([] : List Nat).contains k) }) = v := by
    simp [v, State.onFloe]
  have hc : (v.groupLit g.toNat && v.portUp ((v.groupByte g.toNat).toNat % 16)) = true := Bool.and_eq_true_iff.mpr ⟨hl, hp⟩
  rw [exec_groupStart, execGroupStart]
  dsimp only
  rw [hg, hk, hv, hc]
  rfl

/-! ### Loss of light (R266, R267) -/

theorem lightLoss_unwired (hw : wiring s.shape s.devid q.toNat = none) : exec (.lightLoss q b) s =
    .next (s.onPho q.toNat (fun p => p.onFibre b (fun f => { f with lost := true }))) := by
  have hw' : wiring (s.onPho q.toNat (fun p => p.onFibre b (fun f => { f with lost := true }))).shape
      (s.onPho q.toNat (fun p => p.onFibre b (fun f => { f with lost := true }))).devid q.toNat = none := hw
  simp only [exec_lightLoss, execLightLoss, hw']

theorem Port.onFibre_st (p : Port) (b : Bool) (f : Fibre → Fibre) : (p.onFibre b f).st = p.st := by
  cases b <;> rfl

/-- A change of a fibre leaves the state of its port. -/
theorem State.portUp_onFibre (s : State) (q : Nat) (b : Bool) (f : Fibre → Fibre) :
    (s.onPho q (fun p => p.onFibre b f)).portUp q = s.portUp q := by
  have h : ((s.onPho q (fun p => p.onFibre b f)).phoPort q).st = (s.phoPort q).st := by
    rw [State.phoPort_onPho, Port.onFibre_st]
  show Decidable.decide (((s.onPho q (fun p => p.onFibre b f)).phoPort q).st = .up) = Decidable.decide ((s.phoPort q).st = .up)
  rw [h]

theorem fibreDown_notUp (hl : ((s.phoPort q.toNat).fibre b).lost = true) (hd : ((s.phoPort q.toNat).fibre b).los = false)
    (hp : s.portUp q.toNat = false) : exec (.fibreDown q b) s =
    .next (s.onPho q.toNat (fun p => p.onFibre b (fun f => { f with los := true }))) := by
  simp only [exec_fibreDown, execFibreDown, hl, hd, State.portUp_onFibre, hp, Bool.not_true, Bool.not_false, Bool.or_self,
    Bool.false_eq_true, if_false, if_true]

theorem launchGateClose_orders {silent : Bool} (hl : ((s.phoPort q.toNat).fibre b).lost = true ∨ silent = true)
    (hg : ((s.phoPort q.toNat).fibre b).gate = false) : exec (.launchGateClose q b silent) s =
    .next ((s.onPho q.toNat (fun p => p.onFibre b (fun f => { f with closing := true }))).abandonOn
      (fun k => k / 32 == q.toNat && k < 512 && (16 ≤ k % 32) == b)) := by
  have hc : (!(((s.phoPort q.toNat).fibre b).lost || silent) || ((s.phoPort q.toNat).fibre b).gate) = false := by
    obtain hl | hl := hl <;> simp [hg, hl]
  rw [exec_launchGateClose, execLaunchGateClose]
  exact if_neg (Bool.eq_false_iff.mp hc)

theorem State.phoPort_setGate (s : State) (q : Nat) (b shut : Bool) : (s.setGate q b shut).phoPort q =
    (s.phoPort q).onFibre b (fun f => { f with gate := shut, closing := false }) :=
  s.phoPort_onPho q (fun p => p.onFibre b (fun f => { f with gate := shut, closing := false }))

theorem State.phoPort_startProbing (hd : s.portSt q.toNat ≠ .disabled) : (s.startProbing q.toNat).phoPort q.toNat =
    { s.phoPort q.toNat with
      a := { (s.phoPort q.toNat).a with probing := true, heard := false }
      b := { (s.phoPort q.toNat).b with probing := true, heard := false } } := by
  have hn : s.portDisabled q.toNat = false := decide_eq_false hd
  rw [State.startProbing, if_neg (Bool.eq_false_iff.mp hn), State.phoPort_onPho]

/-- R267, R269: a closed gate, and a port that probes. -/
def State.gateClosed (s : State) (q : Nat) (b : Bool) : State :=
  ((s.setGate q b true).onFloe (fun f => { f with eyeEvents := satInc f.eyeEvents })).startProbing q

theorem State.fibre_gateClosed (hd : s.portSt q.toNat ≠ .disabled) (b : Bool) :
    ((s.gateClosed q.toNat b).phoPort q.toNat).fibre b =
      { (s.phoPort q.toNat).fibre b with gate := true, closing := false, probing := true, heard := false } := by
  let v := (s.setGate q.toNat b true).onFloe (fun f => { f with eyeEvents := satInc f.eyeEvents })
  have hv : v.phoPort q.toNat = (s.phoPort q.toNat).onFibre b (fun f => { f with gate := true, closing := false }) :=
    s.phoPort_setGate q.toNat b true
  have hp : v.portSt q.toNat = s.portSt q.toNat := (congrArg Port.st hv).trans (Port.onFibre_st _ _ _)
  rw [State.gateClosed, State.phoPort_startProbing (s := v) (hp.trans_ne hd), hv]
  cases b <;> rfl

theorem State.eyeEvents_gateClosed (q : Nat) (b : Bool) :
    (s.gateClosed q b).floe.eyeEvents = satInc s.floe.eyeEvents := by
  unfold State.gateClosed State.startProbing
  split <;> rfl

theorem launchGateClosed_probes (hc : ((s.phoPort q.toNat).fibre b).closing = true) (hd : s.portSt q.toNat ≠ .disabled) :
    ∃ u, exec (.launchGateClosed q b) s = .next u ∧ ((u.phoPort q.toNat).fibre b).gate = true ∧
      ((u.phoPort q.toNat).fibre b).probing = true ∧ u.floe.eyeEvents = satInc s.floe.eyeEvents := by
  have hf := State.fibre_gateClosed hd b
  have he := State.eyeEvents_gateClosed (s := s) q.toNat b
  have hx : exec (.launchGateClosed q b) s = .next (if (s.gateClosed q.toNat b).portUp q.toNat &&
      !(((s.gateClosed q.toNat b).phoPort q.toNat).fibre (!b)).gate then s.gateClosed q.toNat b
      else (s.gateClosed q.toNat b).onPho q.toNat (fun p => { p with wired := false })) := by
    rw [exec_launchGateClosed, execLaunchGateClosed]
    dsimp only
    rw [hc]
    rfl
  refine ⟨_, hx, ?_⟩
  split
  · exact ⟨congrArg Fibre.gate hf, congrArg Fibre.probing hf, he⟩
  · have hw : (((s.gateClosed q.toNat b).onPho q.toNat (fun p => { p with wired := false })).phoPort q.toNat).fibre b =
        ((s.gateClosed q.toNat b).phoPort q.toNat).fibre b := by
      rw [State.phoPort_onPho]
      cases b <;> rfl
    rw [hw]
    exact ⟨congrArg Fibre.gate hf, congrArg Fibre.probing hf, he⟩

/-! ### Return of light (R267, R268) -/

theorem State.proposeSteer_ports (set : RF 5 Byte) (t : W64) (src : SteerSrc) (internal : Bool) (num : BitVec 3) :
    (s.proposeSteer set t src internal num).floe.ports = s.floe.ports := by
  unfold State.proposeSteer
  extract_lets gen asked x v
  have h := foldl_keeps (fun s : State => s.floe.ports)
    (f := fun s p => s.phoSend p (s.svcB p) 0x10 (.propose gen t (portList set p))) (fun _ _ => rfl) asked v
  exact h

theorem State.comeBack_ports (q : Nat) (b : Bool) : (s.comeBack q b).floe.ports = s.floe.ports := by
  unfold State.comeBack
  extract_lets key mine v t a back
  split
  · rfl
  · exact State.proposeSteer_ports _ _ _ _ _

/-- R314: a neighbour whose light is back is not silent. -/
def State.hearNeighbour (s : State) (q : Nat) : State :=
  match wiring s.shape s.devid q with
  | some (d, _) => s.onFab (fun f => { f with silent := NSet.del d f.silent, silentDown := NSet.del d f.silentDown })
  | none => s

theorem State.hearNeighbour_floe (q : Nat) : (s.hearNeighbour q).floe = s.floe := by
  unfold State.hearNeighbour
  split <;> rfl

/-- R267: a trained port that went DOWN with its light is UP again. -/
def State.upAgain (s : State) (q : Nat) : State :=
  if s.portSt q = .down && (s.phoPort q).wired then (s.onPho q (fun p => { p with st := .up })).retryWaiting else s

theorem State.fibre_upAgain (q : Nat) (b : Bool) : ((s.upAgain q).phoPort q).fibre b = (s.phoPort q).fibre b := by
  unfold State.upAgain
  split
  · have hp := (State.optics_eq_iff.mp (State.retryWaiting_optics (s := s.onPho q (fun p => { p with st := .up })))).1
    have hq : (s.onPho q (fun p => { p with st := .up })).retryWaiting.phoPort q = { s.phoPort q with st := .up } := by
      rw [State.phoPort, hp]
      exact s.phoPort_onPho q _
    rw [hq]
    cases b <;> rfl
  · rfl

/-- R267: light that returns before the gate was ordered to close ends the loss. -/
theorem lightReturn_ends (hl : ((s.phoPort q.toNat).fibre b).lost = true) (hc : ((s.phoPort q.toNat).fibre b).closing = false)
    (hg : ((s.phoPort q.toNat).fibre b).gate = false) :
    ∃ u, exec (.lightReturn q b) s = .next u ∧
      ((u.phoPort q.toNat).fibre b).lost = false ∧ ((u.phoPort q.toNat).fibre b).los = false := by
  let v := s.onPho q.toNat (fun p => p.onFibre b (fun f => { f with lost := false, los := false }))
  let w := ((v.hearNeighbour q.toNat).upAgain q.toNat).comeBack q.toNat b
  have hx : exec (.lightReturn q b) s = .next w := by
    rw [exec_lightReturn, execLightReturn]
    dsimp only
    rw [hl, hc, hg]
    rfl
  have hw : (w.phoPort q.toNat).fibre b = { (s.phoPort q.toNat).fibre b with lost := false, los := false } := by
    have hp : w.phoPort q.toNat = ((v.hearNeighbour q.toNat).upAgain q.toNat).phoPort q.toNat := by
      rw [State.phoPort, State.comeBack_ports, State.phoPort]
    have hn : (v.hearNeighbour q.toNat).phoPort q.toNat = v.phoPort q.toNat := by
      rw [State.phoPort, State.hearNeighbour_floe, State.phoPort]
    rw [hp, State.fibre_upAgain, hn, State.phoPort_onPho, Port.fibre_onFibre]
  exact ⟨w, hx, congrArg Fibre.lost hw, congrArg Fibre.los hw⟩

end Sys2Proof.Machine

open Sys2Proof Machine Claims

/-- Settles O43, one lemma for each command and each outcome. -/
theorem steeringAndLight : Obligations.SteeringAndLight := by
  unfold Obligations.SteeringAndLight
  intro s q b
  refine ⟨fun h gen t groups u hs => ⟨steerPropose_late hs, steerPropose_siteFailed hs, steerPropose_fibreDown hs,
      steerPropose_accepts hs⟩, fun h gen ok u => steerAnswer_holds, fun t ht => ⟨fun hi => ?_, fun hi => ?_⟩,
    fun t rest d ht hd hb => ?_, fun b => steerApply_bound, fun g => groupStart_starts, lightLoss_unwired,
    fibreDown_notUp, fun silent => launchGateClose_orders, launchGateClosed_probes,
    fun hl hc hg _ => lightReturn_ends hl hc hg⟩
  · exact (steerDecide_decides ht).trans (congrArg _ (if_pos hi))
  · exact (steerDecide_decides ht).trans (congrArg _ (if_neg (Bool.eq_false_iff.mp hi)))
  · have ho := State.applySteer_optics (s := s) t rest d
    simp only [State.optics, Prod.mk.injEq] at ho
    obtain ⟨-, hs, hg⟩ := ho
    exact ⟨_, steerApply_steers ht hd hb, hs, hg⟩

end
